-- ==== Sys2Proof/Word.lean ====
section
/-!
DEFINITION. The byte type, the value of an object, and the plainest list and rounding helpers.
-/
namespace Sys2Proof

/-- One byte of a message, a memory or a bank. -/
abbrev Byte := BitVec 8

/-- The value of an object of the Isainadex (Table 1.1): a number (every integer type, BOOL and FIX32, as the
integer it encodes) or bytes (STRING and DOMAIN). -/
inductive Val where
  | num (n : Int)
  | bytes (b : List Byte)
  deriving DecidableEq, Repr

/-- The number of a value (bytes have none: 0). -/
def Val.int : Val → Int
  | .num n => n
  | .bytes _ => 0

/-- The bytes of a value (a number has none). -/
def Val.raw : Val → List Byte
  | .num _ => []
  | .bytes b => b

/-- A byte from a natural number (its low 8 bits). -/
def byte (n : Nat) : Byte := BitVec.ofNat 8 n

/-- Bit `i` of `n`. -/
def bit (n i : Nat) : Bool := n.testBit i

/-- The bits [lo + w - 1 : lo] of `n`. -/
def bits (n lo w : Nat) : Nat := (n >>> lo) % 2 ^ w

/-- `1` for true, `0` for false. -/
def b2n (b : Bool) : Nat := if b then 1 else 0

/-- `n` with the `w` bits at `lo` replaced by those of `v`. -/
def setBits (n lo w v : Nat) : Nat :=
  n - (bits n lo w <<< lo) + ((v % 2 ^ w) <<< lo)

/-- `n` with bit `i` made `b`. -/
def setBit (n i : Nat) (b : Bool) : Nat := setBits n i 1 (b2n b)

/-- Integer rounded up quotient. -/
def ceilDiv (a b : Nat) : Nat := if b = 0 then 0 else (a + b - 1) / b

/-- R939: the nearest integer to `a / b`, halves toward plus infinity. -/
def roundDiv (a : Int) (b : Nat) : Int := if b = 0 then 0 else (2 * a + b).fdiv (2 * b)

/-- R939 on natural numbers. -/
def roundDivN (a b : Nat) : Nat := if b = 0 then 0 else (2 * a + b) / (2 * b)

/-- `x` limited to `lo … hi`. -/
def clampInt (lo hi x : Int) : Int := if x < lo then lo else if hi < x then hi else x

/-- The list with `f` applied to its element `i` (unchanged where there is none). -/
def modifyAt {α : Type} (f : α → α) : Nat → List α → List α
  | _, [] => []
  | 0, a :: as => f a :: as
  | i + 1, a :: as => a :: modifyAt f i as

/-- The numbers below `n`, rising. -/
abbrev upTo (n : Nat) : List Nat := List.range n

end Sys2Proof
end

