-- ==== Sys2Proof/Config.lean ====
section
/-!
DEFINITION. What one part fixes and the spec leaves open. Every `opaque` constant has no body, so nothing can be
proved of its value: a statement about it holds for every value. The functions of a seed are the free values of the
step: they are applied to `State.seed`, which every command advances.
-/
namespace Sys2Proof.Config

/-- 0x1000.06, before R-range: fused at manufacture, unique to each part (Table 1.14). Free: log entry 4. -/
opaque serialRaw : Nat

/-- The serial number: never 0 and never all ones in 64 bits (Table 1.14). -/
def serial : Nat := 1 + serialRaw % (2 ^ 64 - 2)

/-- The minor and build fields of the agent version vary between ROM releases (Table 1.14). Free: log entry 4. -/
opaque agentMinorBuild : Nat

/-- 0x1000.05: major version 1, the other fields free (Table 1.14). -/
def agentVersion : Nat := 0x01000000 + agentMinorBuild % 2 ^ 24

/-- 0x1000.04: the stepping this manual describes (Table 1.14). -/
def dieStepping : Nat := 1

/-- 0x1000.08: the object set this manual describes (Table 1.14). -/
def dictionaryVersion : Nat := 1

/-- R878: whether a RESET_N pulse of at least 1 µs and less than 10 µs resets the device. Free per occurrence. -/
opaque resetPulseTakes : Nat → Bool

/-- R888: whether a fuse whose programming failed twice reads blown at the next fuse load. Free per occurrence. -/
opaque failedFuseBlown : Nat → Bool

/-- One sample of an ASRC (ch 9 gives only its pass band and stop band), 24 bits. Free per occurrence. -/
opaque asrcSample : Nat → Nat → BitVec 24

/-- A sample under a gain ramp or a gain other than 0 dB, before saturation (R522 gives the factor 10^(g/40), and no
rounding of the product): by the gain codes of the running ramps, newest first, with their sample numbers, and the
sample. -/
opaque gained : List (Int × Nat) → Int → Int

/-- The sinc filter's coefficient `tap` of `taps` at phase `phase` for a step (R466 gives their sum, their window and
the cutoff only). Free. -/
opaque sincCoef : Nat → Nat → Nat → Nat → Int

/-- The frame period in ns of a folio of rate 0, which R408 does not call invalid, less 1. Free: log entry 7. -/
opaque rate0Period : Nat → Nat

/-- The control value in ppb that the genlock loop answers with (R193 gives the loop's bandwidth and no transfer
function): by the bandwidth in 2^-16 Hz, the phase error in ps, and the seed of the command. Free: log entry 117. -/
opaque loopControl : Nat → Int → Nat → Int

/-- A value that the spec gives no number for, by the seed of the command and a tag naming which value it is. -/
opaque free : Nat → Nat → Nat

end Sys2Proof.Config
end

