-- ==== Sys2Proof/Syntax.lean ====
section
/-!
DEFINITION. The commands of the S2424: what comes from outside or happens at an instant, one constructor per row of
spec/opcode_table.json, and the types of their operands.
-/
namespace Sys2Proof

/-- The paths a message can come by (R109). -/
inductive Path where
  | fd0 | fd1 | host | vc1 (port : Nat) | mailbox
  deriving DecidableEq, Repr

/-- Where an object write came from, for its answer and for the records kept by source (R70, R90, R105). -/
structure Org where
  path : Path
  prio : Nat
  src : Nat
  tag : Nat
  deriving DecidableEq, Repr

/-- A CAN FD frame as received: channel, whether it is an FD frame with a 29-bit identifier (R67), the identifier's
fields beside the service class, and the data bytes. -/
structure Req where
  ch : Nat
  fdExt : Bool
  prio : Nat
  dest : Nat
  src : Nat
  tag : Nat
  data : List Byte
  deriving DecidableEq, Repr

/-- A packet of the Ovton link as received or sent (Table 6.1): sequence, the header's fields A and B, the payload, the
place of its header's first word in its block (the block pointer is at 0), and the trailer (R341). -/
structure Pkt where
  seq : Nat
  fieldA : Nat
  fieldB : Nat
  payload : List Byte
  place : Nat
  crc : Nat
  deriving DecidableEq, Repr


/-- What a boot meets (Table 12.7): slow ticks counted up to the root PLL lock after a CMON alarm (R163), lock time in µs,
mismatched fuse loads (R894) and ROM CRC failures (R895), failed self-test items (Table 15.6), failed frame memory
trainings (R896), failed reads of the banks (R120), mismatched verifications of the log copy (R773), the data of title
port transactions that end before step 6, what the first and the second read of the application image bring (R738), and
the µs from the release to the end of steps 1 to 6. -/
structure BootObs where
  slow : Nat
  pllUs : Nat
  fuse : Nat
  rom : Nat
  failed : List Nat
  train : Nat
  readA : Nat
  readB : Nat
  copyBad : Nat
  title : List (List Byte)
  img : Option (List Byte)
  img2 : Option (List Byte)
  us : List Nat
  deriving DecidableEq, Repr

/-- What the trace encoder follows of the lead core's flow (R714): a conditional branch and whether it was taken, or an
indirect jump or return and its target. -/
inductive Flow where
  | branch (taken : Bool)
  | target (addr : Nat)
  deriving DecidableEq, Repr

/-- What the surroundings do as a request is taken and while a write takes effect. `busy`: the agent is at work, and an
expedited request waits (R108). For a save (R60, R62, R114, R119): the step of Table 1.6 it has reached when the next
command comes, where a reset or a quoin may land (0: it completes), and the faults of its attempts by their result code (2
verify, 4 commit words); `cut` not 0 also says that a reset lands between the two banks of an invalidation. `bad`: mismatching verifications of a log copy (R773) or failed readbacks of a fuse (R888).
What the first and the second read of an application image bring (R738). The title slots whose flush fails for good
(Table 14.2). The line bits a stopped test has received on each logical lane (R309). -/
structure Obs where
  busy : Bool
  cut : Nat
  faults : List Nat
  bad : Nat
  img : Option (List Byte)
  img2 : Option (List Byte)
  lost : List Nat
  rx : List (List Bool)
  deriving DecidableEq, Repr

/-- The commands. `dt` is how many ticks of local time (2.5 ns, R131) have passed since the command before. A command that
is a write of an object carries the origin of its request; an event carries what was observed: measurements, received
packets, how an operation ended (log entries 2 and 5). -/
inductive Instr where
  /-- An expedited ITP read request is taken whole and answered with READ_RSP or ABORT (R74). Operands: `f` the frame;
  `x` what the surroundings do meanwhile. -/
  | readReq (dt : Nat) (f : Req) (x : Obs)
  /-- An expedited ITP write request is taken whole, checked and applied to an object with no command row of its own, or
  staged if the object is RWS, then answered with WRITE_RSP or ABORT (R74). Operands: `f` the frame; `x` what the
  surroundings do meanwhile. -/
  | writeReq (dt : Nat) (f : Req) (x : Obs)
  /-- A segmented read init is accepted, access is checked, and one snapshot of the whole value is taken (R83).
  Operands: `f` the frame. -/
  | segReadInit (dt : Nat) (f : Req)
  /-- A segmented write init is accepted with its total length, and SEG_INIT_RSP is returned (R76). Operands: `f` the
  frame. -/
  | segWriteInit (dt : Nat) (f : Req)
  /-- A SEG_DATA frame is received; its sequence is checked, and a resend is asked for once on a sequence error (R80).
  Operands: `f` the frame; `x` what the surroundings do meanwhile. -/
  | segData (dt : Nat) (f : Req) (x : Obs)
  /-- A SEG_ACK is received and the sender continues, resends the block or completes the transfer (R78). Operands: `f`
  the frame. -/
  | segAck (dt : Nat) (f : Req)
  /-- No expected SEG_DATA or SEG_ACK arrives within 100 ms, and ABORT 0x000A is sent (R81). Operands: `n` the open
  transfer, counted from the oldest. -/
  | segTransferTimeout (dt : Nat) (n : Nat)
  /-- An ABORT from the peer, for example 0x000E, is received and the segmented transfer is dropped (R72). Operands: `f`
  the frame. -/
  | abort (dt : Nat) (f : Req)
  /-- A broadcast IDENTIFY_REQ is answered with IDENTIFY_RSP (R97). Operands: `f` the frame. -/
  | identifyReq (dt : Nat) (f : Req)
  /-- A TIME frame is received on the time channel, its edge time is captured, and a master sample is formed (R144).
  Operands: `f` the frame; `age` ticks from its captured edge to now; `canError` whether the frame had a CAN error. -/
  | time (dt : Nat) (f : Req) (age : Nat) (canError : Bool)
  /-- The heartbeat period expires and a HEARTBEAT is broadcast (R93). -/
  | heartbeat (dt : Nat)
  /-- A CAN FD channel goes bus-off and performs the ISO 11898-1 recovery once (R118). Operands: `ch` the channel. -/
  | canFdBusOff (dt : Nat) (ch : Nat)
  /-- A complete host frame is received, its CRC, length and reserved field are checked, and its ITP message is served
  (R100). Operands: `x` what the surroundings do meanwhile. -/
  | hostFrame (dt : Nat) (x : Obs)
  /-- A MANAGEMENT packet of subtype 0x0001 is received on a trunk port, and its ITP message is served (R356). Operands:
  `p` the port; `k` the packet; `x` what the surroundings do meanwhile. -/
  | managementItp (dt : Nat) (p : Nat) (k : Pkt) (x : Obs)
  /-- The application executes ECALL with a7 = 0x4D42, and the mailbox request block is served (R104). Operands: `a0`
  register a0; `pc` the program counter it is met at; `x` what the surroundings do meanwhile. -/
  | mailbox (dt : Nat) (a0 : Nat) (pc : Nat) (x : Obs)
  /-- Quoin command 0x01 snapshots the staged entries in scope and starts validation (R43). Operands: `o` the origin. -/
  | commit (dt : Nat) (o : Org)
  /-- Quoin command 0x02 removes the staged entries in scope (R51). Operands: `o` the origin. -/
  | discard (dt : Nat) (o : Org)
  /-- Quoin command 0x03 validates the staged entries in scope and reports the result without arming (R43). Operands:
  `o` the origin. -/
  | validateOnly (dt : Nat) (o : Org)
  /-- Validation of a commit ends, and the quoin is armed or rejected (R45). -/
  | quoinValidationEnd (dt : Nat)
  /-- With no anchor running, the later of the quoin time and 100 µs after validation is reached, and the global entries
  and the entries of non-running formes apply (R42). -/
  | quoinTimeReached (dt : Nat)
  /-- Save command 0x01 snapshots the active P values and runs invalidate, write, verify and commit on the target bank
  (R60). Operands: `o` the origin; `x` what the surroundings do meanwhile. -/
  | save (dt : Nat) (o : Org) (x : Obs)
  /-- A save that waits for an armed quoin starts its steps once the quoin has applied (R114). Operands: `o` what the
  surroundings do meanwhile. -/
  | saveAfterQuoin (dt : Nat) (o : Obs)
  /-- Restore command 0x01 stages the defaults of every P object and commits them through one quoin (R944). Operands:
  `o` the origin. -/
  | restore (dt : Nat) (o : Org)
  /-- Restore command 0x02 invalidates both banks, the lower sequence first (R63). Operands: `o` the origin;
  `x` what the surroundings do meanwhile. -/
  | invalidateBanks (dt : Nat) (o : Org) (x : Obs)
  /-- Writing 0x6F7A to 0x1060.01 freezes the configuration and discards the staged P entries (R64). Operands: `o` the
  origin; `v` the value written. -/
  | freeze (dt : Nat) (o : Org) (v : Nat)
  /-- A CMON gate ends and each monitored clock's count is judged against the ±25% range (R137). Operands: `counts` the
  counts of the eight clocks, in the order of Table 2.3; `imoHz` the measured frequency of the IMO, Hz. -/
  | cmonGateEnd (dt : Nat) (counts : List Nat) (imoHz : Nat)
  /-- No IMO gate ends within 8 µs measured on the XO, or the IMO frequency is out of range, and CMON gates on the XO
  (R140). -/
  | monitorOscillatorLost (dt : Nat)
  /-- The root PLL locks and the domain clocks start on their first full cycle (R136). Operands: `us` the time it took,
  µs; `slow` slow ticks AON counted while nothing counted local time (R163). -/
  | rootPllLock (dt : Nat) (us : Nat) (slow : Nat)
  /-- The root PLL has not locked 0.2 ms after its enable; it is restarted once, and a second failure holds the device
  in reset (R165). -/
  | rootPllLockFailure (dt : Nat)
  /-- The slew interval expires and the master offset moves one tick toward the slew target (R148). -/
  | slewStep (dt : Nat)
  /-- The source timeout expires, the offset is held and the time state reads source lost (R156). -/
  | masterTimeLost (dt : Nat)
  /-- A change of 0x1050.06 or of the trunk port abandons the slew, holds the offset and waits for the first sample from
  the new source (R141). Operands: `o` the origin; `port` the trunk port (true) or the source; `v` the value written. -/
  | timeSourceChange (dt : Nat) (o : Org) (port : Bool) (v : Nat)
  /-- Writing a reference enable checks E, F and D and starts or stops qualification (R208). Operands: `o` the origin;
  `r` the reference; `v` 0 or 1. -/
  | refEnable (dt : Nat) (o : Org) (r : Nat) (v : Nat)
  /-- A reference edge is timestamped, judged against its window, and compared against the genlock frame (R177).
  Operands: `r` the reference; `wide` whether the pulse is wider than the frame-mark width. -/
  | referenceEdge (dt : Nat) (r : Nat) (wide : Bool)
  /-- An expected edge window closes without an edge; the DPLL coasts, and after 3 such edges the reference loses
  qualification (R180). Operands: `r` the reference. -/
  | missingEdge (dt : Nat) (r : Nat)
  /-- A 1 s frequency gate ends and the reference's offset is judged against its accept and reject limits (R183).
  Operands: `r` the reference; `ppb` the offset measured in the gate, ppb. -/
  | frequencyGateEnd (dt : Nat) (r : Nat) (ppb : Int)
  /-- A reference's wait-to-restore time elapses and it becomes Qualified (R184). Operands: `r` the reference. -/
  | waitToRestoreEnd (dt : Nat) (r : Nat)
  /-- Writing 0x01 to .12 of a waiting reference ends its wait at once (R185). Operands: `o` the origin; `r` the
  reference. -/
  | endWait (dt : Nat) (o : Org) (r : Nat)
  /-- The phase error has stayed within ±20 ns for 2 s, and the DPLL enters TRACK (R192). -/
  | genlockLocked (dt : Nat)
  /-- A genlock frame starts, the frame count increments, and boundary actions such as realigns and mark changes take
  effect (R207). -/
  | genlockFrameStart (dt : Nat)
  /-- Realign command 0x01 sets the build-out offset to 0 at the next genlock frame boundary by lengthening that frame
  (R216). Operands: `o` the origin. -/
  | realign (dt : Nat) (o : Org)
  /-- An enabled MARK output pulses at the genlock frame start plus its offset on frames selected by its divider (R204).
  Operands: `m` the mark output. -/
  | markPulse (dt : Nat) (m : Nat)
  /-- Writing a synthesizer enable starts the band search, or turns the synthesizer OFF (R232). Operands: `o` the
  origin; `y` the synthesizer; `v` 0 or 1. -/
  | synEnable (dt : Nat) (o : Org) (y : Nat) (v : Nat)
  /-- The band search chooses the band closest to its target, and the synthesizer enters SYNC (R228). Operands: `s` the
  synthesizer; `band` the band found. -/
  | bandSearchDone (dt : Nat) (s : Nat) (band : Nat)
  /-- The phase error stays within the lock window for N reference cycles, and lock is declared (R233). Operands: `s`
  the synthesizer. -/
  | synthesizerLocked (dt : Nat) (s : Nat)
  /-- LOCKING lasts 2 ms without lock; the synthesizer relocks once, then enters FAILED (R232). Operands: `s` the
  synthesizer. -/
  | lockingTimeout (dt : Nat) (s : Nat)
  /-- The phase error exceeds the loss window on 4 cycles; the outputs are gated low and one relock is made (R237).
  Operands: `s` the synthesizer. -/
  | synthesizerLockLost (dt : Nat) (s : Nat)
  /-- No reference edge arrives within 1.5 reference periods, and the outputs are gated (R264). Operands: `s` the
  synthesizer. -/
  | synthesizerReferenceLost (dt : Nat) (s : Nat)
  /-- A gated synthesizer without GCLK for 10 ms enters FAILED (R232). Operands: `s` the synthesizer. -/
  | gatedTimeout (dt : Nat) (s : Nat)
  /-- Apply command 0x01 snapshots and validates the shadow set for application on a genlock frame start (R240).
  Operands: `o` the origin; `y` the synthesizer. -/
  | apply (dt : Nat) (o : Org) (y : Nat)
  /-- Apply command 0x02 snapshots the shadow set; the applied set mutes the outputs and relocks through SEARCH (R242).
  Operands: `o` the origin; `y` the synthesizer. -/
  | applyWithRelock (dt : Nat) (o : Org) (y : Nat)
  /-- A glide or profile ends; a frame-exact synthesizer resyncs or reports the phase as not aligned (R243). Operands:
  `s` the synthesizer. -/
  | glideEnd (dt : Nat) (s : Nat)
  /-- Resync command 0x01 runs SYNC, LOCKING and RELEASE without a band search (R244). Operands: `o` the origin; `y` the
  synthesizer. -/
  | resync (dt : Nat) (o : Org) (y : Nat)
  /-- Writing an output enable stops the output after its high phase, or restarts it in its running phase (R238).
  Operands: `o` the origin; `y` the synthesizer; `b` output B (true) or A; `v` 0 or 1. -/
  | outputEnable (dt : Nat) (o : Org) (y : Nat) (b : Bool) (v : Nat)
  /-- Ramp command 0x01 starts the profile on a LOCKED synthesizer (R247). Operands: `o` the origin; `y` the
  synthesizer. -/
  | profileStart (dt : Nat) (o : Org) (y : Nat)
  /-- Ramp command 0x02 stops the profile and glides the offset to 0 (R249). Operands: `o` the origin; `y` the
  synthesizer. -/
  | profileStop (dt : Nat) (o : Org) (y : Nat)
  /-- Ramp command 0x03 replaces the table with a triangular down-spread in loop mode (R250). Operands: `o` the origin;
  `y` the synthesizer. -/
  | generateDownSpread (dt : Nat) (o : Org) (y : Nat)
  /-- Every 16 reference periods, a running profile recomputes the VCO offset and advances segments (R246). Operands:
  `s` the synthesizer. -/
  | profileUpdate (dt : Nat) (s : Nat)
  /-- Writing a port enable checks its lanes and rate and starts the quad PLL and training (R272). Operands: `o` the
  origin; `p` the port. -/
  | portEnable (dt : Nat) (o : Org) (p : Nat)
  /-- Writing 0 to a port enable abandons training, retrain or sleep and discards the port's queued packets (R325).
  Operands: `o` the origin; `p` the port. -/
  | portDisable (dt : Nat) (o : Org) (p : Nat)
  /-- The quad PLL locks, the QBIAS calibration is made, and the transmitters leave electrical idle (R289). Operands:
  `q` the quad; `bias` the QBIAS resistance measured at the lock, ohms; `again` that of the second measurement (R933).
  -/
  | quadPllLock (dt : Nat) (q : Nat) (bias : Nat) (again : Nat)
  /-- Signal is detected on the lanes of a port, which starts training or wakes a sleeping port (R288). Operands: `p`
  the port. -/
  | signalDetect (dt : Nat) (p : Nat)
  /-- CDR lock, coarse CTLE and VGA complete on the port's lanes (R289). Operands: `p` the port; `ppm` the offset, ppm;
  `eq` the CTLE and VGA values reached on each of its lanes. -/
  | cdrLock (dt : Nat) (p : Nat) (ppm : Int) (eq : List (Nat × Nat))
  /-- A lane marker is received whole and drives marker lock, deskew and the RX ready, packet mode and sleep handshakes
  (R290). Operands: `l` the lane; `line` the line bits received since its last marker, those of this one the last;
  `skew` UI after the port's earliest lane. -/
  | laneMarker (dt : Nat) (l : Nat) (line : List Bool) (skew : Nat)
  /-- DFE or fine CTLE adaptation converges, and RX ready is set in the next marker (R289). Operands: `p` the port;
  `eq` the CTLE, VGA and DFE values reached on each of its lanes. -/
  | dfeConvergence (dt : Nat) (p : Nat) (eq : List (Nat × Nat × List Byte))
  /-- A port not UP 50 ms after signal detect fails its attempt, and a second failure puts it in FAILED (R289).
  Operands: `p` the port. -/
  | trainingAttemptTimeout (dt : Nat) (p : Nat)
  /-- Signal drops on a lane of an UP port, which is a loss that starts a retrain (R328). Operands: `l` the lane. -/
  | signalLost (dt : Nat) (l : Nat)
  /-- A retrain not UP 2 ms after entry fails, and the port enters FAILED (R296). Operands: `p` the port. -/
  | retrainTimeout (dt : Nat) (p : Nat)
  /-- A quad PLL loses lock, is relocked once, and all ports of the quad retrain (R332). Operands: `q` the quad;
  `relockOk` whether the one relock locks; `bias`, `again` the QBIAS resistance measured at it and once more, ohms. -/
  | quadPllUnlock (dt : Nat) (q : Nat) (relockOk : Bool) (bias : Nat) (again : Nat)
  /-- A FAILED port that has seen no signal for 100 ms returns to WAIT (R331). Operands: `p` the port. -/
  | failedPortReturn (dt : Nat) (p : Nat)
  /-- Sleep command 0x01 sends 4 sleep-notice markers and puts the port in SLEEP (R304). Operands: `o` the origin; `p`
  the port. -/
  | sleep (dt : Nat) (o : Org) (p : Nat)
  /-- Sleep command 0x02 wakes the port through WAKING (R307). Operands: `o` the origin; `p` the port. -/
  | wake (dt : Nat) (o : Org) (p : Nat)
  /-- An equalizer update interval ends and the DFE, CTLE or VGA values are updated (R300). Operands: `l` the lane;
  `ctle` the CTLE value reached; `vga` the VGA value; `dfe` the DFE tap values. -/
  | adaptationUpdate (dt : Nat) (l : Nat) (ctle : Nat) (vga : Nat) (dfe : List Byte)
  /-- Writing the adapt freeze flag stops adaptation with the live values held, or resumes it (R301). Operands: `o` the
  origin; `lane` the lane; `v` 0 or 1. -/
  | adaptFreeze (dt : Nat) (o : Org) (lane : Nat) (v : Nat)
  /-- Eye scan command 0x01 starts a scan on a lane of an UP or tested port (R312). Operands: `o` the origin. -/
  | eyeScanStart (dt : Nat) (o : Org)
  /-- Eye scan command 0x02 aborts the running scan (R321). Operands: `o` the origin. -/
  | eyeScanAbort (dt : Nat) (o : Org)
  /-- A scan point reaches its dwell or error limit; its result is stored and the next point starts (R314). Operands:
  `bitsRun` bits compared at the point; `errs` errors found. -/
  | eyeScanPointEnd (dt : Nat) (bitsRun : Nat) (errs : Nat)
  /-- Loopback command 0x01 starts a test on a disabled port (R309). Operands: `o` the origin. -/
  | testStart (dt : Nat) (o : Org)
  /-- Loopback command 0x02 stops the running test (R309). Operands: `o` the origin; `x` what the surroundings do
  meanwhile. -/
  | testStop (dt : Nat) (o : Org) (x : Obs)
  /-- A block pointer word is received; its complement is checked and it locates the first header of the block (R337).
  Operands: `p` the port, whose last received block it begins. -/
  | blockPointer (dt : Nat) (p : Nat)
  /-- A header with a bad CRC or an oversize length loses framing up to the next block pointer (R387). Operands: `p` the
  port; `hdr` the 64 bits received where a header is due. -/
  | framingError (dt : Nat) (p : Nat) (hdr : Nat)
  /-- A packet of a reserved type, wrong VC, or a type or subtype that the role does not accept is discarded (R342).
  Operands: `p` the port; `ty` the packet type; `vc` the virtual channel; `k` the packet. -/
  | packetRejected (dt : Nat) (p : Nat) (ty : Nat) (vc : Nat) (k : Pkt)
  /-- A folio is received; the capture channel checks it, opens a frame in a galley slot, and updates format, lock,
  freeze and LINKREF timing (R406). Operands: `p` the port; `k` the packet. -/
  | folio (dt : Nat) (p : Nat) (k : Pkt)
  /-- A VIDEO LINE packet is received and written at its position in the slot being written, or into the DIRECT line
  buffer (R403). Operands: `p` the port; `k` the packet. -/
  | videoLine (dt : Nat) (p : Nat) (k : Pkt)
  /-- No valid folio has arrived for 2·T_if + 1 ms, and the channel enters LOST (R439). Operands: `ch` the capture
  channel. -/
  | captureInputLost (dt : Nat) (ch : Nat)
  /-- Writing 1 to a capture enable reserves galley memory and bandwidth and puts the channel in WAITING (R394).
  Operands: `o` the origin; `n` the capture channel. -/
  | captureEnable (dt : Nat) (o : Org) (n : Nat)
  /-- Writing 0 to a capture enable stops the writer at once and puts the channel in DRAINING (R433). Operands: `o` the
  origin; `n` the capture channel. -/
  | captureDisable (dt : Nat) (o : Org) (n : Nat)
  /-- At a forme's frame start F, due staged values apply, windows claim frames, the folio is sent and monitors judge
  (R471). Operands: `n` the forme. -/
  | formeFrameStart (dt : Nat) (n : Nat)
  /-- At F + y·T_ol, the fetching of output row y starts for all windows of the forme (R453). Operands: `n` the forme;
  `y` the row; `bad` the windows whose frame memory read stayed uncorrectable, `again` those whose retry succeeded. -/
  | rowFetch (dt : Nat) (n : Nat) (y : Nat) (bad again : List Nat)
  /-- A row's launch is due and it is sent, with late window pixels replaced by the pixels beneath (R499). Operands: `n`
  the forme; `y` the row; `missing` the windows whose fetch has not completed. -/
  | rowLaunch (dt : Nat) (n : Nat) (y : Nat) (missing : List Nat)
  /-- A hold period of a no-source action ends, and the window shows the fill colour from the next F (R474). Operands:
  `w` the window. -/
  | holdTimeEnd (dt : Nat) (w : Nat)
  /-- An ECHO is received on a forme's port and compared with the signature history (R480). Operands: `p` the port; `k`
  the packet. -/
  | echo (dt : Nat) (p : Nat) (k : Pkt)
  /-- An AUDIO BLOCK is received and fed to its group's ASRC or to passthrough (R514). Operands: `p` the port; `k` the
  packet; `ppb` the ASRC's measured ratio error, ppb. -/
  | audioBlock (dt : Nat) (p : Nat) (k : Pkt) (ppb : Int)
  /-- An ASRC has tracked steady input long enough and locks, and its inputs give audio (R515). Operands: `a` the ASRC.
  -/
  | asrcLock (dt : Nat) (a : Nat)
  /-- A PCM group has no block for max(2 ms, 4n/f_in), and its output decays to 0 (R544). Operands: `a` the ASRC. -/
  | audioInputLost (dt : Nat) (a : Nat)
  /-- A device audio sample tick routes, crossfades, applies gain and delays one sample for every output (R520).
  Operands: `tdmIn` the 64 input words of the master TDM ports' frames; `bad` the outputs whose delay buffer read stayed
  uncorrectable, `again` those whose retry succeeded. -/
  | deviceAudioTick (dt : Nat) (tdmIn bad again : List Nat)
  /-- An output block of a forme's audio groups is sent at the block cadence (R523). Operands: `n` the forme. -/
  | audioBlockSend (dt : Nat) (n : Nat)
  /-- A frame sync arrives on a slave TDM port; a wrong bit count is counted and resynchronises the port (R549).
  Operands: `t` the TDM port; `n` bit clocks since the last frame sync; `same` whether its clock is the device audio
  clock; `words` the frame's input words. -/
  | tdmFrameSync (dt : Nat) (t : Nat) (n : Nat) (same : Bool) (words : List Nat)
  /-- A slave TDM port has no frame sync for 4 frame periods, and its inputs give silence (R549). Operands: `t` the TDM
  port. -/
  | audioTdmClockLost (dt : Nat) (t : Nat)
  /-- Enabling a title slot identifies its cartridge (R570). Operands: `o` the origin; `slots` the slots' enables,
  0x7000.02 (true), or the port's, 0x7000.01; `v` the value written. -/
  | slotEnable (dt : Nat) (o : Org) (slots : Bool) (v : Nat)
  /-- The identify command re-identifies the named slot, holding its later requests (R601). Operands: `o` the origin;
  `v` the slots. -/
  | identify (dt : Nat) (o : Org) (v : Nat)
  /-- A title port transaction completes and the next waiting request is taken in class order (R585). Operands: `data`
  the bytes read; `stalls` how often TPRDY held the transaction. -/
  | titleTransactionEnd (dt : Nat) (data : List Byte) (stalls : Nat)
  /-- A read through an XIP window is served from the prefetch buffer or by a line fetch (R565). Operands: `slot` the
  slot; `off` the offset in the window; `len` the bytes read; `m` the bus master; `id` its ID. -/
  | windowRead (dt : Nat) (slot : Nat) (off : Nat) (len : Nat) (m : Nat) (id : Nat)
  /-- A write through an XIP window is placed in the slot's page buffer and answered at once (R566). Operands: `slot`
  the slot; `off` the offset in the window; `data` the bytes written; `m` the bus master; `id` its ID. -/
  | windowWrite (dt : Nat) (slot : Nat) (off : Nat) (data : List Byte) (m : Nat) (id : Nat)
  /-- The coalesce time passes since the last buffered write, and the page buffer is flushed (R567). Operands: `slot`
  the slot. -/
  | coalesceTimeEnd (dt : Nat) (slot : Nat)
  /-- The flush command flushes the page buffers of the named slots (R567). Operands: `o` the origin; `v` the slots. -/
  | flush (dt : Nat) (o : Org) (v : Nat)
  /-- A poll interval of a flush expires and the flash status is read and judged (R568). Operands: `slot` the slot;
  `status` the flash status read. -/
  | statusPoll (dt : Nat) (slot : Nat) (status : Nat)
  /-- A TPRDY stall beyond its timeout ends the transaction, which is repeated once (R584). -/
  | tprdyTimeout (dt : Nat)
  /-- A strobed data phase whose TPDS gives no edge for 8 TPCK periods ends the transaction (R584). -/
  | strobeTimeout (dt : Nat)
  /-- Raw execute 0x01 runs the raw request as one transaction after any flush of its slot (R597). Operands: `o` the
  origin. -/
  | rawExecute (dt : Nat) (o : Org)
  /-- Writing 0x01 clears the interrupted-write records in AON (R609). Operands: `o` the origin. -/
  | clearInterrupted (dt : Nat) (o : Org)
  /-- A host-port header word is received and its opcode and complement are checked (R576). Operands: `hdr` the header
  word, its first byte first. -/
  | hostHeader (dt : Nat) (hdr : List Byte)
  /-- Host opcode 0xA1 receives frames from the host, in framed or stream mode (R587). Operands: `bytes` the bytes of
  whole words clocked in. -/
  | write (dt : Nat) (bytes : List Byte)
  /-- Host opcode 0xA2 sends queued frames after turnaround (R588). Operands: `n` the words clocked out. -/
  | read (dt : Nat) (n : Nat)
  /-- Host opcode 0xA3 sends one status word latched at turnaround (R593). -/
  | status (dt : Nat)
  /-- HPSEL_N rises and ends the transaction, taking, keeping or discarding a partial frame (R590). Operands: `bits` the
  bits clocked into the last word. -/
  | hpselNRise (dt : Nat) (bits : Nat)
  /-- The idle timeout passes with HPSEL_N low, and the transaction is ended (R582). Operands: `bits` the bits clocked
  into the last word. -/
  | hostPortTimeout (dt : Nat) (bits : Nat)
  /-- A kept partial stream frame receives no word within the idle timeout and is discarded (R591). -/
  | partialFrameTimeout (dt : Nat)
  /-- A 1 µs cache cycle enters completed fills, serves lookups and frees aged entries (R620). Operands: `bad`, `again`
  the places of the entries whose frame memory read is uncorrectable, or good at its retry (R674). -/
  | cacheCycle (dt : Nat) (bad again : List Nat)
  /-- The reads of a fill end, and the block or table page is verified against its CRC (R650). Operands: `slot` the
  slot; `page` a table page (true) or a block; `num` its number; `mem` the frame memory read of the page's entry: 0 good,
  1 good at its retry, 2 uncorrectable, 3 corrected (R674). -/
  | fillComplete (dt : Nat) (slot : Nat) (page : Bool) (num : Nat) (mem : Nat)
  /-- Stream command 0x01 starts the stream, which reads and checks the title header (R646). Operands: `o` the origin;
  `n` the stream. -/
  | streamStart (dt : Nat) (o : Org) (n : Nat)
  /-- The header read for a starting stream ends, and the stream becomes RUNNING or FAILED (R645). Operands: `s` the
  stream. -/
  | headerCheck (dt : Nat) (s : Nat)
  /-- A verified block r within the lead depth is enqueued to every multicast destination (R626). Operands: `s` the
  stream; `mem` the frame memory read of the block's entry: 0 good, 1 good at its retry, 2
  uncorrectable, 3 corrected (R674). -/
  | streamEnqueue (dt : Nat) (s : Nat) (mem : Nat)
  /-- Stream command 0x02 withdraws reads, discards queued packets and releases pins (R648). Operands: `o` the origin;
  `n` the stream. -/
  | streamStop (dt : Nat) (o : Org) (n : Nat)
  /-- Every completion of a stopping stream has returned, and it enters STOPPED (R648). Operands: `s` the stream. -/
  | titleStreamStopped (dt : Nat) (s : Nat)
  /-- A repair request is received, its ranges are queued with the repair flag, and a reply is sent (R633). Operands:
  `p` the port; `k` the packet; `bad`, `again` as in CACHE_CYCLE. -/
  | repairRequest (dt : Nat) (p : Nat) (k : Pkt) (bad again : List Nat)
  /-- The rejoin command moves the named repair destinations back into the multicast set (R656). Operands: `o` the
  origin; `n` the stream; `v` the ports. -/
  | rejoin (dt : Nat) (o : Org) (n : Nat) (v : Nat)
  /-- A write of the destination set of a running stream adds and removes destinations port by port (R655). Operands:
  `o` the origin; `n` the stream; `v` the ports. -/
  | destinationsWrite (dt : Nat) (o : Org) (n : Nat) (v : Nat)
  /-- Writing the cache enable checks the galley area and enables or disables the cache (R652). Operands: `o` the
  origin; `v` 0 or 1. -/
  | cacheEnable (dt : Nat) (o : Org) (v : Nat)
  /-- The invalidate command frees the unpinned entries and marks of the named slots (R665). Operands: `o` the origin;
  `v` the slots. -/
  | invalidate (dt : Nat) (o : Org) (v : Nat)
  /-- A packet ends on a port and the scheduler takes the next from SAFE, LINK CONTROL, ISO, MGMT, the weighted group or
  IDLE (R636). Operands: `p` the port. -/
  | packetEnd (dt : Nat) (p : Nat)
  /-- The sample period expires and every queue of every port is sampled in one tick (R642). -/
  | queueSample (dt : Nat)
  /-- Writing 0x01 clears the peak depth and delay of queue sampling (R644). Operands: `o` the origin. -/
  | clearPeaks (dt : Nat) (o : Org)
  /-- A FLOW is received and updates credits, releases acknowledged packets and acts on a NAK or new epoch (R365).
  Operands: `p` the port; `k` the packet. -/
  | flow (dt : Nat) (p : Nat) (k : Pkt)
  /-- The FLOW interval expires, or a buffer is freed, and a FLOW is sent (R360). Operands: `p` the port. -/
  | flowPeriodic (dt : Nat) (p : Nat)
  /-- A blocked VC receives no new credit for 64 µs, and the port suffers a loss (R359). Operands: `p` the port; `vc`
  the virtual channel. -/
  | creditTimeout (dt : Nat) (p : Nat) (vc : Nat)
  /-- The 50 µs ack timeout expires and the oldest packet is resent once, or the port suffers a loss (R365). Operands:
  `p` the port; `vc` the virtual channel. -/
  | ackTimeout (dt : Nat) (p : Nat) (vc : Nat)
  /-- The sync period expires on a port serving time, and TIME SYNC then TIME FOLLOW are sent (R374). Operands: `p` the
  port. -/
  | timeSyncPeriod (dt : Nat) (p : Nat)
  /-- A TIME SYNC is received on the time-taking trunk port and its arrival is captured (R377). Operands: `p` the port;
  `k` the packet. -/
  | timeSync (dt : Nat) (p : Nat) (k : Pkt)
  /-- A TIME FOLLOW is received, a sample is formed, and a TIME DREQ is sent (R377). Operands: `p` the port; `k` the
  packet. -/
  | timeFollow (dt : Nat) (p : Nat) (k : Pkt)
  /-- A TIME DREQ is received and answered with a TIME DRSP (R374). Operands: `p` the port; `k` the packet. -/
  | timeDreq (dt : Nat) (p : Nat) (k : Pkt)
  /-- A TIME DRSP is received and gives t4 for the path delay (R377). Operands: `p` the port; `k` the packet. -/
  | timeDrsp (dt : Nat) (p : Nat) (k : Pkt)
  /-- A SAFE NOTICE is received from a trunk partner (R357). Operands: `p` the port; `k` the packet. -/
  | safeNotice (dt : Nat) (p : Nat) (k : Pkt)
  /-- Writing 0x01 clears a port's link counters (R392). Operands: `o` the origin; `p` the port. -/
  | linkClearCounters (dt : Nat) (o : Org) (p : Nat)
  /-- Writing 0x01 clears a capture channel's counters (R447). Operands: `o` the origin; `n` the capture channel. -/
  | captureClearCounters (dt : Nat) (o : Org) (n : Nat)
  /-- Writing 0x01 clears the host port counters (R610). Operands: `o` the origin. -/
  | hostPortClearCounters (dt : Nat) (o : Org)
  /-- A master issues a request to the bus matrix, which holds it back or issues it to its target (R692). Operands:
  `master` 0 fetch, 1 data, 2 DMA, 3 debug; `id` the ID; `addr` the address; `len` the bytes; `wdata` the bytes written,
  or none for a read; `user` in user mode; `amo` an AMO, LR or SC; `parity` whether the cached line's parity is bad; `mem` a TCM's read: 0
  good, 1 good at its retry, 2 uncorrectable, 3 corrected. -/
  | busRequest (dt : Nat) (master : Nat) (id : Nat) (addr : Nat) (len : Nat) (wdata : Option (List Byte)) (user : Bool) (amo : Bool) (parity : Bool) (mem : Nat)
  /-- A target completes a request and its response returns in ID order (R691). Operands: `master` the master; `id` the
  ID; `ext` bytes read where the spec gives no contents; `mem` how the access turns out: 0 good, 1 a read good at its
  retry, 2 an error, 3 a read corrected; `vacant` whether the bytes written lie in galley area that no slot occupies. -/
  | busResponse (dt : Nat) (master : Nat) (id : Nat) (ext : List Byte) (mem : Nat) (vacant : Bool)
  /-- Setting a DMA channel enable starts its descriptor chain (R703). Operands: `n` the channel; `v` the other fields;
  `user` whether the core writes in user mode. -/
  | dmaEnable (dt : Nat) (n : Nat) (v : Nat) (user : Bool)
  /-- Clearing a DMA channel enable lets the current burst complete and issues no more (R705). Operands: `n` the
  channel; `v` the other fields; `user` whether the core writes in user mode. -/
  | dmaDisable (dt : Nat) (n : Nat) (v : Nat) (user : Bool)
  /-- A DMA burst completes, and the ready channels are served by priority for the next (R704). Operands: `ext` source
  bytes that the spec gives no contents; `err` an error response: 0 none, 1 source, 2 destination, 3 descriptor, 4 none, the source read at its retry; `beat`
  the bytes of an access to a fixed address; `vacant` whether the bytes written through an aperture lie in galley area
  that no slot occupies. -/
  | dmaBurst (dt : Nat) (ext : List Byte) (err : Nat) (beat : Nat) (vacant : Bool)
  /-- Writing 1 empties the instruction cache and the fetch buffer (R694). Operands: `v` the value written; `user`
  whether the core writes in user mode. -/
  | bmxIcctl (dt : Nat) (v : Nat) (user : Bool)
  /-- Writing BMX_REMAP changes the boot alias for requests issued afterwards (R729). Operands: `v` the value written;
  `user` whether the core writes in user mode. -/
  | bmxRemap (dt : Nat) (v : Nat) (user : Bool)
  /-- Writing 1 to the valid bit clears the recorded bus error (R695). Operands: `v` the value written; `user` whether
  the core writes in user mode. -/
  | bmxErrinfo (dt : Nat) (v : Nat) (user : Bool)
  /-- A write to an aperture control register or object validates the shadow set and applies it or holds it (R699).
  Operands: `o` the origin of a write of the object, or none for a write of the register; `a` the window; `sub` the
  object's sub-index or the register's offset; `v` the value written; `user` whether the core writes in user mode. -/
  | apwCtl (dt : Nat) (o : Option Org) (a : Nat) (sub : Nat) (v : Nat) (user : Bool)
  /-- Writing the high word of a timer compare arms it (R726). Operands: `n` the compare; `v` the value written; `user`
  whether the core writes in user mode. -/
  | tmrCmphi (dt : Nat) (n : Nat) (v : Nat) (user : Bool)
  /-- Local time reaches an armed compare and raises "timer n" (R726). Operands: `n` the compare. -/
  | timer (dt : Nat) (n : Nat)
  /-- A read of the low word of local time latches the high word and the epoch from the same tick (R726). -/
  | tmrMtimelo (dt : Nat)
  /-- A write to TRC_MARK writes a MARKER packet into the trace (R713). Operands: `v` the value written. -/
  | trcMark (dt : Nat) (v : Nat)
  /-- A write to any core-local register without a row of its own takes effect as its table gives (R726). Operands: `o`
  the offset from 0x4000_0000; `v` the value written; `user` whether the core writes in user mode. -/
  | registerWrite (dt : Nat) (o : Nat) (v : Nat) (user : Bool)
  /-- The bytes written since the last SYNC reach the sync interval, and a SYNC, with TIME when enabled, is emitted
  (R715). Operands: `flow` the lead core's flow since the last command; `pc` the program counter it is met at. -/
  | traceSyncInterval (dt : Nat) (flow : List Flow) (pc : Nat)
  /-- Space returns after the encoder buffer dropped packets, and OVERFLOW then SYNC are written (R717). Operands: `n`
  the packets dropped; `pc` the program counter it is met at. -/
  | traceOverflow (dt : Nat) (n : Nat) (pc : Nat)
  /-- Writing 0x01 empties the trace buffer and writes START if trace is enabled (R718). Operands: `o` the origin. -/
  | traceClear (dt : Nat) (o : Org)
  /-- The comparator finds the two cores differ, which causes a system reset with the safe state first (R679). -/
  | lockstepMismatch (dt : Nat)
  /-- A user-mode exception other than ECALL keeps the exception record and causes a control reset (R686). Operands:
  `cause` mcause; `epc` the instruction's address; `tval` mtval. -/
  | applicationException (dt : Nat) (cause : Nat) (epc : Nat) (tval : Nat)
  /-- An exception the agent cannot handle is escalated to a system reset (R736). -/
  | agentException (dt : Nat)
  /-- ECALL 0x4D43 returns the application from an interrupt handler (R683). Operands: `pc` the program counter it is
  met at. -/
  | returnFromInterrupt (dt : Nat) (pc : Nat)
  /-- ECALL 0x4D44 waits until an application interrupt is pending (R683). Operands: `pc` the program counter it is met
  at. -/
  | waitForInterrupt (dt : Nat) (pc : Nat)
  /-- An ECALL with an unknown a7 returns 0x000D (R683). Operands: `a7` register a7; `pc` the program counter it is met
  at. -/
  | unsupportedService (dt : Nat) (a7 : Nat) (pc : Nat)
  /-- Command 0x01 loads and verifies the image and starts the application in user mode (R711). Operands: `o` the
  origin; `x` what the surroundings do meanwhile. -/
  | applicationStart (dt : Nat) (o : Org) (x : Obs)
  /-- Command 0x02 stops dispatch to the application and disables its DMA (R705). Operands: `o` the origin. -/
  | applicationStop (dt : Nat) (o : Org)
  /-- A write of the image object stores an application image for boot source 5 (R710). Operands: `o` the origin; `b`
  the bytes written. -/
  | image (dt : Nat) (o : Org) (b : List Byte)
  /-- A debugger haltreq halts the hart, with the effects of Table 12.12 (R723). Operands: `pc` the program counter it
  is met at; `priv` the privilege mode; `x` the registers. -/
  | haltreq (dt : Nat) (pc : Nat) (priv : Nat) (x : List Nat)
  /-- A debugger resume restarts the hart and writes DEBUG resume and SYNC to the trace (R725). -/
  | resume (dt : Nat)
  /-- ndmreset causes a control reset with cause debug reset (R723). -/
  | ndmreset (dt : Nat)
  /-- An abstract Access Register command reads or writes a GPR or CSR of the halted hart (R722). Operands: `w` the
  command word; `after` the registers a program buffer leaves. -/
  | abstractCommand (dt : Nat) (w : Nat) (after : Option (List Nat))
  /-- The debug module accesses the system bus through the debug master (R722). Operands: `write` whether it writes;
  `size` the bytes; `addr` the address; `data` the word written; `ext` bytes read where the spec gives no contents;
  `mem` how the access turns out, as in BUS_RESPONSE; `vacant` as there. -/
  | systemBusAccess (dt : Nat) (write : Bool) (size : Nat) (addr : Nat) (data : Nat) (ext : List Byte) (mem : Nat) (vacant : Bool)
  /-- A type-2 trigger matches on execute, load or store (R722). Operands: `n` the trigger; `kind` 0 execute, 1 store, 2
  load; `addr` the address; `data` the data; `pc` the program counter it is met at; `priv` the privilege mode; `x` the
  registers. -/
  | trigger (dt : Nat) (n : Nat) (kind : Nat) (addr : Nat) (data : Nat) (pc : Nat) (priv : Nat) (x : List Nat)
  /-- The hart executes one instruction and halts again (R722). Operands: `pc` the program counter it is met at; `priv`
  the privilege mode; `x` the registers after the instruction. -/
  | singleStep (dt : Nat) (pc : Nat) (priv : Nat) (x : List Nat)
  /-- The JTAG IDCODE instruction selects the identification register (R721). -/
  | idcode (dt : Nat)
  /-- The JTAG SAMPLE/PRELOAD instruction captures and loads the boundary-scan register (R915). Operands: `cap` the
  levels captured; `load` the cells loaded. -/
  | samplePreload (dt : Nat) (cap : List Bool) (load : List Bool)
  /-- The JTAG EXTEST instruction holds the device in cold reset with pins following their scan cells (R915). Operands:
  `load` the cells loaded. -/
  | extest (dt : Nat) (load : List Bool)
  /-- The JTAG DTMCS instruction selects the debug transport control register (R724). Operands: `w` the word written. -/
  | dtmcs (dt : Nat) (w : Nat)
  /-- The JTAG DMI instruction carries debug module accesses (R722). Operands: `op` 0 none, 1 read, 2 write; `a` the
  register; `v` the word; `pc` the program counter it is met at; `priv` the privilege mode; `x` the registers the hart
  stands at; `ext` bytes read where the spec gives no contents; `after` the registers a program buffer leaves. -/
  | dmi (dt : Nat) (op : Nat) (a : Nat) (v : Nat) (pc : Nat) (priv : Nat) (x : List Nat) (ext : List Byte) (after : Option (List Nat))
  /-- The JTAG BYPASS instruction, or any other code, selects the bypass register (R721). Operands: `ir` the instruction
  code. -/
  | bypass (dt : Nat) (ir : Nat)
  /-- TRST_N low resets the JTAG TAP (R900). -/
  | trstN (dt : Nat)
  /-- A key written to a watchdog service register completes a service, or acts as an expiry on a wrong key or early
  service (R746). Operands: `n` the watchdog; `v` the value written; `user` whether the core writes in user mode. -/
  | wdgSvc (dt : Nat) (n : Nat) (v : Nat) (user : Bool)
  /-- A write to a watchdog control, timeout or period register is checked and applied, or answered with an error
  (R947). Operands: `n` the watchdog; `r` the register: 0x00 CTL, 0x04 TIMEOUT, 0x14 PERIOD; `v` the value written;
  `user` whether the core writes in user mode. -/
  | wdgCtl (dt : Nat) (n : Nat) (r : Nat) (v : Nat) (user : Bool)
  /-- Writing 1 to the WD0 enable starts WD0 (R744). Operands: `o` the origin. -/
  | wd0Start (dt : Nat) (o : Org)
  /-- Writing 0x01 to 0x9101.01 starts WD1 (R744). Operands: `o` the origin. -/
  | wd1Start (dt : Nat) (o : Org)
  /-- The agent's service period P expires and the agent services WD0 (R751). -/
  | wd0Service (dt : Nat)
  /-- A watchdog count reaches its early warning point and raises WD0 or WD1 early warning (R749). Operands: `n` the
  watchdog. -/
  | earlyWarning (dt : Nat) (n : Nat)
  /-- A watchdog count reaches T; evidence is captured and a system or control reset follows (R748). Operands: `pc` the
  program counter it is met at; `priv` the privilege mode. -/
  | watchdogExpired (dt : Nat) (pc : Nat) (priv : Nat)
  /-- Writing 0x01 clears a watchdog's expiry evidence (R750). Operands: `o` the origin; `n` the watchdog. -/
  | clearEvidence (dt : Nat) (o : Org) (n : Nat)
  /-- Writing 1 to a source's acknowledge bit clears its pending bit (R758). Operands: `k` the register; `v` the value
  written. -/
  | evcAck (dt : Nat) (k : Nat) (v : Nat)
  /-- A write to EVC_SWRAISE0 raises software event 0 with the value as detail (R762). Operands: `v` the value written.
  -/
  | evcSwraise0 (dt : Nat) (v : Nat)
  /-- A write to EVC_SWRAISE1 raises software event 1, and the value 0x5AFE_0001 requests a release (R762). Operands:
  `v` the value written. -/
  | evcSwraise1 (dt : Nat) (v : Nat)
  /-- Writing n to 0x9200.06 raises software event n with detail 0 (R762). Operands: `o` the origin; `v` the software
  event, 0 or 1. -/
  | softwareRaise (dt : Nat) (o : Org) (v : Nat)
  /-- Writing 0x01 clears the raise and message counters of the event controller (R758). Operands: `o` the origin. -/
  | eventClearCounters (dt : Nat) (o : Org)
  /-- The log writer takes a record from the FIFO and commits it with its CRC last (R766). -/
  | logRecordCommit (dt : Nat)
  /-- Log copy command 0x01 copies the newest 128 records to the older MRAM slot and commits it (R772). Operands: `o`
  the origin; `x` what the surroundings do meanwhile. -/
  | copy (dt : Nat) (o : Org) (x : Obs)
  /-- Writing 0x01 empties the event log after the record in progress (R781). Operands: `o` the origin. -/
  | logClear (dt : Nat) (o : Org)
  /-- With auto-doze set and no work pending, the device gates the core pair (R791). -/
  | dozeEntry (dt : Nat)
  /-- An ITP message, pending interrupt or agent-level event ends DOZE (R792). -/
  | dozeExit (dt : Nat)
  /-- Power request 0x01 runs the STANDBY entry steps (R794). Operands: `o` the origin; `x` what the surroundings do
  meanwhile. -/
  | standby (dt : Nat) (o : Org) (x : Obs)
  /-- Power request 0x02 runs STANDBY entry, switches rails and seats off and opens the power gates (R795). Operands:
  `o` the origin; `x` what the surroundings do meanwhile. -/
  | hibernate (dt : Nat) (o : Org) (x : Obs)
  /-- An enabled wake source ends STANDBY and the device restarts its blocks in order (R797). Operands: `src` the wake
  sources that fire (Table 14.3); `us` the root PLL lock time, µs. -/
  | standbyWake (dt : Nat) (src : Nat) (us : Nat)
  /-- A HIBERNATE wake source causes a cold reset with AON retained (R798). Operands: `src` the wake sources that fire
  (Table 14.3); `slow` the slow ticks AON counted (R163). -/
  | hibernateWake (dt : Nat) (src : Nat) (slow : Nat)
  /-- The wake timer expires on the AON slow tick and wakes the device from HIBERNATE (R799). Operands: `slow` the slow
  ticks AON counted (R163). -/
  | wakeTimer (dt : Nat) (slow : Nat)
  /-- Sequence command 0x01 powers up the rails step by step (R803). Operands: `o` the origin. -/
  | powerUp (dt : Nat) (o : Org)
  /-- Sequence command 0x02 switches seats off and powers down the rails in reverse step order (R804). Operands: `o` the
  origin. -/
  | powerDown (dt : Nat) (o : Org)
  /-- A rail's PG has been good for 10 µs and the rail is on (R806). Operands: `r` the rail. -/
  | pgGood (dt : Nat) (r : Nat)
  /-- The largest on delay of a step ends and the next step starts (R803). -/
  | onDelayEnd (dt : Nat)
  /-- The largest off delay of a step ends and the next lower step goes down (R804). -/
  | offDelayEnd (dt : Nat)
  /-- A step's PG is not good within its timeout; the step is retried once, then the sequence fails (R836). -/
  | pgTimeout (dt : Nat)
  /-- An on rail's PG stays not good for 10 µs, and the rail acts on its fault action (R837). Operands: `r` the rail. -/
  | railFault (dt : Nat) (r : Nat)
  /-- Rail restart 0x01 sends CLEAR_FAULTS and powers up from the rail's step (R837). Operands: `o` the origin; `r` the
  rail. -/
  | restart (dt : Nat) (o : Org) (r : Nat)
  /-- A waiting seat whose rail is on raises SEATEN once the seat stagger allows (R807). Operands: `n` the seat. -/
  | seatenRise (dt : Nat) (n : Nat)
  /-- A seat's inrush blanking ends and its current is monitored (R808). Operands: `n` the seat. -/
  | inrushBlankingEnd (dt : Nat) (n : Nat)
  /-- A seat's current stays above its limit for the trip time, and SEATEN falls (R808). Operands: `n` the seat. -/
  | seatFault (dt : Nat) (n : Nat)
  /-- A tripped seat's retry delay ends and it is switched on again (R838). Operands: `n` the seat. -/
  | retryDelayEnd (dt : Nat) (n : Nat)
  /-- The poll period expires and each PMBus rail's voltage, current and status are read (R812). Operands: `readings` what
  the rails answer: rail, transaction (0 READ_VOUT, 1 READ_IOUT, 2 STATUS_WORD), word and failed tries; `cut` the
  transactions done when an AVS write falls due (R833). -/
  | pmbusPoll (dt : Nat) (readings : List (Nat × Nat × Nat × Nat)) (cut : Option Nat)
  /-- PMB_ALERT_N falls and the status of every PMBus rail is read (R812). Operands: `readings` per rail its number,
  STATUS_WORD and failed tries. -/
  | pmbusAlert (dt : Nat) (readings : List (Nat × Nat × Nat))
  /-- Every 1 ms, AVS computes a target VDD and moves the command by at most 5 mV (R814). Operands: `mv` the lowest
  voltage that keeps the margin, mV; `errs` failed tries of the VOUT_COMMAND; `rest` what the rails answer in the rest of a
  poll that it cut (R833). -/
  | avsUpdate (dt : Nat) (mv : Nat) (errs : Nat) (rest : List (Nat × Nat × Nat × Nat))
  /-- An ADC conversion completes, and the averaged value updates every 2^a conversions (R816). Operands: `n` the
  channel; `code` the code. -/
  | adcConversion (dt : Nat) (n : Nat) (code : Nat)
  /-- An internal supply is outside its window for 20 µs and is reported to the safety collector (R819). Operands: `n`
  the supply, in the order of Table 14.4. -/
  | supplyOutOfRange (dt : Nat) (n : Nat)
  /-- A supply below its brownout threshold for 5 µs causes a cold reset (R819). Operands: `n` the supply, in the order
  of Table 14.4: one with a brownout threshold. -/
  | brownout (dt : Nat) (n : Nat)
  /-- Every 1 ms, the thermal sensors are read and compared with the thresholds (R821). Operands: `temps` the eight
  readings, 0.25 °C; `again` those of a second read. -/
  | thermalReading (dt : Nat) (temps : List Int) (again : List Int)
  /-- A write of the GPIO direction or output drives the pins (R823). Operands: `o` the origin; `out` the output,
  0x8000.14 (true), or the direction, 0x8000.13; `v` the value written. -/
  | gpioOutputWrite (dt : Nat) (o : Org) (out : Bool) (v : Nat)
  /-- An input edge stable for the debounce time raises GPIO input (R825). Operands: `g` the pin; `high` its level. -/
  | gpioInput (dt : Nat) (g : Nat) (high : Bool)
  /-- SAFE_REQ_N is seen low through its filter, which is a class 2 detection (R854). -/
  | externalSafeRequest (dt : Nat)
  /-- Writing 0x01 to 0x9000.02 requests a release of the safe state (R861). Operands: `o` the origin; `v` the value
  written. -/
  | release (dt : Nat) (o : Org) (v : Nat)
  /-- The self-test interval expires and the periodic self-test runs (R864). Operands: `failed` the items that failed
  (Table 15.6). -/
  | periodicSelfTest (dt : Nat) (failed : List Nat)
  /-- The parity scan of the active configuration finds a corrupted word (R854). Operands: `bad` whether a word was
  found corrupted. -/
  | shadowScan (dt : Nat) (bad : Bool)
  /-- Patrol scrub reads memory and corrects or reports latent errors (R854). Operands: `ms` the length of the pass, ms;
  `fmFixed` errors corrected in frame memory; `coreFixed` errors corrected in the core's memories; `again` uncorrectable reads whose
  retry succeeded; `fmBad` an
  uncorrectable error in frame memory; `coreBad` one in the core's memories; `logBad` the sequences of log records found
  damaged; `evBad` the watchdogs whose stored evidence is found damaged. -/
  | patrolScrub (dt : Nat) (ms : Nat) (fmFixed : Nat) (coreFixed : Nat) (again : Nat) (fmBad : Bool) (coreBad : Bool) (logBad : List Nat) (evBad : List Nat)
  /-- SAFE_N is not at its driven level within 20 µs of a change (R932). -/
  | safeNReadback (dt : Nat)
  /-- The two collector latch channels disagree for 1 µs (R846). -/
  | collectorDisagreement (dt : Nat)
  /-- Writing 0x01 clears the fault counters of 0x9300 (R854). Operands: `o` the origin. -/
  | faultCountersClear (dt : Nat) (o : Org)
  /-- Power-good is reached with AON lost, and the power-on reset is released within 2 ms (R877). -/
  | powerOn (dt : Nat)
  /-- RESET_N held low for 10 µs causes a cold reset that is released after RESET_N rises (R878). Operands: `ns` how
  long the pin was low, ns; `slow` the slow ticks AON counted (R163). -/
  | resetN (dt : Nat) (ns : Nat) (slow : Nat)
  /-- Control reset command 0x7C3A resets the control domain after the response is sent (R893). Operands: `o` the
  origin. -/
  | controlReset (dt : Nat) (o : Org)
  /-- Control reset command 0x7C3B resets the control domain without starting the application (R893). Operands: `o` the
  origin. -/
  | controlResetWithoutApplication (dt : Nat) (o : Org)
  /-- At reset release, the boot runs fuse load, self-test, training, configuration load, agent start and application
  start (R709). Operands: `o` what the boot meets. -/
  | boot (dt : Nat) (o : BootObs)
  /-- Writing 0x7C3C ends a held restart and acts on auto-run and the application (R898). Operands: `o` the origin; `x`
  what the surroundings do meanwhile. -/
  | endHold (dt : Nat) (o : Org) (x : Obs)
  /-- A fuse program request blows one fuse and reads it back (R887). Operands: `o` the origin; `b` the request of Table
  16.4; `x` what the surroundings do meanwhile. -/
  | fuseProgram (dt : Nat) (o : Org) (b : List Byte) (x : Obs)
  /-- Writing 0x01 clears the reset-cause counts (R882). Operands: `o` the origin. -/
  | clearCounts (dt : Nat) (o : Org)
  /-- A request whose service class lies outside Table 1.9 is answered with ABORT 0x000D (R69). Operands: `cls` the
  class; `f` the frame. -/
  | unknownServiceClass (dt : Nat) (cls : Nat) (f : Req)
  /-- SAFE_REQ_N is seen high through its filter, which raises the clear of external safe request and ends condition
  0x0B (R946). -/
  | safeReqNHigh (dt : Nat)
  /-- A supply that was out of range has been back within its window for 20 µs, which raises the clear of supply out of
  range and ends condition 0x05 (R946). Operands: `n` the supply, in the order of Table 14.4. -/
  | supplyBackInWindow (dt : Nat) (n : Nat)
  /-- Every supply has been within its window for 100 µs with AON retained, and the cold reset is released (R877).
  Operands: `slow` the slow ticks AON counted (R163). -/
  | powerGood (dt : Nat) (slow : Nat)
  deriving DecidableEq, Repr

end Sys2Proof
end

