-- ==== Sys2Proof/Decode.lean ====
section
/-!
DEFINITION. Words of spec/opcode_table.json. No row of the table gives bits: the commands of the S2424 are messages, pin
events and events inside it, not encoded words. So no word spells a command.
-/
namespace Sys2Proof

/-- The command a word spells by the table's bits: none, since no row has bits. -/
def decodeTableWord (_nbits _w : Nat) : Option Instr := none

end Sys2Proof
end

