-- ==== Sys2Proof/Machine/Dict.lean ====
section
/-!
DEFINITION. The object dictionary of the Isainadex: one row per sub-index of the object tables of the spec's
chapters (type, access class, persistence, default and the range the table's Meaning column or the owning chapter's
limits give for the object alone), and the instances each table has on either variant (Table 0.1).
-/
namespace Sys2Proof.Machine

/-- The types of Table 1.1. -/
inductive Ty where
  | bool | u8 | u16 | u32 | u64 | i8 | i16 | i32 | i64 | fix32 | str | dom
  deriving DecidableEq, Repr

/-- The access classes of Table 0.4. -/
inductive Acc where
  | ro | rw | wo | rws | rwd | cmd
  deriving DecidableEq, Repr

/-- One row of an object table. The spans of `rng` bound a number, or the length of bytes; no span: the type alone
bounds it. -/
structure Obj where
  sub : Nat
  ty : Ty
  acc : Acc
  pers : Bool
  dflt : Val
  rng : List (Int × Int)
  deriving DecidableEq, Repr

/-- `n` zero bytes. -/
def zeros (n : Nat) : List Byte := List.replicate n 0#8

/-- The table of 0x1000. -/
def tbl1000 : List Obj := [
  ⟨0x01, .u32, .ro, false, .num 4608582, []⟩,
  ⟨0x02, .str, .ro, false, .bytes [], []⟩,
  ⟨0x03, .u8, .ro, false, .num 0, []⟩,
  ⟨0x04, .u16, .ro, false, .num 0, []⟩,
  ⟨0x05, .u32, .ro, false, .num 0, []⟩,
  ⟨0x06, .u64, .ro, false, .num 0, []⟩,
  ⟨0x07, .u32, .ro, false, .num 0, []⟩,
  ⟨0x08, .u16, .ro, false, .num 0, []⟩]

/-- The table of 0x1010. -/
def tbl1010 : List Obj := [
  ⟨0x01, .u8, .rw, true, .num 16, [(1, 254)]⟩,
  ⟨0x02, .u8, .rw, true, .num 0, [(0, 1)]⟩,
  ⟨0x03, .u32, .rw, true, .num 500000, [(125000, 125000), (250000, 250000), (500000, 500000), (1000000, 1000000)]⟩,
  ⟨0x04, .u32, .rw, true, .num 2000000, [(1000000, 1000000), (2000000, 2000000), (4000000, 4000000), (5000000, 5000000), (8000000, 8000000)]⟩,
  ⟨0x05, .u16, .rw, true, .num 100, [(0, 0), (10, 10000)]⟩,
  ⟨0x06, .bool, .rw, true, .num 0, []⟩,
  ⟨0x07, .u8, .rw, true, .num 15, [(1, 15)]⟩,
  ⟨0x08, .u16, .rw, true, .num 10000, [(1000, 50000)]⟩,
  ⟨0x09, .u32, .ro, false, .num 0, []⟩,
  ⟨0x0A, .u32, .ro, false, .num 0, []⟩,
  ⟨0x0B, .u32, .ro, false, .num 0, []⟩,
  ⟨0x0C, .u32, .ro, false, .num 0, []⟩]

/-- The table of 0x1020. -/
def tbl1020 : List Obj := [
  ⟨0x01, .u8, .cmd, false, .num 0, []⟩,
  ⟨0x02, .u8, .cmd, false, .num 0, []⟩,
  ⟨0x03, .u32, .ro, false, .num 0, []⟩,
  ⟨0x04, .u32, .ro, false, .num 0, []⟩,
  ⟨0x05, .u8, .ro, false, .num 0, []⟩,
  ⟨0x06, .u16, .ro, false, .num 0, []⟩,
  ⟨0x07, .u16, .ro, false, .num 0, []⟩]

/-- The table of 0x1030. -/
def tbl1030 : List Obj := [
  ⟨0x01, .u8, .cmd, false, .num 0, []⟩,
  ⟨0x02, .u32, .rw, false, .num 2164260863, []⟩,
  ⟨0x03, .u64, .rw, false, .num 0, []⟩,
  ⟨0x04, .u32, .ro, false, .num 0, []⟩,
  ⟨0x05, .u16, .ro, false, .num 0, []⟩,
  ⟨0x06, .u32, .ro, false, .num 0, []⟩,
  ⟨0x07, .u64, .ro, false, .num 0, []⟩]

/-- The table of 0x1060. -/
def tbl1060 : List Obj := [
  ⟨0x01, .u16, .cmd, false, .num 0, []⟩,
  ⟨0x02, .u64, .ro, false, .num 0, []⟩]

/-- The table of 0x1050. -/
def tbl1050 : List Obj := [
  ⟨0x01, .u64, .ro, false, .num 0, []⟩,
  ⟨0x02, .u16, .ro, false, .num 0, []⟩,
  ⟨0x03, .i64, .ro, false, .num 0, []⟩,
  ⟨0x04, .u32, .rw, true, .num 1000, [(10, 1000000)]⟩,
  ⟨0x05, .u16, .rw, true, .num 50, [(1, 50)]⟩,
  ⟨0x06, .u8, .rw, true, .num 0, [(0, 2)]⟩,
  ⟨0x07, .u8, .rw, true, .num 1, [(1, 254)]⟩,
  ⟨0x08, .u8, .rw, true, .num 0, [(0, 31)]⟩,
  ⟨0x09, .u16, .rw, true, .num 150, [(0, 2000)]⟩,
  ⟨0x0A, .u16, .rw, true, .num 3000, [(100, 60000)]⟩,
  ⟨0x0B, .u8, .ro, false, .num 0, []⟩,
  ⟨0x0C, .u64, .ro, false, .num 0, []⟩,
  ⟨0x0D, .u32, .ro, false, .num 0, []⟩,
  ⟨0x0E, .i64, .ro, false, .num 0, []⟩,
  ⟨0x0F, .u16, .ro, false, .num 0, []⟩,
  ⟨0x10, .u8, .rw, true, .num 0, [(0, 1)]⟩]

/-- The table of 0x2000. -/
def tbl2000 : List Obj := [
  ⟨0x01, .u8, .ro, false, .num 0, []⟩,
  ⟨0x02, .u8, .ro, false, .num 0, []⟩,
  ⟨0x03, .u16, .ro, false, .num 0, []⟩,
  ⟨0x04, .u16, .ro, false, .num 0, []⟩,
  ⟨0x05, .u16, .ro, false, .num 0, []⟩,
  ⟨0x06, .u32, .ro, false, .num 0, []⟩,
  ⟨0x07, .u16, .ro, false, .num 0, []⟩]

/-- The table of 0x2100 REFA, 0x2101 REFB, 0x2102 REFC, 0x2104 to 0x2107 LINKREF0 to 3. -/
def tbl2100 : List Obj := [
  ⟨0x01, .bool, .rw, true, .num 0, []⟩,
  ⟨0x02, .u8, .rw, true, .num 0, [(1, 255)]⟩,
  ⟨0x03, .u8, .rw, true, .num 0, [(0, 15), (255, 255)]⟩,
  ⟨0x04, .u32, .rwd, true, .num 1, [(1, 12500000)]⟩,
  ⟨0x05, .u16, .rwd, true, .num 1, [(1, 64)]⟩,
  ⟨0x06, .u8, .rwd, true, .num 0, [(0, 1)]⟩,
  ⟨0x07, .i32, .rw, true, .num 0, [(-40000000, 40000000)]⟩,
  ⟨0x08, .u32, .rwd, true, .num 0, []⟩,
  ⟨0x09, .u16, .rw, true, .num 30, [(1, 200)]⟩,
  ⟨0x0A, .u16, .rw, true, .num 60, [(1, 230)]⟩,
  ⟨0x0B, .u16, .rw, true, .num 60, [(0, 3600)]⟩,
  ⟨0x0C, .u8, .rwd, true, .num 0, [(0, 23)]⟩,
  ⟨0x0D, .u8, .ro, false, .num 0, []⟩,
  ⟨0x0E, .i32, .ro, false, .num 0, []⟩,
  ⟨0x0F, .u8, .ro, false, .num 15, []⟩,
  ⟨0x10, .u32, .ro, false, .num 0, []⟩,
  ⟨0x11, .u16, .ro, false, .num 0, []⟩,
  ⟨0x12, .u8, .cmd, false, .num 0, []⟩,
  ⟨0x13, .u8, .rwd, true, .num 0, [(0, 1)]⟩,
  ⟨0x14, .u32, .rwd, true, .num 1, []⟩]

/-- The table of 0x2110. -/
def tbl2110 : List Obj := [
  ⟨0x01, .u8, .rw, true, .num 1, [(0, 3)]⟩,
  ⟨0x02, .u8, .rw, true, .num 0, [(0, 2), (4, 7)]⟩,
  ⟨0x03, .u32, .rws, true, .num 60, [(1, 4294967295)]⟩,
  ⟨0x04, .u32, .rws, true, .num 1, [(1, 4294967295)]⟩,
  ⟨0x05, .fix32, .rw, true, .num 13107, [(6554, 655360)]⟩,
  ⟨0x06, .u8, .rw, true, .num 1, []⟩,
  ⟨0x07, .u32, .rw, true, .num 1000, [(10, 100000)]⟩,
  ⟨0x08, .bool, .rw, true, .num 1, []⟩,
  ⟨0x09, .u32, .rw, true, .num 500, [(20, 100000)]⟩,
  ⟨0x0A, .u8, .ro, false, .num 0, []⟩,
  ⟨0x0B, .u8, .ro, false, .num 255, []⟩,
  ⟨0x0C, .i32, .ro, false, .num 0, []⟩,
  ⟨0x0D, .i32, .ro, false, .num 0, []⟩,
  ⟨0x0E, .u16, .ro, false, .num 0, []⟩,
  ⟨0x0F, .u32, .ro, false, .num 1666667, []⟩,
  ⟨0x10, .i32, .ro, false, .num 0, []⟩,
  ⟨0x11, .i32, .ro, false, .num 0, []⟩,
  ⟨0x12, .u32, .ro, false, .num 0, []⟩,
  ⟨0x13, .u8, .cmd, false, .num 0, []⟩,
  ⟨0x14, .u8, .ro, false, .num 15, []⟩,
  ⟨0x15, .u8, .rw, true, .num 12, [(0, 15)]⟩,
  ⟨0x16, .u8, .rw, true, .num 14, [(0, 15)]⟩,
  ⟨0x17, .u32, .ro, false, .num 0, []⟩]

/-- The table of 0x2120 to 0x2123, MARK0 to MARK3. -/
def tbl2120 : List Obj := [
  ⟨0x01, .bool, .rw, true, .num 0, []⟩,
  ⟨0x02, .i32, .rw, true, .num 0, []⟩,
  ⟨0x03, .u32, .rw, true, .num 400, [(4, 4294967295)]⟩,
  ⟨0x04, .u8, .rw, true, .num 0, [(0, 1)]⟩,
  ⟨0x05, .u8, .rw, true, .num 1, [(1, 16)]⟩,
  ⟨0x06, .u32, .ro, false, .num 0, []⟩]

/-- The table of 0x2200 to 0x2203, SYN0 to SYN3. -/
def tbl2200 : List Obj := [
  ⟨0x01, .bool, .rw, true, .num 0, []⟩,
  ⟨0x02, .u8, .rw, true, .num 1, [(0, 1)]⟩,
  ⟨0x03, .u8, .rw, true, .num 1, [(0, 2)]⟩,
  ⟨0x04, .u8, .rw, true, .num 72, []⟩,
  ⟨0x05, .u32, .rw, true, .num 0, []⟩,
  ⟨0x06, .u32, .rw, true, .num 120000000, []⟩,
  ⟨0x07, .u16, .rw, true, .num 48, []⟩,
  ⟨0x08, .u16, .rw, true, .num 48, []⟩,
  ⟨0x09, .u8, .cmd, false, .num 0, []⟩,
  ⟨0x0A, .bool, .rw, true, .num 0, []⟩,
  ⟨0x0B, .bool, .rw, true, .num 0, []⟩,
  ⟨0x0C, .u8, .rwd, true, .num 0, [(0, 1)]⟩,
  ⟨0x0D, .u8, .rwd, true, .num 0, [(0, 1)]⟩,
  ⟨0x0E, .u16, .rw, true, .num 0, []⟩,
  ⟨0x0F, .u16, .rw, true, .num 0, []⟩,
  ⟨0x10, .u16, .rw, true, .num 256, [(16, 4096)]⟩,
  ⟨0x11, .u16, .rw, true, .num 1000, [(250, 8000)]⟩,
  ⟨0x12, .u16, .rw, true, .num 20, [(10, 100)]⟩,
  ⟨0x13, .u16, .rw, true, .num 400, [(100, 2000)]⟩,
  ⟨0x14, .bool, .rw, true, .num 1, []⟩,
  ⟨0x15, .u32, .rw, true, .num 5948385, [(1, 16777215)]⟩,
  ⟨0x16, .u32, .rw, true, .num 1000, [(10, 100000)]⟩,
  ⟨0x17, .bool, .rw, true, .num 1, []⟩,
  ⟨0x18, .u8, .cmd, false, .num 0, []⟩,
  ⟨0x19, .u8, .ro, false, .num 0, []⟩,
  ⟨0x1A, .u8, .ro, false, .num 0, []⟩,
  ⟨0x1B, .u32, .ro, false, .num 0, []⟩,
  ⟨0x1C, .u32, .ro, false, .num 0, []⟩,
  ⟨0x1D, .u32, .ro, false, .num 0, []⟩,
  ⟨0x1E, .u32, .ro, false, .num 0, []⟩,
  ⟨0x1F, .u32, .ro, false, .num 0, []⟩,
  ⟨0x20, .u8, .ro, false, .num 0, []⟩,
  ⟨0x21, .u32, .ro, false, .num 0, []⟩]

/-- The table of 0x2210 to 0x2213, for SYN0 to SYN3. -/
def tbl2210 : List Obj := [
  ⟨0x01, .bool, .rw, true, .num 0, []⟩,
  ⟨0x02, .dom, .rw, true, .bytes [], [(8, 256)]⟩,
  ⟨0x03, .u8, .rw, true, .num 1, [(0, 1)]⟩,
  ⟨0x04, .u8, .cmd, false, .num 0, []⟩,
  ⟨0x05, .u16, .rw, true, .num 50, [(10, 200)]⟩,
  ⟨0x06, .u32, .rw, true, .num 31500, [(10000, 100000)]⟩,
  ⟨0x07, .u8, .ro, false, .num 0, []⟩,
  ⟨0x08, .u8, .ro, false, .num 0, []⟩,
  ⟨0x09, .i32, .ro, false, .num 0, []⟩]

/-- The table of 0x3000 to 0x301F, P0 to P31. -/
def tbl3000 : List Obj := [
  ⟨0x01, .bool, .rw, true, .num 0, []⟩,
  ⟨0x02, .u8, .rwd, true, .num 0, [(0, 2)]⟩,
  ⟨0x03, .u8, .rwd, true, .num 0, [(0, 47)]⟩,
  ⟨0x04, .u8, .rwd, true, .num 0, [(1, 2), (4, 4)]⟩,
  ⟨0x05, .u8, .rwd, true, .num 3, [(0, 3)]⟩,
  ⟨0x06, .u8, .rwd, true, .num 1, [(0, 2)]⟩,
  ⟨0x07, .u8, .ro, false, .num 0, []⟩,
  ⟨0x08, .u8, .cmd, false, .num 0, []⟩,
  ⟨0x09, .u32, .ro, false, .num 0, []⟩,
  ⟨0x0A, .u32, .ro, false, .num 0, []⟩,
  ⟨0x0B, .u16, .ro, false, .num 0, []⟩,
  ⟨0x0C, .u8, .ro, false, .num 0, []⟩,
  ⟨0x0D, .u32, .ro, false, .num 0, []⟩,
  ⟨0x0E, .u32, .ro, false, .num 0, []⟩,
  ⟨0x0F, .u32, .ro, false, .num 0, []⟩,
  ⟨0x10, .u8, .ro, false, .num 0, []⟩,
  ⟨0x11, .u32, .ro, false, .num 0, []⟩]

/-- The table of 0x3100 to 0x312F, lanes 0 to 47. -/
def tbl3100 : List Obj := [
  ⟨0x01, .u8, .rw, true, .num 12, [(0, 12)]⟩,
  ⟨0x02, .u8, .rw, true, .num 0, [(0, 10)]⟩,
  ⟨0x03, .u8, .rw, true, .num 6, [(0, 20)]⟩,
  ⟨0x04, .bool, .rw, true, .num 0, []⟩,
  ⟨0x05, .bool, .ro, false, .num 0, []⟩,
  ⟨0x06, .bool, .rw, false, .num 0, []⟩,
  ⟨0x07, .u8, .rw, true, .num 8, [(0, 15)]⟩,
  ⟨0x08, .u8, .rw, true, .num 16, [(0, 31)]⟩,
  ⟨0x09, .dom, .rw, true, .bytes (zeros 12), [(12, 12)]⟩,
  ⟨0x0A, .bool, .ro, false, .num 0, []⟩,
  ⟨0x0B, .bool, .ro, false, .num 0, []⟩,
  ⟨0x0C, .u8, .ro, false, .num 255, []⟩,
  ⟨0x0D, .i16, .ro, false, .num 0, []⟩,
  ⟨0x0E, .u8, .ro, false, .num 255, []⟩,
  ⟨0x0F, .bool, .ro, false, .num 0, []⟩,
  ⟨0x10, .u8, .ro, false, .num 0, []⟩,
  ⟨0x11, .u8, .ro, false, .num 0, []⟩,
  ⟨0x12, .u8, .ro, false, .num 0, []⟩,
  ⟨0x13, .dom, .ro, false, .bytes (zeros 12), []⟩]

/-- The table of 0x3200. -/
def tbl3200 : List Obj := [
  ⟨0x01, .u8, .rw, false, .num 0, [(0, 47)]⟩,
  ⟨0x02, .u8, .rw, false, .num 1, [(0, 3)]⟩,
  ⟨0x03, .i8, .rw, false, .num 0, [(-32, 31)]⟩,
  ⟨0x04, .i8, .rw, false, .num 0, [(-64, 63)]⟩,
  ⟨0x05, .u64, .rw, false, .num 100000000, [(1000, 17592186044415)]⟩,
  ⟨0x06, .u32, .rw, false, .num 1000, [(1, 1048575)]⟩,
  ⟨0x07, .u8, .cmd, false, .num 0, []⟩,
  ⟨0x08, .u16, .ro, false, .num 0, []⟩,
  ⟨0x09, .u64, .ro, false, .num 0, []⟩,
  ⟨0x0A, .dom, .ro, false, .bytes [], []⟩,
  ⟨0x0B, .u8, .ro, false, .num 0, []⟩]

/-- The table of 0x3300. -/
def tbl3300 : List Obj := [
  ⟨0x01, .u8, .rw, false, .num 0, [(0, 31)]⟩,
  ⟨0x02, .u8, .rw, false, .num 0, [(0, 5)]⟩,
  ⟨0x03, .u8, .rw, false, .num 3, [(0, 3)]⟩,
  ⟨0x04, .u8, .cmd, false, .num 0, []⟩,
  ⟨0x05, .u8, .ro, false, .num 0, []⟩,
  ⟨0x06, .u64, .ro, false, .num 0, []⟩,
  ⟨0x07, .u64, .ro, false, .num 0, []⟩,
  ⟨0x08, .dom, .ro, false, .bytes [], []⟩]

/-- The table of 0x3400 to 0x341F, P0 to P31. -/
def tbl3400 : List Obj := [
  ⟨0x01, .u32, .ro, false, .num 0, []⟩,
  ⟨0x02, .u32, .ro, false, .num 0, []⟩,
  ⟨0x03, .u32, .ro, false, .num 0, []⟩,
  ⟨0x04, .u32, .ro, false, .num 0, []⟩,
  ⟨0x05, .u32, .ro, false, .num 0, []⟩,
  ⟨0x06, .u32, .ro, false, .num 0, []⟩,
  ⟨0x07, .u32, .ro, false, .num 0, []⟩,
  ⟨0x08, .u32, .ro, false, .num 0, []⟩,
  ⟨0x09, .u32, .ro, false, .num 0, []⟩,
  ⟨0x0A, .u32, .ro, false, .num 0, []⟩,
  ⟨0x0B, .u16, .ro, false, .num 0, []⟩,
  ⟨0x0C, .u16, .ro, false, .num 0, []⟩,
  ⟨0x0D, .u64, .ro, false, .num 0, []⟩,
  ⟨0x0E, .u16, .ro, false, .num 0, []⟩,
  ⟨0x0F, .u16, .ro, false, .num 0, []⟩,
  ⟨0x10, .u16, .ro, false, .num 0, []⟩,
  ⟨0x11, .u16, .ro, false, .num 0, []⟩,
  ⟨0x12, .u64, .ro, false, .num 0, []⟩,
  ⟨0x13, .u64, .ro, false, .num 0, []⟩,
  ⟨0x14, .bool, .rw, true, .num 0, []⟩,
  ⟨0x15, .u16, .rw, true, .num 100, [(10, 1000)]⟩,
  ⟨0x16, .i32, .ro, false, .num 0, []⟩,
  ⟨0x17, .u8, .cmd, false, .num 0, []⟩]

/-- The table of 0x4000 to 0x4017, C0 to C23. -/
def tbl4000 : List Obj := [
  ⟨0x01, .bool, .rw, true, .num 0, []⟩,
  ⟨0x02, .u8, .rwd, true, .num 0, [(0, 31)]⟩,
  ⟨0x03, .u8, .rwd, true, .num 3, [(3, 8)]⟩,
  ⟨0x04, .u16, .rwd, true, .num 3840, [(16, 7680)]⟩,
  ⟨0x05, .u16, .rwd, true, .num 2160, [(8, 4320)]⟩,
  ⟨0x06, .u8, .rwd, true, .num 24, [(16, 16), (20, 20), (24, 24), (30, 30), (32, 32), (36, 36), (48, 48)]⟩,
  ⟨0x07, .u16, .rwd, true, .num 120, [(20, 480)]⟩,
  ⟨0x08, .u32, .rw, true, .num 0, []⟩,
  ⟨0x09, .u8, .rw, true, .num 2, [(1, 16)]⟩,
  ⟨0x0A, .u16, .rw, true, .num 2000, [(100, 50000)]⟩,
  ⟨0x0B, .u16, .rw, true, .num 2, [(0, 60)]⟩,
  ⟨0x0C, .u8, .ro, false, .num 0, []⟩,
  ⟨0x0D, .u8, .ro, false, .num 0, []⟩,
  ⟨0x0E, .u16, .ro, false, .num 0, []⟩,
  ⟨0x0F, .u16, .ro, false, .num 0, []⟩,
  ⟨0x10, .u16, .ro, false, .num 0, []⟩,
  ⟨0x11, .u32, .ro, false, .num 0, []⟩,
  ⟨0x12, .u32, .ro, false, .num 0, []⟩,
  ⟨0x13, .u8, .ro, false, .num 0, []⟩,
  ⟨0x14, .u32, .ro, false, .num 0, []⟩,
  ⟨0x15, .u32, .ro, false, .num 0, []⟩,
  ⟨0x16, .u32, .ro, false, .num 0, []⟩,
  ⟨0x17, .i32, .ro, false, .num 0, []⟩,
  ⟨0x18, .u32, .ro, false, .num 0, []⟩,
  ⟨0x19, .u32, .ro, false, .num 0, []⟩,
  ⟨0x1A, .u32, .ro, false, .num 0, []⟩,
  ⟨0x1B, .u32, .ro, false, .num 0, []⟩,
  ⟨0x1C, .u32, .ro, false, .num 0, []⟩,
  ⟨0x1D, .u32, .ro, false, .num 0, []⟩,
  ⟨0x1E, .u32, .ro, false, .num 0, []⟩,
  ⟨0x1F, .u32, .ro, false, .num 0, []⟩,
  ⟨0x20, .u32, .ro, false, .num 0, []⟩,
  ⟨0x21, .u32, .ro, false, .num 0, []⟩,
  ⟨0x22, .u8, .ro, false, .num 0, []⟩,
  ⟨0x23, .u32, .ro, false, .num 0, []⟩,
  ⟨0x24, .u8, .cmd, false, .num 0, []⟩,
  ⟨0x25, .u32, .ro, false, .num 0, []⟩,
  ⟨0x26, .u64, .ro, false, .num 0, []⟩]

/-- The table of 0x5000 to 0x5017, O0 to O23. -/
def tbl5000 : List Obj := [
  ⟨0x01, .bool, .rws, true, .num 0, []⟩,
  ⟨0x02, .u8, .rws, true, .num 255, [(0, 31), (255, 255)]⟩,
  ⟨0x03, .u16, .rws, true, .num 1920, [(64, 7680)]⟩,
  ⟨0x04, .u16, .rws, true, .num 1080, [(8, 4320)]⟩,
  ⟨0x05, .u16, .rws, true, .num 1125, [(0, 16383)]⟩,
  ⟨0x06, .u32, .rws, true, .num 60, [(1, 4294967295)]⟩,
  ⟨0x07, .u32, .rws, true, .num 1, [(1, 4294967295)]⟩,
  ⟨0x08, .u8, .rws, true, .num 3, [(1, 11)]⟩,
  ⟨0x09, .u8, .rws, true, .num 0, [(0, 1)]⟩,
  ⟨0x0A, .u32, .rws, true, .num 0, []⟩,
  ⟨0x0B, .bool, .rws, true, .num 0, []⟩,
  ⟨0x0C, .u32, .rws, true, .num 0, [(0, 1073741823)]⟩,
  ⟨0x0D, .u8, .rws, true, .num 16, [(0, 2), (16, 18)]⟩,
  ⟨0x0E, .u32, .rws, true, .num 0, []⟩,
  ⟨0x0F, .u8, .rws, true, .num 0, [(0, 1)]⟩,
  ⟨0x10, .u8, .rws, true, .num 255, [(0, 63), (255, 255)]⟩,
  ⟨0x11, .u8, .ro, false, .num 0, []⟩,
  ⟨0x12, .u32, .ro, false, .num 0, []⟩,
  ⟨0x13, .u32, .ro, false, .num 0, []⟩,
  ⟨0x14, .u32, .ro, false, .num 0, []⟩,
  ⟨0x15, .u32, .ro, false, .num 0, []⟩,
  ⟨0x16, .u32, .ro, false, .num 0, []⟩,
  ⟨0x17, .u8, .ro, false, .num 1, []⟩,
  ⟨0x18, .u32, .ro, false, .num 0, []⟩,
  ⟨0x19, .u32, .ro, false, .num 0, []⟩]

/-- The table of 0x5100 to 0x513F, W0 to W63. -/
def tbl5100 : List Obj := [
  ⟨0x01, .bool, .rws, true, .num 0, []⟩,
  ⟨0x02, .u8, .rws, true, .num 255, [(0, 23), (255, 255)]⟩,
  ⟨0x03, .u8, .rws, true, .num 255, [(0, 23), (255, 255)]⟩,
  ⟨0x04, .u8, .rws, true, .num 1, [(0, 2)]⟩,
  ⟨0x05, .u8, .rws, true, .num 4, [(1, 6)]⟩,
  ⟨0x06, .u16, .rws, true, .num 0, []⟩,
  ⟨0x07, .u16, .rws, true, .num 0, []⟩,
  ⟨0x08, .u16, .rws, true, .num 0, []⟩,
  ⟨0x09, .u16, .rws, true, .num 0, []⟩,
  ⟨0x0A, .i16, .rws, true, .num 0, [(-8192, 8191)]⟩,
  ⟨0x0B, .i16, .rws, true, .num 0, [(-8192, 8191)]⟩,
  ⟨0x0C, .u16, .rws, true, .num 1920, [(1, 7680)]⟩,
  ⟨0x0D, .u16, .rws, true, .num 1080, [(1, 4320)]⟩,
  ⟨0x0E, .u8, .rws, true, .num 0, [(0, 15)]⟩,
  ⟨0x0F, .u16, .rws, true, .num 256, [(0, 256)]⟩,
  ⟨0x10, .u8, .rws, true, .num 0, [(0, 3)]⟩,
  ⟨0x11, .u8, .rws, true, .num 0, [(0, 5), (15, 15)]⟩,
  ⟨0x12, .dom, .rws, true, .bytes [], [(48, 48)]⟩,
  ⟨0x13, .u8, .rws, true, .num 0, []⟩,
  ⟨0x14, .u32, .rws, true, .num 0, [(0, 1073741823)]⟩,
  ⟨0x15, .u32, .rws, true, .num 0, [(0, 1073741823)]⟩,
  ⟨0x16, .u8, .rws, true, .num 1, [(0, 2)]⟩,
  ⟨0x17, .u16, .rws, true, .num 500, [(0, 60000)]⟩,
  ⟨0x18, .u8, .rws, true, .num 0, [(0, 1)]⟩,
  ⟨0x19, .u8, .rws, true, .num 0, [(0, 2)]⟩,
  ⟨0x1A, .u8, .ro, false, .num 0, []⟩,
  ⟨0x1B, .u32, .ro, false, .num 0, []⟩,
  ⟨0x1C, .u32, .ro, false, .num 0, []⟩]

/-- The table of 0x5300 to 0x533F. -/
def tbl5300 : List Obj := [
  ⟨0x01, .u32, .ro, false, .num 0, []⟩,
  ⟨0x02, .u8, .ro, false, .num 255, []⟩,
  ⟨0x03, .u8, .ro, false, .num 0, []⟩,
  ⟨0x04, .i32, .ro, false, .num 0, []⟩,
  ⟨0x05, .i32, .ro, false, .num 0, []⟩]

/-- The table of 0x5400 to 0x5417. -/
def tbl5400 : List Obj := [
  ⟨0x01, .bool, .rws, true, .num 0, []⟩,
  ⟨0x02, .u32, .ro, false, .num 0, []⟩,
  ⟨0x03, .u32, .ro, false, .num 0, []⟩,
  ⟨0x04, .dom, .ro, false, .bytes [], []⟩,
  ⟨0x05, .u32, .ro, false, .num 0, []⟩,
  ⟨0x06, .u32, .ro, false, .num 0, []⟩,
  ⟨0x07, .u32, .ro, false, .num 0, []⟩,
  ⟨0x08, .u32, .ro, false, .num 0, []⟩]

/-- The table of 0x6000 to 0x6017, C0 to C23. -/
def tbl6000 : List Obj := [
  ⟨0x01, .bool, .rw, true, .num 1, []⟩,
  ⟨0x02, .u8, .ro, false, .num 0, []⟩,
  ⟨0x03, .u16, .ro, false, .num 0, []⟩,
  ⟨0x04, .u16, .ro, false, .num 0, []⟩,
  ⟨0x05, .dom, .ro, false, .bytes (zeros 16), []⟩,
  ⟨0x06, .u32, .ro, false, .num 0, []⟩,
  ⟨0x07, .u32, .ro, false, .num 0, []⟩,
  ⟨0x08, .u32, .ro, false, .num 0, []⟩,
  ⟨0x09, .u32, .ro, false, .num 0, []⟩,
  ⟨0x0A, .bool, .rw, true, .num 1, []⟩]

/-- The table of 0x6100 to 0x6117, O0 to O23. -/
def tbl6100 : List Obj := [
  ⟨0x01, .bool, .rws, true, .num 0, []⟩,
  ⟨0x02, .u8, .rws, true, .num 2, [(0, 16)]⟩,
  ⟨0x03, .dom, .rws, true, .bytes [], [(32, 32)]⟩,
  ⟨0x04, .dom, .rws, true, .bytes [], [(32, 32)]⟩,
  ⟨0x05, .u8, .rws, true, .num 254, [(0, 63), (254, 255)]⟩,
  ⟨0x06, .i32, .rws, true, .num 0, [(-100000, 100000)]⟩,
  ⟨0x07, .dom, .rws, true, .bytes [], [(8, 8)]⟩,
  ⟨0x08, .u32, .ro, false, .num 0, []⟩,
  ⟨0x09, .u32, .ro, false, .num 0, []⟩,
  ⟨0x0A, .u32, .ro, false, .num 0, []⟩,
  ⟨0x0B, .u32, .ro, false, .num 0, []⟩]

/-- The table of 0x6200 to 0x6203, TDM0 to TDM3. -/
def tbl6200 : List Obj := [
  ⟨0x01, .bool, .rw, true, .num 0, []⟩,
  ⟨0x02, .u8, .rwd, true, .num 1, [(0, 1)]⟩,
  ⟨0x03, .u8, .rwd, true, .num 2, [(0, 6)]⟩,
  ⟨0x04, .u8, .rwd, true, .num 0, [(0, 1)]⟩,
  ⟨0x05, .u8, .rwd, true, .num 0, [(0, 2)]⟩,
  ⟨0x06, .u8, .rwd, true, .num 1, [(0, 1)]⟩,
  ⟨0x07, .u8, .rwd, true, .num 0, [(0, 1)]⟩,
  ⟨0x08, .u16, .rw, true, .num 65535, []⟩,
  ⟨0x09, .u16, .rw, true, .num 65535, []⟩,
  ⟨0x0A, .u8, .rw, true, .num 0, [(0, 1)]⟩,
  ⟨0x0B, .bool, .rw, true, .num 0, []⟩,
  ⟨0x0C, .u8, .rw, true, .num 255, [(0, 63), (255, 255)]⟩,
  ⟨0x0D, .i32, .rw, true, .num 0, [(-100000, 100000)]⟩,
  ⟨0x0E, .u8, .ro, false, .num 0, []⟩,
  ⟨0x0F, .u32, .ro, false, .num 0, []⟩,
  ⟨0x10, .u32, .ro, false, .num 0, []⟩,
  ⟨0x11, .u32, .ro, false, .num 0, []⟩]

/-- The table of 0x6300. -/
def tbl6300 : List Obj := [
  ⟨0x01, .u8, .rw, true, .num 0, [(0, 2)]⟩,
  ⟨0x02, .u8, .rw, true, .num 2, [(0, 6)]⟩,
  ⟨0x03, .u8, .rw, true, .num 0, [(0, 3)]⟩,
  ⟨0x04, .dom, .rws, true, .bytes [], [(128, 128)]⟩,
  ⟨0x05, .dom, .rws, true, .bytes [], [(128, 128)]⟩,
  ⟨0x06, .u8, .ro, false, .num 0, []⟩,
  ⟨0x07, .u32, .ro, false, .num 0, []⟩]

/-- The table of 0x6310. -/
def tbl6310 : List Obj := [
  ⟨0x01, .u32, .ro, false, .num 1500000, []⟩,
  ⟨0x02, .u8, .rw, true, .num 0, [(0, 1)]⟩,
  ⟨0x03, .u16, .rw, true, .num 1000, [(100, 10000)]⟩,
  ⟨0x04, .u16, .rw, true, .num 1000, [(0, 20000)]⟩,
  ⟨0x05, .u32, .ro, false, .num 0, []⟩]

/-- The table of 0x7000. -/
def tbl7000 : List Obj := [
  ⟨0x01, .bool, .rw, true, .num 0, []⟩,
  ⟨0x02, .u8, .rw, true, .num 0, [(0, 3)]⟩,
  ⟨0x03, .u16, .rwd, true, .num 48, [(24, 480)]⟩,
  ⟨0x04, .u8, .rwd, true, .num 0, [(0, 31)]⟩,
  ⟨0x05, .dom, .rwd, true, .bytes [], [(16, 16)]⟩,
  ⟨0x06, .dom, .rwd, true, .bytes [], [(16, 16)]⟩,
  ⟨0x07, .dom, .rwd, true, .bytes [], [(16, 16)]⟩,
  ⟨0x08, .dom, .rwd, true, .bytes [], [(16, 16)]⟩,
  ⟨0x09, .u8, .rwd, true, .num 8, [(8, 8), (16, 16)]⟩,
  ⟨0x0A, .u16, .rw, true, .num 1, []⟩,
  ⟨0x0B, .u16, .rw, true, .num 0, []⟩,
  ⟨0x0C, .u16, .rw, true, .num 0, []⟩,
  ⟨0x0D, .u16, .rw, true, .num 10, [(1, 1000)]⟩,
  ⟨0x0E, .u16, .rw, true, .num 100, [(1, 1000)]⟩,
  ⟨0x0F, .u8, .rw, true, .num 1, [(0, 3)]⟩,
  ⟨0x10, .u16, .rw, true, .num 50, [(1, 10000)]⟩,
  ⟨0x11, .u32, .rw, true, .num 8, []⟩,
  ⟨0x12, .u8, .ro, false, .num 0, []⟩,
  ⟨0x13, .u8, .ro, false, .num 0, []⟩,
  ⟨0x14, .u64, .ro, false, .num 0, []⟩,
  ⟨0x15, .u64, .ro, false, .num 0, []⟩,
  ⟨0x16, .u8, .cmd, false, .num 0, []⟩,
  ⟨0x17, .dom, .rw, false, .bytes [], [(0, 284)]⟩,
  ⟨0x18, .u8, .cmd, false, .num 0, []⟩,
  ⟨0x19, .dom, .ro, false, .bytes [], []⟩,
  ⟨0x1A, .dom, .ro, false, .bytes [], []⟩,
  ⟨0x1B, .u8, .cmd, false, .num 0, []⟩,
  ⟨0x1C, .u32, .ro, false, .num 0, []⟩,
  ⟨0x1D, .u32, .ro, false, .num 0, []⟩,
  ⟨0x1E, .u32, .ro, false, .num 0, []⟩,
  ⟨0x1F, .u32, .ro, false, .num 0, []⟩,
  ⟨0x20, .u8, .cmd, false, .num 0, []⟩,
  ⟨0x21, .u32, .ro, false, .num 0, []⟩,
  ⟨0x22, .u32, .ro, false, .num 0, []⟩]

/-- The table of 0x7010. -/
def tbl7010 : List Obj := [
  ⟨0x01, .u8, .rw, true, .num 4, [(2, 2), (4, 4)]⟩,
  ⟨0x02, .u8, .rw, true, .num 0, [(0, 1)]⟩,
  ⟨0x03, .u16, .rw, true, .num 1000, [(100, 20000)]⟩,
  ⟨0x04, .u8, .ro, false, .num 0, []⟩,
  ⟨0x05, .u32, .ro, false, .num 0, []⟩,
  ⟨0x06, .u32, .ro, false, .num 0, []⟩,
  ⟨0x07, .u32, .ro, false, .num 0, []⟩,
  ⟨0x08, .u32, .ro, false, .num 0, []⟩,
  ⟨0x09, .u32, .ro, false, .num 0, []⟩,
  ⟨0x0A, .u32, .ro, false, .num 0, []⟩,
  ⟨0x0B, .u32, .ro, false, .num 0, []⟩,
  ⟨0x0C, .u16, .ro, false, .num 0, []⟩,
  ⟨0x0D, .u32, .ro, false, .num 0, []⟩,
  ⟨0x0E, .u8, .ro, false, .num 0, []⟩,
  ⟨0x0F, .u8, .cmd, false, .num 0, []⟩]

/-- The table of 0x7100. -/
def tbl7100 : List Obj := [
  ⟨0x01, .bool, .rw, true, .num 0, []⟩,
  ⟨0x02, .u16, .rwd, true, .num 256, [(64, 1024)]⟩,
  ⟨0x03, .u16, .rw, true, .num 600, [(1, 3600)]⟩,
  ⟨0x04, .u32, .ro, false, .num 0, []⟩,
  ⟨0x05, .u32, .ro, false, .num 0, []⟩,
  ⟨0x06, .u64, .ro, false, .num 0, []⟩,
  ⟨0x07, .u64, .ro, false, .num 0, []⟩,
  ⟨0x08, .u32, .ro, false, .num 0, []⟩,
  ⟨0x09, .u32, .ro, false, .num 0, []⟩,
  ⟨0x0A, .u32, .ro, false, .num 0, []⟩,
  ⟨0x0B, .u32, .ro, false, .num 0, []⟩,
  ⟨0x0C, .u64, .ro, false, .num 0, []⟩,
  ⟨0x0D, .u8, .cmd, false, .num 0, []⟩]

/-- The table of 0x7200 to 0x721F, S0 to S31. -/
def tbl7200 : List Obj := [
  ⟨0x01, .u8, .cmd, false, .num 0, []⟩,
  ⟨0x02, .u8, .rwd, true, .num 0, [(0, 1)]⟩,
  ⟨0x03, .u32, .rwd, true, .num 0, []⟩,
  ⟨0x04, .u32, .rwd, true, .num 0, []⟩,
  ⟨0x05, .u32, .rw, true, .num 0, []⟩,
  ⟨0x06, .u16, .rw, true, .num 64, [(1, 1024)]⟩,
  ⟨0x07, .bool, .rw, true, .num 0, []⟩,
  ⟨0x08, .u8, .rw, true, .num 1, [(1, 64)]⟩,
  ⟨0x09, .u32, .rw, true, .num 0, [(0, 0), (100, 4000000)]⟩,
  ⟨0x0A, .u16, .rw, true, .num 64, [(1, 4096)]⟩,
  ⟨0x0B, .u32, .ro, false, .num 0, []⟩,
  ⟨0x0C, .u32, .ro, false, .num 0, []⟩,
  ⟨0x0D, .u32, .ro, false, .num 0, []⟩,
  ⟨0x0E, .u32, .ro, false, .num 0, []⟩,
  ⟨0x0F, .u32, .ro, false, .num 0, []⟩,
  ⟨0x10, .dom, .ro, false, .bytes [], []⟩,
  ⟨0x11, .u32, .ro, false, .num 0, []⟩,
  ⟨0x12, .u32, .ro, false, .num 0, []⟩,
  ⟨0x13, .u32, .ro, false, .num 0, []⟩,
  ⟨0x14, .u32, .ro, false, .num 0, []⟩,
  ⟨0x15, .u32, .ro, false, .num 0, []⟩,
  ⟨0x16, .u32, .ro, false, .num 0, []⟩,
  ⟨0x17, .u32, .ro, false, .num 0, []⟩,
  ⟨0x18, .u8, .ro, false, .num 0, []⟩,
  ⟨0x19, .u8, .rw, true, .num 8, [(1, 32)]⟩,
  ⟨0x1A, .u32, .cmd, false, .num 0, []⟩]

/-- The table of 0x7300 to 0x731F, P0 to P31. -/
def tbl7300 : List Obj := [
  ⟨0x01, .u32, .rws, true, .num 2000, [(100, 100000)]⟩,
  ⟨0x02, .u16, .rw, true, .num 16, [(1, 256)]⟩,
  ⟨0x03, .u32, .ro, false, .num 0, []⟩,
  ⟨0x04, .u16, .ro, false, .num 0, []⟩,
  ⟨0x05, .u32, .ro, false, .num 0, []⟩,
  ⟨0x06, .dom, .ro, false, .bytes (zeros 32), []⟩,
  ⟨0x07, .dom, .ro, false, .bytes (zeros 256), []⟩,
  ⟨0x08, .u64, .ro, false, .num 0, []⟩,
  ⟨0x0B, .u32, .ro, false, .num 0, []⟩]

/-- The table of 0x7400. -/
def tbl7400 : List Obj := [
  ⟨0x01, .u32, .rw, true, .num 1000, [(10, 1000000)]⟩,
  ⟨0x02, .dom, .ro, false, .bytes [], []⟩,
  ⟨0x03, .dom, .ro, false, .bytes [], []⟩,
  ⟨0x04, .dom, .ro, false, .bytes [], []⟩,
  ⟨0x05, .dom, .ro, false, .bytes [], []⟩,
  ⟨0x06, .u64, .ro, false, .num 0, []⟩,
  ⟨0x07, .u8, .cmd, false, .num 0, []⟩]

/-- The table of 0xA000. -/
def tblA000 : List Obj := [
  ⟨0x01, .u8, .rw, true, .num 0, [(0, 5)]⟩,
  ⟨0x02, .bool, .rw, true, .num 0, []⟩,
  ⟨0x03, .u32, .rw, true, .num 16777216, []⟩,
  ⟨0x04, .u8, .cmd, false, .num 0, []⟩,
  ⟨0x05, .u8, .ro, false, .num 0, []⟩,
  ⟨0x06, .dom, .wo, false, .bytes [], []⟩,
  ⟨0x07, .dom, .ro, false, .bytes (zeros 16), []⟩,
  ⟨0x08, .u32, .ro, false, .num 0, []⟩,
  ⟨0x09, .bool, .ro, false, .num 0, []⟩,
  ⟨0x0A, .u32, .ro, false, .num 0, []⟩,
  ⟨0x0B, .dom, .ro, false, .bytes (zeros 8), []⟩,
  ⟨0x0C, .u8, .ro, false, .num 0, []⟩,
  ⟨0x0D, .u8, .ro, false, .num 0, []⟩,
  ⟨0x0E, .u32, .ro, false, .num 0, []⟩,
  ⟨0x0F, .u32, .ro, false, .num 0, []⟩]

/-- The table of 0xA100 to 0xA107, AP0 to AP7. -/
def tblA100 : List Obj := [
  ⟨0x01, .bool, .rw, true, .num 0, []⟩,
  ⟨0x02, .u32, .rw, true, .num 0, []⟩,
  ⟨0x03, .u8, .rw, true, .num 20, [(12, 28)]⟩,
  ⟨0x04, .u32, .rw, true, .num 0, []⟩,
  ⟨0x05, .bool, .rw, true, .num 0, []⟩,
  ⟨0x06, .u8, .ro, false, .num 0, []⟩,
  ⟨0x07, .u32, .ro, false, .num 0, []⟩,
  ⟨0x08, .u32, .ro, false, .num 0, []⟩]

/-- The table of 0xA200. -/
def tblA200 : List Obj := [
  ⟨0x01, .bool, .rw, true, .num 0, []⟩,
  ⟨0x02, .u8, .rw, true, .num 0, [(0, 1)]⟩,
  ⟨0x03, .u8, .rw, true, .num 31, [(0, 31)]⟩,
  ⟨0x04, .u16, .rw, true, .num 1024, [(256, 4096)]⟩,
  ⟨0x05, .u32, .ro, false, .num 0, []⟩,
  ⟨0x06, .u32, .ro, false, .num 0, []⟩,
  ⟨0x07, .dom, .ro, false, .bytes [], []⟩,
  ⟨0x08, .u8, .cmd, false, .num 0, []⟩]

/-- The table of 0x9100 WD0, 0x9101 WD1. -/
def tbl9100 : List Obj := [
  ⟨0x01, .bool, .rw, true, .num 0, []⟩,
  ⟨0x02, .u32, .rw, true, .num 1000000, [(100, 10000000)]⟩,
  ⟨0x03, .u8, .rw, true, .num 0, [(0, 7)]⟩,
  ⟨0x04, .u8, .rw, true, .num 6, [(0, 7)]⟩,
  ⟨0x05, .u32, .rw, true, .num 250000, []⟩,
  ⟨0x06, .bool, .rw, true, .num 0, []⟩,
  ⟨0x07, .u8, .ro, false, .num 0, []⟩,
  ⟨0x08, .u32, .ro, false, .num 0, []⟩,
  ⟨0x09, .u32, .ro, false, .num 0, []⟩,
  ⟨0x0A, .u32, .ro, false, .num 0, []⟩,
  ⟨0x0B, .u32, .ro, false, .num 0, []⟩,
  ⟨0x0C, .dom, .ro, false, .bytes (zeros 32), []⟩,
  ⟨0x0D, .u8, .cmd, false, .num 0, []⟩]

/-- The table of 0x9200. -/
def tbl9200 : List Obj := [
  ⟨0x01, .dom, .rw, true, .bytes [], [(96, 96)]⟩,
  ⟨0x02, .dom, .ro, false, .bytes (zeros 384), []⟩,
  ⟨0x03, .u8, .rw, true, .num 1, [(0, 100)]⟩,
  ⟨0x04, .u32, .ro, false, .num 0, []⟩,
  ⟨0x05, .u32, .ro, false, .num 0, []⟩,
  ⟨0x06, .u8, .cmd, false, .num 0, []⟩,
  ⟨0x07, .u8, .cmd, false, .num 0, []⟩]

/-- The table of 0x9400. -/
def tbl9400 : List Obj := [
  ⟨0x01, .dom, .ro, false, .bytes [], []⟩,
  ⟨0x02, .u32, .ro, false, .num 0, []⟩,
  ⟨0x03, .u32, .ro, false, .num 0, []⟩,
  ⟨0x04, .u8, .ro, false, .num 0, []⟩,
  ⟨0x05, .u32, .ro, false, .num 0, []⟩,
  ⟨0x06, .u32, .ro, false, .num 0, []⟩,
  ⟨0x07, .u8, .cmd, false, .num 0, []⟩,
  ⟨0x08, .u32, .ro, false, .num 0, []⟩,
  ⟨0x09, .dom, .ro, false, .bytes [], []⟩,
  ⟨0x0A, .u8, .cmd, false, .num 0, []⟩]

/-- The table of 0x8000. -/
def tbl8000 : List Obj := [
  ⟨0x01, .u8, .ro, false, .num 0, []⟩,
  ⟨0x02, .u8, .cmd, false, .num 0, []⟩,
  ⟨0x03, .bool, .rw, true, .num 1, []⟩,
  ⟨0x04, .u32, .rw, true, .num 4673, [(0, 8191)]⟩,
  ⟨0x05, .u8, .rw, true, .num 0, [(0, 1)]⟩,
  ⟨0x06, .u16, .rw, true, .num 0, []⟩,
  ⟨0x07, .u16, .rw, true, .num 0, []⟩,
  ⟨0x08, .u32, .rw, true, .num 0, []⟩,
  ⟨0x09, .u32, .ro, false, .num 0, []⟩,
  ⟨0x0A, .u32, .ro, false, .num 0, []⟩,
  ⟨0x0B, .bool, .rw, true, .num 1, []⟩,
  ⟨0x0C, .u8, .cmd, false, .num 0, []⟩,
  ⟨0x0D, .u8, .ro, false, .num 255, []⟩,
  ⟨0x10, .u8, .rw, true, .num 1, [(0, 1)]⟩,
  ⟨0x11, .u16, .rw, true, .num 100, [(10, 10000)]⟩,
  ⟨0x12, .u16, .rw, true, .num 20, [(0, 1000)]⟩,
  ⟨0x13, .u16, .rw, true, .num 0, []⟩,
  ⟨0x14, .u16, .rw, true, .num 0, []⟩,
  ⟨0x15, .u16, .ro, false, .num 0, []⟩,
  ⟨0x16, .u32, .rw, true, .num 0, []⟩,
  ⟨0x17, .u16, .rw, true, .num 10, [(0, 10000)]⟩]

/-- The table of 0x8100 to 0x810F. -/
def tbl8100 : List Obj := [
  ⟨0x01, .bool, .rwd, true, .num 0, []⟩,
  ⟨0x02, .u8, .rwd, true, .num 0, [(0, 15)]⟩,
  ⟨0x03, .u16, .rwd, true, .num 1000, []⟩,
  ⟨0x04, .u16, .rwd, true, .num 1000, []⟩,
  ⟨0x05, .u16, .rwd, true, .num 20, [(1, 1000)]⟩,
  ⟨0x06, .u8, .rwd, true, .num 1, [(0, 2)]⟩,
  ⟨0x07, .u8, .rwd, true, .num 1, [(0, 2)]⟩,
  ⟨0x08, .bool, .rwd, true, .num 0, []⟩,
  ⟨0x09, .bool, .rwd, true, .num 1, []⟩,
  ⟨0x0A, .u8, .rwd, true, .num 0, [(0, 0), (8, 119)]⟩,
  ⟨0x0B, .i8, .rwd, true, .num (-12), [(-16, -1)]⟩,
  ⟨0x0C, .u16, .rwd, true, .num 0, []⟩,
  ⟨0x0D, .bool, .rwd, true, .num 0, []⟩,
  ⟨0x0E, .u8, .rwd, true, .num 0, [(0, 1)]⟩,
  ⟨0x0F, .u8, .ro, false, .num 0, []⟩,
  ⟨0x10, .u16, .ro, false, .num 0, []⟩,
  ⟨0x11, .i32, .ro, false, .num 0, []⟩,
  ⟨0x12, .u16, .ro, false, .num 0, []⟩,
  ⟨0x13, .u8, .cmd, false, .num 0, []⟩,
  ⟨0x14, .u32, .ro, false, .num 0, []⟩]

/-- The table of 0x8200 to 0x8207. -/
def tbl8200 : List Obj := [
  ⟨0x01, .bool, .rw, true, .num 0, []⟩,
  ⟨0x02, .u8, .rw, true, .num 255, [(0, 15), (255, 255)]⟩,
  ⟨0x03, .u8, .rw, true, .num 255, [(0, 15), (255, 255)]⟩,
  ⟨0x04, .fix32, .rw, true, .num 655360, []⟩,
  ⟨0x05, .u16, .rw, true, .num 1000, [(50, 65535)]⟩,
  ⟨0x06, .u16, .rw, true, .num 50, []⟩,
  ⟨0x07, .u16, .rw, true, .num 500, []⟩,
  ⟨0x08, .bool, .rw, true, .num 1, []⟩,
  ⟨0x09, .bool, .rw, true, .num 0, []⟩,
  ⟨0x0A, .u8, .ro, false, .num 0, []⟩,
  ⟨0x0B, .fix32, .ro, false, .num 0, []⟩,
  ⟨0x0C, .u32, .ro, false, .num 0, []⟩]

/-- The table of 0x8300. -/
def tbl8300 : List Obj := [
  ⟨0x01, .u16, .rw, true, .num 0, []⟩,
  ⟨0x02, .u8, .rw, true, .num 4, [(0, 8)]⟩,
  ⟨0x03, .dom, .rw, true, .bytes [], [(64, 64)]⟩,
  ⟨0x04, .dom, .rw, true, .bytes [], [(64, 64)]⟩,
  ⟨0x05, .dom, .rw, true, .bytes [], [(64, 64)]⟩,
  ⟨0x06, .dom, .rw, true, .bytes [], [(64, 64)]⟩,
  ⟨0x07, .dom, .rw, true, .bytes [], [(64, 64)]⟩,
  ⟨0x08, .u32, .rw, true, .num 0, []⟩,
  ⟨0x09, .dom, .ro, false, .bytes [], []⟩,
  ⟨0x0A, .dom, .ro, false, .bytes [], []⟩,
  ⟨0x0C, .u8, .rw, true, .num 1, [(1, 255)]⟩]

/-- The table of 0x8400. -/
def tbl8400 : List Obj := [
  ⟨0x01, .bool, .rw, true, .num 0, []⟩,
  ⟨0x02, .u8, .rw, true, .num 0, [(0, 15)]⟩,
  ⟨0x03, .u8, .rw, true, .num 3, [(1, 10)]⟩,
  ⟨0x05, .u16, .ro, false, .num 0, []⟩,
  ⟨0x06, .u16, .ro, false, .num 0, []⟩,
  ⟨0x07, .u16, .rw, true, .num 680, [(680, 860)]⟩,
  ⟨0x08, .u16, .rw, true, .num 860, [(680, 860)]⟩]

/-- The table of 0x8500. -/
def tbl8500 : List Obj := [
  ⟨0x01, .i16, .rw, true, .num 115, []⟩,
  ⟨0x02, .i16, .rw, true, .num 130, []⟩,
  ⟨0x03, .u8, .rw, true, .num 5, []⟩,
  ⟨0x04, .dom, .ro, false, .bytes [], []⟩,
  ⟨0x05, .i16, .ro, false, .num 0, []⟩,
  ⟨0x06, .i16, .ro, false, .num 0, []⟩,
  ⟨0x07, .u32, .ro, false, .num 0, []⟩,
  ⟨0x08, .u32, .ro, false, .num 0, []⟩,
  ⟨0x09, .u8, .ro, false, .num 0, []⟩]

/-- The table of 0x9000. -/
def tbl9000 : List Obj := [
  ⟨0x01, .u8, .ro, false, .num 0, []⟩,
  ⟨0x02, .u8, .cmd, false, .num 0, []⟩,
  ⟨0x03, .u16, .ro, false, .num 27, []⟩,
  ⟨0x04, .u64, .ro, false, .num 0, []⟩,
  ⟨0x05, .u16, .ro, false, .num 0, []⟩,
  ⟨0x06, .u32, .ro, false, .num 0, []⟩,
  ⟨0x07, .u16, .ro, false, .num 0, []⟩,
  ⟨0x08, .u16, .ro, false, .num 0, []⟩,
  ⟨0x09, .u64, .ro, false, .num 0, []⟩,
  ⟨0x0A, .u8, .ro, false, .num 0, []⟩,
  ⟨0x0B, .u16, .ro, false, .num 0, []⟩]

/-- The table of 0x9010. -/
def tbl9010 : List Obj := [
  ⟨0x01, .dom, .rw, true, .bytes [], [(256, 256)]⟩,
  ⟨0x02, .u32, .rw, true, .num 86400, [(60, 86400)]⟩,
  ⟨0x03, .bool, .rw, true, .num 1, []⟩,
  ⟨0x04, .u8, .rw, true, .num 0, []⟩]

/-- The table of 0x9300. -/
def tbl9300 : List Obj := [
  ⟨0x01, .dom, .ro, false, .bytes (zeros 128), []⟩,
  ⟨0x02, .u32, .ro, false, .num 0, []⟩,
  ⟨0x03, .u32, .ro, false, .num 0, []⟩,
  ⟨0x04, .u32, .ro, false, .num 0, []⟩,
  ⟨0x05, .u32, .ro, false, .num 0, []⟩,
  ⟨0x06, .u32, .ro, false, .num 0, []⟩,
  ⟨0x07, .u32, .ro, false, .num 0, []⟩,
  ⟨0x08, .u32, .ro, false, .num 0, []⟩,
  ⟨0x09, .u32, .ro, false, .num 0, []⟩,
  ⟨0x0A, .u8, .cmd, false, .num 0, []⟩]

/-- The table of 0x1040. -/
def tbl1040 : List Obj := [
  ⟨0x01, .u8, .ro, false, .num 1, []⟩,
  ⟨0x02, .u8, .ro, false, .num 0, []⟩,
  ⟨0x03, .u8, .ro, false, .num 4, []⟩,
  ⟨0x04, .u64, .ro, false, .num 0, []⟩,
  ⟨0x05, .u16, .ro, false, .num 0, []⟩,
  ⟨0x06, .dom, .ro, false, .bytes (zeros 64), []⟩,
  ⟨0x07, .dom, .ro, false, .bytes [], []⟩,
  ⟨0x08, .u32, .ro, false, .num 0, []⟩,
  ⟨0x09, .dom, .ro, false, .bytes [], []⟩,
  ⟨0x0A, .bool, .ro, false, .num 0, []⟩,
  ⟨0x0B, .dom, .ro, false, .bytes (zeros 24), []⟩,
  ⟨0x0C, .u8, .cmd, false, .num 0, []⟩]

/-- The table of 0x1041. -/
def tbl1041 : List Obj := [
  ⟨0x01, .u16, .cmd, false, .num 0, []⟩,
  ⟨0x02, .u16, .cmd, false, .num 0, []⟩,
  ⟨0x03, .dom, .wo, false, .bytes [], [(12, 12)]⟩,
  ⟨0x04, .u8, .ro, false, .num 0, []⟩]

/-- The indices of one table: the first index, how many instances each variant has, and the table. -/
structure Fam where
  base : Nat
  n24 : Nat
  n12 : Nat
  tbl : List Obj
  deriving Repr

/-- Every table of the dictionary, in index order (Table 1.13). -/
def dictionary : List Fam := [
  ⟨0x1000, 1, 1, tbl1000⟩,
  ⟨0x1010, 1, 1, tbl1010⟩,
  ⟨0x1020, 1, 1, tbl1020⟩,
  ⟨0x1030, 1, 1, tbl1030⟩,
  ⟨0x1040, 1, 1, tbl1040⟩,
  ⟨0x1041, 1, 1, tbl1041⟩,
  ⟨0x1050, 1, 1, tbl1050⟩,
  ⟨0x1060, 1, 1, tbl1060⟩,
  ⟨0x2000, 1, 1, tbl2000⟩,
  ⟨0x2100, 8, 8, tbl2100⟩,
  ⟨0x2110, 1, 1, tbl2110⟩,
  ⟨0x2120, 4, 4, tbl2120⟩,
  ⟨0x2200, 4, 4, tbl2200⟩,
  ⟨0x2210, 4, 4, tbl2210⟩,
  ⟨0x3000, 32, 16, tbl3000⟩,
  ⟨0x3100, 48, 24, tbl3100⟩,
  ⟨0x3200, 1, 1, tbl3200⟩,
  ⟨0x3300, 1, 1, tbl3300⟩,
  ⟨0x3400, 32, 16, tbl3400⟩,
  ⟨0x4000, 24, 12, tbl4000⟩,
  ⟨0x5000, 24, 12, tbl5000⟩,
  ⟨0x5100, 64, 64, tbl5100⟩,
  ⟨0x5300, 64, 64, tbl5300⟩,
  ⟨0x5400, 24, 12, tbl5400⟩,
  ⟨0x6000, 24, 12, tbl6000⟩,
  ⟨0x6100, 24, 12, tbl6100⟩,
  ⟨0x6200, 4, 4, tbl6200⟩,
  ⟨0x6300, 1, 1, tbl6300⟩,
  ⟨0x6310, 1, 1, tbl6310⟩,
  ⟨0x7000, 1, 1, tbl7000⟩,
  ⟨0x7010, 1, 1, tbl7010⟩,
  ⟨0x7100, 1, 1, tbl7100⟩,
  ⟨0x7200, 32, 32, tbl7200⟩,
  ⟨0x7300, 32, 16, tbl7300⟩,
  ⟨0x7400, 1, 1, tbl7400⟩,
  ⟨0x8000, 1, 1, tbl8000⟩,
  ⟨0x8100, 16, 16, tbl8100⟩,
  ⟨0x8200, 8, 8, tbl8200⟩,
  ⟨0x8300, 1, 1, tbl8300⟩,
  ⟨0x8400, 1, 1, tbl8400⟩,
  ⟨0x8500, 1, 1, tbl8500⟩,
  ⟨0x9000, 1, 1, tbl9000⟩,
  ⟨0x9010, 1, 1, tbl9010⟩,
  ⟨0x9100, 2, 2, tbl9100⟩,
  ⟨0x9200, 1, 1, tbl9200⟩,
  ⟨0x9300, 1, 1, tbl9300⟩,
  ⟨0x9400, 1, 1, tbl9400⟩,
  ⟨0xA000, 1, 1, tblA000⟩,
  ⟨0xA100, 8, 8, tblA100⟩,
  ⟨0xA200, 1, 1, tblA200⟩]

/-- The family of an index and the instance it names, on a variant (R2). 0x2103 names no reference (Table 3.7). -/
def famOf (s12 : Bool) (idx : Nat) : Option (Fam × Nat) :=
  if idx = 0x2103 then none else
  match dictionary.find? fun f => decide (f.base ≤ idx) && decide (idx < f.base + (if s12 then f.n12 else f.n24)) with
  | some f => some (f, idx - f.base)
  | none => none

/-- Whether instance `n` of the family at `base` has the sub-index (Table 3.7: REFA and REFB, REFC or LINKREF only;
Table 13.10: WD0 only). -/
def subPresent (base n sub : Nat) : Bool :=
  if base = 0x2100 then
    if sub = 0x06 || sub = 0x08 then n ≤ 1
    else if sub = 0x0C then 4 ≤ n
    else if sub = 0x13 || sub = 0x14 then n = 2
    else true
  else if base = 0x9100 then !(sub = 0x05 && n = 1)
  else true

/-- The dictionary's row of a family's sub-index, where WD1's enable is the CMD object of Table 13.10. -/
def Fam.row (f : Fam) (n sub : Nat) : Option Obj :=
  if subPresent f.base n sub then
    match f.tbl.find? fun o => o.sub = sub with
    | some o =>
      if f.base = 0x9100 && n = 1 && sub = 0x01 then some { o with ty := .u8, acc := .cmd, pers := false } else some o
    | none => none
  else none

/-- What looking an object up gives: no such index, no such sub-index, the highest-sub object of R30, or a row. -/
inductive Lookup where
  | noIndex
  | noSub
  | subs (highest : Nat)
  | row (base n : Nat) (o : Obj)
  deriving DecidableEq, Repr

/-- R30, R2: the object a key (index × 256 + sub-index) names on a variant. -/
def lookup (s12 : Bool) (key : Nat) : Lookup :=
  match famOf s12 (key / 256) with
  | none => .noIndex
  | some (f, n) =>
    if key % 256 = 0 then .subs ((f.tbl.filter fun o => subPresent f.base n o.sub).foldl (fun m o => max m o.sub) 0)
    else match f.row n (key % 256) with
      | some o => .row f.base n o
      | none => .noSub

/-- `n` times the little-endian bytes of `v`, `w` bytes each. -/
def repLE (n w v : Nat) : List Byte :=
  (List.replicate n ((List.range w).map fun i => byte (v >>> (8 * i)))).flatten

/-- Table 10.7 in the layout of Table 10.1: the default templates. -/
def dfltTemplate (sub : Nat) : List Byte :=
  -- command value, 8 bits on 4 lanes, then the address, dummy and data fields
  let tmpl := fun (cmd alen alanes dummy dlanes dir wait : Nat) =>
    repLE 1 16 (cmd + 8 * 2 ^ 32 + 2 ^ 38 + alen * 2 ^ 41 + alanes * 2 ^ 47 + dummy * 2 ^ 59 + dlanes * 2 ^ 96 + dir * 2 ^ 100 + wait * 2 ^ 101)
  match sub with
  | 0x05 => tmpl 0xEC 32 1 8 1 0 1
  | 0x06 => tmpl 0x06 0 0 0 0 0 0
  | 0x07 => tmpl 0x12 32 1 0 1 1 0
  | _ => tmpl 0x05 0 0 2 1 0 0

/-- The identity of 0x5100+w.12: three rows of three Q16.16 coefficients and an offset (Table 8.3). -/
def identityMatrix : List Byte :=
  repLE 1 4 0x10000 ++ zeros 16 ++ repLE 1 4 0x10000 ++ zeros 16 ++ repLE 1 4 0x10000 ++ zeros 4

/-- R786: 0x18 for each source, but 0x00 for EV15 and EV20 to EV23. -/
def defaultRoutes : List Byte :=
  (List.range 96).map fun e => if e = 15 || (20 ≤ e && e ≤ 23) then 0x00#8 else 0x18#8

/-- The default of the object at a base, instance and sub-index where it depends on the instance or is not a constant
of the table. -/
def dfltSpecial (base n sub : Nat) : Option Val :=
  if base = 0x2100 && sub = 0x02 then some (.num (n + 1))
  else if base = 0x2100 && sub = 0x03 then some (.num (if 4 ≤ n then 255 else 4))
  else if base = 0x2100 && sub = 0x0C then some (.num (n - 4 : Nat))
  else if base = 0x3000 && sub = 0x03 then some (.num (if n < 12 then 4 * n else 0 : Nat))
  else if base = 0x3000 && sub = 0x04 then some (.num (if n < 12 then 4 else 1))
  else if base = 0x4000 && sub = 0x02 then some (.num n)
  else if base = 0x5000 && sub = 0x0E then some (.num ((Config.serial % 2 ^ 24) * 256 + n : Nat))
  else if base = 0x5100 && sub = 0x12 then some (.bytes identityMatrix)
  else if base = 0x6100 && sub = 0x03 then some (.bytes (repLE 16 2 0xFFFF))
  else if base = 0x6100 && sub = 0x04 then some (.bytes (zeros 32))
  else if base = 0x6100 && sub = 0x07 then some (.bytes (repLE 4 2 0xFFFF))
  else if base = 0x6300 && sub = 0x04 then some (.bytes (repLE 64 2 0xFFFF))
  else if base = 0x6300 && sub = 0x05 then some (.bytes (zeros 128))
  else if base = 0x7000 && 5 ≤ sub && sub ≤ 8 then some (.bytes (dfltTemplate sub))
  else if base = 0xA100 && sub = 0x02 then some (.num (0x80000000 + n * 0x08000000 : Nat))
  else if base = 0x9200 && sub = 0x01 then some (.bytes defaultRoutes)
  else if base = 0x8300 && sub = 0x03 then some (.bytes (repLE 16 4 0x10000))
  else if base = 0x8300 && 4 ≤ sub && sub ≤ 7 then some (.bytes (zeros 64))
  else if base = 0x9010 && sub = 0x01 then some (.bytes (zeros 256))
  else none

/-- R37: the default of the object a key names (an object of no table: 0). -/
def dflt (key : Nat) : Val :=
  match lookup false key with
  | .row base n o => (dfltSpecial base n o.sub).getD o.dflt
  | _ => .num 0

end Sys2Proof.Machine
end

