-- ==== Sys2Proof/Machine/State.lean ====
section
/-!
DEFINITION. The machine's state: every piece of state the spec gives the device, as plain data, and the state after
reset. Settings, counters and read-back values that are objects of the Isainadex are held in `Dev.obj`, keyed by the
dictionary (Machine/Dict.lean); everything else has a field here.
-/
namespace Sys2Proof.Machine

/-! ## Messages -/

/-- An ITP message on its way out (R67): priority, service class, destination, tag (none: the spec gives a spontaneous
service no tag) and its bytes. -/
structure Msg where
  prio : Nat
  cls : Nat
  dest : Nat
  tag : Option Nat
  data : List Byte
  deriving DecidableEq, Repr

/-! ## Isainadex and ITP (ch 1) -/

/-- One entry of the staged set: key, value and the serial of the write that staged it (R38, R49). -/
structure Ent where
  key : Nat
  val : Val
  serial : Nat
  deriving DecidableEq, Repr

/-- Where a quoin stands (Table 1.18). -/
inductive QuoinSt where
  | none | validating | armed
  deriving DecidableEq, Repr

/-- The quoin in progress (R42 to R51): its state, whether it is a restore, snapshot, scope, quoin
time in local ticks (0: next boundary), the time validation ended, the anchor, whether the global entries have
applied, and the formes still to apply. -/
structure Quoin where
  st : QuoinSt := .none
  restore : Bool := false
  snap : List Ent := []
  scope : Nat := 0
  qt : Nat := 0
  valEnd : Nat := 0
  anchor : Option Nat := Option.none
  globals : Bool := false
  left : List Nat := []
  deriving DecidableEq, Repr

/-- One configuration bank (Table 1.5); two reserved fields of zeros are left out. -/
structure Bank where
  magic : Nat := 0
  format : Nat := 0
  variant : Nat := 0
  len : Nat := 0
  crc : Nat := 0
  seq : Nat := 0
  comp : Nat := 0
  payload : List Byte := []
  deriving DecidableEq, Repr

/-- A received CAN FD frame kept for R86 and R87. -/
structure Rx where
  ch : Nat
  id : Nat
  data : List Byte
  t : Nat
  matched : Bool
  deriving DecidableEq, Repr

/-- An entry of the response store (R90): the request, its answer and when it was
sent. -/
structure Resp where
  path : Path
  src : Nat
  tag : Nat
  id : Nat
  data : List Byte
  ans : Msg
  t : Nat
  deriving DecidableEq, Repr

/-- An expedited request that waits for service (R108): a frame, a mailbox write of bytes to an object, a mailbox call with
its request block's address. -/
inductive Job where
  | frame (cls id : Nat) (data : List Byte)
  | write (key ty : Nat) (bytes : List Byte)
  | call (addr : Nat)
  deriving DecidableEq, Repr

/-- A waiting request: its origin, what it is, and what the surroundings do while it takes effect. -/
structure Wait where
  org : Org
  job : Job
  x : Obs
  deriving DecidableEq, Repr

/-- An open segmented transfer (R76 to R84): what its init named, with the flags and type code as it sent them (R72), when
the last frame of it came or went (R81), the whole value (read) or the bytes so far (write), the
next expected frame and the first of the block, both counted from 0 without end, the frames of the block so far, its
sequence errors, and whether the rest of the block is passed over. -/
structure Seg where
  org : Org
  write : Bool
  key : Nat
  ty : Nat
  flags : Nat
  ity : Nat
  t : Nat
  total : Nat
  data : List Byte
  next : Nat := 0
  base : Nat := 0
  count : Nat := 0
  errs : Nat := 0
  err : Bool := false
  deriving DecidableEq, Repr

/-- A CAN FD channel (R118): lost for good, and when its last recovery ended. -/
structure CanCh where
  lost : Bool := false
  lastOff : Option Nat := none
  cleared : Bool := false
  deriving DecidableEq, Repr

/-- A frame on the host queue (R101): whether it is a response or EMERGENCY, and its message. -/
structure HostMsg where
  kept : Bool
  msg : Msg
  deriving DecidableEq, Repr

/-- The Isainadex's own state beside its objects: among it the waiting requests in the order of arrival and the path whose
turn is next (R108, R109), the snapshot of a save in progress with its restarts (R114), whether the loaded data rates are
held (R941), and when the last HEARTBEAT went (R93). -/
structure Itp where
  staged : List Ent := []
  serial : Nat := 0
  quoin : Quoin := {}
  saveWait : Bool := false
  saveSnap : Option Nat := none
  waiting : List Wait := []
  turn : Nat := 0
  ratesHeld : Bool := false
  hbT : Nat := 0
  restoring : List Nat := []
  hist : List Rx := []
  resp : List Resp := []
  segs : List Seg := []
  can0 : CanCh := {}
  can1 : CanCh := {}
  node : Nat := 16
  mode : Nat := 0
  arb : Nat := 500000
  rate : Nat := 2000000
  hbCount : Nat := 0
  hostQ : List HostMsg := []
  deriving DecidableEq, Repr

/-! ## Clock root and timebase (ch 2) -/

/-- A captured TIME edge: channel, source node, sequence and local time of the edge on the bus (R144, R146). -/
structure Edge where
  ch : Nat
  src : Nat
  seq : Nat
  t : Int
  deriving DecidableEq, Repr

/-- Timebase and clock-monitor state beside 0x1050 and 0x2000: the slew target and the local time of the last move
(R148), whether a master epoch has been seen, the start and length of the running source timeout (R156), the last
captured TIME edge of each channel and source (R146), root PLL attempts (R165), whether CMON gates on the XO (R943),
whether the pair of R141 is held, whether TBCLK runs (R131), the place of an XO edge among the ticks and the local time
STANDBY was entered (R134), and the time of the last step with the offset before it (R158). -/
structure Clk where
  target : Option Int := none
  lastMove : Nat := 0
  seen : Bool := false
  toStart : Nat := 0
  toLen : Nat := 0
  edges : List Edge := []
  pllTries : Nat := 0
  imoLost : Bool := false
  held : Bool := false
  tb : Bool := false
  xo : Nat := 0
  sbT : Nat := 0
  step : Option (Nat × Int) := none
  deriving DecidableEq, Repr

/-! ## Genlock (ch 3) -/

/-- A reference beside its object row: runs of good and of missing or error edges (R179, R180), the reference time of
the last edge (R172), the count of the next edge in its alignment cycle, whether it has lost qualification since it was
enabled or reset (R184), the wait's start, the LINKREF's advertised quality in force and the run of a new one (R186),
whether its edge count is known (R174), the accept and reject limits in force with whether their pair is held (R22), the
start of the running frequency gate (R182), and whether a next misalignment on it is lasting (R220). -/
structure Ref where
  goodRun : Nat := 0
  badRun : Nat := 0
  last : Option Int := none
  count : Nat := 0
  lostOnce : Bool := false
  waitT : Nat := 0
  adv : Nat := 15
  advNew : Nat := 15
  advRun : Nat := 0
  known : Bool := false
  acc : Int := 30
  rej : Int := 60
  held : Bool := false
  gateT : Nat := 0
  armed : Bool := false
  deriving DecidableEq, Repr

/-- A MARK output: the set of offset, width, polarity and divider in force, whether its width is held (R210), whether it
is on, and its last pulse. -/
structure Mark where
  off : Int := 0
  width : Nat := 400
  pol : Nat := 0
  div : Nat := 1
  held : Bool := false
  on : Bool := false
  lastPulse : Option Nat := none
  deriving DecidableEq, Repr

/-- The DPLL (R192 to R220): control value (ppb), whether the selected reference awaits its first compared edge, whether
that edge follows a change of the frame rate (R209), the start of the present run within 20 ns and of TRACK, the 1 s
control averages (newest first, at most 35), the sum and number of the values of the running second, a realign due at the
next boundary and whether the realign command asked for it (R945), whether genlock frames run, the start of the running one in ticks and 2^-20 ticks (log entry 116), the
build-out being slewed, the misaligned run, the frame it counted last and whether the last compared edge was beyond the
bound (R219), the last phase error in ps, which the loop acts on, and the last genlock frame starts in ticks with their counts,
newest first, which the formes' frame starts follow (R450). -/
structure Dpll where
  ctl : Int := 0
  await : Bool := false
  anew : Bool := false
  okSince : Option Nat := none
  trackT : Nat := 0
  avgs : List Int := []
  avgT : Nat := 0
  realign : Bool := false
  asked : Bool := false
  run : Bool := false
  frameT : Nat := 0
  frameF : Nat := 0
  avgSum : Int := 0
  avgN : Nat := 0
  slewing : Bool := false
  misRun : Nat := 0
  misFrame : Nat := 0
  misBad : Bool := false
  slewT : Nat := 0
  ps : Int := 0
  starts : List (Nat × Nat) := []
  deriving DecidableEq, Repr

/-! ## Control core (ch 12) -/

/-- A user context the agent saved at an application interrupt (R684): program counter, registers and level. -/
structure UserCtx where
  pc : Nat
  x : List Nat
  level : Nat
  deriving DecidableEq, Repr

/-- An aperture's active set (R698, R699). -/
structure Apw where
  act : Bool := false
  wr : Bool := false
  k : Nat := 20
  base : Nat := 0
  off : Nat := 0
  held : Bool := false
  deriving DecidableEq, Repr

/-- A bus request waiting or issued (R689 to R693): master (Table 12.4 order), ID, address, bytes, data written (none
for a read), fetch, user mode, once issued the boot alias and the aperture sets it was issued under (R729), and whether
it fetches a line again after a parity error (R735). -/
structure BusReq where
  master : Nat
  id : Nat
  addr : Nat
  len : Nat
  wdata : Option (List Byte)
  fetch : Bool
  user : Bool
  remap : Bool := false
  aps : List Apw := []
  refetch : Bool := false
  deriving DecidableEq, Repr

/-- A DMA channel (R703 to R706): registers CTL, the current descriptor, STAT state and reason, and the position in the
current descriptor. -/
structure Dma where
  ctl : Nat := 0
  desc : Nat := 0
  st : Nat := 0
  reason : Nat := 0
  src : Nat := 0
  dst : Nat := 0
  flags : Nat := 0
  remain : Nat := 0
  next : Nat := 0
  loaded : Bool := false
  deriving DecidableEq, Repr

/-- The trace writer (R713 to R720): the buffer in write order (the last 64 KiB), how many bytes at its start are the rest
of a packet partly overwritten, the write pointer, bytes since the
last SYNC, pending branches (oldest first), the last reported address, packets dropped, and its flags. -/
structure Trace where
  buf : List Byte := []
  skip : Nat := 0
  wptr : Nat := 0
  wrapped : Bool := false
  full : Bool := false
  sleeping : Bool := false
  halted : Bool := false
  ovf : Nat := 0
  since : Nat := 0
  branches : List Bool := []
  lastAddr : Nat := 0
  deriving DecidableEq, Repr

/-- A debug trigger (R722): tdata1 and tdata2. -/
structure Trig where
  tdata1 : Nat := 0
  tdata2 : Nat := 0
  deriving DecidableEq, Repr

/-- The debug module, transport and TAP (R721, R722, R915). -/
structure Dbg where
  ir : Nat := 0x01
  dmcontrol : Nat := 0
  cmderr : Nat := 0
  data0 : Nat := 0
  data1 : Nat := 0
  command : Nat := 0
  progbuf : List Nat := List.replicate 8 0
  sbcs : Nat := 0
  sbaddr : Nat := 0
  sbdata : Nat := 0
  dmiStat : Nat := 0
  trigs : List Trig := List.replicate 4 {}
  tselect : Nat := 0
  dcsr : Nat := 0
  dpc : Nat := 0
  scan : List Bool := []
  extest : Bool := false
  deriving DecidableEq, Repr

/-- The core pair, its memories and the bus matrix (ch 12). `mem` holds the TCMs, SRAM and the AON retained area as a
canonical list; an unlisted byte reads 0. `fmem` holds the frame memory bytes written through apertures (what else frame memory
holds at an address the spec does not say). `turns` holds, for each target served, the master served last (R693). -/
structure Core where
  pc : Nat := 0
  priv : Nat := 3
  x : List Nat := List.replicate 32 0
  csr : List (Nat × Nat) := []
  userPc : Nat := 0
  halted : Bool := false
  waiting : Bool := false
  ctxs : List UserCtx := []
  mem : List (Nat × Byte) := []
  fmem : List (Nat × Byte) := []
  icache : List (Nat × List Byte) := []
  fetchBuf : Option (Nat × List Byte) := none
  issued : List BusReq := []
  heldReqs : List BusReq := []
  turns : List (Nat × Nat) := []
  errAddr : Nat := 0
  errInfo : Nat := 0
  errCnt : Nat := 0
  rr : Nat := 0
  cmp : List Nat := List.replicate 4 (2 ^ 64 - 1)
  armed : List Bool := List.replicate 4 false
  mtimecmp : Nat := 2 ^ 64 - 1
  latchHi : Nat := 0
  latchEpoch : Nat := 0
  remap : Bool := false
  apw : List Apw := List.replicate 8 {}
  dma : List Dma := List.replicate 8 {}
  dmaRr : Nat := 0
  appStart : Nat := 0
  appCause : Bool := false
  handler : Nat := 0
  noStart : Bool := false
  dbg : Dbg := {}
  deriving DecidableEq, Repr

/-! ## Watchdogs, events, log (ch 13) -/

/-- T, W, E and P of a watchdog. -/
structure WSet where
  t : Nat := 1000000
  w : Nat := 0
  e : Nat := 6
  p : Nat := 250000
  deriving DecidableEq, Repr

/-- A watchdog (R742 to R755): running, the local time its count started from, the count it is frozen at, first key
held, the set in force, lock taken hold, whether its set is held, warned this period, last accepted service or start,
and the first period after a control reset (R754). -/
structure Wdg where
  run : Bool := false
  t0 : Nat := 0
  frozen : Option Nat := none
  key1 : Bool := false
  set : WSet := {}
  lock : Bool := false
  held : Bool := false
  warned : Bool := false
  last : Nat := 0
  lastEpoch : Nat := 0
  grace : Bool := false
  restartT : Option Nat := none
  deriving DecidableEq, Repr

/-- A queued EVENT: event, clear flag, epoch, time of the raise, detail (R94). -/
structure EvMsg where
  ev : Nat
  clear : Bool
  epoch : Nat
  t : Nat
  detail : Nat
  deriving DecidableEq, Repr

/-- The event controller (R756 to R762). `pend` is the 96-bit pending bitmap; `routes` are the routing bytes in
force. -/
structure Evc where
  pend : Nat := 0
  mask : Nat := 0
  routes : List Byte := []
  details : List Nat := List.replicate 96 0
  raises : List Nat := List.replicate 96 0
  lastSent : List (Option Nat) := List.replicate 96 none
  msgs : List EvMsg := []
  deriving DecidableEq, Repr

/-- A committed log record (Tables 13.5, 13.6): sequence, event, flags, epoch, time, bytes 16 to 27, and whether its
stored CRC has been damaged (R784). -/
structure LogRec where
  seq : Nat
  ev : Nat
  flags : Nat
  epoch : Nat
  t : Nat
  body : List Byte
  bad : Bool := false
  deriving DecidableEq, Repr

/-- A copy slot of the MRAM system area (R770, Table 13.7). -/
structure CopySlot where
  magic : Nat := 0
  format : Nat := 0
  reason : Nat := 0
  count : Nat := 0
  seq : Nat := 0
  comp : Nat := 0
  t : Nat := 0
  epoch : Nat := 0
  crc : Nat := 0
  recs : List LogRec := []
  deriving DecidableEq, Repr

/-- The event log (R763 to R773): records oldest first, the next sequence, the FIFO, the overflow counters with the
first coalesced raise. -/
structure Log where
  recs : List LogRec := []
  next : Nat := 1
  fifo : List EvMsg := []
  ovr : List (Nat × Nat) := []
  first : Nat × Nat := (0, 0)
  deriving DecidableEq, Repr

/-! ## Power (ch 14) -/

/-- The power states of Table 14.1. -/
inductive Pw where
  | run | doze | standby | hibernate | off
  deriving DecidableEq, Repr

/-- What a rail sequence waits for (R803, R804, R836). -/
inductive SeqWait where
  | none | pg | onDelay | offDelay
  deriving DecidableEq, Repr

/-- A rail beside its object row: PEN, whether its PG is good, when its restart ended (R837), and whether PMBus polling
has stopped (R839). -/
structure Rail where
  pen : Bool := false
  pg : Bool := false
  restartT : Option Nat := none
  noPoll : Bool := false
  deriving DecidableEq, Repr

/-- R828: the settings of a seat that its last rise took: supply rail, current channel, limit, trip time, inrush blanking,
retry delay, off in STANDBY, off in the safe state. -/
structure SeatSet where
  rail : Nat := 255
  chan : Nat := 255
  lim : Int := 655360
  trip : Nat := 1000
  blank : Nat := 50
  retry : Nat := 500
  sbOff : Bool := true
  safeOff : Bool := false
  deriving DecidableEq, Repr

/-- A seat beside its object row (R807, R808, R838): SEATEN, the settings in force, its last rise and last trip, whether
its inrush is blanked, since when its current is above the limit, and whether the present rise is that of a retry. -/
structure Seat where
  en : Bool := false
  set : SeatSet := {}
  tripT : Nat := 0
  riseT : Nat := 0
  blank : Bool := false
  overT : Option Nat := none
  again : Bool := false
  deriving DecidableEq, Repr

/-- An ADC channel (R816 to R818): accumulator, conversions in it, runs of updates beyond the high and low threshold and
whether each condition is raised. -/
structure Adc where
  acc : Nat := 0
  cnt : Nat := 0
  raw : Nat := 0
  val : Int := 0
  hiRun : Nat := 0
  loRun : Nat := 0
  hi : Bool := false
  lo : Bool := false
  deriving DecidableEq, Repr

/-- What a running rail sequence is: none, a power-up, a power-down, STANDBY entry, HIBERNATE entry, the power-down of a
failed sequence, that of a rail fault, the take-over of the loaded configuration (R804, R835 to R837, Table 14.2). -/
inductive SeqKind where
  | none | up | down | standby | hibernate | failed | fault | takeOver
  deriving DecidableEq, Repr

/-- The power manager (ch 14): the power state and whether HIBERNATE is being entered, wake sources latched during entry
(R831); the running sequence with its step, its lowest step, what it waits for, since when it waits for PG and when its
delay ends, whether the step is being run again, the rails whose fault it handles and the rail whose restart it is (R945);
whether the video blocks wait for the rails of a STANDBY exit (R797); the transactions left of the running poll and when
the last poll, AVS update and thermal reading were (R812, R814, R821); the ADC channel converted last and when; AVS and thermal episodes, the thermal set in force, milliseconds at or above 105 and 125 °C not yet counted as seconds, the GPIO
levels, the supplies out of range, and those below their brownout threshold. -/
structure Pwr where
  st : Pw := .run
  hib : Bool := false
  latched : Nat := 0
  seq : SeqKind := .none
  step : Nat := 0
  low : Nat := 0
  wait : SeqWait := .none
  waitT : Nat := 0
  dueT : Nat := 0
  retried : Bool := false
  faults : List Nat := []
  restarting : Option Nat := none
  waking : Bool := false
  poll : List (Nat × Nat) := []
  pollT : Nat := 0
  avsT : Nat := 0
  thT : Nat := 0
  rails : List Rail := List.replicate 16 {}
  seats : List Seat := List.replicate 8 {}
  lastRise : Option Nat := none
  adc : List Adc := List.replicate 16 {}
  adcAt : Option Nat := none
  adcT : Nat := 0
  avsClamped : Bool := false
  avsHeld : Bool := false
  excl : Nat := 0
  warnOn : Bool := false
  critOn : Bool := false
  thSet : Int × Int × Int := (115, 130, 5)
  thHeld : Bool := false
  at105 : Nat := 0
  at125 : Nat := 0
  gpioIn : Nat := 0
  supOut : Nat := 0
  absent : Nat := 0
  deriving DecidableEq, Repr

/-! ## Safety and reset (ch 15, ch 16) -/

/-- The safety collector (ch 15): the two latch channels, what CMON drives SAFE_N to on its own (R139), active
conditions as code and instance with the class, EMERGENCY kept for after the restart (R859), whether SAFE_REQ_N is low, and the tick of the last detection (R869). -/
structure Saf where
  latchA : Bool := true
  latchB : Bool := true
  cmonLow : Bool := false
  conds : List (Nat × Nat) := []
  late : List (Nat × Nat × Nat) := []
  entered : Bool := false
  reqLow : Bool := false
  detT : Option Nat := none
  deriving DecidableEq, Repr

/-- A reset-history record (Table 16.10). -/
structure Hist where
  cause : Nat
  scope : Nat
  held : Bool
  epoch : Nat
  t : Nat
  deriving DecidableEq, Repr

/-- Where the control domain stands: without power, held in reset, released with its boot to run, or up. -/
inductive Stage where
  | off | inReset | dead | released | up
  deriving DecidableEq, Repr

/-- The fuses: the cells. `s2412` is fused at manufacture. -/
structure Fuses where
  lock : Bool := false
  wd0 : Bool := false
  noDebug : Bool := false
  s2412 : Bool := false
  allow : List Nat := []
  deriving DecidableEq, Repr

/-- Reset and start-up (ch 16): stage, fuses as loaded (R886), the reset a command asks for (cause code), the restart
under way, history, counts, the last system cause and the time its restart reached step 5 (R897), loaded values set
aside because they break a dependency (R941), and the fuse a command burns. -/
structure Rst where
  stage : Stage := .released
  fuses : Fuses := {}
  want : List Nat := []
  scope : Nat := 0
  hist : List Hist := []
  counts : List Nat := List.replicate 16 0
  lastSys : Option (Nat × Option Nat) := none
  aside : List (Nat × List (Nat × Val)) := []
  noApp : Bool := false
  fmOff : Bool := false
  burn : Option Fuses := none
  skip : Nat := 0
  video : Bool := false
  autorun : Bool := false
  deriving DecidableEq, Repr

/-! ## Synthesizers (ch 4) -/

/-- A set of .02 to .08 (R239). -/
structure SynSet where
  mode : Nat := 1
  path : Nat := 1
  nint : Nat := 72
  frac : Nat := 0
  v : Nat := 120000000
  qa : Nat := 48
  qb : Nat := 48
  deriving DecidableEq, Repr

/-- A glide of the VCO (R242): the frequency in Hz it starts from as a fraction, its start and its length in ticks. -/
structure Glide where
  src : Nat × Nat
  t0 : Nat
  len : Nat
  deriving DecidableEq, Repr

/-- The glide of a stopped profile's offset to 0 (R249): the offset in ppb at the stop, its start and its length in
ticks. -/
structure StopGlide where
  off : Int
  t0 : Nat
  len : Nat
  deriving DecidableEq, Repr

/-- A synthesizer beside its object row: the active set, the armed snapshot with its command and earliest time (R240),
the band-search target in Hz as a fraction, a running glide, whether the lock under way is the one relock and whether it
follows a loss, when the last relock after a loss completed (R263), a resync due at the next frame start, whether the
lock under way is that of the resync command (R945), a return to SYNC due at the next frame start (R258), the lock
settings taken at the last entry to SYNC (R252), whether the phase is that of R230, whether its set is held, the running
profile's start and update count (R246), the stop of a profile, when it was gated and when LOCKING was entered, the
value the modulator was last reset to, whether the output dividers are held, and per output the phase offset taken at
the release and the frame start its divider was last started at (R230, R242). -/
structure Syn where
  act : SynSet := {}
  armed : Option (SynSet × Nat × Nat) := none
  target : Nat × Nat := (0, 1)
  glide : Option Glide := none
  relock : Bool := false
  loss : Bool := false
  relockT : Option Nat := none
  resync : Bool := false
  asked : Bool := false
  toSync : Bool := false
  inForce : List Nat := []
  aligned : Bool := false
  held : Bool := false
  profT : Nat := 0
  upd : Nat := 0
  stop : Option StopGlide := none
  gateT : Nat := 0
  lockT : Nat := 0
  modSeed : Nat := 0
  divHeld : Bool := false
  phi : Nat × Nat := (0, 0)
  rel : Nat × Nat := (0, 0)
  deriving DecidableEq, Repr

/-! ## Ovton link (ch 5, 6) and the port scheduler (ch 11) -/

/-- A quad's lane PLL (R269): 0 off, 1 locking, 2 locked, 3 failed; its rate while not off. -/
structure Quad where
  pll : Nat := 0
  rate : Nat := 0xFF
  deriving DecidableEq, Repr

/-- The transmit side of a lane: the scrambler state (R277), the last bit sent and its run (R282), and swing,
pre-cursor, post-cursor and inversion in force since the last marker (R298). -/
structure TxLane where
  scr : Nat := 0
  runBit : Bool := false
  run : Nat := 0
  swing : Nat := 12
  pre : Nat := 0
  post : Nat := 6
  invert : Bool := false
  deriving DecidableEq, Repr

/-- A lane beside its object row (R290 to R293): runs of good and of bad markers, the place of the last marker in the
block sequence counted since lock, the sequence the last good marker carried, its RX ready and packet mode bits, its
width field and its skew in UI; the last bit received, its run, and whether the next bit is a stuffed one (R283); the
last block received as its sequence, its packet mode and its words (R284); and the transmit side. -/
structure Lane where
  good : Nat := 0
  bad : Nat := 0
  pos : Nat := 0
  seq : Option Nat := none
  rdy : Bool := false
  pm : Bool := false
  width : Nat := 0
  skew : Nat := 0
  runBit : Bool := false
  run : Nat := 0
  drop : Bool := false
  block : Option (Nat × Bool × List Nat) := none
  tx : TxLane := {}
  deriving DecidableEq, Repr

/-- A packet waiting in a queue of the port scheduler: type, header fields, payload and when it entered (R644). -/
structure QPkt where
  ty : Nat
  fieldA : Nat
  fieldB : Nat
  payload : List Byte
  t : Nat
  deriving DecidableEq, Repr

/-- A LINK CONTROL packet waiting (Table 6.5). -/
inductive Ctl where
  | flow
  | sync (seq : Nat)
  | follow (seq t1 : Nat)
  | dreq (seq : Nat)
  | drsp (seq t4 : Nat)
  deriving DecidableEq, Repr

/-- A packet of a retried channel kept until it is acknowledged (R363): its number, whether it was sent in this epoch,
whether it is marked as resent (R365), whether it is due to be sent, the packet, and when it was last sent. -/
structure TxEnt where
  seq : Nat
  sent : Bool
  marked : Bool
  due : Bool
  pkt : QPkt
  t : Nat := 0
  deriving DecidableEq, Repr

/-- A retried channel (Tables 6.7, 6.8): next number to give, unacknowledged packets oldest first, next expected
number, NAK SENT, and a NAK the next FLOW carries. -/
structure Retry where
  next : Nat := 0
  unack : List TxEnt := []
  expect : Nat := 0
  nak : Bool := false
  nakDue : Bool := false
  deriving DecidableEq, Repr

/-- A port beside its object rows: the training attempt, when signal was detected, when the attempt, the retrain or the
waking under way began, since when a FAILED port has seen no signal (R331), the step of Table 5.6 it waits for
(0 CDR lock, 1 markers, 2 convergence, 3 done), its own RX ready, whether the retrain under way counts as a loss
(R330) and when the last one completed; whether its transmitter is out of electrical idle, the sequence of the next
block, when the block of zero payload under way began, and the words left in the block under way (0: a marker is due);
framing with the place in a block that a pointer named (R387); credit limits and counts per channel with whether a FLOW
of this epoch came (R358, R359) and when the count last met the limit; packets taken per channel; sequence state; the
queues and the weighted group's round (R638); token buckets as level × 400,000,000 with the time of the last fill
(R639); whether a folio went out and which one came in this epoch (R372, R373); the time exchange (R374 to R377)
with the departure of the last SYNC; the last folio number and liveness counter of the port's folios (R348, R349), the
raster, rate and format fields of the last folio sent (R354), and the sink status of the last echo (R357). -/
structure Port where
  attempt : Nat := 1
  detT : Nat := 0
  begT : Nat := 0
  quietT : Option Nat := none
  step : Nat := 0
  tx : Bool := false
  txSeq : Nat := 0
  txT : Nat := 0
  left : Nat := 0
  rxReady : Bool := false
  loss : Bool := false
  doneT : Option Nat := none
  framed : Bool := true
  resume : Option Nat := none
  lims : List Nat := [0, 0, 0, 0]
  cnts : List Nat := [0, 0, 0, 0]
  limT : List Nat := [0, 0, 0, 0]
  flowSeen : Bool := false
  got : List Nat := [0, 0, 0, 0]
  rx0 : Option Nat := none
  rx3 : Option Nat := none
  tx0 : Nat := 0
  tx3 : Nat := 0
  vc1 : Retry := {}
  vc2 : Retry := {}
  safe : List QPkt := []
  iso : List QPkt := []
  mgmt : List QPkt := []
  flows : List (List QPkt) := List.replicate 32 []
  ctl : List Ctl := []
  bucket : Option (Nat × Nat) := none
  buckets : List (Option (Nat × Nat)) := List.replicate 32 none
  credits : List Nat := List.replicate 32 0
  scan : Nat := 0
  folioTx : Bool := false
  folioRx : Option Nat := none
  syncSeq : Nat := 0
  syncT : Option Nat := none
  gotSync : Option (Nat × Nat) := none
  dreqSeq : Nat := 0
  sentDreq : Option (Nat × Nat) := none
  path : Option (Nat × Nat) := none
  folioNo : Nat := 0
  folioLive : Nat := 0
  fmtTx : List Byte := []
  sinkStatus : Nat := 0
  serveHeld : Bool := false
  deriving DecidableEq, Repr

/-- The eye-scan engine's running scan (R312 to R316): its lane, its number of points, its dwell and its error limit. -/
structure Scan where
  lane : Nat
  total : Nat
  dwell : Nat
  limit : Nat
  deriving DecidableEq, Repr

/-- The running test (R309 to R311): port, mode, pattern, first lane, width and rate, when it started, and the state the
pattern started from. -/
structure Test where
  port : Nat
  mode : Nat
  pattern : Nat
  first : Nat
  width : Nat
  rate : Nat
  t0 : Nat
  s0 : Nat
  deriving DecidableEq, Repr

/-! ## Capture and galleys (ch 7) -/

/-- The fields of a folio (Table 6.4). -/
structure Folio where
  no : Nat := 0
  src : Nat := 0
  live : Nat := 0
  t : Nat := 0
  epoch : Nat := 0
  flags : Nat := 0
  quality : Nat := 15
  w : Nat := 0
  h : Nat := 0
  total : Nat := 0
  num : Nat := 0
  den : Nat := 0
  fmt : Nat := 0
  colour : Nat := 0
  hdr : List Byte := []
  deriving DecidableEq, Repr

/-- A stored segment of a line. -/
structure Seg1 where
  line : Nat
  seg : Nat
  data : List Byte
  deriving DecidableEq, Repr

/-- A slot of a galley (R396, R400): 0 free, 1 writing, 2 complete, 3 abandoned; its folio, the completion time, and the
segments written. -/
structure Slot where
  st : Nat := 0
  folio : Folio := {}
  doneT : Nat := 0
  segs : List Seg1 := []
  deriving DecidableEq, Repr

/-- A capture channel beside its object row: its slots, the one being written, the complete ones newest first, the last
folio and the last valid one, the run of unchanged liveness counters, arrival offsets in ticks oldest first, when lock
began, the frame open for the DIRECT line buffer and its 16 lines, line misses in the running and in the last frame,
whether an input loss waits for its restoring folio, when the last valid folio came (R439), the slot size fixed at the
enable (R397), and since when the channel gives no usable source or a frozen one (R474). -/
structure Chan where
  slots : List Slot := []
  writing : Option Nat := none
  order : List Nat := []
  last : Option Folio := none
  lastNo : Option Nat := none
  still : Nat := 0
  offs : List Int := []
  lockT : Nat := 0
  bufFolio : Option Folio := none
  buf : List Seg1 := []
  bufLines : List Nat := []
  missNow : Bool := false
  missLast : Bool := false
  lost : Bool := false
  lastT : Nat := 0
  size : Nat := 0
  badT : Option Nat := none
  frzT : Option Nat := none
  deriving DecidableEq, Repr

/-! ## Formes and windows (ch 8, ch 15) -/

/-- A frame of a forme's history (R479): folio number, source identifier, liveness, signature, and when its folio left. -/
structure Sig where
  no : Nat
  src : Nat
  live : Nat
  sig : Nat
  t : Nat
  deriving DecidableEq, Repr

/-- A window's fetched pixels of a row, left to right from the destination's first column: components and alpha, 16 bits
each. -/
structure Px where
  a : Nat
  b : Nat
  c : Nat
  alpha : Nat
  deriving DecidableEq, Repr

/-- The geometry of a window in a frame: crop, destination, steps, vertical taps, filter and the source's size
(R461 to R466). -/
structure Geo where
  xc : Nat := 0
  yc : Nat := 0
  cw : Nat := 1
  ch : Nat := 1
  x : Int := 0
  y : Int := 0
  dw : Nat := 1
  dh : Nat := 1
  sx : Nat := 65536
  sy : Nat := 65536
  k : Nat := 1
  filter : Nat := 0
  sw : Nat := 0
  sh : Nat := 0
  deriving DecidableEq, Repr

/-- What a window of a frame is filled with: nothing (the layers beneath), the fill colour, its source's claimed slots
on a channel (the newest frame, then the one blended with it), or the frame of that number in a channel's DIRECT line
buffer. -/
inductive Fill where
  | hidden
  | colour
  | slots (ch a : Nat) (b : Option Nat)
  | direct (ch no : Nat)
  deriving DecidableEq, Repr

/-- A window of the frame under way, as taken at F (R471): its number, z-order, fill, geometry, the source's format, the
blend weight of the newest frame, the colours, matrix, border and alpha in force, and whether its claim still stands. -/
structure WFrame where
  w : Nat
  z : Nat
  fill : Fill
  geo : Geo
  fmt : Nat
  blend : Nat
  colour : Px
  matrix : List Int
  border : Nat
  borderPx : Px
  amode : Nat
  aglob : Nat
  claim : Bool
  deriving DecidableEq, Repr

/-- A row fetched and not yet launched (R453): its number, and for each window the first column and the pixels. -/
structure Row where
  y : Nat
  wins : List (Nat × Nat × List Px)
  deriving DecidableEq, Repr

/-- A forme beside its object row: its last frame start, the earliest next one, the local timing's first frame start and
the frames counted from it (R451), whether the frame under way is NOPIC, the next rows to be fetched and to be launched
(R352), its windows, the state of its signature's CRC, the rows fetched, whether a late line was reported, its history oldest
first, the echo it expects (R851), whether that is to be set again, the run of matched echoes (R862), and whether a quoin
applied at this F. -/
structure Forme where
  f : Nat := 0
  nextF : Nat := 0
  f0 : Nat := 0
  cnt : Nat := 0
  nopic : Bool := true
  fetch : Nat := 0
  line : Nat := 0
  ws : List WFrame := []
  crc : Nat := 0xFFFFFFFF
  rows : List Row := []
  lateSaid : Bool := false
  hist : List Sig := []
  e : Nat := 0
  eReset : Bool := true
  matched : Nat := 0
  applied : Bool := false
  deriving DecidableEq, Repr

/-- A window beside its object row: whether it has been in DIRECT since its last quoin (R422), the frame it shows as
(channel, folio number, liveness, source identifier) and the one shown at the previous F, whether its no-source action
is running and its hold has ended, the frames not fresh and those fresh and right in a row (R849, R862), and whether 0x10 or 0x11 stands for it. -/
structure Win where
  been : Bool := false
  direct : Bool := false
  shown : Option (Nat × Nat × Nat × Nat) := none
  prev : Option (Nat × Nat × Nat × Nat) := none
  noSrc : Bool := false
  holdDone : Bool := false
  stale : Nat := 0
  good : Nat := 0
  bad10 : Bool := false
  bad11 : Bool := false
  deriving DecidableEq, Repr

/-! ## Audio (ch 9) -/

/-- An audio group of a capture channel (R514 to R516, R544 to R546): the last block number, the valid flags, the sample
count, the last sample of each channel, how far the decay after a loss has gone (256: over), and when its last block
came. -/
structure AGroup where
  last : Option Nat := none
  valid : Nat := 0
  n : Nat := 0
  held : List Int := [0, 0, 0, 0]
  decay : Nat := 256
  t : Nat := 0
  deriving DecidableEq, Repr

/-- A crosspoint output: the inputs of its running crossfades newest first with their sample numbers (R521, R538), the
gain codes likewise (R522), the delay line newest first (R535), and the samples finished and not yet sent. -/
structure AOut where
  srcs : List (Nat × Nat) := []
  gains : List (Int × Nat) := []
  line : List Int := []
  blk : List Int := []
  deriving DecidableEq, Repr

/-- A compressed block waiting for its delay (R524): rate, channel flags, sample count and samples. -/
structure APass where
  rate : Nat
  flags : Nat
  n : Nat
  words : List Byte
  deriving DecidableEq, Repr

/-- A forme's audio (units 0 to 23) or a TDM port's (24 to 27): whether it runs, its fade level of 256, the applied
delay in samples, the position a lip-sync crossfade comes from with its sample number, the target of a slew with its
fraction in millionths, the target last taken, whether it is clamped, block numbers and discontinuity flags per group, the times of
the samples waiting, and the compressed blocks waiting per group. -/
structure AUnit where
  on : Bool := false
  lvl : Nat := 0
  delay : Nat := 0
  fade : Option (Nat × Nat) := none
  slew : Option Nat := none
  frac : Nat := 0
  clamped : Bool := false
  nos : List Nat := [0, 0, 0, 0]
  disc : List Bool := [true, true, true, true]
  ts : List Nat := []
  pass : List (List APass) := [[], [], [], []]
  deriving DecidableEq, Repr

/-- A TDM port: its last input words, whether a slave's clock is the device's own, the last frame sync. -/
structure ATdm where
  words : List Nat := List.replicate 16 0
  same : Bool := false
  last : Option Nat := none
  deriving DecidableEq, Repr

/-- The audio blocks: the clock set in force (source, rate, synthesizer), a set waiting for the outputs to fade out,
whether the set is held; the clock state, genlock rate and audio rate the ticks are paced by, the genlock accumulator (R512:
samples due at the start of the running genlock frame, times the rate's numerator), and when the next tick of another
source is due, in 2^-20 ticks. -/
structure Audio where
  groups : List AGroup := List.replicate 96 {}
  outs : List AOut := List.replicate 448 {}
  units : List AUnit := List.replicate 28 {}
  tdm : List ATdm := List.replicate 4 {}
  clk : Nat × Nat × Nat := (0, 2, 0)
  next : Option (Nat × Nat × Nat) := none
  held : Bool := false
  pace : List Nat := []
  acc : Int := 0
  due : Nat := 0
  deriving DecidableEq, Repr

/-! ## Title port and host port (ch 10) -/

/-- A window read waiting (R565): master and ID of its bus request, window offset, bytes. -/
structure TRead where
  master : Nat
  id : Nat
  off : Nat
  len : Nat
  deriving DecidableEq, Repr

/-- A window write held (Table 10.2). -/
structure TWrite where
  master : Nat
  id : Nat
  off : Nat
  data : List Byte
  deriving DecidableEq, Repr

/-- A slot's page buffer (R566): its page, its bytes where marked, and when the last write to it came (R567). -/
structure PageBuf where
  page : Nat
  bytes : List (Option Byte)
  t : Nat
  deriving DecidableEq, Repr

/-- A flush (R568): the step (2 write enable, 3 page program, 4 status polling), the next poll's number, the end of the
page program transaction, whether the sequence is repeated, and whether its polling is extended. -/
structure Flush where
  step : Nat := 2
  k : Nat := 1
  t0 : Nat := 0
  again : Bool := false
  extended : Bool := false
  deriving DecidableEq, Repr

/-- An interrupted-write record (Table 10.6). -/
structure TRec where
  page : Nat
  step : Nat
  first : Nat
  last : Nat
  t : Nat
  deriving DecidableEq, Repr

/-- A title slot beside its object rows: its prefetch buffer (line, bytes; oldest first), page buffer, flush, window
accesses waiting, the reads of a running identification with whether they are the repeat and whether the slot served
requests when it began (R601), whether it is being disabled, and its record in AON. -/
structure TSlot where
  pf : List (Nat × List Byte) := []
  pb : Option PageBuf := none
  flush : Option Flush := none
  readers : List TRead := []
  writers : List TWrite := []
  ident : List (List Byte) := []
  identAgain : Bool := false
  identHold : Bool := false
  identCmd : Bool := false
  closing : Bool := false
  aon : Option TRec := none
  deriving DecidableEq, Repr

/-- What a title port transaction is for: a window line with the lines still to fetch after it, the steps of a flush, a
raw command, an identification read, a part of a fill, a part of a stream's header. -/
inductive TKind where
  | line (off ahead : Nat)
  | writeEnable | program
  | raw
  | ident
  | fill (page : Bool) (num part : Nat)
  | header (stream part : Nat)
  deriving DecidableEq, Repr

/-- A request of the title port: slot and purpose. -/
structure TReq where
  slot : Nat
  kind : TKind
  deriving DecidableEq, Repr

/-- The title port: waiting requests oldest first, the transaction in progress with whether it is a repeat, when it
began, how long its cycles take in ticks (R555 to R563), and whether it samples TPRDY and TPDS. -/
structure Title where
  slots : List TSlot := List.replicate 2 {}
  queue : List TReq := []
  cur : Option (TReq × Bool) := none
  curT : Nat := 0
  curLen : Nat := 0
  waits : Bool := false
  strobes : Bool := false
  deriving DecidableEq, Repr

/-- The host port: lanes and mode in force (R598), the transaction's opcode (0 none), the bytes received and not yet cut
into frames, the host receive buffers, the message being sent with the words of it already clocked, whether this READ
has sent its one frame (R588), since when HPRDY is low, when HPCK last moved or HPRDY rose (R582), and when the last
word of a partial frame came (R591). -/
structure HostPort where
  lanes : Nat := 4
  mode : Nat := 0
  op : Nat := 0
  buf : List Byte := []
  frames : List (List Byte) := []
  cur : Option HostMsg := none
  pos : Nat := 0
  sentOne : Bool := false
  lowT : Option Nat := none
  edgeT : Nat := 0
  wordT : Nat := 0
  deriving DecidableEq, Repr

/-! ## Title cache and streams (ch 11) -/

/-- A tag of the cache (R619): slot, cartridge identifier, whether it is a table page, block or page number. -/
structure CTag where
  slot : Nat
  ident : Nat
  page : Bool
  num : Nat
  deriving DecidableEq, Repr

/-- A cache entry: its place, tag, last-hit cycle, data, and whether only deliver-unverified streams may hit it
(R671). -/
structure CEnt where
  idx : Nat
  tag : CTag
  hit : Nat
  data : List Byte
  unv : Bool
  deriving DecidableEq, Repr

/-- An outstanding fill (R623, R651): its tag, cartridge address, parts returned, whether it is the re-read (R668, R669), and
whether its block waits for the table page of its number. -/
structure Fill1 where
  tag : CTag
  addr : Nat
  data : List Byte
  again : Bool
  waits : Bool
  deriving DecidableEq, Repr

/-- A stream beside its object row: the image's block count, table and data addresses, the slot's identifier at the
start, the header bytes read with whether they are the re-read, the end block, and the repair blocks not yet in a
queue as port and block. -/
structure Stream where
  n : Nat := 0
  table : Nat := 0
  dataAt : Nat := 0
  ident : Nat := 0
  hdr : List Byte := []
  again : Bool := false
  stop : Nat := 0
  repairs : List (Nat × Nat) := []
  deriving DecidableEq, Repr

/-- The title cache: entries by place, fills verified and not yet entered, unverifiable marks with their last hit,
outstanding fills, and the last cycle (R620). -/
structure Cache where
  ents : List CEnt := []
  ready : List CEnt := []
  marks : List (CTag × Nat) := []
  fills : List Fill1 := []
  cyc : Option Nat := none
  deriving DecidableEq, Repr

/-! ## Outputs and the whole device -/

/-- The PMBus commands of R810. -/
inductive Pmb where
  | operation | voutCommand | readVout | readIout | statusWord | clearFaults
  deriving DecidableEq, Repr

/-- A phase of a title port transaction (R556 to R560): bits driven, each transfer's L bits with the most significant on
the highest lane; dummy cycles; or transfers sampled, on TPCK or on TPDS. -/
inductive TPhase where
  | drive (lanes : Nat) (ddr : Bool) (xfers : List Nat)
  | dummy (cycles : Nat)
  | sample (lanes : Nat) (ddr strobe : Bool) (xfers : Nat)
  deriving DecidableEq, Repr

/-- What a command makes the device send. -/
inductive Out where
  /-- An ITP message on a CAN FD channel (R85, R88). -/
  | can (ch : Nat) (m : Msg)

  /-- The answer a mailbox call returns in a0 (R104). -/
  | ret (a0 : Nat)
  /-- A packet on a port: type, virtual channel and content (Table 6.2). -/
  | pkt (port ty vc : Nat) (p : Pkt)
  /-- A lane marker on a lane (Table 5.4); its line bits follow as a `line`. -/
  | marker (lane : Nat) (word : Nat)
  /-- Line bits on a lane (R275 to R284), with the swing, pre-cursor and post-cursor in force (R297). -/
  | line (lane swing pre post : Nat) (bits : List Bool)
  /-- `n` words of zeros of a port's payload, on the wire under R277 to R284. -/
  | zeroWords (port n : Nat)
  /-- `n` whole blocks of zero payload on the lanes of a port, the first with block sequence `seq`, their markers with
  this RX ready (Table 5.5). -/
  | zeroBlocks (port seq n : Nat) (rdy : Bool)
  /-- A test pattern on the transmit pins of a port's lanes, from a state, until the test stops (R310). -/
  | pattern (port pattern s0 : Nat)
  /-- A PMBus transaction: address, whether at 400 kHz, whether with PEC, command, data written (R810). -/
  | pmbus (addr : Nat) (fast pec : Bool) (cmd : Pmb) (data : List Byte)
  /-- A title port transaction (R555 to R563): slot, clock divider, capture delay and phases. -/
  | title (slot n delay : Nat) (phases : List TPhase)
  /-- Bytes clocked out of the host port (R588, R593). -/
  | host (bytes : List Byte)
  /-- A mark pulse: output, local time of its start, width in ticks, level (R204). -/
  | mark (m : Nat) (t : Int) (width : Nat) (high : Bool)
  /-- A TDM frame of one port: the port's format (R533: polarity, width, delay, clock edge) and its slots' words, none for a
  slot left at high impedance. -/
  | tdm (port : Nat) (format : List Nat) (slots : List (Option Nat))
  /-- The JTAG register a scan captures (R721, R915). -/
  | jtag (bits : Nat)
  /-- The response of a bus request: master, ID, error, data read (R691, R695). -/
  | bus (master id : Nat) (err : Bool) (data : List Byte)
  deriving DecidableEq, Repr

/-- The pins whose levels follow from the state (settled at the end of every command). `syn`: the synthesizer outputs that
toggle; the others are low. `mark`: the level of each MARK output outside its pulses. `undriven`: the supplies, by their
numbers in Table 14.4, whose outputs drive nothing (R802, R927, R928): the levels of those pins then say nothing. `lanes`:
the transmit lanes that are not at electrical idle (Tables 5.5, 5.8). `gpioOe`, `gpio`: the GPIO pins that are outputs and
the levels those drive (R823). `tpselN`: TPSEL0_N and TPSEL1_N, low for the slot of the transaction in progress. -/
structure Pins where
  safeN : Bool := false
  hpirqN : Bool := true
  hprdy : Bool := false
  syn : Nat := 0
  mark : Nat := 0
  pen : Nat := 0
  seaten : Nat := 0
  undriven : Nat := 0
  lanes : Nat := 0
  gpioOe : Nat := 0
  gpio : Nat := 0
  tpselN : Nat := 3
  deriving DecidableEq, Repr

/-- The device: the objects of the Isainadex that differ from their defaults (keys rising), the MRAM, and every block's
own state. `out` is what the last command sent. -/
structure Dev where
  obj : List (Nat × Val) := []
  bankA : Bank := {}
  bankB : Bank := {}
  slot0 : CopySlot := {}
  slot1 : CopySlot := {}
  itp : Itp := {}
  clk : Clk := {}
  refs : List Ref := List.replicate 8 {}
  dpll : Dpll := {}
  marks : List Mark := List.replicate 4 {}
  syns : List Syn := List.replicate 4 {}
  quads : List Quad := List.replicate 12 {}
  lanes : List Lane := List.replicate 48 {}
  ports : List Port := List.replicate 32 {}
  scan : Option Scan := none
  test : Option Test := none
  chans : List Chan := List.replicate 24 {}
  formes : List Forme := List.replicate 24 {}
  wins : List Win := List.replicate 64 {}
  audio : Audio := {}
  title : Title := {}
  host : HostPort := {}
  cache : Cache := {}
  streams : List Stream := List.replicate 32 {}
  core : Core := {}
  trace : Trace := {}
  wd0 : Wdg := {}
  wd1 : Wdg := {}
  evc : Evc := {}
  log : Log := {}
  pwr : Pwr := {}
  saf : Saf := {}
  rst : Rst := {}
  pins : Pins := {}
  out : List Out := []
  deriving DecidableEq, Repr

/-- The machine: the queue of waiting commands, local time in TBCLK ticks (R131), the counter the free values are
applied to (the model's own field), the fuse cells, and the device. -/
structure State where
  pending : List Instr := []
  time : Nat := 0
  seed : Nat := 0
  fuses : Fuses := {}
  dev : Dev := {}
  deriving DecidableEq, Repr

/-- Why the machine stops with a fault. -/
inductive Fault where
  /-- Raised by an event command that names an instance the fitted variant does not have (Table 0.1, R2: the instance
  is absent). Safe. -/
  | absentUnit
  deriving DecidableEq, Repr

/-- Why a command is refused. -/
inductive Refusal where
  /-- Raised by an arm of exec whose command has no meaning yet. Safe. -/
  | notModelled (mnemonic : String)
  deriving DecidableEq, Repr

/-- The machine at the release of the power-on reset, before its boot (R28, R877, Table 2.7): code 0x01 recorded,
START-UP SAFE with SAFE_N low, the S2424 fitted (log entry 1), no bank valid (log entry 3). -/
def State.reset : State := { dev := { rst := { hist := [⟨1, 0, false, 0, 0⟩], counts := (List.replicate 16 0).set 1 1 } } }

end Sys2Proof.Machine
end

