-- ==== Sys2Proof/Machine/Operands.lean ====
section
/-!
DEFINITION. The forms operands take: little-endian fields (R31), the CRCs of R341 and of the block header, the encoding
of a value by its type (Table 1.1), UTF-8 (R33) and the ITP header (Table 1.10).
-/
namespace Sys2Proof.Machine

/-- The `w` little-endian bytes of `n` (R31). -/
def le : Nat → Nat → List Byte
  | 0, _ => []
  | w + 1, n => byte n :: le w (n / 256)

/-- The number little-endian bytes hold (R31). -/
def unle : List Byte → Nat
  | [] => 0
  | b :: bs => b.toNat + 256 * unle bs

/-- The `w` bytes of `b` at offset `o`, as a number. -/
def fld (b : List Byte) (o w : Nat) : Nat := unle ((b.drop o).take w)

/-- A number of `w` bytes read as two's complement. -/
def signed (w n : Nat) : Int := if 2 ^ (8 * w - 1) ≤ n then (n : Int) - 2 ^ (8 * w) else n

/-- The `w`-byte two's complement of an integer. -/
def toTwos (w : Nat) (n : Int) : Nat := (n % (2 ^ (8 * w) : Int)).toNat

/-- One bit of the reflected CRC-32C (polynomial 0x1EDC6F41, reflected 0x82F63B78). -/
def crcBit (c : Nat) : Nat := if c % 2 = 1 then (c / 2) ^^^ 0x82F63B78 else c / 2

/-- One byte of the CRC-32C. -/
def crcByte (c : Nat) (b : Byte) : Nat :=
  crcBit (crcBit (crcBit (crcBit (crcBit (crcBit (crcBit (crcBit (c ^^^ b.toNat))))))))

/-- The CRC-32C state after more bytes. -/
def crcRun (c : Nat) (bs : List Byte) : Nat := bs.foldl crcByte c

/-- CRC-32C of R341: all ones to start, complemented at the end. -/
def crc32c (bs : List Byte) : Nat := crcRun 0xFFFFFFFF bs ^^^ 0xFFFFFFFF

/-- The type code of Table 1.1. -/
def Ty.code : Ty → Nat
  | .bool => 1 | .u8 => 2 | .u16 => 3 | .u32 => 4 | .u64 => 5 | .i8 => 6 | .i16 => 7 | .i32 => 8 | .i64 => 9
  | .fix32 => 10 | .str => 11 | .dom => 12

/-- The size of a number of the type; none for STRING and DOMAIN. -/
def Ty.size : Ty → Option Nat
  | .bool | .u8 | .i8 => some 1
  | .u16 | .i16 => some 2
  | .u32 | .i32 | .fix32 => some 4
  | .u64 | .i64 => some 8
  | .str | .dom => none

/-- Whether the type is two's complement. -/
def Ty.isSigned : Ty → Bool
  | .i8 | .i16 | .i32 | .i64 | .fix32 => true
  | _ => false

/-- The bytes of a value of the type (Table 1.1). -/
def encodeVal (ty : Ty) : Val → List Byte
  | .bytes b => b
  | .num n => le ((ty.size).getD 0) (toTwos ((ty.size).getD 0) n)

/-- Whether a byte continues a UTF-8 sequence. -/
def isCont (b : Byte) : Bool := b.toNat / 64 = 2

/-- Whether bytes are valid UTF-8 (R33); `fuel` is at least their number. -/
def utf8 : Nat → List Byte → Bool
  | _, [] => true
  | 0, _ => false
  | f + 1, a :: r =>
    let x := a.toNat
    if x < 0x80 then utf8 f r
    else if 0xC2 ≤ x && x ≤ 0xDF then
      match r with
      | b :: r => isCont b && utf8 f r
      | _ => false
    else if 0xE0 ≤ x && x ≤ 0xEF then
      match r with
      | b :: c :: r => isCont b && isCont c && !(x = 0xE0 && b.toNat < 0xA0) && !(x = 0xED && 0xA0 ≤ b.toNat) && utf8 f r
      | _ => false
    else if 0xF0 ≤ x && x ≤ 0xF4 then
      match r with
      | b :: c :: d :: r =>
        isCont b && isCont c && isCont d && !(x = 0xF0 && b.toNat < 0x90) && !(x = 0xF4 && 0x90 ≤ b.toNat) && utf8 f r
      | _ => false
    else false

/-- The value bytes spell for the type, where their length fits it (R33). -/
def decodeVal (ty : Ty) (b : List Byte) : Option Val :=
  match ty.size with
  | some w => if b.length = w then some (.num (if ty.isSigned then signed w (unle b) else unle b)) else none
  | none => if ty = .str && 64 < b.length then none else if 65536 < b.length then none else some (.bytes b)

/-- Whether a number lies in some span, or there is no span. -/
def inSpans (rng : List (Int × Int)) (n : Int) : Bool := rng.isEmpty || rng.any fun s => s.1 ≤ n && n ≤ s.2

/-- R33: whether a value lies in the range the dictionary gives the object alone. -/
def Obj.inRange (o : Obj) : Val → Bool
  | .num n => inSpans o.rng n && (!(o.ty = .bool) || n = 0 || n = 1)
  | .bytes b => inSpans o.rng b.length && (!(o.ty = .str) || utf8 b.length b)

/-- The 8-byte ITP header (Table 1.10). -/
structure Hdr where
  flags : Nat
  ty : Nat
  idx : Nat
  sub : Nat
  len : Nat
  deriving DecidableEq, Repr

/-- The header at the start of a message. -/
def parseHdr (b : List Byte) : Hdr := ⟨fld b 0 1, fld b 1 1, fld b 2 2, fld b 4 1, fld b 5 1⟩

/-- The bytes of a header. -/
def Hdr.bytes (h : Hdr) : List Byte :=
  [byte h.flags, byte h.ty] ++ le 2 h.idx ++ [byte h.sub, byte h.len, 0#8, 0#8]

/-- The key of the object a header names. -/
def Hdr.key (h : Hdr) : Nat := h.idx * 256 + h.sub

/-- R70: the next valid CAN FD data length. -/
def fdLen (n : Nat) : Nat :=
  if n ≤ 8 then n else if n ≤ 12 then 12 else if n ≤ 16 then 16 else if n ≤ 20 then 20 else if n ≤ 24 then 24
  else if n ≤ 32 then 32 else if n ≤ 48 then 48 else 64

/-- R70: a message padded with zeros to a valid CAN FD data length. -/
def fdPad (b : List Byte) : List Byte := b ++ zeros (fdLen b.length - b.length)

/-- R67: the 29-bit identifier. -/
def canId (prio cls dest src tag : Nat) : Nat := prio * 2 ^ 26 + cls * 2 ^ 21 + dest * 2 ^ 13 + src * 2 ^ 5 + tag

end Sys2Proof.Machine
end

