-- ==== Sys2Proof/Machine/Flags.lean ====
section
/-!
DEFINITION. Status words and flag computations the spec gives: the words that pack several fields into one object.
-/
namespace Sys2Proof.Machine

/-- 0x1020.03 (Table 1.16): state, result and payload bytes written. -/
def saveWord (st result progress : Nat) : Nat := st * 2 ^ 28 + result * 2 ^ 24 + progress % 2 ^ 24

/-- 0x1030.04 (Table 1.18): state, abort code and the first offending object. -/
def quoinWord (st code key : Nat) : Nat := st * 2 ^ 28 + code * 2 ^ 24 + (key / 256) * 256 + key % 256

/-- 0x1000.07: safety lock, WD0 hardware start and the number of allow-list entries. -/
def fuseSummary (f : Fuses) : Nat := b2n f.lock + b2n f.wd0 * 2 + f.allow.length * 4

/-- 0x1040.08 (Table 16.3). -/
def fuseWord (f : Fuses) : Nat :=
  b2n f.lock + b2n f.wd0 * 2 + f.allow.length * 4 + b2n f.noDebug * 64 + b2n f.s2412 * 128

/-- WDG_nSTAT: running, window open, warned, first key held, frozen, locked (Table 13.9). -/
def wdgStat (w : Wdg) (count : Nat) : Nat :=
  b2n w.run + b2n (w.run && w.set.w * w.set.t / 8 ≤ count) * 2 + b2n w.warned * 4 + b2n w.key1 * 8
    + b2n w.frozen.isSome * 16 + b2n w.lock * 32

/-- TRC_STAT (Table 12.10): wrapped, stopped full, sleeping, overflow count. -/
def trcStat (t : Trace) : Nat := b2n t.wrapped + b2n t.full * 2 + b2n t.sleeping * 4 + min 65535 t.ovf * 65536

/-- BMX_ERRINFO (Table 12.10): master, ID, write, reason, valid. -/
def errInfo (master id : Nat) (write : Bool) (reason : Nat) : Nat :=
  master + id * 4 + b2n write * 32 + reason * 64 + 256

end Sys2Proof.Machine
end

