-- ==== Sys2Proof/Machine/Wire.lean ====
section
/-!
DEFINITION. What is on the wire of the Ovton link: the line code of a lane (R275 to R284), the lane marker (Table 5.4),
the packet framing (R337 to R341) and the test patterns with their checkers (R310, R311).
-/
namespace Sys2Proof.Machine

/-! ## Bits -/

/-- The `n` low bits of a number in wire order (R276: least significant first). -/
def bitsOf (n w : Nat) : List Bool := (upTo n).map (bit w)

/-- The number that bits in wire order spell. -/
def unbits : List Bool → Nat
  | [] => 0
  | b :: r => b2n b + 2 * unbits r

/-- Bytes as 32-bit words, byte 4w in bits [7:0] of word w (R284). -/
def wordsOf : List Byte → List Nat
  | a :: b :: c :: d :: r => unle [a, b, c, d] :: wordsOf r
  | _ => []

/-! ## Markers -/

/-- R281, R340: the CRC-8 over the `n` low bits of a word, in wire order. -/
def crc8 (n w : Nat) : Nat :=
  (upTo n).foldl (fun crc i =>
    let fb := bit crc 7 != bit w i
    let x := (2 * crc) % 256
    if fb then x ^^^ 0x07 else x) 0xFF

/-- Table 5.4: a lane marker of a logical lane, width code, sleep notice, RX ready, packet mode and block sequence. -/
def markerWord (logical width : Nat) (sleep rdy pm : Bool) (seq : Nat) : Nat :=
  let m := 0xB43CA5D2 + logical % 4 * 2 ^ 32 + width % 4 * 2 ^ 34 + b2n sleep * 2 ^ 36 + b2n rdy * 2 ^ 37
    + b2n pm * 2 ^ 38 + seq % 65536 * 2 ^ 40
  m + crc8 56 m * 2 ^ 56

/-- R290: whether 64 bits are a marker: the constant and the CRC are good. -/
def markerGood (w : Nat) : Bool := bits w 0 32 = 0xB43CA5D2 && crc8 56 w = bits w 56 8

/-- Table 5.4: the width field's code. -/
def widthCode (w : Nat) : Nat := if w = 1 then 0 else if w = 2 then 1 else 2

/-! ## Scrambling and stuffing -/

/-- Table 5.3: the seed of a logical lane. -/
def scramblerSeed (k : Nat) : Nat :=
  match k with
  | 0 => 0x7A3C5E21
  | 1 => 0x1D6BF08C
  | 2 => 0x559327E4
  | _ => 0x28C4A13B

/-- R277: scramble payload bits from a state: the state after them and the line bits. Descrambling is the same. -/
def scramble (s : Nat) : List Bool → Nat × List Bool
  | [] => (s, [])
  | d :: r =>
    let k := bit s 30 != bit s 27
    let p := scramble ((2 * s) % 2 ^ 31 + b2n k) r
    (p.1, (d != k) :: p.2)

/-- R282: send bits with runs limited to 40, from the last bit sent and its run: those after them, and what is sent. -/
def stuff (runBit : Bool) (run : Nat) : List Bool → (Bool × Nat) × List Bool
  | [] => ((runBit, run), [])
  | b :: r =>
    let n := if b = runBit then run + 1 else 1
    if n = 40 then
      let p := stuff (!b) 1 r
      (p.1, b :: (!b) :: p.2)
    else
      let p := stuff b n r
      (p.1, b :: p.2)

/-- R283: receive bits, from the last bit received, its run, and whether the next bit is a stuffed one: those after
them, the bits without the stuffed ones, and the number of stuff errors. -/
def unstuff (runBit : Bool) (run : Nat) (drop : Bool) : List Bool → (Bool × Nat × Bool) × List Bool × Nat
  | [] => ((runBit, run, drop), [], 0)
  | b :: r =>
    if drop then
      let p := unstuff b 1 false r
      (p.1, p.2.1, p.2.2 + b2n (b = runBit))
    else
      let n := if b = runBit then run + 1 else 1
      let p := unstuff b n (n = 40) r
      (p.1, b :: p.2.1, p.2.2)

/-- The transmit side of a lane after payload bits, with the line bits they make. -/
def TxLane.send (t : TxLane) (payload : List Bool) : TxLane × List Bool :=
  let s := scramble t.scr payload
  let p := stuff t.runBit t.run s.2
  ({ t with scr := s.1, runBit := p.1.1, run := p.1.2 }, p.2)

/-- The transmit side of a lane after a marker of logical lane `k`, with the line bits it makes (R277, R278: a marker is
not scrambled, and the scrambler is loaded for the block it opens). -/
def TxLane.mark (t : TxLane) (k w : Nat) : TxLane × List Bool :=
  let p := stuff t.runBit t.run (bitsOf 64 w)
  ({ t with scr := scramblerSeed k, runBit := p.1.1, run := p.1.2 }, p.2)

/-- The transmit side of a lane after `n` payload words of zeros. -/
def TxLane.zeros (t : TxLane) (n : Nat) : TxLane := (t.send (List.replicate (32 * n) false)).1

/-- R278, R283: the payload words of a received block of a logical lane: descrambled, 32 bits each. -/
def rxWords (k : Nat) (payload : List Bool) : List Nat :=
  let b := (scramble (scramblerSeed k) payload).2
  (upTo (payload.length / 32)).map fun i => unbits ((b.drop (32 * i)).take 32)

/-! ## Packets -/

/-- Table 6.1: a packet header, with its CRC (R340). -/
def hdrWord (ty vc len seq a b : Nat) : Nat :=
  let h := ty % 16 + vc % 4 * 2 ^ 4 + len % 2048 * 2 ^ 8 + seq % 4096 * 2 ^ 20 + a % 65536 * 2 ^ 32 + b % 256 * 2 ^ 48
  h + crc8 56 h * 2 ^ 56

/-- R387: whether 64 bits serve as a header: the CRC is good and the length at most 1,024. -/
def hdrGood (h : Nat) : Bool := crc8 56 h = bits h 56 8 && decide (bits h 8 11 ≤ 1024)

/-- R338: a payload padded with zeros to a multiple of 8. -/
def pad8 (b : List Byte) : List Byte := b ++ zeros ((8 - b.length % 8) % 8)

/-- R338, R339: the header and the padded payload of a packet, byte by byte. -/
def pktBody (ty vc seq a b : Nat) (payload : List Byte) : List Byte :=
  le 8 (hdrWord ty vc payload.length seq a b) ++ pad8 payload

/-- R341: the trailer of a packet. -/
def pktCrc (ty vc seq a b : Nat) (payload : List Byte) : Nat := crc32c (pktBody ty vc seq a b payload)

/-- R338: the words of a packet; an IDLE packet is its header alone. -/
def pktWords (ty vc seq a b : Nat) (payload : List Byte) : List Nat :=
  let body := pktBody ty vc seq a b payload
  wordsOf (if ty = 0 then body else body ++ le 4 (crc32c body))

/-- R341, R389: whether the trailer of a packet received as a type on a virtual channel is good; IDLE has none. -/
def pktSound (ty vc : Nat) (k : Pkt) : Bool := ty = 0 || k.crc = pktCrc ty vc k.seq k.fieldA k.fieldB k.payload

/-- R337: a block pointer word. -/
def pointerWord (n : Nat) : Nat := n % 65536 + (65535 - n % 65536) * 65536

/-- R337, R388: whether a block pointer's halves are complements. -/
def pointerGood (w : Nat) : Bool := bits w 0 16 + bits w 16 16 = 65535

/-- R102: an ITP message in a host frame without its CRC: identifier, length, two zeros, the message. -/
def bareFrame (id : Nat) (data : List Byte) : List Byte := le 4 id ++ le 2 data.length ++ zeros 2 ++ data

/-! ## Test patterns (R310, R311) -/

/-- R310: the length and the taps of a PRBS pattern. -/
def prbsTaps (pattern : Nat) : Nat × Nat × Nat :=
  if pattern = 1 then (7, 6, 5) else if pattern = 2 then (15, 14, 13) else (31, 30, 27)

/-- R310: the next bit of a PRBS pattern from a state. -/
def prbsBit (pattern s : Nat) : Bool := bit s (prbsTaps pattern).2.1 != bit s (prbsTaps pattern).2.2

/-- R310: the state a bit is shifted into. -/
def prbsShift (pattern s : Nat) (b : Bool) : Nat := (2 * s) % 2 ^ (prbsTaps pattern).1 + b2n b

/-- R310: `n` bits of a PRBS pattern from a state. -/
def prbs (pattern : Nat) : Nat → Nat → List Bool
  | 0, _ => []
  | n + 1, s => prbsBit pattern s :: prbs pattern n (prbsShift pattern s (prbsBit pattern s))

/-- A PRBS checker: its register, the run of error-free bits, whether it has locked, bits checked and errors. -/
structure Chk where
  s : Nat := 0
  run : Nat := 0
  locked : Bool := false
  n : Nat := 0
  errs : Nat := 0
  deriving DecidableEq, Repr

/-- R311: one received bit: before lock the register takes what is received; after 64 error-free bits in a row it runs on
its own and every differing bit is an error. -/
def Chk.step (pattern : Nat) (x : Chk) (b : Bool) : Chk :=
  let k := prbsBit pattern x.s
  if x.locked then { x with s := prbsShift pattern x.s k, n := x.n + 1, errs := x.errs + b2n (b != k) }
  else
    let run := if b = k && x.s ≠ 0 then x.run + 1 else 0
    { x with s := prbsShift pattern x.s b, run := run, locked := decide (64 ≤ run) }

/-- R310: the check of normal blocks with zero payload on logical lane `k`: unstuffed bits, block by block; a bad marker
and every payload bit that is not 0 after descrambling is an error. -/
def checkBlocks (k : Nat) : Nat → Chk → List Bool → Chk
  | 0, x, _ => x
  | f + 1, x, b =>
    if b.length < 64 then x
    else
      let w := unbits (b.take 64)
      let good := markerGood w && bits w 32 2 = k
      let pay := (b.drop 64).take 32768
      let bad := ((scramble (scramblerSeed k) pay).2.filter id).length
      let x := if x.locked || good then { x with locked := true, n := x.n + 64 + pay.length, errs := x.errs + b2n (!good) + bad } else x
      checkBlocks k f x ((b.drop 64).drop 32768)

/-- The checker's result on the line bits received on logical lane `k` in a test of a pattern. -/
def checkLine (pattern k : Nat) (line : List Bool) : Chk :=
  if pattern = 0 then
    let b := (unstuff false 0 false line).2.1
    checkBlocks k (b.length / 32832 + 1) {} b
  else line.foldl (Chk.step pattern) {}

end Sys2Proof.Machine
end

