-- ==== Sys2Proof/Machine/Ops.lean ====
section
/-!
DEFINITION. The shared operations: the object store, events and the log FIFO (ch 13), sending messages (ch 1), the
safety collector's detections (ch 15), taking a reset (ch 16), and the frame every command's meaning has (`act`).
-/
namespace Sys2Proof.Machine

/-- What a command's effect may read beside the device: local time, the free-value counter, the variant, the fuse
cells, and local time at the command before. -/
structure Ctx where
  t : Nat
  seed : Nat
  s12 : Bool
  cells : Fuses
  t0 : Nat

/-! ## The object store -/

/-- The stored value of a key in a list of keys and values. -/
def find (m : List (Nat × Val)) (k : Nat) : Option Val :=
  match m with
  | [] => none
  | (a, v) :: r => if a = k then some v else find r k

/-- The list with the key at the value, keys rising. -/
def put (m : List (Nat × Val)) (k : Nat) (v : Val) : List (Nat × Val) :=
  match m with
  | [] => [(k, v)]
  | (a, w) :: r => if a = k then (k, v) :: r else if k < a then (k, v) :: (a, w) :: r else (a, w) :: put r k v

/-- The list without the key. -/
def del (m : List (Nat × Val)) (k : Nat) : List (Nat × Val) :=
  match m with
  | [] => []
  | (a, w) :: r => if a = k then del r k else (a, w) :: del r k

/-- The value of an object: the stored one, or its default (R37). -/
def Dev.get (d : Dev) (k : Nat) : Val := (find d.obj k).getD (dflt k)

/-- The device with an object at a value; a default is not stored (the canonical form). -/
def Dev.set (d : Dev) (k : Nat) (v : Val) : Dev :=
  if v = dflt k then { d with obj := del d.obj k } else { d with obj := put d.obj k v }

/-- R941: a key that is written leaves the sets held aside. -/
def Dev.dropAside (d : Dev) (k : Nat) : Dev :=
  if d.rst.aside.isEmpty then d
  else { d with rst := { d.rst with aside := d.rst.aside.map fun g => (g.1, g.2.filter fun e => e.1 ≠ k) } }

/-- An object's number. -/
def Dev.int (d : Dev) (k : Nat) : Int := (d.get k).int

/-- An object's number, as a natural number. -/
def Dev.nat (d : Dev) (k : Nat) : Nat := (d.int k).toNat

/-- An object's bytes. -/
def Dev.raw (d : Dev) (k : Nat) : List Byte := (d.get k).raw

/-- An object's flag. -/
def Dev.flag (d : Dev) (k : Nat) : Bool := d.int k ≠ 0

/-- Set an object to a natural number. -/
def Dev.setN (d : Dev) (k n : Nat) : Dev := d.set k (.num n)

/-- Set an object to an integer. -/
def Dev.setI (d : Dev) (k : Nat) (n : Int) : Dev := d.set k (.num n)

/-- Set an object to bytes. -/
def Dev.setB (d : Dev) (k : Nat) (b : List Byte) : Dev := d.set k (.bytes b)

/-- Count one more in a U32 counter. -/
def Dev.inc (d : Dev) (k : Nat) : Dev := d.setN k ((d.nat k + 1) % 2 ^ 32)

/-- R25: a retry that succeeded is counted (0x9300.04). -/
def Dev.transient (d : Dev) : Dev := d.inc 0x9300_04

/-- Count `n` more in a counter of `w` bits. -/
def Dev.addTo (d : Dev) (k w n : Nat) : Dev := d.setN k ((d.nat k + n) % 2 ^ w)

/-- Set each key to its default. -/
def Dev.clear (d : Dev) (ks : List Nat) : Dev := ks.foldl (fun d k => d.set k (dflt k)) d

/-- The key of sub-index `sub` of instance `n` of the table at `base`. -/
def key (base n sub : Nat) : Nat := (base + n) * 256 + sub

/-- The epoch (0x1050.02). -/
def Dev.epoch (d : Dev) : Nat := d.nat 0x1050_02

/-- R131: the epoch increments, modulo 65,536. -/
def Dev.bumpEpoch (d : Dev) : Dev := d.setN 0x1050_02 ((d.epoch + 1) % 65536)

/-! ## Sending (ch 1) -/

/-- Whether a CAN FD channel sends and receives: enabled in 0x1010.07 and not lost (R118). -/
def Dev.chanOn (d : Dev) (ch : Nat) : Bool :=
  bit (d.nat 0x1010_07) ch && !(if ch = 0 then d.itp.can0.lost else d.itp.can1.lost)

/-- Add to what the command sends. -/
def Dev.emit (d : Dev) (o : Out) : Dev := { d with out := d.out ++ [o] }

/-- R70: a message in a CAN FD frame of a channel, padded to a valid data length. -/
def Dev.sendCan (d : Dev) (ch : Nat) (m : Msg) : Dev :=
  if d.chanOn ch then d.emit (.can ch { m with data := fdPad m.data }) else d

/-- Send on each of the two channels that is on. -/
def Dev.sendBoth (d : Dev) (m : Msg) : Dev := (d.sendCan 0 m).sendCan 1 m

/-- The frames queued for the host, the one being sent included (R101, R588). -/
def Dev.hostDepth (d : Dev) : Nat := d.itp.hostQ.length + b2n d.host.cur.isSome

/-- An EMERGENCY among frames for the host. -/
def HostMsg.urgent (m : HostMsg) : Bool := m.msg.cls = 0x11

/-- R101, R594: a frame for the host; 32 places, 8 of them kept for responses and EMERGENCY frames, and EMERGENCY goes
ahead of all others not yet started. A dropped EVENT is counted in 0x9200.05; a response or EMERGENCY that finds all 32
places taken is dropped and counted nowhere (DESIGN CHOICE, log entry 124). -/
def Dev.toHost (d : Dev) (kept front : Bool) (m : Msg) : Dev :=
  let others := ((d.host.cur.toList ++ d.itp.hostQ).filter fun x => !x.kept).length
  if !bit (d.nat 0x1010_07) 2 then d
  else if kept && d.hostDepth < 32 then
    let q := d.itp.hostQ
    let q := if front then q.filter HostMsg.urgent ++ ⟨true, m⟩ :: q.filter fun x => !x.urgent else q ++ [⟨true, m⟩]
    { d with itp := { d.itp with hostQ := q } }
  else if !kept && d.hostDepth < 32 && others < 24 then
    { d with itp := { d.itp with hostQ := d.itp.hostQ ++ [⟨false, m⟩] } }
  else if kept then d
  else d.inc 0x9200_05

/-- R613, R801, Table 16.2: whether the host port runs: from the boot after a cold or system reset, through a control
reset, not in STANDBY. -/
def Dev.hostRuns (d : Dev) : Bool :=
  (d.rst.stage = .up || (d.rst.stage = .released && d.rst.scope = 3))
    && d.pwr.st ≠ .standby && d.pwr.st ≠ .hibernate && d.pwr.st ≠ .off

/-- R581: whether the port stretches: the first word of a frame is due and none of the 4 receive buffers is free (Table
12.12: not while the hart is halted, nor, by R610, in a control reset, where frames are discarded). -/
def Dev.hostFull (d : Dev) : Bool :=
  d.host.op = 2 && d.host.buf.isEmpty && decide (4 ≤ d.host.frames.length) && !d.core.halted && d.rst.stage = .up

/-! ## Events (ch 13) -/

/-- The routing byte of a source in force (R757, R786). -/
def Dev.route (d : Dev) (ev : Nat) : Nat :=
  match d.evc.routes with
  | [] => (((defaultRoutes[ev]?).getD 0#8)).toNat
  | r => ((r[ev]?).getD 0#8).toNat

/-- R766, R767: a raise takes its place in the FIFO: in raise order, raises of one tick in ascending event number. -/
def fifoIns (m : EvMsg) (q : List EvMsg) : List EvMsg :=
  let late := fun (x : EvMsg) => x.t = m.t && x.epoch = m.epoch && m.ev < x.ev
  q.filter (fun x => !late x) ++ m :: q.filter late

/-- R767, R768: a raise enters the FIFO of 16, or counts in its source's overflow counter, saturating at 255. -/
def Log.push (l : Log) (m : EvMsg) : Log × Bool :=
  if l.fifo.length < 16 && l.ovr.isEmpty then ({ l with fifo := fifoIns m l.fifo }, false)
  else
    let first := if l.ovr.isEmpty then (m.epoch, m.t) else l.first
    let ovr :=
      if l.ovr.any fun p => p.1 = m.ev then l.ovr.map fun p => if p.1 = m.ev then (p.1, min 255 (p.2 + 1)) else p
      else (l.ovr.filter fun p => p.1 < m.ev) ++ (m.ev, 1) :: (l.ovr.filter fun p => m.ev < p.1)
    ({ l with ovr := ovr, first := first }, true)

/-- R761: whether a raise at `t` comes less than the hold-off after the raise whose message was last sent. -/
def tooSoon (last : Option Nat) (t hold : Nat) : Bool :=
  match last with
  | some t0 => decide (t < t0 + hold)
  | none => false

/-- R756 to R768: raise an event with a detail and a clear flag: count it, keep the detail, then the pending bit, the
message and the log record its routing byte asks for. -/
def Dev.raiseF (d : Dev) (c : Ctx) (clr : Bool) (ev detail : Nat) : Dev :=
  let r := d.route ev
  let e := d.evc
  let m : EvMsg := ⟨ev, clr, d.epoch, c.t, detail⟩
  let e := { e with raises := modifyAt (fun n => (n + 1) % 2 ^ 32) ev e.raises, details := modifyAt (fun _ => detail) ev e.details }
  let e := if bit r 2 then { e with pend := e.pend ||| 2 ^ ev } else e
  let d := { d with evc := e }
  let d :=
    if bit r 3 then
      if tooSoon ((e.lastSent[ev]?).getD none) c.t (d.nat 0x9200_03 * 400000) then d.inc 0x9200_04
      else if 32 ≤ e.msgs.length then d.inc 0x9200_05
      else { d with evc := { e with msgs := e.msgs ++ [m], lastSent := modifyAt (fun _ => some c.t) ev e.lastSent } }
    else d
  if bit r 4 then
    let p := d.log.push m
    let d := { d with log := p.1 }
    if p.2 then d.inc 0x9400_05 else d
  else d

/-- Raise an event. -/
def Dev.raise (d : Dev) (c : Ctx) (ev detail : Nat) : Dev := d.raiseF c false ev detail

/-- R946: the clear raise of an event. -/
def Dev.raiseClr (d : Dev) (c : Ctx) (ev detail : Nat) : Dev := d.raiseF c true ev detail

/-- The message bytes of an EVENT (R94). -/
def evBytes (m : EvMsg) : List Byte :=
  [byte m.ev, byte (b2n m.clear)] ++ le 2 m.epoch ++ le 8 m.t ++ le 4 m.detail

/-- R760: the queued EVENTs go out on CAN FD and to the host. -/
def Dev.sendEvents (d : Dev) : Dev :=
  d.evc.msgs.foldl (fun d m =>
    let msg : Msg := ⟨1, 0x10, 255, none, evBytes m⟩
    (d.sendBoth msg).toHost false false msg) { d with evc := { d.evc with msgs := [] } }

/-! ## The log (ch 13) -/

/-- R764: the sequence that follows. -/
def seqNext (n : Nat) : Nat := if n + 1 = 2 ^ 32 then 1 else n + 1

/-- R763, R765: commit a record; the newest replaces the oldest of 512. -/
def Log.commit (l : Log) (ev flags epoch t : Nat) (body : List Byte) : Log :=
  let recs := l.recs ++ [⟨l.next, ev, flags, epoch, t, body, false⟩]
  { l with recs := recs.drop (recs.length - 512), next := seqNext l.next }

/-- R766, R768: the writer's next record: the FIFO's oldest, or, once it has emptied, a flood summary of up to six
sources. Answers whether it wrote a summary. -/
def Log.write1 (l : Log) : Log × Bool :=
  match l.fifo with
  | m :: r =>
    (({ l with fifo := r }).commit m.ev (b2n m.clear) m.epoch m.t (le 4 m.detail ++ zeros 8), false)
  | [] =>
    if l.ovr.isEmpty then (l, false)
    else
      let now := l.ovr.take 6
      let rest := l.ovr.drop 6
      let pairs := (now.map fun p => [byte p.1, byte p.2]).flatten ++ (List.replicate (6 - now.length) [0xFF#8, 0x00#8]).flatten
      (({ l with ovr := rest }).commit 0xFE (b2n !rest.isEmpty) l.first.1 l.first.2 pairs, true)

/-- The log writer takes one record. -/
def Dev.logWrite1 (d : Dev) : Dev :=
  let p := d.log.write1
  let d := { d with log := p.1 }
  if p.2 then d.inc 0x9400_06 else d

/-- R780: every record of the FIFO and every summary due is committed (at most 16 of each). -/
def Dev.logFlush (d : Dev) : Dev := (upTo 32).foldl (fun d _ => d.logWrite1) d

/-! ## Trace (ch 12) -/

/-- Whether the trace writer takes packets: enabled (0xA200.01), not asleep, not stopped by a halt, not stopped full
(R716, R719, R725). -/
def Dev.tracing (d : Dev) : Bool :=
  d.flag 0xA200_01 && !d.trace.sleeping && !d.trace.halted && !d.trace.full && d.rst.stage = .up

/-- How many bytes a packet takes, by its header byte (Table 12.9). -/
def packetLen (h : Nat) : Nat :=
  match h / 16 with
  | 1 => 6
  | 2 => 1 + (h % 16 + 7) / 8
  | 3 => 1 + h % 16
  | 4 => 10
  | 5 | 7 | 8 | 10 | 11 => 11
  | 6 => 5
  | 9 => 3
  | _ => 1

/-- Where the first whole packet starts at or after offset `upto`, walking whole packets from offset `p`. -/
def nextPacket (buf : List Byte) : Nat → Nat → Nat → Nat
  | 0, p, _ => p
  | f + 1, p, upto => if upto ≤ p then p else nextPacket buf f (p + packetLen ((buf[p]?).getD 0#8).toNat) upto

/-- R716: one packet to the buffer; in stop mode the writer stops at the first that would leave fewer than 3 bytes and
writes OVERFLOW there. -/
def Trace.write (t : Trace) (stop : Bool) (b : List Byte) : Trace :=
  if t.full then t
  else
    let full := stop && decide (65536 < t.buf.length + b.length + 3)
    let b := if full then [0x90#8] ++ le 2 1 else b
    let buf := t.buf ++ b
    let w := t.wptr + b.length
    let gone := buf.length - 65536
    { t with buf := buf.drop gone, skip := nextPacket buf 65536 t.skip gone - gone, wptr := w % 65536, wrapped := t.wrapped || decide (65536 ≤ w), full := full
             since := t.since + b.length, ovf := if full then t.ovf + 1 else t.ovf }

/-- R715: pending branches as a BRANCH packet. -/
def Trace.flush (t : Trace) (stop : Bool) : Trace :=
  if t.branches.isEmpty then t
  else
    let n := t.branches.length
    let v := (t.branches.zipIdx).foldl (fun s p => s + b2n p.1 * 2 ^ p.2) 0
    { (t.write stop ([byte (0x20 + n)] ++ le ((n + 7) / 8) v)) with branches := [] }

/-- A packet of the trace, pending branches before it (R715). -/
def Dev.trc (d : Dev) (b : List Byte) : Dev :=
  if d.tracing then
    let stop := d.nat 0xA200_02 = 1
    { d with trace := (d.trace.flush stop).write stop b }
  else d

/-- The time field of a packet (Table 12.9). -/
def Dev.stampBytes (d : Dev) (c : Ctx) : List Byte := le 8 c.t ++ le 2 d.epoch

/-- R715: a SYNC of a reason, and a TIME where 0xA200.03[4] asks for one. -/
def Dev.trcSync (d : Dev) (c : Ctx) (reason : Nat) : Dev :=
  if d.tracing then
    let d := d.trc ([byte (0x10 + reason)] ++ le 4 d.core.pc ++ [byte d.core.priv])
    let d := { d with trace := { d.trace with since := 0, lastAddr := d.core.pc } }
    if bit (d.nat 0xA200_03) 4 then d.trc ([0x50#8] ++ d.stampBytes c) else d
  else d

/-- R713, R715: a START packet and the SYNC of trace start. -/
def Dev.trcStart (d : Dev) (c : Ctx) (info : Nat) : Dev := (d.trc ([byte (0xB0 + info)] ++ d.stampBytes c)).trcSync c 1

/-- The agent's trap handler: it lies in the boot ROM, whose contents the spec does not give (free). -/
def agentHandler : Nat := Config.free 0 2100 % 2 ^ 32

/-- R713: a TRAP packet where 0xA200.03[2] asks for traps. -/
def Dev.trcTrap (d : Dev) (intr : Bool) (cause epc : Nat) : Dev :=
  if bit (d.nat 0xA200_03) 2 && d.tracing then
    let d := d.trc ([byte (0x40 + b2n intr), byte cause] ++ le 4 epc ++ le 4 agentHandler)
    { d with trace := { d.trace with lastAddr := agentHandler } }
  else d

/-! ## Application interrupts (ch 12, ch 13) -/

/-- R759: the highest enabled level with a pending source, and that level's lowest-numbered source. -/
def Dev.irqClaim (d : Dev) : Option (Nat × Nat) :=
  let best := fun (l : Nat) => (upTo 96).find? fun e => bit d.evc.pend e && d.route e % 4 = l
  let pick := fun (l : Nat) => if bit d.evc.mask l then (best l).map fun e => (l, e) else none
  match pick 3 with
  | some p => some p
  | none => match pick 2 with
    | some p => some p
    | none => match pick 1 with
      | some p => some p
      | none => pick 0

/-- Whether the core runs the application: it is running, nothing halts the hart, and the core is clocked. -/
def Dev.appRuns (d : Dev) : Bool :=
  d.nat 0xA000_05 = 2 && !d.core.halted && d.rst.stage = .up && d.pwr.st = .run

/-- R684, R759, Table 12.1: a wait ends once an interrupt is pending at an enabled level, and a level above that of the
running handler enters the handler in user mode, a0 the event, a1 the level. Where the application was not waiting, its
interrupted program counter and registers are what its instructions left, which no command carries (free). -/
def Dev.dispatch (d : Dev) (c : Ctx) : Dev :=
  if !d.appRuns then d
  else
    match d.irqClaim with
    | none => d
    | some (l, e) =>
      let k := d.core
      let pc := if k.waiting then k.userPc else Config.free c.seed 2103 % 2 ^ 32
      let x := if k.waiting then k.x else (upTo 32).map fun i => if i = 0 then 0 else Config.free c.seed (2200 + i) % 2 ^ 32
      let k := { k with waiting := false }
      let lower := match k.ctxs with | [] => true | x :: _ => decide (x.level < l)
      if k.handler = 0 || !lower then { d with core := k }
      else
        let d := d.trcTrap true 11 pc
        let regs := modifyAt (fun _ => l) 11 (modifyAt (fun _ => e) 10 x)
        { d with core := { k with ctxs := ⟨pc, x, l⟩ :: k.ctxs, pc := k.handler, userPc := pc, x := regs, priv := 0 } }

/-! ## Detections (ch 15) -/

/-- Table 15.3: class of a code (0x0F: 2 when a genlock-timed safety forme is enabled, else 1). -/
def Dev.classOf (d : Dev) (code : Nat) : Nat :=
  if code = 0x01 || code = 0x02 || code = 0x07 || code = 0x08 || code = 0x0C || code = 0x0E then 3
  else if code = 0x04 || code = 0x0D || code = 0x13 || code = 0x17 || code = 0x18 then 1
  else if code = 0x0F then
    if (upTo 24).any fun n => d.flag (key 0x5000 n 0x01) && d.flag (key 0x5000 n 0x0B) && d.nat (key 0x5000 n 0x09) = 0 then 2 else 1
  else 2

/-- Table 15.3: the event named beside a code. -/
def evOf (code : Nat) : Nat :=
  match code with
  | 0x01 => 2 | 0x02 => 3 | 0x03 => 3 | 0x04 => 4 | 0x05 => 5 | 0x06 => 6 | 0x07 => 6 | 0x08 => 7 | 0x09 => 8 | 0x0A => 8
  | 0x0B => 9 | 0x0C => 12 | 0x0D => 12 | 0x0E => 0 | 0x0F => 38 | 0x10 => 48 | 0x11 => 49 | 0x12 => 55 | 0x13 => 56
  | 0x14 => 57 | 0x15 => 88 | 0x16 => 83 | 0x17 => 42 | 0x18 => 54 | _ => 8

/-- The system-reset cause of a class 3 code (Table 16.1). -/
def escalCause (code : Nat) : Nat :=
  if code = 0x0C then 5 else if code = 0x01 then 6 else if code = 0x02 then 7 else 8

/-- R856: the cause word. -/
def causeWord (code inst : Nat) : Nat := code + inst * 256

/-- R95, R856: EMERGENCY of a detection, on both channels (R89) and to the host ahead of all frames. -/
def Dev.emergency (d : Dev) (c : Ctx) (cls ev word : Nat) : Dev :=
  let m : Msg := ⟨0, 0x11, 255, none, [byte cls, byte ev] ++ le 2 d.epoch ++ le 8 c.t ++ le 4 word⟩
  (d.sendBoth m).toHost true true m

/-- Ask for a reset of a cause code (Table 16.1); it is taken at the end of the command (R889). -/
def Dev.wantReset (d : Dev) (cause : Nat) : Dev := { d with rst := { d.rst with want := cause :: d.rst.want } }

/-- The safety state (0x9000.01): 0 START-UP SAFE, 1 NORMAL, 2 SAFE. -/
def Dev.safety (d : Dev) : Nat := d.nat 0x9000_01

/-- Whether the device is in the safe state (R845). -/
def Dev.isSafe (d : Dev) : Bool := d.safety ≠ 1

/-- R858: what the entry records. -/
def Dev.recordEntry (d : Dev) (c : Ctx) (word : Nat) : Dev :=
  ((d.setN 0x9000_03 word).setN 0x9000_04 c.t).setN 0x9000_05 d.epoch

/-- R845, R855, R858: entry to SAFE from NORMAL. -/
def Dev.enterSafe (d : Dev) (c : Ctx) (word : Nat) : Dev :=
  let d := { d with saf := { d.saf with latchA := true, latchB := true } }
  if d.safety = 1 then
    let d := { (d.setN 0x9000_01 2) with saf := { d.saf with entered := true } }
    let d := (d.recordEntry c word).inc 0x9300_02
    (d.setN 0x9000_0B 0).raise c 0 word
  else d

/-- R844, R854 to R859: a detection of a code with an instance. -/
def Dev.detect (d : Dev) (c : Ctx) (code inst : Nat) : Dev :=
  let cls := d.classOf code
  let word := causeWord code inst
  let d := { d with saf := { d.saf with detT := some c.t } }
  let had := d.saf.conds.any fun p => p = (code, inst)
  let cnts := d.raw 0x9300_01
  let cnts := if cnts.isEmpty then zeros 128 else cnts
  let d := d.setB 0x9300_01 (cnts.take (4 * code) ++ le 4 (fld cnts (4 * code) 4 + 1) ++ cnts.drop (4 * code + 4))
  let d := if 2 ≤ cls then d.enterSafe c word else d
  let d := if d.safety = 2 then d.setN 0x9000_0B (min 65535 (d.nat 0x9000_0B + 1)) else d
  let d := if cls = 2 && code ≠ 0x06 then d.setN 0x9000_06 (d.nat 0x9000_06 ||| 2 ^ code) else d
  let d := if had then d else { d with saf := { d.saf with conds := d.saf.conds ++ [(code, inst)] } }
  let d :=
    if cls = 0 || had then d
    else if code = 0x02 then { d with saf := { d.saf with late := d.saf.late ++ [(cls, evOf code, word)] } }
    else d.emergency c cls (evOf code) word
  -- codes that are single occurrences keep no condition
  let d :=
    if code = 0x06 || cls = 3 || code = 0x0D || code = 0x13 || code = 0x17 || code = 0x18 then
      { d with saf := { d.saf with conds := d.saf.conds.filter fun p => p ≠ (code, inst) } }
    else d
  if cls = 3 then (((d.inc 0x9300_03).recordEntry c word).wantReset (escalCause code)) else d

/-- R862: a condition ends; its bit falls when no instance of the code is left. -/
def Dev.endCond (d : Dev) (code inst : Nat) : Dev :=
  let conds := d.saf.conds.filter fun p => p ≠ (code, inst)
  let d := { d with saf := { d.saf with conds := conds } }
  if conds.any fun p => p.1 = code then d else d.setN 0x9000_06 (setBit (d.nat 0x9000_06) code false)

/-- "configuration mismatch held" for a held set named by its lowest-indexed object (R53, Table 13.3a). -/
def Dev.held (d : Dev) (c : Ctx) (k : Nat) : Dev := d.raise c 26 k

/-- The clear raise of a held set. -/
def Dev.unheld (d : Dev) (c : Ctx) (k : Nat) : Dev := d.raiseClr c 26 k

/-! ## Resets (ch 16) -/

/-- The scope of a cause (Table 16.1), as 0x1040.02 codes it. -/
def scopeOf (cause : Nat) : Nat := if cause ≤ 1 then 0 else if cause ≤ 4 then 1 else if cause ≤ 8 then 2 else 3

/-- Objects kept in AON (Table 16.2 and the tables' own marks). -/
def aonKey (k : Nat) : Bool :=
  k = 0x2000_04 || k = 0x2000_05 || k = 0x9000_03 || k = 0x9000_04 || k = 0x9000_05 || k = 0x9300_01 || k = 0x9300_02
  || k = 0x9300_03 || k = 0x9100_0B || k = 0x9101_0B || k = 0x9100_0C || k = 0x9101_0C || k / 256 = 0x1040 || k = 0xA000_07
  || k = 0x8500_07 || k = 0x8500_08 || k = 0x8000_09 || k = 0x7000_1A || k = 0x1050_02

/-- Objects of the timebase that a system reset keeps beside AON (R167). -/
def timeKey (k : Nat) : Bool :=
  k = 0x1050_03 || k = 0x1050_0B || k = 0x1050_0D || k = 0x1050_0E || k = 0x1050_0F

/-- R882, R883: the reset-cause record, made as the reset takes hold. -/
def Dev.recordReset (d : Dev) (c : Ctx) (cause : Nat) (held : Bool) : Dev :=
  let sc := scopeOf cause
  let d := (((d.setN 0x1040_01 cause).setN 0x1040_02 sc).setN 0x1040_04 c.t).setN 0x1040_05 d.epoch
  let d := (d.setN 0x1040_0A (b2n held)).setN 0x1040_03 (sc + cause * 4 + b2n held * 128)
  { d with rst := { d.rst with hist := (⟨cause, sc, held, d.epoch, c.t⟩ :: d.rst.hist).take 8 } }

/-- Count causes in 0x1040.06. -/
def Dev.countCauses (d : Dev) (cs : List Nat) : Dev :=
  { d with rst := { d.rst with counts := cs.foldl (fun l x => modifyAt (fun n => (n + 1) % 2 ^ 32) x l) d.rst.counts } }

/-- Conditions that outlive a cold or system reset: those that only a passed self-test ends, and those whose cause lies
outside the device (R862). -/
def keepCond (p : Nat × Nat) : Bool := p.1 = 0x09 || p.1 = 0x0A || p.1 = 0x19 || p.1 = 0x05 || p.1 = 0x0B

/-- The AON retained area (Table 12.2). -/
def aonAddr (a : Nat) : Bool := decide (0x2100_0000 ≤ a) && decide (a < 0x2100_8000)

/-- The control domain through any reset: core, staged set, agent, events (R125, R708, R740, R786); what 0xA000.0A and
0xA000.0B read stays (R37). -/
def Dev.resetControl (d : Dev) : Dev :=
  { d with
    core := { rr := d.core.rr, errAddr := d.core.errAddr, errInfo := d.core.errInfo, errCnt := d.core.errCnt, noStart := d.core.noStart, appCause := d.core.appCause, appStart := d.core.appStart,
              dbg := d.core.dbg, mem := d.core.mem.filter fun p => aonAddr p.1 }
    evc := { raises := d.evc.raises, details := List.replicate 96 0, msgs := d.evc.msgs }
    log := { d.log with fifo := [], ovr := [] }
    wd1 := { restartT := d.wd1.restartT, held := d.wd1.held } }

/-- R879, Table 16.2: a control reset. An armed quoin keeps its snapshot; everything else staged is lost (R124). -/
def Dev.controlReset (d : Dev) : Dev :=
  let q := d.itp.quoin
  let armed := q.st = .armed
  let d := if armed then d else d.setN 0x1030_04 0
  let d := d.setN 0x1020_03 0
  let d := { d with itp := { d.itp with
    hbCount := 0, staged := [], quoin := (if armed then q else {}), saveWait := false, saveSnap := none, waiting := [],
    restoring := (if armed && q.restore then d.itp.restoring else []), segs := [], resp := [], hist := [],
    hostQ := [] } }
  let d := d.addTo 0x7010_0D 32 d.host.frames.length
  let d := { d with host := { d.host with cur := none, pos := 0, frames := [] } }
  let slots := d.title.slots.map fun x => { x with pb := (if x.flush.isSome then x.pb else none), readers := [], writers := [] }
  let d := { d with title := { d.title with slots := slots } }
  let d := d.resetControl
  { d with rst := { d.rst with stage := .released, scope := 3 }
           wd0 := { d.wd0 with key1 := false, warned := false } }

/-- Table 16.2: a cold or system reset of everything that is not kept. `aon` false: a power-on reset. -/
def Dev.fullReset (d : Dev) (aon cold keepPins : Bool) : Dev :=
  let fresh : Dev := {}
  { fresh with
    obj := if aon then d.obj.filter fun p => aonKey p.1 || (!cold && timeKey p.1) else []
    bankA := d.bankA
    bankB := d.bankB
    slot0 := d.slot0
    slot1 := d.slot1
    itp := { fresh.itp with can0 := {}, can1 := {} }
    clk := if cold then {} else { d.clk with edges := [], pllTries := 0, step := none }
    core := { dbg := (if aon then d.core.dbg else {}), mem := (if aon then d.core.mem.filter fun p => aonAddr p.1 else []) }
    trace := if cold then {} else d.trace
    title := if aon then { slots := d.title.slots.map fun x => { aon := x.aon } } else {}
    log := if aon then { d.log with fifo := [], ovr := [] } else {}
    pwr := { rails := if keepPins then d.pwr.rails.map fun r => { ({} : Rail) with pen := r.pen, pg := r.pg }
                      else d.pwr.rails.map fun r => { ({} : Rail) with pg := r.pg }
             seats := if keepPins then d.pwr.seats.map fun r => { ({} : Seat) with en := r.en, set := r.set } else List.replicate 8 {}
             at105 := if aon then d.pwr.at105 else 0, at125 := if aon then d.pwr.at125 else 0
             gpioIn := d.pwr.gpioIn, supOut := d.pwr.supOut, absent := d.pwr.absent }
    saf := { conds := d.saf.conds.filter keepCond, late := d.saf.late, reqLow := d.saf.reqLow }
    evc := { fresh.evc with msgs := d.evc.msgs }
    rst := { d.rst with stage := .released, want := [], noApp := false, fmOff := false, video := false, autorun := false }
    pins := d.pins
    out := d.out }

/-- Whether a save runs or waits (R60). -/
def Dev.saving (d : Dev) : Bool :=
  let st := d.nat 0x1020_03 / 2 ^ 28
  d.itp.saveWait || (decide (1 ≤ st) && decide (st ≤ 5))

/-- R879: the active bits of the conditions that outlive a reset. -/
def Dev.restoreConds (d : Dev) : Dev :=
  d.setN 0x9000_06 (d.saf.conds.foldl (fun n p => n ||| 2 ^ p.1) 0)

/-- R897: whether a system reset of a cause is held. -/
def Dev.holds (d : Dev) (c : Ctx) (cause : Nat) : Bool :=
  d.flag 0x1040_0A ||
  match d.rst.lastSys with
  | some (k, some t5) => k = cause && c.t ≤ t5 + 60 * 400000000
  | _ => false

/-- R131, R162: whether local time advances: TBCLK or, in STANDBY, the XO counts. From a cold reset, a CMON alarm or
HIBERNATE to the lock of the root PLL neither does (Table 2.7). -/
def Dev.ticking (d : Dev) : Bool :=
  (d.clk.tb || (d.pwr.st = .standby && d.rst.stage = .up))
    && !(d.rst.stage = .off || d.rst.stage = .inReset || d.pwr.st = .hibernate || d.pwr.st = .off)

/-- R797: whether the video blocks are down: in STANDBY, and at its exit until the rails are up again. -/
def Dev.videoDown (d : Dev) : Bool := d.pwr.st = .standby || d.pwr.waking

/-- R134: the count local time shows where TBCLK would have made `tau` ticks: in STANDBY, from the first XO edge after
the entry, it stands at the last XO edge, 16 ticks apart. -/
def Dev.shown (d : Dev) (tau : Nat) : Nat :=
  let e := tau - (tau + 16 - d.clk.xo % 16) % 16
  if d.pwr.st = .standby && decide (d.clk.sbT ≤ e) then e else tau

/-- R876 to R897: take the reset the command asked for: the widest scope, the lowest code, the others counted; a
control source before step 5 of a cold or system restart is discarded and counted (R890), and so is any but a cold
source where the device stays in reset (R165, R894). -/
def Dev.takeReset (d : Dev) (c : Ctx) : Dev :=
  match d.rst.want with
  | [] => d
  | w :: ws =>
    let cause := ws.foldl min w
    let early := decide (9 ≤ cause) && d.rst.stage = .released && decide (d.rst.scope < 3)
    let stuck := decide (5 ≤ cause) && (d.rst.stage = .dead || d.rst.stage = .inReset || d.rst.stage = .off)
    let ran := d.ticking
    let d := { d with rst := { d.rst with want := [] } }
    let d := d.countCauses (w :: ws)
    if early || stuck then d
    else if 9 ≤ cause then
      let d := if cause = 9 then d.logFlush else d
      (d.recordReset c cause (d.flag 0x1040_0A)).controlReset
    else
      let held := if 5 ≤ cause then d.holds c cause else false
      let flush := decide (5 ≤ cause)
      let d := if flush then d.logFlush else d
      let d := d.recordReset c cause held
      let d := if flush then d else d.recordEntry c 0x1B
      let lastSys := if 5 ≤ cause then some (cause, none) else none
      let cold := cause ≤ 4
      let d := d.fullReset (cause ≠ 1) cold (decide (5 ≤ cause) || cause = 4)
      let d := if cold && cause ≠ 1 then d.bumpEpoch else if cause = 7 && ran then d.bumpEpoch else d
      let d := if cause = 7 then { d with clk := { d.clk with tb := false } } else d
      -- a brownout waits for power-good (R877)
      let d := { d with rst := { d.rst with lastSys := lastSys, scope := scopeOf cause, stage := if cause = 3 then .inReset else .released } }
      d.restoreConds

/-! ## Ports: sending (ch 5, ch 6) -/

/-- The key of a port's object. -/
def portK (p sub : Nat) : Nat := key 0x3000 p sub

/-- The key of a lane's object. -/
def laneK (l sub : Nat) : Nat := key 0x3100 l sub

/-- The key of a port's link counters. -/
def linkK (p sub : Nat) : Nat := key 0x3400 p sub

/-- A port's state (Table 5.5): 0 DISABLED, 1 WAIT, 2 TRAINING, 3 UP, 4 RETRAIN, 5 SLEEP, 6 WAKING, 7 FAILED. -/
def Dev.portSt (d : Dev) (p : Nat) : Nat := d.nat (portK p 0x07)

/-- Enter a port state. -/
def Dev.setPort (d : Dev) (p st : Nat) : Dev := d.setN (portK p 0x07) st

/-- A port's inner state. -/
def Dev.port (d : Dev) (p : Nat) : Port := (d.ports[p]?).getD {}

/-- Change a port's inner state. -/
def Dev.modPort (d : Dev) (p : Nat) (f : Port → Port) : Dev := { d with ports := modifyAt f p d.ports }

/-- A lane's inner state. -/
def Dev.lane (d : Dev) (l : Nat) : Lane := (d.lanes[l]?).getD {}

/-- Change a lane's inner state. -/
def Dev.modLane (d : Dev) (l : Nat) (f : Lane → Lane) : Dev := { d with lanes := modifyAt f l d.lanes }

/-- A port's first lane. -/
def Dev.first (d : Dev) (p : Nat) : Nat := d.nat (portK p 0x03)

/-- A port's width. -/
def Dev.width (d : Dev) (p : Nat) : Nat := d.nat (portK p 0x04)

/-- A port's role: 0 source-facing, 1 sink-facing, 2 trunk. -/
def Dev.role (d : Dev) (p : Nat) : Nat := d.nat (portK p 0x02)

/-- R271: a port's lanes, logical lane 0 first. -/
def Dev.portLanes (d : Dev) (p : Nat) : List Nat := (upTo (d.width p)).map (d.first p + ·)

/-- R284: the port words of a block, its pointer included. -/
def Dev.blockLen (d : Dev) (p : Nat) : Nat := 1024 * d.width p

/-- R297, Table 5.14: line bits leave a lane, inverted where its transmit pair is. -/
def Dev.sendLine (d : Dev) (l : Nat) (b : List Bool) : Dev :=
  let t := (d.lane l).tx
  d.emit (.line l t.swing t.pre t.post (if t.invert then b.map not else b))

/-- R298: what a lane's next marker brings into force. -/
def Dev.laneSet (d : Dev) (l : Nat) (t : TxLane) : TxLane :=
  { t with swing := d.nat (laneK l 1), pre := d.nat (laneK l 2), post := d.nat (laneK l 3), invert := d.flag (laneK l 4) }

/-- R275, R280: one marker on every lane of a port, with the same block sequence; a block is open. -/
def Dev.sendMarker (d : Dev) (p : Nat) (sleep pm : Bool) : Dev :=
  let x := d.port p
  let d := (upTo (d.width p)).foldl (fun d k =>
    let l := d.first p + k
    let w := markerWord k (widthCode (d.width p)) sleep x.rxReady pm x.txSeq
    let r := (d.laneSet l (d.lane l).tx).mark k w
    ((d.modLane l fun y => { y with tx := r.1 }).emit (.marker l w)).sendLine l r.2) d
  d.modPort p fun y => { y with txSeq := (x.txSeq + 1) % 65536, left := d.blockLen p }

/-- R284: the next word of a port's word stream, on the logical lane its place gives. -/
def Dev.putWord (d : Dev) (p w : Nat) : Dev :=
  let x := d.port p
  let l := d.first p + (d.blockLen p - x.left) % max 1 (d.width p)
  let r := (d.lane l).tx.send (bitsOf 32 w)
  (((d.modLane l fun y => { y with tx := r.1 }).sendLine l r.2)).modPort p fun y => { y with left := x.left - 1 }

/-- R275, R292, R337: where the block before is full, the marker of the next, in packet mode, and its pointer past the
`n` words that the packet under way still has. -/
def Dev.openBlock (d : Dev) (p n : Nat) : Dev :=
  if (d.port p).left = 0 then (d.sendMarker p false true).putWord p (pointerWord n) else d

/-- R337, R338: the words of a packet, running on across blocks; `on`: the packet has begun. -/
def Dev.putWords (d : Dev) (p : Nat) (on : Bool) : List Nat → Dev
  | [] => d
  | w :: r => ((d.openBlock p (if on then r.length + 1 else 0)).putWord p w).putWords p true r

/-- Table 6.4: the raster, rate and pixel format fields of a folio's payload (R354). -/
def folioFormat (b : List Byte) : List Byte := (b.drop 24).take 6 ++ (b.drop 32).take 9

/-- R25: a read of frame memory: good (0), uncorrectable with a retry that succeeds (1), uncorrectable, which is detection
0x06 (2), or corrected (3). -/
def Dev.checkRead (d : Dev) (c : Ctx) (mem : Nat) : Dev :=
  match mem with
  | 0 => d
  | 1 => d.transient
  | 2 => (d.raise c 6 0).detect c 0x06 0
  | _ => d.inc 0x9300_05

/-- R338 to R341: a packet as it leaves a port: its sequence, the place of its header in the block, its trailer. -/
def Dev.packet (d : Dev) (p vc seq : Nat) (q : QPkt) : Pkt :=
  let x := d.port p
  { seq := seq, fieldA := q.fieldA, fieldB := q.fieldB, payload := q.payload
    place := if x.left = 0 then 1 else d.blockLen p - x.left
    crc := if q.ty = 0 then 0 else pktCrc q.ty vc seq q.fieldA q.fieldB q.payload }

/-- R338 to R341: a packet leaves: emitted with the place of its header and its trailer, on the wire, and counted in
0x3400+p.12 unless it is IDLE. -/
def Dev.sendPkt (d : Dev) (p vc seq : Nat) (q : QPkt) : Dev :=
  let d := (d.emit (.pkt p q.ty vc (d.packet p vc seq q))).putWords p false
    (pktWords q.ty vc seq q.fieldA q.fieldB q.payload)
  let d := if q.ty = 2 then d.modPort p fun x => { x with fmtTx := folioFormat q.payload } else d
  if q.ty = 0 then d else d.addTo (linkK p 0x12) 64 1

/-- Element `i` of a list of counts. -/
def nthN (l : List Nat) (i : Nat) : Nat := (l[i]?).getD 0

/-- R358: the packets a channel may still send. -/
def Port.credit (x : Port) (vc : Nat) : Nat :=
  let n := (nthN x.lims vc + 65536 - nthN x.cnts vc) % 65536
  if x.flowSeen && 1 ≤ n && n ≤ 32767 then n else 0

/-- A credited packet has been sent; Table 6.6: when the count meets the limit. -/
def Port.spend (x : Port) (t vc : Nat) : Port :=
  let n := (nthN x.cnts vc + 1) % 65536
  { x with cnts := modifyAt (fun _ => n) vc x.cnts, limT := if n = nthN x.lims vc then modifyAt (fun _ => t) vc x.limT else x.limT }

/-- The oldest SAFE packet of a port leaves (R636). -/
def Dev.sendSafe (d : Dev) (c : Ctx) (p : Nat) (q : QPkt) (r : List QPkt) : Dev :=
  let n := (d.port p).tx3
  (d.modPort p fun x => { (x.spend c.t 3) with safe := r, tx3 := (n + 1) % 4096 }).sendPkt p 3 n q

/-- Table 6.3, R356: whether a port of a role sends a packet type; MANAGEMENT by its subtype. -/
def sends (role ty fieldA : Nat) : Bool :=
  ty ≤ 1 || (if ty = 6 then (if fieldA = 1 then role = 2 else (fieldA = 2 || fieldA = 3) && role ≠ 1)
    else role = 2 || (if ty = 8 then true else if role = 0 then ty = 5 else 2 ≤ ty && ty ≤ 4))

/-- A MANAGEMENT packet at the scheduler input of a port whose role sends it; a port that is DISABLED or FAILED holds
nothing (R385, R391). -/
def Dev.queueMgmt (d : Dev) (p : Nat) (q : QPkt) : Dev :=
  if !sends (d.role p) q.ty q.fieldA then d
  else if d.portSt p = 0 || d.portSt p = 7 then d.inc (linkK p 0x0A)
  else d.modPort p fun x => { x with mgmt := x.mgmt ++ [q] }

/-- R357, Table 15.5: one SAFE NOTICE on every port that is UP when SAFE is entered: field A the fault class, the local
timestamp and epoch of the entry, six zeros. Where the entry's reset takes the ports in the same command (R859), it
leaves at once, if a credit is there; else it is queued ahead of all but SAFE packets. -/
def Dev.safeNotices (d : Dev) (c : Ctx) (word : Nat) : Dev :=
  let t := d.nat 0x9000_04
  let q : QPkt := ⟨8, d.classOf (word % 256), 0, le 8 t ++ le 2 (d.nat 0x9000_05) ++ zeros 6, t⟩
  let now := d.rst.want.any fun w => decide (w ≤ 8)
  (upTo 32).foldl (fun d p =>
    if d.portSt p ≠ 3 then d
    else if now && 0 < (d.port p).credit 3 then d.sendSafe c p q []
    else d.modPort p fun x => { x with safe := x.safe ++ [q] }) d

/-- Tables 5.5, 5.8: whether transmit lane `l` is out of electrical idle: a port's transmitter, or a test that drives the
pins. -/
def Dev.laneLit (d : Dev) (l : Nat) : Bool :=
  (upTo 32).any (fun p => (d.port p).tx && (d.portLanes p).contains l) ||
  match d.test with
  | some t => (t.mode = 0 || t.mode = 3) && decide (t.first ≤ l) && decide (l < t.first + t.width)
  | none => false

/-! ## The frame of a command -/

/-- Bits of a bitmap by number. -/
def bitmap (n : Nat) (f : Nat → Bool) : Nat := (upTo n).foldl (fun m i => m + b2n (f i) * 2 ^ i) 0

/-- R236, Table 15.5: whether output `i` (2s + 0 A, + 1 B) of the synthesizers toggles. -/
def Dev.synOut (d : Dev) (i : Nat) : Bool :=
  d.nat (key 0x2200 (i / 2) 0x19) = 5 && d.flag (key 0x2200 (i / 2) (0x0A + i % 2))
    && !(d.isSafe && bit (d.nat 0x9010_04) i) && d.pwr.st ≠ .standby

/-- R204: whether MARK output `m` is high outside its pulses: enabled, and its pulses are low ones (R223, R899: low while
not enabled; Table 14.4a: low in STANDBY). -/
def Dev.markIdle (d : Dev) (m : Nat) : Bool :=
  d.rst.video && d.flag (key 0x2120 m 0x01) && ((d.marks[m]?).getD {}).pol = 1

/-- R802, R927, R928, Table 14.4a: the supplies whose outputs drive nothing: in HIBERNATE all but VAON, whose own are held;
without VAON all; and, while a reset waits for power-good, those that are absent or out of their windows. -/
def Dev.undriven (d : Dev) : Nat :=
  if d.rst.stage = .off || d.pwr.st = .off then 0x78
  else if d.pwr.st = .hibernate then 0x38
  else (d.pwr.absent ||| (if d.rst.stage = .inReset then d.pwr.supOut else 0)) &&& 0x78

/-- Pins and gates that follow from the state (R101, R236, R823, R846, Tables 14.4a, 15.5). -/
def Dev.settlePins (d : Dev) : Dev :=
  let oe := if bit d.undriven 5 then 0 else d.nat 0x8000_13
  { d with pins := { d.pins with
      safeN := !(d.saf.latchA || d.saf.latchB || d.saf.cmonLow || d.isSafe)
      hpirqN := d.hostDepth = 0 || !d.hostRuns || !bit (d.nat 0x1010_07) 2
      hprdy := d.hostRuns && (!bit (d.nat 0x1010_07) 2 || !d.hostFull)
      syn := bitmap 8 d.synOut
      mark := bitmap 4 d.markIdle
      undriven := d.undriven
      lanes := bitmap 48 d.laneLit
      gpioOe := oe
      gpio := oe &&& d.nat 0x8000_14
      tpselN := match d.title.cur with
        | some (r, _) => if r.slot = 0 then 2 else 1
        | none => 3
      pen := (d.pwr.rails.zipIdx).foldl (fun n p => n + b2n p.1.pen * 2 ^ p.2) 0
      seaten := (d.pwr.seats.zipIdx).foldl (fun n p => n + b2n p.1.en * 2 ^ p.2) 0 } }

/-- AUDIO_CLOCK_FALLBACK (R548): the synthesizer of the audio clock has left LOCKED; master TDM ports wait. -/
def Dev.settleAudio (d : Dev) (c : Ctx) : Dev :=
  let sy := d.audio.clk.2.2
  if d.nat 0x6300_06 = 2 && d.nat (key 0x2200 sy 0x19) ≠ 5 then
    let d := (d.setN 0x6300_06 4).raise c 60 sy
    (upTo 4).foldl (fun d t =>
      if d.nat (key 0x6200 t 0x0E) = 3 && d.nat (key 0x6200 t 0x02) = 0 then d.setN (key 0x6200 t 0x0E) 1 else d) d
  else d

/-- Seats marked off-in-safe-state fall in the safe state (R845, Table 15.5). -/
def Dev.settleSeats (d : Dev) : Dev :=
  if d.isSafe then
    (upTo 8).foldl (fun d s =>
      let x := (d.pwr.seats[s]?).getD {}
      if x.set.safeOff && x.en then
        let d := { d with pwr := { d.pwr with seats := modifyAt (fun x => { x with en := false }) s d.pwr.seats } }
        d.setN (key 0x8200 s 0x0A) 1
      else d) d
  else d

/-- What ends every command: the safe-state outputs, the reset asked for, the EVENTs, the pins. -/
def Dev.settle (d : Dev) (c : Ctx) : Dev :=
  let d := if d.saf.entered then let d := d.safeNotices c (d.nat 0x9000_03); { d with saf := { d.saf with entered := false } } else d
  let d := (d.settleSeats).settleAudio c
  let d := (d.takeReset c).dispatch c
  let d := if d.rst.stage = .up && d.pwr.st ≠ .standby && d.pwr.st ≠ .hibernate then d.sendEvents else d
  d.settlePins


/-- The fuses of `a` and those of `b`: blown once, blown for good (R888). -/
def Fuses.burn (a b : Fuses) : Fuses :=
  { a with lock := a.lock || b.lock, wd0 := a.wd0 || b.wd0, noDebug := a.noDebug || b.noDebug
           allow := a.allow ++ (b.allow.filter fun x => !a.allow.contains x) }

/-- The ticks counted when a command comes `dt` ticks after the last. -/
def State.tau (s : State) (dt : Nat) : Nat := if s.dev.ticking then s.time + dt else s.time

/-- The context of a command that comes `dt` ticks after the last. -/
def State.ctx (s : State) (dt : Nat) : Ctx :=
  ⟨s.dev.shown (s.tau dt), s.seed, s.fuses.s2412, s.fuses, s.dev.shown s.time⟩

/-- The frame of every command: `dt` ticks have passed since the last one, what that one sent is gone, the free-value
counter advances; then the effect, and what ends every command. -/
def State.act (s : State) (dt : Nat) (f : Ctx → Dev → Dev) : Host.Outcome State Fault Refusal :=
  let c := s.ctx dt
  let d := (f c { s.dev with out := [] }).settle c
  .next { s with
    time := s.tau dt + d.rst.skip
    seed := s.seed + 1
    fuses := s.fuses.burn (d.rst.burn.getD {})
    dev := { d with rst := { d.rst with burn := none, skip := 0 } } }

/-- The frame of an event that names an instance: a fault where the variant does not have it. -/
def State.actOn (s : State) (present : Bool) (dt : Nat) (f : Ctx → Dev → Dev) : Host.Outcome State Fault Refusal :=
  if present then s.act dt f else .fault .absentUnit

/-- How many of a resource the variant has (Table 0.1). -/
def State.count (s : State) (n24 n12 : Nat) : Nat := if s.fuses.s2412 then n12 else n24

end Sys2Proof.Machine
end

