-- ==== Sys2Proof/Machine/Receive.lean ====
section
/-!
DEFINITION. Receiving ITP messages and answering them (ch 1): duplicates and mismatches on the two CAN FD channels,
the response store, responses, HEARTBEAT.
-/
namespace Sys2Proof.Machine

/-- R124, R725, R800: whether the agent serves ITP now (a request in DOZE wakes it, R792). -/
def Dev.listening (d : Dev) : Bool :=
  d.rst.stage = .up && (d.pwr.st = .run || d.pwr.st = .doze) && !d.core.halted

/-- R719: trace sleeps: a SLEEP packet of DOZE (0) or STANDBY (1), then nothing more. -/
def Dev.trcSleep (d : Dev) (c : Ctx) (why : Nat) : Dev :=
  let d := d.trc ([byte (0x70 + why)] ++ d.stampBytes c)
  { d with trace := { d.trace with sleeping := true } }

/-- R719: trace wakes: a WAKE packet and a SYNC of reason 2. -/
def Dev.trcWake (d : Dev) (c : Ctx) (why : Nat) : Dev :=
  let d := { d with trace := { d.trace with sleeping := false } }
  (d.trc ([byte (0x80 + why)] ++ d.stampBytes c)).trcSync c 2

/-- R792: the end of DOZE. -/
def Dev.leaveDoze (d : Dev) (c : Ctx) : Dev :=
  if d.pwr.st = .doze then { (d.setN 0x8000_01 0) with pwr := { d.pwr with st := .run } }.trcWake c 0 else d

/-- R86, R87: a frame of identifier `id` in redundant mode: discarded as the duplicate of a frame of the other channel
within the window, or as the later of two that differ; each frame matches at most one other. Answers whether the frame
is acted on. -/
def Dev.dedupe (d : Dev) (c : Ctx) (f : Req) (id : Nat) : Dev × Bool :=
  if d.itp.mode = 1 then (d, true)
  else
    let win := d.nat 0x1010_08 * 400
    let hist := d.itp.hist.filter fun x => c.t ≤ x.t + win
    let cand := fun (x : Rx) => x.ch ≠ f.ch && !x.matched && x.id = id
    let mark := fun (y : Rx) => hist.map fun x => if x = y then { x with matched := true } else x
    match hist.find? fun x => cand x && x.data = f.data with
    | some y => (({ d with itp := { d.itp with hist := mark y } }).inc 0x1010_09, false)
    | none =>
      match hist.find? cand with
      | some y =>
        ((({ d with itp := { d.itp with hist := mark y } }).inc 0x1010_0A).raise c 30 (id + f.ch * 2 ^ 31), false)
      | none => ({ d with itp := { d.itp with hist := hist ++ [({ ch := f.ch, id := id, data := f.data, t := c.t, matched := false } : Rx)] } }, true)

/-- The path of a CAN FD channel for the records kept by path: in redundant mode both channels are one (R85). -/
def Dev.canPath (d : Dev) (ch : Nat) : Path := if d.itp.mode = 0 || ch = 0 then .fd0 else .fd1

/-- R102: a message as a host frame without its CRC. A spontaneous service has no tag of the spec's: free by the
message. -/
def Dev.itpFrame (d : Dev) (m : Msg) : List Byte :=
  bareFrame (canId m.prio m.cls m.dest d.itp.node (m.tag.getD (Config.free (unle m.data) 2000 % 32))) m.data

/-- Send a message to the path a request came by (R70, R85, R88, R101); R102, R356: on VC1 as a MANAGEMENT packet of
subtype 0x0001 of a trunk port. -/
def Dev.sendTo (d : Dev) (c : Ctx) (p : Path) (m : Msg) : Dev :=
  match p with
  | .fd0 => if d.itp.mode = 0 then d.sendBoth m else d.sendCan 0 m
  | .fd1 => if d.itp.mode = 0 then d.sendBoth m else d.sendCan 1 m
  | .host => d.toHost true false m
  | .vc1 port => if bit (d.nat 0x1010_07) 3 then d.queueMgmt port ⟨6, 1, 0, d.itpFrame m, c.t⟩ else d
  | .mailbox => d

/-- R70: the message that answers a request: its priority and tag, the nodes swapped. -/
def reply (o : Org) (cls : Nat) (data : List Byte) : Msg := ⟨o.prio, cls, o.src, some o.tag, data⟩

/-- R72: an ABORT: the header of the refused request with length 2, then the code. -/
def abortBytes (h : Hdr) (code : Nat) : List Byte := ({ h with len := 2 }).bytes ++ le 2 code

/-- R90: the answer kept for a request identical in identifier and data. -/
def Dev.stored (d : Dev) (c : Ctx) (o : Org) (id : Nat) (data : List Byte) : Option Resp :=
  d.itp.resp.find? fun r =>
    r.path = o.path && r.src = o.src && r.tag = o.tag && r.id = id && r.data = data && decide (c.t ≤ r.t + 40000000)

/-- R90: answer and keep the last response to the tag for 100 ms. -/
def Dev.answer (d : Dev) (c : Ctx) (o : Org) (id : Nat) (data : List Byte) (m : Msg) : Dev :=
  let rest := d.itp.resp.filter fun r =>
    !(r.path = o.path && r.src = o.src && r.tag = o.tag) && decide (c.t ≤ r.t + 40000000)
  let d := { d with itp := { d.itp with resp := rest ++ [(⟨o.path, o.src, o.tag, id, data, m, c.t⟩ : Resp)] } }
  d.sendTo c o.path m

/-- Send a kept answer again (R90). -/
def Dev.again (d : Dev) (c : Ctx) (r : Resp) : Dev :=
  let d := { d with itp := { d.itp with resp := d.itp.resp.map fun x => if x = r then { x with t := c.t } else x } }
  d.sendTo c r.path r.ans

/-- R93: a HEARTBEAT with an agent state. DESIGN CHOICE (log entry 156): the counter's first value is 1, and it starts
again at a control reset (`Dev.controlReset`); the spec gives neither. -/
def Dev.heartbeat (d : Dev) (c : Ctx) (state : Nat) : Dev :=
  let n := (d.itp.hbCount + 1) % 2 ^ 32
  let d := { d with itp := { d.itp with hbCount := n, hbT := c.t } }
  d.sendBoth ⟨6, 0x12, 255, none, [byte state, byte (d.nat 0x1040_03)] ++ le 2 d.epoch ++ le 4 n⟩

/-- R93, R845, Table 15.5: the agent state a periodic HEARTBEAT carries: 3 in the safe state, START-UP SAFE included, and
else 2. -/
def Dev.hbState (d : Dev) : Nat := if d.isSafe then 3 else 2

/-- A received CAN FD frame as a request: what becomes of it before it is served (R67, R68, R86, R98), and its origin.
`cls` is its service class. -/
def Dev.canIn (d : Dev) (c : Ctx) (cls : Nat) (f : Req) : Dev × Bool :=
  if !f.fdExt || !d.chanOn f.ch || !d.listening || f.dest ≠ d.itp.node then (d, false)
  else (d.leaveDoze c).dedupe c f (canId f.prio cls f.dest f.src f.tag)

/-- The origin of a CAN FD frame. -/
def Dev.orgOf (d : Dev) (f : Req) : Org := ⟨d.canPath f.ch, f.prio, f.src, f.tag⟩

end Sys2Proof.Machine
end

