-- ==== Sys2Proof/Machine/Clock.lean ====
section
/-!
DEFINITION. Clock root and timebase (ch 2): the clock monitor, the root PLL, master samples, stepping and slewing.
-/
namespace Sys2Proof.Machine

/-- The offset (0x1050.03). -/
def Dev.offset (d : Dev) : Int := d.int 0x1050_03

/-- R132: master time. -/
def Dev.masterTime (d : Dev) (c : Ctx) : Nat := (((c.t : Int) + d.offset) % (2 ^ 64 : Int)).toNat

/-- R158: the offset a timed action scheduled in this tick is converted with: that before a step of this very tick. -/
def Dev.offsetBefore (d : Dev) (c : Ctx) : Int :=
  match d.clk.step with
  | some (t, o) => if t = c.t then o else d.offset
  | none => d.offset

/-- R156: the source timeout restarts with the value in force now. -/
def Dev.restartTimeout (d : Dev) (c : Ctx) : Dev :=
  { d with clk := { d.clk with toStart := c.t, toLen := d.nat 0x1050_0A } }

/-- R141: whether the pair of source and trunk port is inconsistent. -/
def Dev.timePairBad (d : Dev) : Bool :=
  d.nat 0x1050_06 = 2 && d.nat (key 0x3000 (d.nat 0x1050_08) 0x02) ≠ 2

/-- R141, R53: judge the pair of source and trunk port. -/
def Dev.judgeTimePair (d : Dev) (c : Ctx) : Dev :=
  if d.timePairBad = d.clk.held then d
  else if d.timePairBad then ({ d with clk := { d.clk with held := true } }).held c 0x1050_06
  else ({ d with clk := { d.clk with held := false } }).unheld c 0x1050_06

/-- R141: a change of source. -/
def Dev.changeSource (d : Dev) (c : Ctx) : Dev :=
  let d := { d with clk := { d.clk with target := none, seen := false } }
  let d := d.setN 0x1050_0B (if d.nat 0x1050_06 = 0 then 0 else 1)
  d.restartTimeout c

/-- R164, R167, R168: the time state the load leaves: after a cold reset and after a CMON outage it follows the loaded
source (after an outage the master epoch seen before it still counts); after another system reset it stands, unless the
source has changed (R141). -/
def Dev.timeLoad (d : Dev) (c : Ctx) : Dev :=
  let seen := d.clk.seen
  if d.nat 0x1040_01 = 7 then
    let d := d.changeSource c
    { d with clk := { d.clk with seen := seen } }
  else if d.rst.scope < 2 || (d.nat 0x1050_06 = 0) ≠ (d.nat 0x1050_0B = 0) then d.changeSource c
  else d

/-- R148, R149: the offset takes a sample at once; `fresh` when a new master epoch or a first sample caused it. The
offset before the step is kept for the rest of the tick (R158). -/
def Dev.stepOffset (d : Dev) (c : Ctx) (sample : Int) (fresh : Bool) : Dev :=
  let old := d.offsetBefore c
  let d := { (d.setI 0x1050_03 sample) with clk := { d.clk with target := none, step := some (c.t, old) } }
  let d := ((d.bumpEpoch).inc 0x1050_0D).setN 0x1050_0B 3
  d.raise c 31 (d.epoch + b2n fresh * 65536)

/-- R148, R157: a master sample with the master's epoch. -/
def Dev.takeSample (d : Dev) (c : Ctx) (sample : Int) (mepoch : Nat) : Dev :=
  let err := sample - d.offset
  let first := !d.clk.seen
  let newEpoch := mepoch ≠ d.nat 0x1050_0F
  let d := (d.setI 0x1050_0E err).setN 0x1050_0F mepoch
  let d := ({ d with clk := { d.clk with seen := true } }).restartTimeout c
  if first || newEpoch then d.stepOffset c sample true
  else if (d.nat 0x1050_04 * 400 : Int) < err.natAbs then d.stepOffset c sample false
  else if err = 0 then { (d.setN 0x1050_0B 3) with clk := { d.clk with target := none } }
  else
    { (d.setN 0x1050_0B 2) with clk := { d.clk with
        target := some sample, lastMove := if d.clk.target.isSome then d.clk.lastMove else c.t } }

/-- R144: a receive delay of ns in ticks of 2.5 ns, to the nearest (DESIGN CHOICE, log entry 113: the spec names no
rounding of a delay that is no whole number of ticks). -/
def nsTicks (ns : Nat) : Nat := roundDivN (2 * ns) 5

/-- R142: the channel samples come from now: the time channel, the other one while it is bus-off or disabled. -/
def Dev.timeChannel (d : Dev) : Nat :=
  let ch := d.nat 0x1050_10
  if d.chanOn ch then ch else 1 - ch

/-- R144: the local time on the bus of a start-of-frame edge that came `age` ticks ago. -/
def Dev.edgeTime (d : Dev) (c : Ctx) (age : Nat) : Int := (c.t : Int) - age - nsTicks (d.nat 0x1050_09)

/-- R144, R146: the edge of a TIME frame is captured, the last of its channel and source kept. -/
def Dev.capture (d : Dev) (c : Ctx) (f : Req) (age : Nat) : Dev :=
  let e : Edge := ⟨f.ch, f.src, fld f.data 11 1, d.edgeTime c age⟩
  { d with clk := { d.clk with edges := (d.clk.edges.filter fun x => !(x.ch = f.ch && x.src = f.src)) ++ [e] } }

/-- R145, R146: the sample a TIME frame gives: of its own edge, or, in a two-step frame, of the frame whose sequence is
one less. -/
def Dev.timeSample (d : Dev) (c : Ctx) (f : Req) (age : Nat) : Option Int :=
  let mt : Int := fld f.data 0 8
  if bit (fld f.data 10 1) 0 then
    match d.clk.edges.find? fun x => x.ch = f.ch && x.src = f.src with
    | some e => if (e.seq + 1) % 256 = fld f.data 11 1 then some (mt - e.t) else none
    | none => none
  else some (mt - d.edgeTime c age)

/-- R142, R144 to R146: a TIME frame whose start-of-frame edge came `age` ticks ago: its edge is captured; a frame of the
master to this node on the channel samples come from gives a sample. -/
def Dev.timeFrame (d : Dev) (c : Ctx) (f : Req) (age : Nat) : Dev :=
  let sample := d.timeSample c f age
  let d := d.capture c f age
  if d.nat 0x1050_06 ≠ 1 || d.timeChannel ≠ f.ch || f.src ≠ d.nat 0x1050_07 || f.dest ≠ d.itp.node then d
  else
    match sample with
    | some x => d.takeSample c x (fld f.data 8 2)
    | none => d

/-- TIME (R144): the edge of every TIME frame is captured; a frame to 255 or to another node gives nothing else (R142),
one with a CAN error nothing at all (R166). The sample is taken first, so that what follows in the tick carries the new
epoch (R149); then the frame is taken for the duplicate record as any frame (R86, R159). -/
def execTime (dt : Nat) (f : Req) (age : Nat) (canError : Bool) (s : State) : Host.Outcome State Fault Refusal :=
  s.act dt fun c d =>
    if canError || !f.fdExt || !d.chanOn f.ch || !d.listening then d
    else
      let d := d.timeFrame c f age
      if f.dest ≠ d.itp.node then d
      else ((d.leaveDoze c).dedupe c f (canId f.prio 0x13 f.dest f.src f.tag)).1

/-- R148: the ticks from one move of a slew to the next, at the slew limit in force. -/
def Dev.slewGap (d : Dev) : Nat := ceilDiv 1000000 (d.nat 0x1050_05)

/-- SLEW_STEP (R148): once the interval since the last move has passed, the offset moves one tick toward the target; not
in STANDBY (R160), nor while the pair of source and trunk port is inconsistent (R141). -/
def execSlewStep (dt : Nat) (s : State) : Host.Outcome State Fault Refusal :=
  s.act dt fun c d =>
    match d.clk.target with
    | none => d
    | some g =>
      if d.pwr.st = .standby || d.timePairBad || decide (c.t < d.clk.lastMove + d.slewGap) then d
      else
        let o := if d.offset < g then d.offset + 1 else if g < d.offset then d.offset - 1 else d.offset
        let d := { (d.setI 0x1050_03 o) with clk := { d.clk with lastMove := c.t } }
        if o = g then { (d.setN 0x1050_0B 3) with clk := { d.clk with target := none } } else d

/-- MASTER_TIME_LOST (R156): the timeout does not run while there is no source. -/
def execMasterTimeLost (dt : Nat) (s : State) : Host.Outcome State Fault Refusal :=
  s.act dt fun c d =>
    if d.nat 0x1050_06 = 0 || d.nat 0x1050_0B = 4 || c.t < d.clk.toStart + 400000 * d.clk.toLen then d
    else ({ (d.setN 0x1050_0B 4) with clk := { d.clk with target := none } }).raise c 63 0

/-- The write of 0x1050: a change of source (R141), the pair judged at a write of either object. -/
def Dev.writeTimebase (d : Dev) (c : Ctx) (sub : Nat) (v : Val) : Dev :=
  let k := 0x1050_00 + sub
  let old := d.get k
  let src := d.nat 0x1050_06
  let d := d.set k v
  if sub = 0x06 then
    let d := if old = v then d else d.changeSource c
    d.judgeTimePair c
  else if sub = 0x08 then
    let d := if old = v || src ≠ 2 then d else d.changeSource c
    d.judgeTimePair c
  else d

/-- The live reads of 0x1050 (R161). -/
def Dev.readTimebase (d : Dev) (c : Ctx) (sub : Nat) : Option Val :=
  if sub = 0x01 then some (.num (c.t % 2 ^ 64 : Nat))
  else if sub = 0x0C then some (.num (d.masterTime c))
  else none

/-! ## Clock monitor -/

/-- Nominal counts in a gate of 4 µs (64 IMO cycles or 100 XO cycles), Table 2.3 order: XO, FCLK, ECLK, CCLK, TBCLK,
BCLK, LCLK, GCLK. In STANDBY, BCLK is the XO (Table 2.2). -/
def cmonNominal (standby : Bool) : List Nat := [100, 4800, 3200, 2400, 1600, if standby then 100 else 1200, 400, 400]

/-- Tables 2.3 and 2.7, R943: whether a clock is monitored now: until the root PLL has locked, the XO alone. -/
def Dev.monitored (d : Dev) (k : Nat) : Bool :=
  if k = 0 then !d.clk.imoLost
  else
    match d.pwr.st with
    | .run => d.clk.tb && (k ≠ 7 || d.nat 0x2110_01 ≠ 0)
    | .doze => d.clk.tb && k ≠ 3 && (k ≠ 7 || d.nat 0x2110_01 ≠ 0)
    | .standby => k = 5
    | _ => false

/-- R137: whether a count differs from nominal by at most 25%. -/
def clockGood (nom n : Nat) : Bool := decide (3 * nom ≤ 4 * n) && decide (4 * n ≤ 5 * nom)

/-- R137: the bitmap of monitored clocks whose count differs from nominal by more than 25%. -/
def Dev.cmonBad (d : Dev) (counts : List Nat) : Nat :=
  ((cmonNominal (d.pwr.st = .standby)).zip counts).zipIdx.foldl (fun m p =>
    let nom := p.1.1
    let n := p.1.2
    if d.monitored p.2 && !clockGood nom n then m + 2 ^ p.2 else m) 0

/-- R140: an IMO frequency within 16 MHz ± 12%. -/
def imoGood (hz : Nat) : Bool := 14080000 ≤ hz && hz ≤ 17920000

/-- Count alarms and keep the bitmap at the last one (0x2000.04, .05). Each clock that one gate finds newly out of range
counts as an alarm of its own, while the event is raised once (DESIGN CHOICE, log entry 114: the spec does not say how
many alarms such a gate makes). -/
def Dev.alarmed (d : Dev) (n bitmap : Nat) : Dev :=
  if n = 0 then d else ((d.setN 0x2000_04 ((d.nat 0x2000_04 + n) % 65536)).setN 0x2000_05 bitmap)

/-- R862: condition 0x03 ends when CMON no longer flags GCLK and genlock is in TRACK; 0x0F likewise. -/
def Dev.endGenlockConds (d : Dev) : Dev :=
  if !bit (d.nat 0x2000_03) 7 && d.nat 0x2110_0A % 8 = 2 then (d.endCond 0x03 0).endCond 0x0F 0 else d

/-- R140: the IMO is declared lost. -/
def Dev.loseImo (d : Dev) (c : Ctx) : Dev :=
  let d := { (d.setN 0x2000_03 (setBit (d.nat 0x2000_03) 8 true)) with clk := { d.clk with imoLost := true } }
  ((d.alarmed 1 (d.nat 0x2000_03)).raise c 4 0).detect c 0x04 0

/-- Whether CMON measures: in every state with the XO running (Table 2.3), not while a reset is held by the supplies. -/
def Dev.cmonOn (d : Dev) : Bool :=
  !(d.pwr.st = .hibernate || d.pwr.st = .off || d.rst.stage = .off || d.rst.stage = .inReset)

/-- R137 to R140, R943: a gate's counts and the IMO frequency measured in it are judged. A gate of IMO cycles whose
frequency shows the IMO lost judges no other clock (DESIGN CHOICE, log entry 114). -/
def Dev.cmonGate (d : Dev) (c : Ctx) (counts : List Nat) (imoHz : Nat) : Dev :=
  if !d.cmonOn then d
  else if !d.clk.imoLost && !imoGood imoHz then (d.setN 0x2000_06 imoHz).loseImo c
  else
    let old := d.nat 0x2000_03
    let bad := d.cmonBad counts
    let d := d.setN 0x2000_06 imoHz
    let back := d.clk.imoLost && imoGood imoHz
    let d := if back then ({ d with clk := { d.clk with imoLost := false } }.endCond 0x04 0).raiseClr c 4 0 else d
    let now := bad + b2n d.clk.imoLost * 256
    let d := d.setN 0x2000_03 now
    let fresh := (upTo 8).filter fun k => bit bad k && !bit old k
    let d := d.alarmed fresh.length now
    let d := if fresh.contains 7 then (d.raise c 3 0).detect c 0x03 0 else d
    let d := if bit old 7 && !bit bad 7 then (d.raiseClr c 3 0).endGenlockConds else d
    if fresh.any fun k => k ≠ 7 then
      ({ d with saf := { d.saf with cmonLow := true } }.raise c 3 0).detect c 0x02 0
    else d

/-- MONITOR_OSCILLATOR_LOST (R140). -/
def execMonitorOscillatorLost (dt : Nat) (s : State) : Host.Outcome State Fault Refusal :=
  s.act dt fun c d =>
    if d.clk.imoLost || !d.cmonOn then d else d.loseImo c

/-- R134, R136: the root PLL is locked and the domain clocks run; where among the ticks the XO's edges then fall is free
(they coincide with every 16th TBCLK edge). -/
def Dev.rootLocked (d : Dev) (c : Ctx) (us : Nat) : Dev :=
  let d := if d.clk.pllTries = 0 then d else d.transient
  { (((d.setN 0x2000_01 2).setN 0x2000_02 0x3F).setN 0x2000_07 us) with
    clk := { d.clk with pllTries := 0, tb := true, xo := Config.free c.seed 2000 % 16 } }

/-- Whether the root PLL is starting: at a restart of more than the control domain, or at the end of STANDBY. -/
def Dev.pllStarting (d : Dev) : Bool :=
  (d.rst.stage = .released && decide (d.rst.scope < 3) && d.nat 0x2000_01 ≠ 2)
    || (d.rst.stage = .up && d.pwr.st = .standby && d.nat 0x2000_01 ≠ 2)

/-- R163: local time resumes at the lock, by the slow ticks AON counted where nothing else counted (after the power-on
reset from 0). -/
def Dev.resumeTicks (d : Dev) (slow : Nat) : Nat :=
  if d.clk.tb || d.pwr.st = .standby || d.nat 0x1040_01 = 1 then 0 else 11851 * slow

/-- ROOT_PLL_LOCK (R136, R163), `us` after its enable; `slow` slow ticks counted since counting stopped and not yet
added. -/
def execRootPllLock (dt us slow : Nat) (s : State) : Host.Outcome State Fault Refusal :=
  s.act dt fun c d =>
    if d.pllStarting then
      { (d.rootLocked c us) with rst := { d.rst with skip := d.resumeTicks slow } }
    else d

/-- ROOT_PLL_LOCK_FAILURE (R165): one restart, then the device stays in reset and AON records code 0x0D. -/
def execRootPllLockFailure (dt : Nat) (s : State) : Host.Outcome State Fault Refusal :=
  s.act dt fun c d =>
    if !d.pllStarting then d
    else if d.clk.pllTries = 0 then { (d.setN 0x2000_01 1) with clk := { d.clk with pllTries := 1 } }
    else
      let d := (d.setN 0x2000_01 0).setN 0x2000_02 0
      { d with clk := { d.clk with tb := false }
               rst := { d.rst with stage := .dead, hist := (⟨0x0D, d.rst.scope, false, d.epoch, c.t⟩ :: d.rst.hist).take 8 }
               saf := { d.saf with latchA := true, latchB := true } }

end Sys2Proof.Machine
end

