-- ==== Sys2Proof/Machine/Genlock.lean ====
section
/-!
DEFINITION. Genlock (ch 3): reference qualification, selection, the DPLL's states, build-out and realign, advertised
quality and the register marks.
-/
namespace Sys2Proof.Machine

/-- The qualification state of a reference (Table 3.2, low bits of .0D): 0 disabled to 4 qualified. -/
def Dev.refSt (d : Dev) (r : Nat) : Nat := d.nat (key 0x2100 r 0x0D)

/-- Set the qualification state. -/
def Dev.setRefSt (d : Dev) (r st : Nat) : Dev := d.setN (key 0x2100 r 0x0D) st

/-- The inner state of a reference. -/
def Dev.refOf (d : Dev) (r : Nat) : Ref := (d.refs[r]?).getD {}

/-- Change the inner state of a reference. -/
def Dev.modRef (d : Dev) (r : Nat) (f : Ref → Ref) : Dev := { d with refs := modifyAt f r d.refs }

/-- The DPLL state (0x2110.0A [2:0]): 0 free run, 1 acquire, 2 track, 3 holdover. -/
def Dev.dpllSt (d : Dev) : Nat := d.nat 0x2110_0A % 8

/-- Enter a DPLL state, not coasting. -/
def Dev.setDpll (d : Dev) (st : Nat) : Dev := d.setN 0x2110_0A st

/-- R194: coasting. -/
def Dev.coasting (d : Dev) : Bool := bit (d.nat 0x2110_0A) 4

/-- The selected reference (0x2110.0B), 0xFF none: 0xFF is stored as the object's default. -/
def Dev.selected (d : Dev) : Nat := d.nat 0x2110_0B

/-- The genlock frame rate: numerator and denominator. -/
def Dev.rateNum (d : Dev) : Nat := d.nat 0x2110_03

/-- See `Dev.rateNum`. -/
def Dev.rateDen (d : Dev) : Nat := d.nat 0x2110_04

/-- R169: K. -/
def Dev.kOf (d : Dev) : Nat := roundDivN (100000000 * d.rateDen) d.rateNum

/-- The genlock frame period in ticks, as numerator and denominator: 400,000,000 × den / num. -/
def Dev.framePeriod (d : Dev) : Nat × Nat := (400000000 * d.rateDen, d.rateNum)

/-- The ticks of 2^-20 in one tick that a genlock frame start is held in (log entry 116). -/
def subTick : Nat := 2 ^ 20

/-- R169, R197: the length of the running genlock frame in 2^-20 ticks, at the control value in force (ppb). -/
def Dev.frameLen (d : Dev) : Nat :=
  roundDivN (d.framePeriod.1 * 10 ^ 9 * subTick) (d.framePeriod.2 * (10 ^ 9 + d.dpll.ctl).toNat)

/-- R173, R175: the nominal period of a reference's compared edges in ticks, as a fraction (REFC: every D-th edge). -/
def Dev.edgePeriod (d : Dev) (r : Nat) : Nat × Nat :=
  let k := key 0x2100 r
  let dv := if r = 2 then d.nat (k 0x14) else 1
  (400000000 * d.rateDen * d.nat (k 0x05) * dv, d.rateNum * d.nat (k 0x04))

/-- R186: the effective quality (a disabled reference: 15, the object's default). -/
def Dev.effQuality (d : Dev) (r : Nat) : Nat :=
  if d.refSt r = 0 then 15
  else
    let q := d.nat (key 0x2100 r 0x03)
    if 4 ≤ r && 15 < q then (d.refOf r).adv else q

/-- Whether a reference can be selected: qualified, and its quality below 15 (R187). -/
def Dev.selectable (d : Dev) (r : Nat) : Bool := r ≠ 3 && d.refSt r = 4 && decide (d.effQuality r < 15)

/-- R188: `a` comes before `b`: lower quality, then lower priority number, then lower reference number. -/
def Dev.better (d : Dev) (a b : Nat) : Bool :=
  let qa := d.effQuality a
  let qb := d.effQuality b
  let pa := d.nat (key 0x2100 a 0x02)
  let pb := d.nat (key 0x2100 b 0x02)
  qa < qb || (qa = qb && (pa < pb || (pa = pb && a < b)))

/-- The best of the selectable references. -/
def Dev.best (d : Dev) : Option Nat :=
  (upTo 8).foldl (fun o r =>
    if d.selectable r then
      match o with
      | none => some r
      | some b => if d.better r b then some r else some b
    else o) none

/-- R188 to R190: the reference the mode selects. -/
def Dev.choose (d : Dev) : Option Nat :=
  match d.nat 0x2110_01 with
  | 1 => d.best
  | 2 =>
    let cur := d.selected
    if cur < 8 && d.selectable cur then
      match d.best with
      | some b => if d.effQuality b < d.effQuality cur then some b else some cur
      | none => some cur
    else d.best
  | 3 => let f := d.nat 0x2110_02; if d.selectable f then some f else none
  | _ => none

/-- R196: the mean of the 1 s averages taken in the 30 s that end 5 s before the loss at `t`: `avgs` newest first, the
newest taken at `last`. -/
def holdMean (avgs : List Int) (last t : Nat) : Int :=
  let s := 400000000
  let l := (avgs.zipIdx).filterMap fun p =>
    if last + 5 * s ≤ t + p.2 * s && t + p.2 * s < last + 35 * s then some p.1 else none
  roundDiv (l.foldl (· + ·) 0) l.length

/-- R217: misalignment counting restarts. -/
def Dpll.misAnew (p : Dpll) : Dpll := { p with misRun := 0, misBad := false }

/-- Into FREE RUN (R195): no build-out is slewed there. -/
def Dev.freeRun (d : Dev) (c : Ctx) : Dev :=
  let was := d.dpllSt
  let p := { d.dpll with ctl := 0, avgs := [], avgSum := 0, avgN := 0, okSince := none, slewing := false, anew := false }
  let d := { (d.setDpll 0).setI 0x2110_10 0 with dpll := p.misAnew }
  let d := d.setN 0x2110_0E 0
  if was = 0 then d else d.raise c 37 0

/-- Seconds of uninterrupted TRACK, held at 35 (0x2110.0E). -/
def Dev.trackSecs (d : Dev) (c : Ctx) : Nat := if d.dpllSt = 2 then min 35 ((c.t - d.dpll.trackT) / 400000000) else 0

/-- R191 to R196, R214: evaluate the selection and act on a change of it. -/
def Dev.evalSelection (d : Dev) (c : Ctx) : Dev :=
  let cur := d.selected
  if d.nat 0x2110_01 = 0 then d.setN 0x2110_0B 0xFF
  else
    match d.choose with
    | some r =>
      if r = cur then d
      else { (d.setN 0x2110_0B r) with dpll := { d.dpll with await := true } }
    | none =>
      if cur = 0xFF then d
      else
        let d := { (d.setN 0x2110_0B 0xFF) with dpll := { d.dpll with await := false } }
        if d.dpllSt = 1 || d.dpllSt = 2 then
          if d.dpllSt = 2 && 35 ≤ d.trackSecs c then
            let h := holdMean d.dpll.avgs d.dpll.avgT c.t
            let d := { (d.setDpll 3) with dpll := { d.dpll with ctl := h, okSince := none, slewing := false, anew := false } }
            ((d.setI 0x2110_11 h).setI 0x2110_10 h).raise c 36 0
          else d.freeRun c
        else d

/-- R174: whether frame marks place a reference's edges in its alignment cycle. -/
def Dev.marked (d : Dev) (r : Nat) : Bool := r < 2 && d.nat (key 0x2100 r 0x08) ≠ 0

/-- A reference reaches Qualified (R179): the event, then the selection. Where no frame mark places its edges, the next
one is edge 0 of an alignment cycle (R175). -/
def Dev.qualify (d : Dev) (c : Ctx) (r : Nat) : Dev :=
  let marked := d.marked r
  let d := (d.setRefSt r 4).modRef r fun x => if marked then x else { x with count := 0 }
  (d.raise c 32 r).evalSelection c

/-- A reference enters Checking (Table 3.2): its first frequency gate starts (R182). -/
def Dev.startCheck (d : Dev) (c : Ctx) (r : Nat) : Dev := (d.setRefSt r 2).modRef r fun x => { x with gateT := c.t }

/-- A reference leaves Qualified for `st` (R181, R183): the loss is counted and raised, coasting on it ends (R194), then
the selection. -/
def Dev.loseRef (d : Dev) (c : Ctx) (r st : Nat) : Dev :=
  let d := (if st = 2 then d.startCheck c r else d.setRefSt r st).inc (key 0x2100 r 0x10)
  let d := if d.selected = r then d.setDpll d.dpllSt else d
  ((d.modRef r fun x => { x with lostOnce := true, waitT := c.t }).raise c 33 r).evalSelection c

/-- After a missing or an error edge: three in a row end activity (Table 3.2). -/
def Dev.badEdge (d : Dev) (c : Ctx) (r : Nat) : Dev :=
  let d := d.modRef r fun x => { x with goodRun := 0, badRun := x.badRun + 1 }
  if 3 ≤ (d.refOf r).badRun then
    let st := d.refSt r
    if st = 4 then (d.loseRef c r 1).modRef r fun x => { x with badRun := 0, known := false }
    else if 2 ≤ st then d.setRefSt r 1 else d
  else d

/-- The least-magnitude residue of `x` modulo `n / m` ticks, in units of 1 / m ticks. -/
def residue (x : Int) (n m : Nat) : Int :=
  let y := (x * m) % (n : Int)
  if (n : Int) < 2 * y then y - n else y

/-- R175, R178, Table 3.1: whether a reference carries no frame phase. -/
def Dev.phaseless (d : Dev) (r : Nat) : Bool :=
  r = 2 || (r < 2 && d.nat (key 0x2100 r 0x05) < d.nat (key 0x2100 r 0x04) && !d.marked r)

/-- The start of the running genlock frame in 2^-20 ticks. -/
def Dev.frameStart (d : Dev) : Nat := d.dpll.frameT * subTick + d.dpll.frameF

/-- R177, R178: the phase error against an edge, in ps, before the build-out: the matching frame start minus the
reference time, modulo one frame, or modulo one compared-edge period for a reference without frame phase. -/
def Dev.phasePs (d : Dev) (r : Nat) (reft : Int) : Int :=
  let fp := d.framePeriod
  let ep := d.edgePeriod r
  let x : Int := d.frameStart - reft * subTick
  if d.phaseless r then roundDiv (2500 * residue x (ep.1 * subTick) ep.2) (ep.2 * subTick)
  else
    let cnt := (d.refOf r).count
    -- the edge's nominal place in its cycle, count × period after edge 0
    roundDiv (2500 * residue (x * ep.2 + cnt * ep.1 * subTick) (fp.1 * ep.2 * subTick) fp.2) (fp.2 * ep.2 * subTick)

/-- A ps figure as the I32 of 0x2110.0C; the spec states no reading beyond it: a free value. -/
def fitI32 (c : Ctx) (tag : Nat) (n : Int) : Int :=
  if (-2147483648 : Int) ≤ n && n ≤ 2147483647 then n else signed 4 (Config.free c.seed tag % 2 ^ 32)

/-- R219, R220: a misalignment on the selected reference: the event, the collector, back to ACQUIRE; a second one on the
same reference before TRACK has held for 60 s is lasting and costs the reference its qualification. -/
def Dev.misaligned (d : Dev) (c : Ctx) (r : Nat) : Dev :=
  let lasting := (d.refOf r).armed && decide (c.t < d.dpll.trackT + 60 * 400000000)
  let d := ({ d with dpll := d.dpll.misAnew }.modRef r fun x => { x with armed := !lasting })
  let d := (d.raise c 38 (r + b2n lasting * 256)).detect c 0x0F 0
  if lasting then d.loseRef c r 3
  else { (d.setDpll 1) with dpll := { d.dpll with okSince := none, avgs := [], avgSum := 0, avgN := 0 } }

/-- R219: the running genlock frame is one with its phase error beyond the bound: the third in a row is a misalignment. A
frame that meets no compared edge counts with the error of the last one (DEDUCED, log entry 118: the detection is due
within three frame periods). -/
def Dev.misFrame (d : Dev) (c : Ctx) (r : Nat) : Dev :=
  if d.dpll.misRun ≠ 0 && d.dpll.misFrame = d.dpll.frameT then d
  else
    let d := { d with dpll := { d.dpll with misRun := d.dpll.misRun + 1, misFrame := d.dpll.frameT } }
    if 3 ≤ d.dpll.misRun then d.misaligned c r else d

/-- R198 to R201, R209: the selected reference's first compared edge: acquire from FREE RUN, leave HOLDOVER, switch, or
acquire anew after a change of the frame rate. The measurement is taken as the build-out offset; then it is kept, slewed
away, or a realign is due. -/
def Dev.firstEdge (d : Dev) (c : Ctx) (r : Nat) (ps : Int) : Dev :=
  let st := d.dpllSt
  let lock := decide (st = 0) || d.dpll.anew
  let p := { d.dpll with await := false, anew := false, okSince := none, slewing := false }
  let d := { (d.setI 0x2110_0D (roundDiv ps 1000)) with dpll := p.misAnew }
  let d :=
    if st = 0 then (d.setDpll 1).setN 0x2110_17 0
    else if st = 3 then d.setDpll 1
    else if lock then d
    else (d.inc 0x2110_12).raise c 34 r
  if lock then { d with dpll := { d.dpll with realign := d.dpll.realign || d.flag 0x2110_08 } }
  else
    match d.nat 0x2110_06 with
    | 1 => { d with dpll := { d.dpll with slewing := true, slewT := c.t } }
    | 2 => { d with dpll := { d.dpll with realign := true } }
    | _ => d

/-- R177, R192, R194, R219: a good edge of the selected reference is compared. -/
def Dev.compareEdge (d : Dev) (c : Ctx) (r : Nat) (reft : Int) : Dev :=
  let raw := d.phasePs r reft
  let d := if d.coasting then d.setDpll d.dpllSt else d
  let d := if d.dpll.await || d.dpll.anew then d.firstEdge c r raw else d
  let ps := raw - 1000 * d.int 0x2110_0D
  let d := d.setI 0x2110_0C (fitI32 c 1 ps)
  let near := decide (ps.natAbs ≤ 20000)
  let bad := decide (1000 * d.nat 0x2110_09 < ps.natAbs)
  let d := { d with dpll := { d.dpll with
    ps := ps, misBad := bad && d.dpllSt = 2, misRun := if bad then d.dpll.misRun else 0
    okSince := if near then (if d.dpll.okSince.isSome then d.dpll.okSince else some c.t) else none } }
  if d.dpllSt = 2 && bad then d.misFrame c r else d

/-- R174, R180: whether an edge at a reference time lies in the window of the one expected after the previous edge, and
is no frame mark off edge 0. -/
def Dev.edgeGood (d : Dev) (r : Nat) (reft : Int) (wide : Bool) : Bool :=
  let x := d.refOf r
  let p := d.edgePeriod r
  match x.last with
  | none => false
  | some l =>
    let e : Int := (reft - l) * p.2 - p.1
    decide (8 * e.natAbs ≤ p.1) && !(wide && d.marked r && x.known && x.count ≠ 0)

/-- R180: whether the window of the expected edge has closed by a reference time. -/
def Dev.windowOver (d : Dev) (r : Nat) (reft : Int) : Bool :=
  let p := d.edgePeriod r
  match (d.refOf r).last with
  | none => false
  | some l => decide ((9 * p.1 : Int) ≤ 8 * ((reft - l) * p.2))

/-- How many compared edges one alignment cycle has (REFC: E / D). -/
def Dev.cycleLen (d : Dev) (r : Nat) : Nat :=
  let e := d.nat (key 0x2100 r 0x04)
  if r = 2 then e / max 1 (d.nat (key 0x2100 r 0x14)) else e

/-- R172: the reference time of an edge now. -/
def Dev.refTime (d : Dev) (c : Ctx) (r : Nat) : Int := (c.t : Int) - d.int (key 0x2100 r 0x07)

/-- A reference edge now (R172, R177, R179, R180). What the spec leaves open is chosen here (DESIGN CHOICE, log entry
119): the first edge after an enable is neither good nor bad; an error edge is the previous edge from which the next
window is measured, and it advances the edge count as any edge; and once a frame mark has placed the cycle, a mark off
edge 0 is an error edge that does not place it anew. -/
def Dev.refEdge (d : Dev) (c : Ctx) (r : Nat) (wide : Bool) : Dev :=
  let st := d.refSt r
  if st = 0 then d
  else
    let x := d.refOf r
    let reft := d.refTime c r
    let good := d.edgeGood r reft wide
    let marks := d.marked r
    -- the place of this edge in its alignment cycle
    let cnt := if marks && wide && !x.known then 0 else x.count
    let known := if marks then x.known || wide else true
    let next := (cnt + 1) % max 1 (d.cycleLen r)
    let d := d.modRef r fun x => { x with last := some reft, count := cnt, known := known }
    let d :=
      if x.last.isNone then d
      else if good then
        let d := d.modRef r fun x => { x with goodRun := x.goodRun + 1, badRun := 0 }
        if st = 1 && 16 ≤ (d.refOf r).goodRun then d.startCheck c r else d
      else d.badEdge c r
    let d := if good && d.selected = r && d.refSt r = 4 then d.compareEdge c r reft else d
    d.modRef r fun x => { x with count := next }

/-- REFERENCE_EDGE (R177): an edge of a reference now; `wide`: the pulse is wider than the frame-mark width. -/
def execReferenceEdge (dt r : Nat) (wide : Bool) (s : State) : Host.Outcome State Fault Refusal :=
  s.actOn (r < 8 && r ≠ 3) dt fun c d => d.refEdge c r wide

/-- MISSING_EDGE (R180, R181, R194): once the window of the expected edge has closed without one; the next edge is
expected one period later. A missing edge of the selected reference begins the coasting and breaks a run of misaligned
frames, since that frame has no compared edge (R219). -/
def execMissingEdge (dt r : Nat) (s : State) : Host.Outcome State Fault Refusal :=
  s.actOn (r < 8 && r ≠ 3) dt fun c d =>
    if d.refSt r = 0 || !d.windowOver r (d.refTime c r) then d
    else
      let p := d.edgePeriod r
      let d := d.modRef r fun x => { x with last := x.last.map fun l => l + roundDivN p.1 p.2, count := (x.count + 1) % max 1 (d.cycleLen r) }
      let d :=
        if d.selected = r && (d.dpllSt = 1 || d.dpllSt = 2) then
          { (d.setN 0x2110_0A (d.dpllSt + 16)) with dpll := d.dpll.misAnew }
        else d
      d.badEdge c r

/-- R183, R22: the accept and reject limits act at a gate; an inconsistent pair is held. -/
def Dev.judgeLimits (d : Dev) (c : Ctx) (r : Nat) : Dev :=
  let a := d.int (key 0x2100 r 0x09)
  let b := d.int (key 0x2100 r 0x0A)
  let x := d.refOf r
  if a < b then
    let d := d.modRef r fun x => { x with acc := a, rej := b, held := false }
    if x.held then d.unheld c (key 0x2100 r 0x09) else d
  else if x.held then d
  else (d.modRef r fun x => { x with held := true }).held c (key 0x2100 r 0x09)

/-- R182: the ticks of a frequency gate, 1.000 s. -/
def gateTicks : Nat := 400000000

/-- FREQUENCY_GATE_END (R182 to R184): the gate of 1 s that started at the entry to Checking, or at the end of the gate
before, ends with the offset measured, in ppb relative to the XO. -/
def execFrequencyGateEnd (dt r : Nat) (ppb : Int) (s : State) : Host.Outcome State Fault Refusal :=
  s.actOn (r < 8 && r ≠ 3) dt fun c d =>
    let st := d.refSt r
    if st < 2 || decide (c.t < (d.refOf r).gateT + gateTicks) then d
    else
      let d := d.modRef r fun x => { x with gateT := x.gateT + gateTicks }
      let d := (d.setI (key 0x2100 r 0x0E) ppb).judgeLimits c r
      let x := d.refOf r
      if st = 2 then
        if ppb.natAbs ≤ (1000 * x.acc).natAbs then
          if x.lostOnce then (d.setRefSt r 3).modRef r fun x => { x with waitT := c.t } else d.qualify c r
        else d
      else if (1000 * x.rej).natAbs < ppb.natAbs then
        if st = 4 then d.loseRef c r 2 else d.startCheck c r
      else d

/-- WAIT_TO_RESTORE_END (R184): once a reference has waited its .0B seconds. -/
def execWaitToRestoreEnd (dt r : Nat) (s : State) : Host.Outcome State Fault Refusal :=
  s.actOn (r < 8 && r ≠ 3) dt fun c d =>
    if d.refSt r = 3 && decide ((d.refOf r).waitT + d.nat (key 0x2100 r 0x0B) * 400000000 ≤ c.t) then d.qualify c r else d

/-- Table 3.3: whether the phase error has stayed within ±20 ns for 2 s without a break. -/
def Dev.settled (d : Dev) (c : Ctx) : Bool :=
  !d.coasting && match d.dpll.okSince with
    | some t => decide (t + 800000000 ≤ c.t)
    | none => false

/-- GENLOCK_LOCKED (R192): from ACQUIRE into TRACK; conditions 0x03 and 0x0F may end (R862). -/
def execGenlockLocked (dt : Nat) (s : State) : Host.Outcome State Fault Refusal :=
  s.act dt fun c d =>
    if d.dpllSt = 1 && d.settled c then
      let p := { d.dpll with trackT := c.t, avgs := [], avgSum := 0, avgN := 0, avgT := c.t }
      let d := { (d.setDpll 2) with dpll := p.misAnew }
      (d.raise c 35 d.selected).endGenlockConds
    else d

/-- R209, R201: a new genlock frame rate has applied: the DPLL re-enters ACQUIRE, and the next compared edge realigns or
absorbs by the rule of R201. A running frame that is longer already than the new period ends now. -/
def Dev.rateApplied (d : Dev) (c : Ctx) : Dev :=
  let start := max d.frameStart (c.t * subTick - d.frameLen)
  let d := { d with dpll := { d.dpll with
    okSince := none, frameT := start / subTick, frameF := start % subTick, starts := [(start / subTick, d.nat 0x2110_17)] }.misAnew }
  if d.dpllSt = 1 || d.dpllSt = 2 then
    let coast := d.coasting
    { (d.setN 0x2110_0A (1 + 16 * b2n coast)) with dpll := { d.dpll with avgs := [], avgSum := 0, avgN := 0, anew := true } }
  else d

/-- R199, R211: the build-out slews toward 0, by the shorter way modulo the alignment cycle. -/
def Dev.slewBuildOut (d : Dev) (c : Ctx) : Dev :=
  if !d.dpll.slewing || !(d.dpllSt = 1 || d.dpllSt = 2) then d
  else
    let lim := d.nat 0x2110_07
    let amt := (c.t - d.dpll.slewT) * lim / 400000000
    if amt = 0 then d
    else
      let sel := d.selected
      let f := if sel < 8 then d.nat (key 0x2100 sel 0x05) else 1
      let fp := d.framePeriod
      let b := roundDiv (residue (d.int 0x2110_0D) (5 * f * fp.1) (2 * fp.2)) (2 * fp.2)
      let b' := if b.natAbs ≤ amt then 0 else if 0 < b then b - amt else b + amt
      { (d.setI 0x2110_0D b') with dpll := { d.dpll with
          slewing := b' ≠ 0, slewT := d.dpll.slewT + amt * 400000000 / max 1 lim } }

/-- R206, R210, R212: the marks' changes at a genlock frame boundary. A width that is not below half the frame period is
held: the last consistent width stays in force, also where the rate has changed under it (DESIGN CHOICE, log entry 120:
the rate of the pair then in force is not the mark's to hold). The held set's lowest-indexed object is the rate,
0x2110.03 (Table 13.3a). -/
def Dev.marksAtFrame (d : Dev) (c : Ctx) : Dev :=
  (upTo 4).foldl (fun d m =>
    let k := key 0x2120 m
    let w := d.nat (k 0x03)
    let fp := d.framePeriod
    let ok := decide (2 * w * fp.2 < fp.1)
    let x := (d.marks[m]?).getD {}
    let d := { d with marks := modifyAt (fun x => { x with
        off := d.int (k 0x02), pol := d.nat (k 0x04), div := d.nat (k 0x05), on := d.flag (k 0x01)
        width := if ok then w else x.width, held := !ok }) m d.marks }
    if ok then (if x.held then d.unheld c 0x2110_03 else d) else if x.held then d else d.held c 0x2110_03) d

/-- A MARK output starts afresh; its width in force stays, with whether it is held (R22, R53). -/
def Mark.anew (x : Mark) : Mark := { width := x.width, held := x.held }

/-- R193: the loop bandwidth in 2^-16 Hz: in TRACK 0x2110.05; in ACQUIRE 50 Hz for REFC and 5 Hz for the others. -/
def Dev.bandwidth (d : Dev) : Nat :=
  if d.dpllSt = 2 then d.nat 0x2110_05 else if d.selected = 2 then 50 * 65536 else 5 * 65536

/-- R200: by how much the running frame is lengthened, in 2^-20 ticks: where a realign is due, what takes the build-out
offset to 0 forward: less than one frame period, or than one compared-edge period where only that phase is defined. -/
def Dev.stretch (d : Dev) : Nat :=
  if d.dpll.realign && (d.dpllSt = 1 || d.dpllSt = 2) then
    let r := d.selected
    let m := if r < 8 && d.phaseless r then d.edgePeriod r else d.framePeriod
    -- 1 ns is 2 / 5 tick
    let back := (2 * d.int 0x2110_0D * m.2) % (5 * m.1 : Int)
    (if back = 0 then 0 else roundDiv ((5 * m.1 - back) * subTick) (5 * m.2)).toNat
  else 0

/-- When the running genlock frame ends, in 2^-20 ticks (R197, R200). -/
def Dev.frameEnd (d : Dev) : Nat := d.frameStart + d.frameLen + d.stretch

/-- Whether a genlock frame starts now: the first, or the running one is over. -/
def Dev.frameDue (d : Dev) (c : Ctx) : Bool := !d.dpll.run || decide (d.frameEnd / subTick ≤ c.t)

/-- The genlock part of a genlock frame start (R196, R197, R200, R207): the frame starts where the one before ends, and
in ACQUIRE and TRACK the loop gives the control value for it, limited to ±250 ppm. -/
def Dev.genlockFrame (d : Dev) (c : Ctx) : Dev :=
  let st := d.dpllSt
  let d := if d.dpll.misBad && st = 2 && !d.coasting then d.misFrame c d.selected else d
  let start := if d.dpll.run then d.frameEnd else c.t * subTick
  let d := { d with dpll := { d.dpll with run := true, frameT := start / subTick, frameF := start % subTick } }
  let d := if d.dpllSt ≠ 0 && d.nat 0x2110_01 = 0 then d.freeRun c else d
  let st := d.dpllSt
  let d :=
    if (st = 1 || st = 2) && !d.coasting then
      let v := clampInt (-250000) 250000 (Config.loopControl d.bandwidth d.dpll.ps c.seed)
      { (d.setI 0x2110_10 v) with dpll := { d.dpll with ctl := v } }
    else d
  let d :=
    if st = 2 && decide (d.dpll.trackT + 60 * 400000000 ≤ c.t) then
      { d with refs := d.refs.map fun x => { x with armed := false } }
    else d
  let d :=
    if st = 2 then
      let p := { d.dpll with avgSum := d.dpll.avgSum + d.dpll.ctl, avgN := d.dpll.avgN + 1 }
      { d with dpll :=
        if d.dpll.avgT + 400000000 ≤ c.t then
          { p with avgs := (roundDiv p.avgSum p.avgN :: p.avgs).take 35, avgSum := 0, avgN := 0, avgT := d.dpll.avgT + 400000000 }
        else p }
    else d
  let d := d.setN 0x2110_0E (d.trackSecs c)
  if d.dpll.realign && (st = 1 || st = 2) then
    { ((d.setN 0x2110_17 0).setI 0x2110_0D 0) with dpll := { d.dpll with realign := false, asked := false, slewing := false }.misAnew }
  else
    let d := (d.setN 0x2110_17 ((d.nat 0x2110_17 + 1) % 2 ^ 32)).slewBuildOut c
    { d with dpll := { d.dpll with realign := false, asked := false } }

/-- R450: the frame just started joins the starts kept: seventeen cover two of the longest forme frames. -/
def Dev.noteStart (d : Dev) : Dev :=
  { d with dpll := { d.dpll with starts := ((d.dpll.frameT, d.nat 0x2110_17) :: d.dpll.starts).take 17 } }

/-- R204: the genlock frame a mark's next pulse belongs to: its start in ticks and its count; a negative offset puts the
pulse before the start of the next frame. -/
def Dev.markFrame (d : Dev) (x : Mark) : Int × Nat :=
  if x.off < 0 then
    (d.frameEnd / subTick, if d.dpll.realign && (d.dpllSt = 1 || d.dpllSt = 2) then 0 else (d.nat 0x2110_17 + 1) % 2 ^ 32)
  else (d.dpll.frameT, d.nat 0x2110_17)

/-- MARK_PULSE (R204, R206): at its time, on a frame whose count the divider divides; a pulse less than half a frame
period after the last one is not sent. -/
def execMarkPulse (dt m : Nat) (s : State) : Host.Outcome State Fault Refusal :=
  s.actOn (m < 4) dt fun c d =>
    let x := (d.marks[m]?).getD {}
    let fr := d.markFrame x
    let at' : Int := fr.1 + x.off
    let fp := d.framePeriod
    let close := match x.lastPulse with
      | some l => decide (2 * ((at' - l) * fp.2) < fp.1)
      | none => false
    if x.on && d.flag (key 0x2120 m 0x01) && fr.2 % max 1 x.div = 0 && !close && decide (at' ≤ c.t) && d.dpll.run then
      let d := { d with marks := modifyAt (fun x => { x with lastPulse := some at'.toNat }) m d.marks }
      (d.emit (.mark m at' x.width (x.pol = 0))).inc (key 0x2120 m 0x06)
    else d

/-- Table 3.5, R203: the advertised quality (0x2110.14). -/
def Dev.advertised (d : Dev) : Nat :=
  match d.dpllSt with
  | 2 => min 14 (d.effQuality d.selected + 1)
  | 1 => 14
  | 3 => d.nat 0x2110_15
  | _ => d.nat 0x2110_16

/-- R176, R186: a folio of a capture channel: its arrival is an edge of every LINKREF that names the channel, and eight
folios in a row put a new advertised value in force. -/
def Dev.linkrefFolio (d : Dev) (c : Ctx) (ch quality : Nat) : Dev :=
  [4, 5, 6, 7].foldl (fun d r =>
    if d.nat (key 0x2100 r 0x0C) = ch && d.refSt r ≠ 0 then
      let d := d.modRef r fun x =>
        if x.advNew = quality then { x with advRun := x.advRun + 1, adv := if 8 ≤ x.advRun + 1 then quality else x.adv }
        else { x with advNew := quality, advRun := 1 }
      (d.refEdge c r false).evalSelection c
    else d) d

/-- R208: whether a reference's nominal rate lies in its input's range, at a genlock frame rate num / den. -/
def Dev.refFits (d : Dev) (r num den : Nat) : Bool :=
  let k := key 0x2100 r
  let e := d.nat (k 0x04)
  let f := d.nat (k 0x05)
  -- nominal rate = num × e / (den × f)
  if r < 2 then decide (20 * den * f ≤ num * e) && decide (num * e ≤ 2000000 * den * f)
  else if r = 2 then
    let dv := d.nat (k 0x14)
    dv ≠ 0 && e % dv = 0 && decide (1000000 * den * f ≤ num * e) && decide (num * e ≤ 250000000 * den * f)
      && decide (1000 * den * f * dv ≤ num * e) && decide (num * e ≤ 2000000 * den * f * dv)
  else true

/-- The refusals of a write in 0x2100 to 0x2123 beside the dictionary's (R208, R216, Table 3.6). -/
def Dev.checkGenlock (d : Dev) (base n sub : Nat) (v : Val) : List Nat :=
  if base = 0x2100 then
    if sub = 0x01 && v = .num 1 && !d.refFits n d.rateNum d.rateDen then [0x0006]
    else if sub = 0x12 && v ≠ .num 1 then [0x0005] else []
  else if base = 0x2110 then
    if sub = 0x13 then
      (if v = .num 1 then [] else [0x0005]) ++ (if d.dpllSt = 0 || d.dpllSt = 3 then [0x0008] else [])
    else []
  else if base = 0x2120 then
    if sub = 0x02 && decide (d.framePeriod.1 < v.int.natAbs * d.framePeriod.2) then [0x0006] else []
  else []

/-- A reference starts afresh; its limits in force stay, with whether their pair is held (R22, R53). -/
def Ref.anew (x : Ref) : Ref := { acc := x.acc, rej := x.rej, held := x.held }

/-- The effect of a write in 0x2100 to 0x2123. -/
def Dev.writeGenlock (d : Dev) (c : Ctx) (base n sub : Nat) (v : Val) : Dev :=
  let k := key base n sub
  if base = 0x2100 then
    if sub = 0x01 then
      let was := d.flag k
      let d := d.set k v
      if v.int = 0 then ((d.setRefSt n 0).modRef n Ref.anew).evalSelection c
      else if was then d else ((d.setRefSt n 1).modRef n Ref.anew).evalSelection c
    else if sub = 0x12 then if d.refSt n = 3 then d.qualify c n else d
    else (d.set k v).evalSelection c
  else if base = 0x2110 then
    if sub = 0x13 then { d with dpll := { d.dpll with realign := true, asked := true } }
    else if sub ≤ 0x02 then (d.set k v).evalSelection c
    else d.set k v
  else
    let d := d.set k v
    -- a disable acts at once
    if sub = 0x01 && v.int = 0 then { d with marks := modifyAt (fun x => { x with on := false }) n d.marks } else d

/-- The live reads of 0x2100 and 0x2110. -/
def Dev.readGenlock (d : Dev) (c : Ctx) (base n sub : Nat) : Option Val :=
  if base = 0x2100 then
    if sub = 0x0D then some (.num (d.refSt n + b2n (d.selected = n) * 128 : Nat))
    else if sub = 0x0F then some (.num (d.effQuality n))
    else if sub = 0x11 then
      some (.num (if d.refSt n = 3 then d.nat (key base n 0x0B) - (c.t - (d.refOf n).waitT) / 400000000 else 0 : Nat))
    else none
  else if base = 0x2110 then
    if sub = 0x0F then some (.num d.kOf)
    else if sub = 0x14 then some (.num d.advertised)
    else if sub = 0x0E then some (.num (d.trackSecs c))
    else none
  else none

end Sys2Proof.Machine
end

