-- ==== Sys2Proof/Machine/Synth.lean ====
section
/-!
DEFINITION. Clock synthesizers (ch 4): ratios, the lock sequence, divider apply, glides, ramp profiles and faults.
-/
namespace Sys2Proof.Machine

/-- The key of a synthesizer's object. -/
def synK (s sub : Nat) : Nat := key 0x2200 s sub

/-- The key of a ramp profile's object. -/
def profK (s sub : Nat) : Nat := key 0x2210 s sub

/-- The state of Table 4.2 (.19). -/
def Dev.synSt (d : Dev) (s : Nat) : Nat := d.nat (synK s 0x19)

/-- The inner state of a synthesizer. -/
def Dev.syn (d : Dev) (s : Nat) : Syn := (d.syns[s]?).getD {}

/-- Change the inner state of a synthesizer. -/
def Dev.modSyn (d : Dev) (s : Nat) (f : Syn → Syn) : Dev := { d with syns := modifyAt f s d.syns }

/-- Enter a state of Table 4.2. -/
def Dev.setSyn (d : Dev) (s st : Nat) : Dev := d.setN (synK s 0x19) st

/-- R239: the shadow set. -/
def Dev.shadowSet (d : Dev) (s : Nat) : SynSet :=
  ⟨d.nat (synK s 2), d.nat (synK s 3), d.nat (synK s 4), d.nat (synK s 5), d.nat (synK s 6), d.nat (synK s 7), d.nat (synK s 8)⟩

/-- R225: f_ref in Hz as a fraction: P × K × rate, P being 1/2, 1 or 2. -/
def Dev.fRef (d : Dev) (path : Nat) : Nat × Nat := (2 ^ path * d.kOf * d.rateNum, 2 * d.rateDen)

/-- R225, R251: f_VCO of a set in Hz as a fraction, at the nominal genlock frame rate. -/
def Dev.fVco (d : Dev) (x : SynSet) : Nat × Nat :=
  if x.mode = 0 then
    let r := d.fRef x.path
    (r.1 * (x.nint * 2 ^ 32 + x.frac), r.2 * 2 ^ 32)
  else (x.v * d.rateNum, d.rateDen)

/-- Whether a fraction lies in lo … hi. -/
def fracIn (f : Nat × Nat) (lo hi : Nat) : Bool := decide (lo * f.2 ≤ f.1) && decide (f.1 ≤ hi * f.2)

/-- R245: the segments of a table, as end offset (ppb) and duration (ns). -/
def segsOf : Nat → List Byte → List (Int × Nat)
  | 0, _ => []
  | f + 1, b => if b.length < 8 then [] else (signed 4 (fld b 0 4), fld b 4 4) :: segsOf f (b.drop 8)

/-- The segments of a synthesizer's profile. -/
def Dev.segs (d : Dev) (s : Nat) : List (Int × Nat) := segsOf 32 (d.raw (profK s 0x02))

/-- The least and the greatest offset of a profile, 0 included (the first segment starts from 0). -/
def spanOf (l : List (Int × Nat)) : Int × Int := l.foldl (fun p x => (min p.1 x.1, max p.2 x.1)) (0, 0)

/-- R251: every point within ±1.2% of the profile's own midpoint. -/
def profileFits (l : List (Int × Nat)) : Bool :=
  let p := spanOf l
  decide (1000 * (p.2 - p.1) ≤ 12 * (2000000000 + p.1 + p.2))

/-- R251, Table 4.4: whether a snapshot is valid. -/
def Dev.synValid (d : Dev) (s : Nat) (x : SynSet) : Bool :=
  let f := d.fVco x
  let out := fun (q std : Nat) => 15 ≤ q && q ≤ 9600 && fracIn (f.1, f.2 * q) 1000000 (if d.nat (synK s std) = 1 then 200000000 else 400000000)
  fracIn f 6000000000 9600000000 && out x.qa 0x0C && out x.qb 0x0D
    && (if x.mode = 0 then decide (30 ≤ x.nint) && decide (x.nint ≤ 192) else decide (1 ≤ x.v))
    && (!(d.flag (profK s 0x01)) || profileFits (d.segs s))

/-- R228: the band-search target: the midpoint of the armed profile's span, else the applied set's frequency. -/
def Dev.synTarget (d : Dev) (s : Nat) : Nat × Nat :=
  let f := d.fVco (d.syn s).act
  if d.flag (profK s 0x01) && !(d.segs s).isEmpty then
    let p := spanOf (d.segs s)
    ((f.1 * ((2000000000 + p.1 + p.2).toNat)), f.2 * 2000000000)
  else f

/-- R229: whether a frequency lies within ±1.2% of the target. -/
def inGlide (target f : Nat × Nat) : Bool :=
  decide (988 * (target.1 * f.2) ≤ 1000 * (f.1 * target.2)) && decide (1000 * (f.1 * target.2) ≤ 1012 * (target.1 * f.2))

/-- A frequency offset by ppb. -/
def offsetBy (f : Nat × Nat) (ppb : Int) : Nat × Nat := (f.1 * (1000000000 + ppb).toNat, f.2 * 1000000000)

/-- Table 4.7, .20: the outputs' alignment: an output is frame-aligned where its divider divides V in frame-exact mode
(R227), while the phase is that of R230. -/
def Dev.showAlign (d : Dev) (s : Nat) : Dev :=
  let y := d.syn s
  let fa := fun (q : Nat) => y.act.mode = 1 && y.act.v % q = 0
  d.setN (synK s 0x20) (if y.aligned then b2n (fa y.act.qa) + b2n (fa y.act.qb) * 2 + 4 else 0)

/-- The phase against the frame start is not, or not any more, that of R230. -/
def Dev.unalign (d : Dev) (s : Nat) : Dev := (d.modSyn s fun x => { x with aligned := false }).showAlign s

/-- The profile goes idle. -/
def Dev.profIdle (d : Dev) (s : Nat) : Dev :=
  (((d.setN (profK s 0x07) 0).setN (profK s 0x08) 0).setI (profK s 0x09) 0).modSyn s fun x => { x with upd := 0, stop := none }

/-! ## Frequencies now -/

/-- The frequency of a glide at a time, between where it starts and `f` (R242: linear in time). -/
def Glide.at (g : Glide) (f : Nat × Nat) (t : Nat) : Nat × Nat :=
  let e := min (t - g.t0) g.len
  if g.len ≤ e then f else (g.src.1 * f.2 * (g.len - e) + f.1 * g.src.2 * e, g.src.2 * f.2 * g.len)

/-- The VCO frequency without a profile's offset: that of the active set, or where a glide to it stands. -/
def Dev.synBase (d : Dev) (c : Ctx) (s : Nat) : Nat × Nat :=
  let y := d.syn s
  match y.glide with
  | some g => g.at (d.fVco y.act) c.t
  | none => d.fVco y.act

/-- The offset of a profile now, in ppb × `len`, over `len` (R246, R249). -/
def Dev.synOffset (d : Dev) (c : Ctx) (s : Nat) : Int × Nat :=
  match (d.syn s).stop with
  | some g => (g.off * (g.len - min (c.t - g.t0) g.len : Nat), max 1 g.len)
  | none => (d.int (profK s 0x09), 1)

/-- The VCO frequency now, in Hz as a fraction. -/
def Dev.synFreq (d : Dev) (c : Ctx) (s : Nat) : Nat × Nat :=
  let b := d.synBase c s
  let o := d.synOffset c s
  (b.1 * (1000000000 * o.2 + o.1).toNat, b.2 * 1000000000 * o.2)

/-- The least number of ticks in which `n` reference periods can pass: GCLK is at most 250 ppm above nominal (R197). -/
def Dev.refTicks (d : Dev) (s n : Nat) : Nat :=
  let r := d.fRef (d.syn s).act.path
  n * 400000000 * r.2 * 1000000 / (max 1 r.1 * 1000250)

/-! ## The lock sequence (Table 4.2) -/

/-- A command that the lock sequence or an end cuts short: `.09` no longer reads armed, gliding or relocking. -/
def Dev.applyOver (d : Dev) (s v : Nat) : Dev :=
  let k := synK s 0x09
  if 1 ≤ d.nat k && d.nat k ≤ 3 then d.setN k v else d

/-- R241, R53: a consistent set becomes the active one; a held episode ends. -/
def Dev.takeSet (d : Dev) (c : Ctx) (s : Nat) (x : SynSet) : Dev :=
  let d := if (d.syn s).held then d.unheld c (synK s 2) else d
  d.modSyn s fun y => { y with act := x, armed := none, held := false }

/-- Into SEARCH: mute, then the band search. A glide it cuts short ends as the relock does. -/
def Dev.synSearch (d : Dev) (s : Nat) : Dev :=
  let d := if d.nat (synK s 0x09) = 2 then d.setN (synK s 0x09) 3 else d
  ((d.setSyn s 1).unalign s).profIdle s |>.modSyn s fun x => { x with glide := none, resync := false, asked := false, toSync := false }

/-- Into SYNC (R252: the lock settings take effect). -/
def Dev.synSync (d : Dev) (s : Nat) : Dev :=
  let d := if d.nat (synK s 0x09) = 2 then d.setN (synK s 0x09) 3 else d
  ((d.setSyn s 2).unalign s).profIdle s |>.modSyn s fun x => { x with
    resync := false, glide := none, toSync := false
    inForce := [d.nat (synK s 0x10), d.nat (synK s 0x11), d.nat (synK s 0x12), d.nat (synK s 0x13), d.nat (synK s 0x14), d.nat (synK s 0x15)] }

/-- Into LOCKING at a genlock frame start (R230): the modulator is reset to its seed, the output dividers are held. -/
def Dev.synLocking (d : Dev) (c : Ctx) (s : Nat) : Dev :=
  (d.setSyn s 3).modSyn s fun x => { x with lockT := c.t, modSeed := (x.inForce[5]?).getD 0, divHeld := true }

/-- Into LOCKED at a genlock frame start (R230): the outputs are released, each with its phase offset, where it lies below
its divider (DESIGN CHOICE, log entry 122: an offset that a smaller divider has passed does not act, the last one stays).
A relock after a loss that succeeds is counted (R263); one after a LOCKING timeout is a transient error only (R25). -/
def Dev.synRelease (d : Dev) (c : Ctx) (s : Nat) : Dev :=
  let y := d.syn s
  let a := d.nat (synK s 0x0E)
  let b := d.nat (synK s 0x0F)
  let d := (d.setSyn s 5).modSyn s fun x => { x with
    aligned := true, divHeld := false, asked := false
    phi := (if a < x.act.qa then a else x.phi.1, if b < x.act.qb then b else x.phi.2)
    rel := (d.dpll.frameT, d.dpll.frameT)
    relockT := if x.loss then some c.t else x.relockT, relock := false, loss := false }
  let d := d.showAlign s
  let d := if y.loss then (d.inc (synK s 0x1E)).transient else if y.relock then d.transient else d
  if d.nat (synK s 0x09) = 3 then d.setN (synK s 0x09) 5 else d

/-- Into FAILED (R263): counted, "synthesizer lock failed" with the lasting flag, detection 0x17. -/
def Dev.synFail (d : Dev) (c : Ctx) (s : Nat) : Dev :=
  let d := ((((d.setSyn s 7).unalign s).profIdle s).applyOver s 0).inc (synK s 0x1F)
  ((d.modSyn s fun x => { x with glide := none, armed := none, resync := false, asked := false, toSync := false }).raise c 42
    (s + 256)).detect c 0x17 0

/-- R260: a relock uses an armed snapshot. -/
def Dev.synTakeArmed (d : Dev) (c : Ctx) (s : Nat) : Dev :=
  match (d.syn s).armed with
  | some (x, _, _) => (d.takeSet c s x).setN (synK s 0x09) 3
  | none => d

/-- A loss of lock or of reference from LOCKED (R263), raised as `ev`: gated; lasting when it comes at most 1 s after a
relock completed. Answers whether the synthesizer may relock. -/
def Dev.synLoss (d : Dev) (c : Ctx) (s ev : Nat) : Dev × Bool :=
  let lasting : Bool := match (d.syn s).relockT with
    | some t => decide (c.t ≤ t + 400000000)
    | none => false
  let d := d.raise c ev (s + b2n lasting * 256)
  if lasting then (d.synFail c s, false)
  else
    let d := ((d.setSyn s 6).unalign s).profIdle s
    let d := if d.nat (synK s 0x09) = 2 then d.setN (synK s 0x09) 3 else d
    ((d.modSyn s fun x => { x with glide := none, resync := false, asked := false, relock := true, loss := true, gateT := c.t }).synTakeArmed c s, true)

/-- R243: a frame-exact synthesizer whose glide, profile or realign ended: resync, or report. -/
def Dev.synUnphased (d : Dev) (c : Ctx) (s : Nat) : Dev :=
  if (d.syn s).act.mode = 1 then
    let d := d.unalign s
    if d.flag (synK s 0x17) then d.modSyn s fun x => { x with resync := true } else d.raise c 43 s
  else d

/-! ## The divider apply (R239 to R242) -/

/-- Table 4.3: whether a set differs in ratio or mode from another. -/
def SynSet.ratioDiffers (a b : SynSet) : Bool :=
  a.mode ≠ b.mode || (b.mode = 0 && (a.nint ≠ b.nint || a.frac ≠ b.frac)) || (b.mode = 1 && a.v ≠ b.v)

/-- R242: the glide time in force, in ticks. -/
def Dev.glideTicks (d : Dev) (s : Nat) : Nat := d.nat (synK s 0x16) * 400

/-- R242, Table 4.3, R259, R261: an armed snapshot takes effect at a frame start. Outside LOCKED there is no lock to
keep: a change of ratio or path starts the search again, anything less is only taken (log entry 122). -/
def Dev.synApply (d : Dev) (c : Ctx) (s : Nat) (x : SynSet) (cmd : Nat) : Dev :=
  let y := d.syn s
  let st := d.synSt s
  let ran := d.nat (profK s 0x07) ≠ 0
  let cur := d.synFreq c s
  let ratio := y.act.ratioDiffers x
  let path := decide (y.act.path ≠ x.path)
  let d := d.takeSet c s x
  let relock := fun (d : Dev) => (d.synSearch s).setN (synK s 0x09) 3
  if st = 0 || st = 7 then d.setN (synK s 0x09) 5
  else if st = 6 then d.setN (synK s 0x09) 3
  else if cmd = 2 || path then relock d
  else if st ≠ 5 then if ratio then relock d else d.setN (synK s 0x09) 5
  else
    let f := d.fVco x
    let moves := ratio || ran || y.glide.isSome
    let near := inGlide y.target cur && inGlide y.target f
    if moves && !near then relock d
    else if y.resync then (d.synSync s).setN (synK s 0x09) 3
    else if moves then
      let d := (if ran then d.profIdle s else d).unalign s
      (d.modSyn s fun y => { y with glide := some ⟨cur, c.t, d.glideTicks s⟩ }).setN (synK s 0x09) 2
    else
      let start := d.dpll.frameT
      let d := d.modSyn s fun z => { z with rel :=
        (if y.act.qa = x.qa then z.rel.1 else start, if y.act.qb = x.qb then z.rel.2 else start) }
      (d.showAlign s).setN (synK s 0x09) 5

/-- The armed snapshot, if it is due at this frame start. -/
def Dev.synDue (d : Dev) (c : Ctx) (s : Nat) : Option (SynSet × Nat) :=
  match (d.syn s).armed with
  | some (x, cmd, t0) => if t0 ≤ c.t then some (x, cmd) else none
  | none => none

/-- Table 4.2, R230, R242, R258, R261: one synthesizer at a genlock frame start; `realigned` when this boundary is a
realign. A frame start shows GCLK present, since a GCLK edge coincides with it (R169). -/
def Dev.synFrame (d : Dev) (c : Ctx) (realigned : Bool) (s : Nat) : Dev :=
  let st := d.synSt s
  let y := d.syn s
  let back := realigned || y.toSync
  let d :=
    if (st = 2 || st = 3 || st = 4) && back then d.synSync s
    else if st = 2 then d.synLocking c s
    else if st = 4 then d.synRelease c s
    else if st = 6 then d.synSearch s
    else d
  let d := match d.synDue c s with
    | some (x, cmd) => d.synApply c s x cmd
    | none => if st = 5 && y.resync then d.synSync s else d
  -- R256: a realign ends the exactness of one that runs on
  if st = 5 && realigned && d.synSt s = 5 then d.synUnphased c s else d

/-- Every synthesizer at a genlock frame start. -/
def Dev.synsFrame (d : Dev) (c : Ctx) (realigned : Bool) : Dev := (upTo 4).foldl (fun d s => d.synFrame c realigned s) d

/-- R257, R258: a new genlock frame rate: frame-exact synthesizers mute and relock through SEARCH; one in SYNC, LOCKING or
RELEASE returns to SYNC at the next genlock frame start, a frame-exact one only while its new frequency lies within the
glide range of its band (DEDUCED, log entry 123). -/
def Dev.synsRate (d : Dev) : Dev :=
  (upTo 4).foldl (fun d s =>
    let st := d.synSt s
    let y := d.syn s
    if st = 0 || st = 6 || st = 7 then d
    else if (st = 2 || st = 3 || st = 4) && (y.act.mode = 0 || inGlide y.target (d.fVco y.act)) then
      d.modSyn s fun x => { x with toSync := true }
    else if y.act.mode = 1 then d.synSearch s
    else d) d

/-! ## The events of the lock sequence -/

/-- BAND_SEARCH_DONE (R228, R229). -/
def execBandSearchDone (dt s band : Nat) (st : State) : Host.Outcome State Fault Refusal :=
  st.actOn (s < 4) dt fun _ d =>
    if d.synSt s = 1 then
      let t := d.synTarget s
      ((d.setN (synK s 0x1A) (band % 64)).modSyn s fun x => { x with target := t }).synSync s
    else d

/-- SYNTHESIZER_LOCKED (R233): the phase error has been within the lock window for N reference cycles; lock is
declared. -/
def execSynthesizerLocked (dt s : Nat) (st : State) : Host.Outcome State Fault Refusal :=
  st.actOn (s < 4) dt fun c d =>
    let y := d.syn s
    if d.synSt s = 3 && decide (y.lockT + d.refTicks s ((y.inForce[0]?).getD 0) ≤ c.t) then (d.setSyn s 4).raise c 39 s else d

/-- LOCKING_TIMEOUT (R232): 2 ms of LOCKING; one relock, then FAILED. -/
def execLockingTimeout (dt s : Nat) (st : State) : Host.Outcome State Fault Refusal :=
  st.actOn (s < 4) dt fun c d =>
    let y := d.syn s
    if d.synSt s = 3 && decide (y.lockT + 800000 ≤ c.t) then
      if y.relock then d.synFail c s else (d.modSyn s fun x => { x with relock := true }).synSearch s
    else d

/-- SYNTHESIZER_LOCK_LOST (R237, R263): gated, and one relock at once, since GCLK is there. -/
def execSynthesizerLockLost (dt s : Nat) (st : State) : Host.Outcome State Fault Refusal :=
  st.actOn (s < 4) dt fun c d =>
    if d.synSt s = 5 then
      let p := d.synLoss c s 40
      if p.2 then p.1.synSearch s else p.1
    else d

/-- SYNTHESIZER_REFERENCE_LOST (R263, R264, Table 4.2): a LOCKED synthesizer is gated until GCLK is present again. In a
relock after a loss it is the relock's failure; a first lock goes on, and LOCKING ends it by its timeout. -/
def execSynthesizerReferenceLost (dt s : Nat) (st : State) : Host.Outcome State Fault Refusal :=
  st.actOn (s < 4) dt fun c d =>
    let k := d.synSt s
    if k = 5 then (d.synLoss c s 41).1
    else if 1 ≤ k && k ≤ 4 then
      let again := (d.syn s).loss
      let d := d.raise c 41 (s + b2n again * 256)
      if again then d.synFail c s else d
    else d

/-- GATED_TIMEOUT (R232): no GCLK for 10 ms. -/
def execGatedTimeout (dt s : Nat) (st : State) : Host.Outcome State Fault Refusal :=
  st.actOn (s < 4) dt fun c d =>
    if d.synSt s = 6 && decide ((d.syn s).gateT + 4000000 ≤ c.t) then d.synFail c s else d

/-- Table 4.2: GCLK is present: gated synthesizers make their one relock. -/
def Dev.gclkBack (d : Dev) : Dev := (upTo 4).foldl (fun d s => if d.synSt s = 6 then d.synSearch s else d) d

/-- GLIDE_END (R242, R243, R249): the glide time has passed: a glide ends at its frequency, a stopped profile at
offset 0. -/
def execGlideEnd (dt s : Nat) (st : State) : Host.Outcome State Fault Refusal :=
  st.actOn (s < 4) dt fun c d =>
    let y := d.syn s
    match y.glide, y.stop with
    | some g, _ =>
      if g.t0 + g.len ≤ c.t then
        ((d.modSyn s fun x => { x with glide := none }).setN (synK s 0x09) 5).synUnphased c s
      else d
    | none, some g => if g.t0 + g.len ≤ c.t then (d.profIdle s).synUnphased c s else d
    | none, none => d

/-! ## Ramp profiles -/

/-- Walk a profile: the segment, its offset and whether the end is passed, `e` ns after the start of the list whose
first segment starts from offset `a`. -/
def profAt (i : Nat) (a : Int) (e : Nat) : List (Int × Nat) → Nat × Int × Bool
  | [] => (i - 1, a, true)
  | (b, n) :: r => if e < n then (i, a + roundDiv ((b - a) * e) n, false) else profAt (i + 1) b (e - n) r

/-- PROFILE_UPDATE (R246, R248): every 16 reference periods the offset is computed again. -/
def execProfileUpdate (dt s : Nat) (st : State) : Host.Outcome State Fault Refusal :=
  st.actOn (s < 4) dt fun c d =>
    let n := (d.syn s).upd + 1
    if d.nat (profK s 0x07) = 1 && decide ((d.syn s).profT + d.refTicks s (16 * n) ≤ c.t) then
      let l := d.segs s
      let r := d.fRef (d.syn s).act.path
      let e := n * 16 * 1000000000 * r.2 / max 1 r.1
      let total := l.foldl (fun t x => t + x.2) 0
      let loop := d.nat (profK s 0x03) = 1
      let p := profAt 0 0 (if loop then e % max 1 total else e) l
      let d := ((d.setN (profK s 0x08) p.1).setI (profK s 0x09) p.2.1).modSyn s fun x => { x with upd := n }
      if p.2.2 then d.setN (profK s 0x07) 2 else d
    else d

/-- The two segments of R250: −depth, then 0, each half a period. -/
def downSpread (depth rate : Nat) : List Byte :=
  let n := roundDivN 1000000000 (2 * rate)
  le 4 (toTwos 4 (-(100000 * (depth : Int)))) ++ le 4 n ++ le 4 0 ++ le 4 n

/-- R245: whether the bytes are a table. -/
def segTableOk (b : List Byte) : Bool :=
  b.length % 8 = 0 && 8 ≤ b.length && b.length ≤ 256 && (segsOf 32 b).all fun x => 100 ≤ x.2 && x.2 ≤ 4000000000

/-- The refusals of a write in 0x2200 to 0x2213 beside the dictionary's. -/
def Dev.checkSynth (d : Dev) (base n sub : Nat) (v : Val) : List Nat :=
  if base = 0x2200 then
    if sub = 0x09 then if v = .num 1 || v = .num 2 then [] else [0x0005]
    else if sub = 0x18 then if v = .num 1 then [] else [0x0005]
    else if sub = 0x0E then if v.int < d.nat (synK n 0x07) then [] else [0x0006]
    else if sub = 0x0F then if v.int < d.nat (synK n 0x08) then [] else [0x0006]
    else []
  else
    let running := d.nat (profK n 0x07) = 1
    if sub = 0x02 then (if segTableOk v.raw then [] else [0x0005]) ++ (if running then [0x0008] else [])
    else if sub = 0x04 then
      if v = .num 1 then
        let l := d.segs n
        let f := d.fVco (d.syn n).act
        let fits := l.all (fun x => inGlide (d.syn n).target (offsetBy f x.1)) && inGlide (d.syn n).target f
        let loopBad := d.nat (profK n 0x03) = 1 && (match l.getLast? with | some x => x.1 ≠ 0 | none => true)
        if d.synSt n ≠ 5 || !fits || loopBad || l.isEmpty then [0x0006] else []
      else if v = .num 2 then []
      else if v = .num 3 then if running then [0x0008] else []
      else [0x0005]
    else []

/-- The effect of a write in 0x2200 to 0x2213. -/
def Dev.writeSynth (d : Dev) (c : Ctx) (base n sub : Nat) (v : Val) : Dev :=
  let k := key base n sub
  if base = 0x2200 then
    if sub = 0x01 then
      let was := d.flag k
      let d := d.set k v
      if v.int = 0 then
        (((d.setSyn n 0).unalign n).profIdle n |>.applyOver n 0).modSyn n fun x => { x with
          armed := none, glide := none, relock := false, loss := false, relockT := none, resync := false, asked := false, toSync := false }
      else if was then d
      -- an armed snapshot is what the search starts from (ch 4, worked example)
      else ((d.modSyn n fun x => { x with relock := false, loss := false, relockT := none }).synTakeArmed c n).synSearch n
    else if sub = 0x09 then
      let x := d.shadowSet n
      if d.synValid n x then (d.modSyn n fun y => { y with armed := some (x, v.int.toNat, c.t + 4000) }).setN k 1
      else
        let d := if (d.syn n).held then d else d.held c (synK n 2)
        (d.modSyn n fun y => { y with held := true }).setN k 4
    else if sub = 0x18 then if d.synSt n = 5 then (d.synSync n).modSyn n fun x => { x with asked := true } else d
    else d.set k v
  else if sub = 0x04 then
    if v = .num 1 then
      -- exactness is suspended while the profile runs (R243)
      (((d.profIdle n).unalign n).setN (profK n 0x07) 1).modSyn n fun x => { x with profT := c.t }
    else if v = .num 2 then
      if d.nat (profK n 0x07) = 1 || d.nat (profK n 0x07) = 2 then
        (d.setN (profK n 0x07) 3).modSyn n fun x => { x with stop := some ⟨d.int (profK n 0x09), c.t, d.glideTicks n⟩ }
      else d
    else (d.setB (profK n 0x02) (downSpread (d.nat (profK n 0x05)) (d.nat (profK n 0x06)))).setN (profK n 0x03) 1
  else d.set k v

/-- The live reads of 0x2200 (active values; 0 while OFF) and the offset of a stopping profile. -/
def Dev.readSynth (d : Dev) (c : Ctx) (base n sub : Nat) : Option Val :=
  if base ≠ 0x2200 then
    if sub = 0x09 && (d.syn n).stop.isSome then
      let o := d.synOffset c n
      some (.num (roundDiv o.1 o.2))
    else none
  else
    let y := d.syn n
    let on := d.synSt n ≠ 0
    let f := d.synFreq c n
    if sub = 0x1B then some (.num (if on then roundDivN f.1 (f.2 * 1000) else 0 : Nat))
    else if sub = 0x1C then some (.num (if on then roundDivN f.1 (f.2 * y.act.qa) else 0 : Nat))
    else if sub = 0x1D then some (.num (if on then roundDivN f.1 (f.2 * y.act.qb) else 0 : Nat))
    else if sub = 0x21 then
      -- the fraction the modulator uses: the ratio to f_ref now, below 1
      let r := d.fRef y.act.path
      some (.num (if on then roundDivN (2 ^ 32 * (f.1 * r.2)) (f.2 * r.1) % 2 ^ 32 else 0 : Nat))
    else if sub = 0x18 then some (.num (b2n y.asked : Nat))
    else none

/-! ## The clock monitor's gate -/

/-- CMON_GATE_END (R137 to R140, R943): the counts of the gate and the IMO frequency measured in it; a GCLK found within
its range ends the gating of synthesizers (Table 4.2). -/
def execCmonGateEnd (dt : Nat) (counts : List Nat) (imoHz : Nat) (s : State) : Host.Outcome State Fault Refusal :=
  s.act dt fun c d =>
    let d := d.cmonGate c counts imoHz
    if d.rst.stage = .up && clockGood 400 ((counts[7]?).getD 0) then d.gclkBack else d

end Sys2Proof.Machine
end

