-- ==== Sys2Proof/Machine/Lanes.lean ====
section
/-!
DEFINITION. Ovton link, lanes (ch 5): the line code, port states, training and retraining, sleep, quad PLLs,
equalizers, the eye scan and the tests.
-/
namespace Sys2Proof.Machine

/-! ## Ports and lanes -/

/-- A port's quad. -/
def Dev.quadOf (d : Dev) (p : Nat) : Nat := d.first p / 4

/-- Whether a port is enabled and started (R941 may hold a loaded enable). -/
def Dev.portOn (d : Dev) (p : Nat) : Bool := d.portSt p ≠ 0

/-- The ports of the variant. -/
def portsOf (c : Ctx) : List Nat := upTo (if c.s12 then 16 else 32)

/-- A lane's rate in Mbit/s (Table 5.1). -/
def laneRate (code : Nat) : Nat := 3200 * 2 ^ code

/-- R274: the payload rate in bit/s as a fraction. -/
def payloadRate (width rate : Nat) : Nat × Nat := (width * laneRate rate * 1000000 * 32768 * 999, 32832 * 1000)

/-- R274: the payload rate in Mbit/s, rounded down. -/
def payloadMbit (width rate : Nat) : Nat :=
  let f := payloadRate width rate
  f.1 / (f.2 * 1000000)

/-- The port a lane belongs to. -/
def Dev.laneOwner (d : Dev) (c : Ctx) (l : Nat) : Option Nat :=
  (portsOf c).find? fun p => d.portOn p && (d.portLanes p).contains l

/-- Whether signal is detected on every lane of a port. -/
def Dev.signalAll (d : Dev) (p : Nat) : Bool := (d.portLanes p).all fun l => d.flag (laneK l 0x0A)

/-- Whether signal is detected on no lane of a port. -/
def Dev.signalNone (d : Dev) (p : Nat) : Bool := (d.portLanes p).all fun l => !d.flag (laneK l 0x0A)

/-- A lane out of marker lock. -/
def Dev.laneReset (d : Dev) (l : Nat) : Dev :=
  ((d.modLane l fun x => { tx := x.tx }).setN (laneK l 0x0B) 0).setN (laneK l 0x0C) 0xFF

/-- A port's lanes out of marker lock, and its own RX ready cleared. -/
def Dev.lanesReset (d : Dev) (p : Nat) : Dev :=
  ((d.portLanes p).foldl Dev.laneReset d).modPort p fun x => { x with step := 0, rxReady := false }

/-! ## Transmitting blocks (Table 5.5) -/

/-- R270: the block period of a port's rate in ticks (32,832 UI). -/
def Dev.blockTicks (d : Dev) (p : Nat) : Nat := 4104 / 2 ^ d.nat (portK p 0x05)

/-- The transmit side of a port's lanes after a marker of a sequence and `n` words of zeros each. -/
def Dev.zeroLanes (d : Dev) (p seq n : Nat) : Dev :=
  (upTo (d.width p)).foldl (fun d k =>
    let l := d.first p + k
    let w := markerWord k (widthCode (d.width p)) false (d.port p).rxReady false seq
    d.modLane l fun y => { y with tx := ((d.laneSet l y.tx).mark k w).1.zeros n }) d

/-- Table 5.5: the blocks of zero payload that a port outside UP has begun by now (log entry 125: their starts are one
block period apart; stuffed bits are left out of the count). -/
def Dev.txCatch (d : Dev) (c : Ctx) (p : Nat) : Dev :=
  let x := d.port p
  let n := (c.t - x.txT) / d.blockTicks p
  if !x.tx || d.portSt p = 3 || n = 0 then d
  else
    let d := (d.emit (.zeroBlocks p x.txSeq n x.rxReady)).zeroLanes p ((x.txSeq + n - 1) % 65536) 1024
    d.modPort p fun y => { y with txSeq := (x.txSeq + n) % 65536, txT := x.txT + n * d.blockTicks p }

/-- R275, R280: a port's lanes leave electrical idle with a marker of sequence 0. -/
def Dev.txStart (d : Dev) (c : Ctx) (p : Nat) : Dev :=
  let d := (d.portLanes p).foldl (fun d l => d.modLane l fun x => { x with tx := {} }) d
  let d := (d.modPort p fun x => { x with tx := true, txSeq := 1, txT := c.t, left := 0 }).emit (.zeroBlocks p 0 1 (d.port p).rxReady)
  d.zeroLanes p 0 1024

/-- Words of zeros on a port's wire: `n` from where its block stands. -/
def Dev.sendZeros (d : Dev) (p n : Nat) : Dev :=
  let x := d.port p
  let w := max 1 (d.width p)
  let at0 := d.blockLen p - x.left
  let d := (upTo w).foldl (fun d k =>
    let from0 := (k + w - at0 % w) % w
    d.modLane (d.first p + k) fun y => { y with tx := y.tx.zeros ((n - from0 + w - 1) / w) }) (d.emit (.zeroWords p n))
  d.modPort p fun y => { y with left := y.left - n }

/-- The block of packets under way when a port leaves UP is filled with zeros (DESIGN CHOICE, log entry 125); blocks of
zero payload follow. -/
def Dev.endBlock (d : Dev) (c : Ctx) (p : Nat) : Dev :=
  let n := (d.port p).left
  let d := if n = 0 then d else d.sendZeros p n
  d.modPort p fun x => { x with txT := c.t }

/-- A port's transmitter goes to electrical idle. -/
def Dev.txStop (d : Dev) (p : Nat) : Dev := d.modPort p fun x => { x with tx := false, left := 0 }

/-! ## Eye scan and test -/

/-- R321: end a running eye scan on a lane of the port, with the reason. -/
def Dev.abortScan (d : Dev) (p reason : Nat) : Dev :=
  match d.scan with
  | some x =>
    if (d.portLanes p).contains x.lane then
      { ((d.setN 0x3200_07 3).setN 0x3200_0B reason) with scan := none }
    else d
  | none => d

/-! ## Queues of a port that empty -/

/-- R628: a destination of a stream drops to repair mode; `n` of its queued packets were discarded. -/
def Dev.dropDest (d : Dev) (c : Ctx) (s p n : Nat) : Dev :=
  let k := key 0x7200 s
  let d := d.addTo (k 0x17) 32 n
  let d := d.setN (k 0x0B) (setBit (d.nat (k 0x0B)) p false)
  let d := d.setN (k 0x0C) (setBit (d.nat (k 0x0C)) p true)
  let d := d.setN (k 0x0D) (setBit (d.nat (k 0x0D)) p true)
  d.raise c 78 (s + p * 256)

/-- R385, R391: discard every queued and unacknowledged packet and count them in .0A; the multicast destinations that
lose packets drop to repair mode (R629). -/
def Dev.flushPort (d : Dev) (c : Ctx) (p : Nat) : Dev :=
  let x := d.port p
  let n := x.safe.length + x.iso.length + x.mgmt.length + (x.flows.map List.length).sum + x.vc1.unack.length + x.vc2.unack.length
  let hit := (upTo 32).filter fun s => !((x.flows[s]?).getD []).isEmpty && bit (d.nat (key 0x7200 s 0x0B)) p
  let d := (d.addTo (linkK p 0x0A) 32 n).modPort p fun x => { x with
    safe := [], iso := [], mgmt := [], ctl := [], flows := List.replicate 32 []
    vc1 := { x.vc1 with unack := [] }, vc2 := { x.vc2 with unack := [] } }
  hit.foldl (fun d s => d.dropDest c s p 0) d

/-- R371: entry to UP from TRAINING: retried channels start again and lose what they held. -/
def Dev.flushRetried (d : Dev) (p : Nat) : Dev :=
  let x := d.port p
  let n := x.mgmt.length + (x.flows.map List.length).sum + x.vc1.unack.length + x.vc2.unack.length
  (d.addTo (linkK p 0x0A) 32 n).modPort p fun x => { x with
    mgmt := [], flows := List.replicate 32 [], vc1 := {}, vc2 := {}, rx0 := none, rx3 := none }

/-- R372, R383: what leaving UP ends: ISO packets waiting are discarded and counted, time exchanges and LINK CONTROL
packets are dropped. -/
def Dev.leaveUp (d : Dev) (p : Nat) : Dev :=
  if d.portSt p = 3 then
    (d.addTo (linkK p 0x08) 32 (d.port p).iso.length).modPort p fun x => { x with
      iso := [], ctl := [], flowSeen := false, folioTx := false, folioRx := none, gotSync := none, sentDreq := none, path := none }
  else d

/-! ## State changes -/

/-- R330, R391: into FAILED with a reason. -/
def Dev.failPort (d : Dev) (c : Ctx) (p reason : Nat) : Dev :=
  let d := (d.leaveUp p).abortScan p 3
  let d := (((d.inc (portK p 0x0A)).setN (portK p 0x10) reason).setPort p 7).lanesReset p
  let quiet := if d.signalNone p then some c.t else none
  (((d.txStop p).flushPort c p).modPort p fun x => { x with quietT := quiet }).raise c 66 (p + 256 + reason * 65536)

/-- R289, Table 5.6: signal is on every lane and the quad runs: the first training attempt. -/
def Dev.tryTrain (d : Dev) (c : Ctx) (p : Nat) : Dev :=
  if d.portSt p = 1 && d.signalAll p && ((d.quads[d.quadOf p]?).getD {}).pll = 2 then
    (((d.txCatch c p).setPort p 2).lanesReset p).modPort p fun x => { x with attempt := 1, detT := c.t, begT := c.t }
  else d

/-- R289: a training attempt fails: one more attempt, then FAILED. -/
def Dev.failAttempt (d : Dev) (c : Ctx) (p reason : Nat) : Dev :=
  if (d.port p).attempt = 1 then ((d.txCatch c p).lanesReset p).modPort p fun x => { x with attempt := 2, begT := c.t }
  else d.failPort c p reason

/-- R295: UP is left for RETRAIN; `keep`: because RX ready 0 was received or the partner retrained alone, so that its
own RX ready stays. The next marker sent carries what is left of RX ready, and no packet mode. -/
def Dev.enterRetrain (d : Dev) (c : Ctx) (p : Nat) (keep : Bool) : Dev :=
  let d := ((((d.endBlock c p).leaveUp p).abortScan p 2).setPort p 4).modPort p fun x => { x with begT := c.t }
  if keep then (d.modPort p fun x => { x with loss := false })
  else (d.lanesReset p).modPort p fun x => { x with loss := true }

/-- R328, R330: a loss in UP: a retrain, or FAILED when it comes at most 1 s after the last one completed. -/
def Dev.lossPort (d : Dev) (c : Ctx) (p : Nat) : Dev :=
  if d.portSt p ≠ 3 then d
  else
    let second : Bool := match (d.port p).doneT with
      | some t => decide (c.t ≤ t + 400000000)
      | none => false
    if second then d.failPort c p 4 else d.enterRetrain c p false

/-- R292, R330, R367 to R371: entry to UP. -/
def Dev.enterUp (d : Dev) (c : Ctx) (p : Nat) : Dev :=
  let st := d.portSt p
  let x := d.port p
  let d := d.txCatch c p
  let d :=
    if st = 2 then
      (((d.setN (linkK p 0x0B) 0).setN (portK p 0x0F) ((c.t - x.detT) / 400)).flushRetried p).modPort p fun y => { y with doneT := none }
    else d.setN (linkK p 0x0B) ((d.nat (linkK p 0x0B) + 1) % 65536)
  let lossy := st = 4 && x.loss
  let d := if lossy then (((d.inc (portK p 0x09)).transient).raise c 65 p).modPort p fun y => { y with doneT := some c.t, loss := false } else d
  let again := fun (r : Retry) => { r with nak := false, nakDue := false, unack := r.unack.map fun e => { e with sent := false, marked := false, due := true } }
  let d := (d.setPort p 3).modPort p fun y => { y with
    framed := true, resume := none, left := 0, lims := [0, 0, 0, 0], cnts := [0, 0, 0, 0], got := [0, 0, 0, 0], flowSeen := false, ctl := [.flow]
    folioTx := false, folioRx := none, vc1 := again y.vc1, vc2 := again y.vc2 }
  d.raise c 64 p

/-- R292: UP once its own receive side is ready and every lane's last marker carried RX ready. -/
def Dev.tryUp (d : Dev) (c : Ctx) (p : Nat) : Dev :=
  let st := d.portSt p
  if (st = 2 || st = 4 || st = 6) && (d.port p).rxReady
      && (d.portLanes p).all (fun l => (d.lane l).rdy && d.flag (laneK l 0x0B)) then
    d.enterUp c p
  else d

/-- Table 5.6 step 8: RX ready is set, in the next marker sent. -/
def Dev.ready (d : Dev) (c : Ctx) (p : Nat) : Dev :=
  ((d.txCatch c p).modPort p fun x => { x with step := 3, rxReady := true }).tryUp c p

/-- R291, Table 5.6 step 6: the lane map check and deskew once every lane is in marker lock. -/
def Dev.mapCheck (d : Dev) (c : Ctx) (p : Nat) : Dev :=
  let ls := d.portLanes p
  let w := d.width p
  let code := widthCode w
  let bad := fun (d : Dev) (reason : Nat) => if d.portSt p = 2 then d.failAttempt c p reason else d.failPort c p reason
  if !(ls.all fun l => d.flag (laneK l 0x0B)) then d
  else if !((upTo w).all fun k => ls.any fun l => d.nat (laneK l 0x0C) = k) || !(ls.all fun l => (d.lane l).width = code) then bad d 2
  else
    let skew := ls.foldl (fun m l => max m (d.lane l).skew) 0
    if 2048 < skew then bad d 3
    else
      let order := ls.foldl (fun n l => n + (l - d.first p) * 4 ^ d.nat (laneK l 0x0C)) 0
      let d := (d.setN (portK p 0x0B) skew).setN (portK p 0x0C) order
      if d.nat (portK p 0x06) = 2 then d.ready c p else d.modPort p fun x => { x with step := 2 }

/-- R304, R305: four blocks of zero payload whose markers carry the sleep notice, then SLEEP. -/
def Dev.goSleep (d : Dev) (c : Ctx) (p : Nat) : Dev :=
  let d := ((d.endBlock c p).leaveUp p).abortScan p 4
  let d := (upTo 4).foldl (fun d _ => (d.sendMarker p true false).sendZeros p (d.blockLen p)) d
  ((d.txStop p).setPort p 5).lanesReset p

/-- R307: WAKING; the transmitter leaves electrical idle. -/
def Dev.wake (d : Dev) (c : Ctx) (p : Nat) : Dev :=
  if d.portSt p = 5 then (((d.setPort p 6).lanesReset p).modPort p fun x => { x with begT := c.t }).txStart c p else d

/-! ## Quads -/

/-- The lanes of a quad report its PLL. -/
def Dev.setQuad (d : Dev) (q : Nat) (x : Quad) : Dev :=
  let d := { d with quads := modifyAt (fun _ => x) q d.quads }
  (upTo 4).foldl (fun d i => (d.setN (laneK (4 * q + i) 0x0E) (if x.pll = 1 || x.pll = 2 then x.rate else 0xFF)).setN
    (laneK (4 * q + i) 0x0F) (b2n (x.pll = 2))) d

/-- The quad is needed at a rate: its PLL starts when it is not already running. -/
def Dev.needQuad (d : Dev) (q rate : Nat) : Dev :=
  let x := (d.quads[q]?).getD {}
  if x.pll = 1 || x.pll = 2 then d else d.setQuad q ⟨1, rate⟩

/-- A quad that no started port and no test uses is off. -/
def Dev.dropQuad (d : Dev) (c : Ctx) (q : Nat) : Dev :=
  let used := (portsOf c).any fun p => d.portOn p && d.quadOf p = q
  let tested : Bool := match d.test with
    | some t => t.first / 4 = q
    | none => false
  if used || tested then d else d.setQuad q {}

/-- The running test ends (R309). -/
def Dev.endTest (d : Dev) : Dev := { (d.setN 0x3300_04 0) with test := none }

/-- R318, R332, R933: every port of a quad, and a test on it, fails for its PLL. -/
def Dev.failQuad (d : Dev) (c : Ctx) (q : Nat) : Dev :=
  let d := d.setQuad q ⟨3, 0xFF⟩
  let d := match d.test with
    | some t => if t.first / 4 = q then d.endTest else d
    | none => d
  let d := (portsOf c).foldl (fun d p => if d.portOn p && d.quadOf p = q && d.portSt p ≠ 7 then d.failPort c p 5 else d) d
  d.raise c 67 (q + 256)

/-! ## Enable, disable, sleep: writes -/

/-- R271, R272: the refusals of an enable. -/
def Dev.enableRefusals (d : Dev) (c : Ctx) (p : Nat) : List Nat :=
  let ls := d.portLanes p
  let rate := d.nat (portK p 0x05)
  let clash := (portsOf c).any fun o => o ≠ p && d.portOn o &&
    ((d.portLanes o).any ls.contains || (d.quadOf o = d.quadOf p && d.nat (portK o 0x05) ≠ rate))
  let test : Bool := match d.test with
    | some t => t.port = p || (t.first / 4 = d.quadOf p && t.rate ≠ rate)
    | none => false
  (if d.first p % max 1 (d.width p) ≠ 0 || clash || test then [0x0006] else [])
    ++ (if c.s12 && 23 < d.first p then [0x0005] else [])

/-- R272, R288: a port starts: WAIT, with its quad PLL. -/
def Dev.startPort (d : Dev) (c : Ctx) (p : Nat) : Dev :=
  let d := (d.setPort p 1).modPort p fun x => { x with doneT := none, loss := false }
  let d := (d.portLanes p).foldl (fun d l => d.setN (laneK l 0x0A) 0) d
  let d := (d.needQuad (d.quadOf p) (d.nat (portK p 0x05))).lanesReset p
  let d := if ((d.quads[d.quadOf p]?).getD {}).pll = 2 then d.txStart c p else d
  d.tryTrain c p

/-- R325, R385: a port stops. -/
def Dev.stopPort (d : Dev) (c : Ctx) (p : Nat) : Dev :=
  let q := d.quadOf p
  let d := (((d.leaveUp p).abortScan p 3).txStop p).flushPort c p
  let d := (d.portLanes p).foldl (fun d l => ((d.setN (laneK l 0x0A) 0).laneReset l).setN (laneK l 0x05) 0) d
  ((d.setPort p 0).modPort p fun x => { x with rxReady := false, step := 0 }).dropQuad c q

/-- The capture channel a LINKREF names. -/
def Dev.linkrefChannel (d : Dev) (r : Nat) : Nat := d.nat (key 0x2100 r 0x0C)

/-- The port whose receive side carries the selected LINKREF. -/
def Dev.linkrefPort (d : Dev) : Option Nat :=
  let r := d.selected
  if 4 ≤ r && r ≤ 7 then some (d.nat (key 0x4000 (d.linkrefChannel r) 0x02)) else none

/-- R306: what a sleep command spares. -/
def Dev.sleepBarred (d : Dev) (p : Nat) : Bool :=
  (upTo 24).any (fun n => (d.flag (key 0x4000 n 0x01) && d.nat (key 0x4000 n 0x02) = p)
    || (d.flag (key 0x5000 n 0x01) && d.nat (key 0x5000 n 0x02) = p))
  || (upTo 32).any (fun s => d.nat (key 0x7200 s 0x01) = 2 && bit (d.nat (key 0x7200 s 0x05)) p)
  || d.linkrefPort = some p
  || (d.nat 0x1050_06 = 2 && d.nat 0x1050_08 = p)

/-- R303: whether 12 bytes are DFE taps: tap 1 within ±63, the others within ±31. -/
def dfeOk (b : List Byte) : Bool :=
  (upTo 12).all fun i => decide ((signed 1 (fld b i 1)).natAbs ≤ if i = 0 then 63 else 31)

/-- The refusals of a write in 0x3000 to 0x33FF beside the dictionary's (admission apart). -/
def Dev.checkLanes (d : Dev) (c : Ctx) (base n sub : Nat) (v : Val) : List Nat :=
  if base = 0x3000 then
    if sub = 0x01 then if v = .num 1 && !d.portOn n then d.enableRefusals c n else []
    else if sub = 0x03 && c.s12 && 23 < v.int then [0x0005]
    else if sub = 0x08 then
      if v = .num 1 then (if d.portSt n ≠ 3 then [0x0008] else []) ++ (if d.sleepBarred n then [0x0006] else [])
      else if v = .num 2 then (if d.portSt n ≠ 5 then [0x0008] else [])
      else [0x0005]
    else []
  else if base = 0x3200 then
    if sub = 0x01 && c.s12 && 23 < v.int then [0x0005]
    else if sub = 0x07 then
      if v = .num 1 then
        let l := d.nat 0x3200_01
        let tested : Bool := match d.test with
          | some t => decide (t.first ≤ l) && decide (l < t.first + t.width)
          | none => false
        let st := match d.laneOwner c l with
          | some p => d.portSt p
          | none => 0
        (if d.scan.isSome || (!tested && (st = 2 || st = 4 || st = 6)) then [0x0008] else [])
          ++ (if st = 3 || tested then [] else [0x0006])
      else if v = .num 2 then [] else [0x0005]
    else []
  else if base = 0x3300 then
    if sub = 0x01 && c.s12 && 15 < v.int then [0x0005]
    else if sub = 0x04 then
      if v = .num 1 then
        let p := d.nat 0x3300_01
        let rate := d.nat (portK p 0x05)
        let clash := (portsOf c).any fun o => d.portOn o && d.quadOf o = d.quadOf p && d.nat (portK o 0x05) ≠ rate
        (if d.test.isSome then [0x0008] else []) ++ (if d.portOn p || clash then [0x0006] else [])
      else if v = .num 2 then [] else [0x0005]
    else []
  else []

/-- The points a scan mode has (R315). -/
def scanPoints (mode : Nat) : Nat :=
  match mode with
  | 0 => 1
  | 1 => 8192
  | 2 => 64
  | _ => 128

/-- R309, R310: a test starts, with the port's rate, width and lanes; outside far-end mode the pattern starts from a state
that the spec does not give (free, not 0), and in external mode it is on the transmit pins. -/
def Dev.startTest (d : Dev) (c : Ctx) (p : Nat) : Dev :=
  let d := (d.abortScan p 5).needQuad (d.quadOf p) (d.nat (portK p 0x05))
  let pat := d.nat 0x3300_03
  let s0 := 1 + Config.free c.seed 2300 % (2 ^ (prbsTaps pat).1 - 1)
  let d := if d.nat 0x3300_02 = 0 then d.emit (.pattern p pat s0) else d
  { ((((d.setN 0x3300_04 1).setN 0x3300_05 0).setN 0x3300_06 0).setN 0x3300_07 0 |>.setB 0x3300_08 []) with
    test := some ⟨p, d.nat 0x3300_02, pat, d.first p, d.width p, d.nat (portK p 0x05), c.t, s0⟩ }

/-- R309 to R311: what a test that stops leaves in 0x3300.05 to .08. In external and near-end serial mode the checker has
run on what was received on each lane; in near-end parallel mode on the pattern itself, bit for bit; in far-end mode no
checker runs, and what was received is on the transmit pins unchanged. -/
def Dev.testResult (d : Dev) (c : Ctx) (t : Test) (rx : List (List Bool)) : Dev :=
  if t.mode = 3 then
    (upTo t.width).foldl (fun d k =>
      let l := t.first + k
      d.emit (.line l (d.nat (laneK l 1)) (d.nat (laneK l 2)) (d.nat (laneK l 3)) ((rx[k]?).getD []))) d
  else
    let own : Chk :=
      let n := (c.t - t.t0) * 8 * 2 ^ t.rate
      if t.pattern = 0 then { locked := 0 < n, n := n } else { locked := 64 ≤ n, n := n - 64 }
    let l := (upTo t.width).map fun k => if t.mode = 2 then own else checkLine t.pattern k ((rx[k]?).getD [])
    let d := d.setN 0x3300_05 ((l.zipIdx).foldl (fun n p => n + b2n p.1.locked * 2 ^ p.2) 0)
    let d := (d.setN 0x3300_06 ((l.map fun x => x.n).sum % 2 ^ 64)).setN 0x3300_07 ((l.map fun x => x.errs).sum % 2 ^ 64)
    d.setB 0x3300_08 (l.map fun x => le 8 x.errs).flatten

/-- The effect of a write in 0x3000 to 0x33FF. -/
def Dev.writeLanes (d : Dev) (c : Ctx) (base n sub : Nat) (v : Val) : Dev :=
  let k := key base n sub
  if base = 0x3000 then
    if sub = 0x01 then
      let d := d.set k v
      if v.int = 0 then (if d.portOn n then d.stopPort c n else d)
      else if d.portOn n || d.videoDown then d else d.startPort c n
    else if sub = 0x02 then (d.set k v).judgeTimePair c
    else if sub = 0x08 then if v = .num 1 then d.goSleep c n else d.wake c n
    else d.set k v
  else if base = 0x3100 && sub ≤ 0x04 then
    -- R298: the markers sent so far carry the settings before
    (match d.laneOwner c n with
      | some p => d.txCatch c p
      | none => d).set k v
  else if base = 0x3200 && sub = 0x07 then
    if v = .num 1 then
      { ((((d.setN 0x3200_07 1).setN 0x3200_08 0).setB 0x3200_0A []).setN 0x3200_0B 0) with
        scan := some ⟨d.nat 0x3200_01, scanPoints (d.nat 0x3200_02), d.nat 0x3200_05, d.nat 0x3200_06⟩ }
    else if d.scan.isSome then { ((d.setN 0x3200_07 3).setN 0x3200_0B 1) with scan := none }
    else d
  else if base = 0x3300 && sub = 0x04 then
    if v = .num 1 then d.startTest c (d.nat 0x3300_01)
    else
      match d.test with
      | some t => d.endTest.dropQuad c (t.first / 4)
      | none => d
  else d.set k v

/-- The live reads of 0x3000 and 0x3100. -/
def Dev.readLanes (d : Dev) (c : Ctx) (base n sub : Nat) : Option Val :=
  if base = 0x3000 then
    if sub = 0x08 then some (.num (if d.portSt n = 5 then 2 else if d.portSt n = 6 then 3 else 0 : Nat))
    else if sub = 0x11 then some (.num (if d.portSt n = 3 then payloadMbit (d.width n) (d.nat (portK n 0x05)) else 0 : Nat))
    else none
  else if base = 0x3100 && sub = 0x10 then
    let tested : Bool := match d.test with
      | some t => decide (t.first ≤ n) && decide (n < t.first + t.width)
      | none => false
    some (.num (match d.laneOwner c n with | some p => if d.portSt p = 5 then 2 else 1 | none => b2n tested : Nat))
  else none

/-! ## Events -/

/-- The number of ports of the variant. -/
def State.portCount (s : State) : Nat := s.count 32 16

/-- The number of lanes of the variant. -/
def State.laneCount (s : State) : Nat := s.count 48 24

/-- R933: whether the QBIAS measurements of a lock leave the quad calibrated: the first in range, or the second. -/
def biasOk (bias again : Nat) : Bool :=
  let ok := fun (r : Nat) => decide (950 ≤ r) && decide (r ≤ 1050)
  ok bias || ok again

/-- R25, R933: a calibration that succeeds only when it is made once more counts. -/
def Dev.biasCount (d : Dev) (bias again : Nat) : Dev :=
  if biasOk bias bias || !biasOk again again then d else d.transient

/-- QUAD_PLL_LOCK (R289, R318, R933): the PLL locks, with the QBIAS resistance measured at the lock and, where that is
out of range, once more, in ohms; the quad's transmitters leave electrical idle. -/
def execQuadPllLock (dt q bias again : Nat) (s : State) : Host.Outcome State Fault Refusal :=
  s.actOn (q < s.count 12 6) dt fun c d =>
    let x := (d.quads[q]?).getD {}
    if x.pll = 1 then
      let d := d.biasCount bias again
      if biasOk bias again then
        (portsOf c).foldl (fun d p => if d.quadOf p = q && d.portSt p = 1 then (d.txStart c p).tryTrain c p else d) (d.setQuad q ⟨2, x.rate⟩)
      else d.failQuad c q
    else d

/-- SIGNAL_DETECT (R288, R307): signal on every lane of a port. -/
def execSignalDetect (dt p : Nat) (s : State) : Host.Outcome State Fault Refusal :=
  s.actOn (p < s.portCount) dt fun c d =>
    if d.portOn p then
      let d := (d.portLanes p).foldl (fun d l => d.setN (laneK l 0x0A) 1) d
      ((d.modPort p fun x => { x with quietT := none }).tryTrain c p).wake c p
    else d

/-- Whether a lane takes new equalizer values: not frozen (R301, R326), and not in manual mode (Table 5.7). -/
def Dev.adapts (d : Dev) (p l : Nat) : Bool := !d.flag (laneK l 0x06) && d.nat (portK p 0x06) ≠ 2

/-- Table 5.7: equalizer values reached on a lane of a port take hold: the DFE taps in mode 1 only. -/
def Dev.equalize (d : Dev) (p l ctle vga : Nat) (dfe : Option (List Byte)) : Dev :=
  if !d.adapts p l then d
  else
    let d := (d.setN (laneK l 0x11) (ctle % 16)).setN (laneK l 0x12) (vga % 32)
    match dfe with
    | some b => if d.nat (portK p 0x06) = 1 then d.setB (laneK l 0x13) ((b ++ zeros 12).take 12) else d
    | none => d

/-- CDR_LOCK (R289), with the offset in ppm and the coarse CTLE and VGA of each lane. -/
def execCdrLock (dt p : Nat) (ppm : Int) (eq : List (Nat × Nat)) (s : State) : Host.Outcome State Fault Refusal :=
  s.actOn (p < s.portCount) dt fun _ d =>
    let st := d.portSt p
    if (st = 2 || st = 4 || st = 6) && (d.port p).step = 0 then
      let d := (d.portLanes p).foldl (fun d l => d.setI (laneK l 0x0D) (clampInt (-32768) 32767 ppm)) d
      let d := ((d.portLanes p).zip eq).foldl (fun d x => d.equalize p x.1 x.2.1 x.2.2 none) d
      d.modPort p fun x => { x with step := 1 }
    else d

/-- A good marker in UP: RX ready 0, a sleep notice, or a block sequence that differs from another lane's marker of the
same place (Table 5.12). -/
def Dev.markerUp (d : Dev) (c : Ctx) (p l w seq : Nat) : Dev :=
  let x := d.lane l
  if bit w 36 then d.goSleep c p
  else if (d.portLanes p).any fun m => m ≠ l && (d.lane m).pos = x.pos && (d.lane m).seq.isSome && (d.lane m).seq ≠ some seq then d.lossPort c p
  else if !bit w 37 then d.enterRetrain c p true
  else d

/-- R290 to R295, R303, R329: one lane's marker of the port, already turned right way up; `due`: it stands 32,768
payload bits after the one before. -/
def Dev.goodMarker (d : Dev) (c : Ctx) (p l w skew : Nat) (due : Bool) : Dev :=
  let seq := bits w 40 16
  let locked := d.flag (laneK l 0x0B)
  let d := d.modLane l fun x => { x with
    good := if due then x.good + 1 else 1, bad := 0, pos := if locked then (x.pos + 1) % 65536 else seq, seq := some seq
    rdy := bit w 37, pm := bit w 38, width := bits w 34 2, skew := skew }
  let d := if !locked && 3 ≤ (d.lane l).good then (d.setN (laneK l 0x0B) 1).setN (laneK l 0x0C) (bits w 32 2) else d
  let d :=
    if d.nat (portK p 0x06) = 2 then
      ((d.setN (laneK l 0x11) (d.nat (laneK l 0x07))).setN (laneK l 0x12) (d.nat (laneK l 0x08))).setB (laneK l 0x13) (d.raw (laneK l 0x09))
    else d
  if d.portSt p = 3 then d.markerUp c p l w seq
  else
    let d := if (d.port p).step = 1 then d.mapCheck c p else d
    d.tryUp c p

/-- LANE_MARKER (R275 to R283, R290): line bits up to the end of a marker, with the lane's skew in UI after the port's
earliest lane. Stuffed bits are taken out; the 64 last are the marker, those before it the payload of the block that
ends, which a lane in marker lock descrambles. -/
def execLaneMarker (dt l : Nat) (line : List Bool) (skew : Nat) (s : State) : Host.Outcome State Fault Refusal :=
  s.actOn (l < s.laneCount) dt fun c d =>
    match d.laneOwner c l with
    | none => d
    | some p =>
      let st := d.portSt p
      if !(st = 2 || st = 3 || st = 4 || st = 6) || (st ≠ 3 && (d.port p).step = 0) then d
      else
        let x := d.lane l
        let u := unstuff x.runBit x.run x.drop line
        let d := d.modLane l fun y => { y with runBit := u.1.1, run := u.1.2.1, drop := u.1.2.2 }
        let d := if u.2.2 = 0 then d else d.addTo (portK p 0x0E) 32 u.2.2
        let got := if d.flag (laneK l 0x05) then u.2.1.map not else u.2.1
        let n := got.length - 64
        let w := unbits (got.drop n)
        let due := n = 32768
        let locked := d.flag (laneK l 0x0B)
        let d := match locked && due, x.seq with
          | true, some q => d.modLane l fun y => { y with block := some (q, x.pm, rxWords (d.nat (laneK l 0x0C)) (got.take n)) }
          | _, _ => d
        let inverted := !locked && bits w 0 32 = 0x4BC35A2D
        let d := if inverted then d.setN (laneK l 0x05) (1 - d.nat (laneK l 0x05)) else d
        let w := if inverted then (2 ^ 64 - 1) - w else w
        if markerGood w && (!locked || due) then d.goodMarker c p l w skew due
        else
          let d := d.modLane l fun y => { y with good := 0, bad := y.bad + 1, pos := (y.pos + 1) % 65536, seq := none }
          let d := if locked then d.inc (portK p 0x0D) else d
          if st = 3 && 2 ≤ (d.lane l).bad then d.lossPort c p else d

/-- R284, R286, R293: the last received block of a port as port words, where every lane has given it, in packet mode. -/
def Dev.rxBlock (d : Dev) (p : Nat) : Option (List Nat) :=
  let w := d.width p
  let of := fun (k : Nat) => ((d.portLanes p).find? fun l => d.nat (laneK l 0x0C) = k).bind fun l => (d.lane l).block
  match of 0 with
  | none => none
  | some b =>
    if (upTo w).all fun k => match of k with | some x => x.1 = b.1 && x.2.1 | none => false then
      some ((upTo (w * b.2.2.length)).map fun i => match of (i % w) with | some x => nthN x.2.2 (i / w) | none => 0)
    else none

/-- DFE_CONVERGENCE (R289): DFE or fine CTLE adaptation has converged, at these values of each lane. -/
def execDfeConvergence (dt p : Nat) (eq : List (Nat × Nat × List Byte)) (s : State) : Host.Outcome State Fault Refusal :=
  s.actOn (p < s.portCount) dt fun c d =>
    let st := d.portSt p
    if (st = 2 || st = 4 || st = 6) && (d.port p).step = 2 then
      (((d.portLanes p).zip eq).foldl (fun d x => d.equalize p x.1 x.2.1 x.2.2.1 (some x.2.2.2)) d).ready c p
    else d

/-- TRAINING_ATTEMPT_TIMEOUT (R289): 50 ms after the attempt began. -/
def execTrainingAttemptTimeout (dt p : Nat) (s : State) : Host.Outcome State Fault Refusal :=
  s.actOn (p < s.portCount) dt fun c d =>
    if d.portSt p = 2 && decide ((d.port p).begT + 20000000 ≤ c.t) then d.failAttempt c p 1 else d

/-- SIGNAL_LOST (R328): signal drops on a lane. -/
def execSignalLost (dt l : Nat) (s : State) : Host.Outcome State Fault Refusal :=
  s.actOn (l < s.laneCount) dt fun c d =>
    match d.laneOwner c l with
    | none => d
    | some p =>
      let d := (d.setN (laneK l 0x0A) 0).lossPort c p
      if d.portSt p = 7 && d.signalNone p && (d.port p).quietT.isNone then d.modPort p fun x => { x with quietT := some c.t } else d

/-- RETRAIN_TIMEOUT (R296): 2 ms after entry; WAKING fails the same way (Table 5.5, log entry 126). -/
def execRetrainTimeout (dt p : Nat) (s : State) : Host.Outcome State Fault Refusal :=
  s.actOn (p < s.portCount) dt fun c d =>
    if (d.portSt p = 4 || d.portSt p = 6) && decide ((d.port p).begT + 800000 ≤ c.t) then d.failPort c p 1 else d

/-- QUAD_PLL_UNLOCK (R318, R332, R933): one relock, which locks and calibrates, or fails; every port of the quad retrains
or fails. -/
def execQuadPllUnlock (dt q : Nat) (relockOk : Bool) (bias again : Nat) (s : State) : Host.Outcome State Fault Refusal :=
  s.actOn (q < s.count 12 6) dt fun c d =>
    if ((d.quads[q]?).getD {}).pll = 2 then
      if relockOk && biasOk bias again then
        (portsOf c).foldl (fun d p =>
          if d.quadOf p = q && d.portOn p then
            let st := d.portSt p
            if st = 3 then d.lossPort c p else if st = 2 || st = 4 || st = 6 then (d.txCatch c p).lanesReset p else d
          else d) ((d.biasCount bias again).transient)
      else d.failQuad c q
    else d

/-- FAILED_PORT_RETURN (R331): no signal on any lane for 100 ms. -/
def execFailedPortReturn (dt p : Nat) (s : State) : Host.Outcome State Fault Refusal :=
  s.actOn (p < s.portCount) dt fun c d =>
    match (d.port p).quietT with
    | some t => if d.portSt p = 7 && d.signalNone p && decide (t + 40000000 ≤ c.t) then d.startPort c p else d
    | none => d

/-- ADAPTATION_UPDATE (R300 to R302, Table 5.7): the live values of a lane move together; a freeze and mode 2 adapt
nothing, mode 0 no DFE taps. -/
def execAdaptationUpdate (dt l ctle vga : Nat) (dfe : List Byte) (s : State) : Host.Outcome State Fault Refusal :=
  s.actOn (l < s.laneCount) dt fun c d =>
    match d.laneOwner c l with
    | none => d
    | some p => if d.portSt p = 3 then d.equalize p l ctle vga (some dfe) else d

/-- EYE_SCAN_POINT_END (R314 to R316): a point ends when the bits compared reach the dwell or the errors the limit. -/
def execEyeScanPointEnd (dt bitsRun errs : Nat) (s : State) : Host.Outcome State Fault Refusal :=
  s.act dt fun c d =>
    match d.scan with
    | none => d
    | some x =>
      if !((bitsRun = x.dwell && errs ≤ x.limit) || (errs = x.limit && decide (bitsRun ≤ x.dwell))) then d
      else
        let e := min errs 1048575 * 2 ^ 44 + bitsRun % 2 ^ 44
        let d := ((d.setN 0x3200_09 e).setB 0x3200_0A (d.raw 0x3200_0A ++ le 8 e)).setN 0x3200_08 (d.nat 0x3200_08 + 1)
        if x.total ≤ d.nat 0x3200_08 then ({ (d.setN 0x3200_07 2) with scan := none }).raise c 70 x.lane else d

end Sys2Proof.Machine
end

