-- ==== Sys2Proof/Machine/Packets.lean ====
section
/-!
DEFINITION. Ovton link, packets (ch 6): receiving, the retried channels, credits, link control and time transfer, and
putting packets into the queues of the port scheduler.
-/
namespace Sys2Proof.Machine

/-- Table 6.2: the virtual channel of a packet type. -/
def typeVc (ty : Nat) : Option Nat :=
  match ty with
  | 0 | 1 | 2 | 3 | 4 => some 0
  | 5 => some 2
  | 6 => some 1
  | 7 | 8 => some 3
  | _ => none

/-- Tables 6.2, 6.3, R356: whether a port of a role accepts a packet of a type, virtual channel and field A. -/
def accepts (role ty vc fieldA : Nat) : Bool :=
  typeVc ty = some vc &&
  (if ty = 0 then true
   else if ty = 1 then 1 ≤ fieldA && fieldA ≤ 5
   else if ty = 6 then (if fieldA = 1 then role = 2 else (fieldA = 2 || fieldA = 3) && role ≠ 1)
   else if role = 2 then true
   else if role = 0 then 2 ≤ ty && ty ≤ 4
   else ty = 7)

/-- R293: whether the port takes received payload as packets: UP, and packet mode on every lane. -/
def Dev.takes (d : Dev) (p : Nat) : Bool := d.portSt p = 3 && (d.portLanes p).all fun l => (d.lane l).pm

/-- Table 6.4a: receive buffers per channel. -/
def rxBuffers (vc : Nat) : Nat :=
  match vc with
  | 0 => 256
  | 1 => 32
  | 2 => 64
  | _ => 8

/-- A packet of a channel has been taken from the wire and freed again (R358, R360). -/
def Dev.took (d : Dev) (p vc : Nat) : Dev :=
  d.modPort p fun x => { x with got := modifyAt (fun n => (n + 1) % 65536) vc x.got }

/-- Queue a FLOW (R364); one waiting is enough, since it takes its content when it is sent. -/
def Dev.needFlow (d : Dev) (p : Nat) : Dev :=
  d.modPort p fun x => if x.ctl.contains .flow then x else { x with ctl := x.ctl ++ [.flow] }

/-- A retried channel of a port. -/
def Port.retry (x : Port) (vc : Nat) : Retry := if vc = 1 then x.vc1 else x.vc2

/-- Change a retried channel. -/
def Port.setRetry (x : Port) (vc : Nat) (r : Retry) : Port := if vc = 1 then { x with vc1 := r } else { x with vc2 := r }

/-- Table 6.7: a packet on MGMT or BULK. Answers whether it is accepted. -/
def Dev.rxRetried (d : Dev) (p vc : Nat) (sound : Bool) (k : Pkt) : Dev × Bool :=
  let r := (d.port p).retry vc
  let behind := (r.expect + 4096 - k.seq % 4096) % 4096
  if sound && k.seq = r.expect then
    ((d.modPort p fun x => x.setRetry vc { r with expect := (r.expect + 1) % 4096, nak := false }).took p vc, true)
  else if r.nak then (d, false)
  else if sound && 1 ≤ behind && behind ≤ 256 then (d.needFlow p, false)
  else (((d.modPort p fun x => x.setRetry vc { r with nak := true, nakDue := true }).inc (linkK p 0x03)).needFlow p, false)

/-- R373, R389: a packet on ISO or SAFE: a gap counts, a bad trailer discards. -/
def Dev.rxPlain (d : Dev) (p vc : Nat) (sound : Bool) (k : Pkt) : Dev × Bool :=
  let x := d.port p
  let want := if vc = 0 then x.rx0 else x.rx3
  let gap : Bool := match want with
    | some e => e ≠ k.seq % 4096
    | none => false
  let d := if gap then d.inc (linkK p 0x03) else d
  let nxt := some ((k.seq + 1) % 4096)
  let d := (d.modPort p fun x => if vc = 0 then { x with rx0 := nxt } else { x with rx3 := nxt }).took p vc
  (d, sound)

/-- R387: whether a port is in framing for a packet whose header stands at `place` of its block: not before the header
that a pointer named. -/
def Port.inFrame (x : Port) (place : Nat) : Bool :=
  x.framed && match x.resume with
    | some n => decide (n ≤ place)
    | none => true

/-- R342, R343, R356, R360, R387, R389: a packet of a type on a virtual channel as received. Answers whether its content
is delivered. -/
def Dev.rxPacket (d : Dev) (p ty vc : Nat) (k : Pkt) : Dev × Bool :=
  if !d.takes p || !(d.port p).inFrame k.place then (d, false)
  else
    let sound := pktSound ty vc k
    let d := d.modPort p fun x => { x with resume := none }
    let d := if ty = 0 then d else d.addTo (linkK p 0x13) 64 1
    let d := if sound then d else d.inc (linkK p 0x02)
    let r :=
      if ty ≤ 1 then (d, sound)
      else if vc = 1 || vc = 2 then d.rxRetried p vc sound k
      else d.rxPlain p vc sound k
    if !r.2 then r
    else if accepts (d.role p) ty vc k.fieldA then r
    else (r.1.inc (linkK p 0x09), false)

/-! ## Queues -/

/-- R343, R372: an ISO packet at the scheduler input. A VIDEO LINE follows its folio only. -/
def Dev.queueIso (d : Dev) (p : Nat) (q : QPkt) : Dev :=
  if !sends (d.role p) q.ty q.fieldA then d
  else if d.portSt p ≠ 3 || (q.ty = 3 && !(d.port p).folioTx) then d.inc (linkK p 0x08)
  else d.modPort p fun x => { x with iso := x.iso ++ [q], folioTx := x.folioTx || q.ty = 2 }

/-- R357: a SAFE packet at the scheduler input of a port that is UP. -/
def Dev.queueSafe (d : Dev) (p : Nat) (q : QPkt) : Dev :=
  if d.portSt p = 3 then d.modPort p fun x => { x with safe := x.safe ++ [q] } else d

/-! ## Credits -/

/-- Whether a channel has a packet waiting. -/
def Port.waiting (x : Port) (vc : Nat) : Bool :=
  match vc with
  | 0 => !x.iso.isEmpty
  | 1 => !x.mgmt.isEmpty || x.vc1.unack.any fun e => e.due && !e.sent
  | 2 => x.flows.any (fun f => !f.isEmpty) || x.vc2.unack.any fun e => e.due && !e.sent
  | _ => !x.safe.isEmpty

/-- Table 6.6: BLOCKED: the limit equals the count with a packet waiting. -/
def Port.blocked (x : Port) (vc : Nat) : Bool := x.flowSeen && nthN x.lims vc = nthN x.cnts vc && x.waiting vc

/-- When the oldest packet waiting on a channel entered; a packet to be sent again waits from the start. -/
def Port.headT (x : Port) (vc : Nat) : Nat :=
  let of := fun (l : List QPkt) => (l.head?).map fun q => q.t
  let first := fun (l : List (Option Nat)) => (l.filterMap id).foldl (fun (o : Option Nat) t => some (match o with | some a => min a t | none => t)) none
  if vc = 1 && x.vc1.unack.any (fun e => e.due && !e.sent) || vc = 2 && x.vc2.unack.any (fun e => e.due && !e.sent) then 0
  else (match vc with
    | 0 => of x.iso
    | 1 => of x.mgmt
    | 2 => first (x.flows.map of)
    | _ => of x.safe).getD 0

/-- Table 6.6: since when a channel is BLOCKED. -/
def Port.blockedT (x : Port) (vc : Nat) : Nat := max (nthN x.limT vc) (x.headT vc)

/-! ## FLOW -/

/-- R365, R369, R370: what a FLOW reports of a retried channel: next expected `e`, with or without NAK. Answers whether
a retry has failed for good. -/
def Dev.flowRetry (d : Dev) (p vc e : Nat) (nak : Bool) : Dev × Bool :=
  let x := d.port p
  let r := x.retry vc
  let oldest := (r.next + 4096 - r.unack.length % 4096) % 4096
  let done := (e + 4096 - oldest) % 4096
  let d := if nak then d.inc (linkK p 0x04) else d
  if r.unack.length < done then
    ((d.addTo (linkK p 0x0A) 32 r.unack.length).modPort p fun x => x.setRetry vc { r with unack := [], next := e }, false)
  else
    let freed := r.unack.take done
    let rest := r.unack.drop done
    let d := d.addTo (linkK p 0x05) 32 (freed.filter fun t => t.marked).length
    match rest, nak with
    | h :: _, true =>
      if h.marked then ((d.modPort p fun x => x.setRetry vc { r with unack := rest }).inc (linkK p 0x06), true)
      else (d.modPort p fun x => x.setRetry vc { r with unack := rest.map fun t => { t with due := true } }, false)
    | _, _ => (d.modPort p fun x => x.setRetry vc { r with unack := rest }, false)

/-- Table 6.6: the partner's limits; a channel whose count meets a limit that was not raised stays BLOCKED. -/
def Port.newLimits (x : Port) (t : Nat) (l : List Nat) : Port :=
  { x with lims := l, flowSeen := true
           limT := (upTo 4).map fun vc => if x.flowSeen && nthN l vc = nthN x.lims vc then nthN x.limT vc else t }

/-- R390: a retry that failed for good is a port loss. -/
def Dev.retryFailed (d : Dev) (c : Ctx) (p : Nat) : Dev := (d.raise c 69 p).lossPort c p

/-- R358, R365, R368, R370, R382: a FLOW. -/
def Dev.rxFlow (d : Dev) (c : Ctx) (p : Nat) (b : List Byte) : Dev :=
  let pe := fld b 12 2
  let old := d.nat (linkK p 0x0C)
  let seen := (d.port p).flowSeen
  let d := d.setN (linkK p 0x0C) pe
  if seen && pe ≠ old then d.enterRetrain c p true
  else
    let d := d.modPort p fun x => x.newLimits c.t [fld b 0 2, fld b 2 2, fld b 4 2, fld b 6 2]
    let a := d.flowRetry p 1 (fld b 8 2 % 4096) (bit (fld b 8 2) 15)
    let e := a.1.flowRetry p 2 (fld b 10 2 % 4096) (bit (fld b 10 2) 15)
    if a.2 || e.2 then e.1.retryFailed c p else e.1

/-- Table 6.5: the payload of a FLOW now. -/
def Dev.flowBytes (d : Dev) (p : Nat) : List Byte :=
  let x := d.port p
  let lim := fun vc => le 2 (nthN x.got vc + rxBuffers vc)
  let nx := fun (r : Retry) => le 2 (r.expect + b2n r.nakDue * 2 ^ 15)
  lim 0 ++ lim 1 ++ lim 2 ++ lim 3 ++ nx x.vc1 ++ nx x.vc2 ++ le 2 (d.nat (linkK p 0x0B)) ++ zeros 2

/-! ## Time transfer -/

/-- R374, R378: whether a port serves time: .14 set, the trunk role, and not the port that takes time. -/
def Dev.servesTime (d : Dev) (p : Nat) : Bool :=
  d.flag (linkK p 0x14) && d.role p = 2 && !(d.nat 0x1050_06 = 2 && d.nat 0x1050_08 = p)

/-- R375: whether a port takes time. -/
def Dev.takesTime (d : Dev) (p : Nat) : Bool := d.nat 0x1050_06 = 2 && d.nat 0x1050_08 = p && !d.timePairBad

/-- R376, R377: a FOLLOW whose SYNC arrived, with the path of the latest answered DREQ, gives a sample. -/
def Dev.timeFollow (d : Dev) (c : Ctx) (p : Nat) (b : List Byte) : Dev :=
  let x := d.port p
  let t1 : Int := fld b 0 8
  let seq := fld b 10 1
  match x.gotSync with
  | none => d
  | some (s, t2) =>
    if s ≠ seq then d
    else
      let d :=
        match x.path with
        | some (t3, t4) =>
          let sum : Int := ((t2 : Int) - t1) + ((t4 : Int) - t3)
          let d := d.setI (linkK p 0x16) (fitI32 c 2 (roundDiv (5 * sum) 4))
          d.takeSample c (roundDiv (2 * (t1 - t2) + sum) 2) (fld b 8 2)
        | none => d
      d.modPort p fun x => { x with gotSync := none, ctl := x.ctl ++ [.dreq x.dreqSeq] }

/-! ## Commands -/

/-- BLOCK_POINTER (R337, R387, R388): the first word of the port's last received block: out of framing, a good pointer
names the header to go on at; a bad one is counted. -/
def execBlockPointer (dt p : Nat) (s : State) : Host.Outcome State Fault Refusal :=
  s.actOn (p < s.portCount) dt fun _ d =>
    match d.rxBlock p with
    | none => d
    | some b =>
      let w := nthN b 0
      if !d.takes p then d
      else if pointerGood w then
        d.modPort p fun x => if x.framed then x else { x with framed := true, resume := some (1 + bits w 0 16) }
      else d.inc (linkK p 0x01)

/-- FRAMING_ERROR (R387): the 64 bits where a header is due are no header. -/
def execFramingError (dt p hdr : Nat) (s : State) : Host.Outcome State Fault Refusal :=
  s.actOn (p < s.portCount) dt fun _ d =>
    if d.takes p && (d.port p).framed && !hdrGood (hdr % 2 ^ 64) then
      (d.modPort p fun x => { x with framed := false, resume := none }).inc (linkK p 0x01)
    else d

/-- PACKET_REJECTED (R342, R343, R356): any received packet that has no row of its own. -/
def execPacketRejected (dt p ty vc : Nat) (k : Pkt) (s : State) : Host.Outcome State Fault Refusal :=
  s.actOn (p < s.portCount) dt fun _ d => (d.rxPacket p (ty % 16) (vc % 4) k).1

/-- FLOW (R365). -/
def execFlow (dt p : Nat) (k : Pkt) (s : State) : Host.Outcome State Fault Refusal :=
  s.actOn (p < s.portCount) dt fun c d =>
    let r := d.rxPacket p 1 0 { k with fieldA := 1 }
    if r.2 then r.1.rxFlow c p k.payload else r.1

/-- FLOW_PERIODIC (R360): the interval expires or a buffer has been freed. -/
def execFlowPeriodic (dt p : Nat) (s : State) : Host.Outcome State Fault Refusal :=
  s.actOn (p < s.portCount) dt fun _ d => if d.portSt p = 3 then d.needFlow p else d

/-- CREDIT_TIMEOUT (R359, R390): a channel has been BLOCKED for 64 µs. -/
def execCreditTimeout (dt p vc : Nat) (s : State) : Host.Outcome State Fault Refusal :=
  s.actOn (p < s.portCount) dt fun c d =>
    let x := d.port p
    if d.portSt p = 3 && x.blocked (vc % 4) && decide (x.blockedT (vc % 4) + 25600 ≤ c.t) then ((d.inc (linkK p 0x07)).raise c 68 p).lossPort c p else d

/-- ACK_TIMEOUT (R365): 50 µs without an acknowledgement on a retried channel. -/
def execAckTimeout (dt p vc : Nat) (s : State) : Host.Outcome State Fault Refusal :=
  s.actOn (p < s.portCount) dt fun c d =>
    let r := (d.port p).retry vc
    match r.unack with
    | h :: _ =>
      if d.portSt p ≠ 3 || !h.sent || decide (c.t < h.t + 20000) then d
      else if h.marked then (d.inc (linkK p 0x06)).retryFailed c p
      else d.modPort p fun x => x.setRetry vc { r with unack := r.unack.map fun t => { t with due := true } }
    | [] => d

/-- TIME_SYNC_PERIOD (R374): a port that serves time sends TIME SYNC; the FOLLOW is queued as the SYNC leaves. -/
def execTimeSyncPeriod (dt p : Nat) (s : State) : Host.Outcome State Fault Refusal :=
  s.actOn (p < s.portCount) dt fun c d =>
    let due : Bool := match (d.port p).syncT with
      | some t => decide (t + d.nat (linkK p 0x15) * 400000 ≤ c.t)
      | none => true
    if d.portSt p = 3 && d.servesTime p && due then
      d.modPort p fun x => { x with ctl := x.ctl ++ [.sync x.syncSeq], syncSeq := (x.syncSeq + 1) % 256, syncT := some c.t }
    else d

/-- TIME_SYNC (R376, R377): its arrival is captured. -/
def execTimeSync (dt p : Nat) (k : Pkt) (s : State) : Host.Outcome State Fault Refusal :=
  s.actOn (p < s.portCount) dt fun c d =>
    let r := d.rxPacket p 1 0 { k with fieldA := 2 }
    if r.2 && d.takesTime p then r.1.modPort p fun x => { x with gotSync := some (fld k.payload 0 1, c.t) } else r.1

/-- TIME_FOLLOW (R377). -/
def execTimeFollow (dt p : Nat) (k : Pkt) (s : State) : Host.Outcome State Fault Refusal :=
  s.actOn (p < s.portCount) dt fun c d =>
    let r := d.rxPacket p 1 0 { k with fieldA := 3 }
    if r.2 && d.takesTime p then r.1.timeFollow c p k.payload else r.1

/-- TIME_DREQ (R374): answered with its arrival in master time. -/
def execTimeDreq (dt p : Nat) (k : Pkt) (s : State) : Host.Outcome State Fault Refusal :=
  s.actOn (p < s.portCount) dt fun c d =>
    let r := d.rxPacket p 1 0 { k with fieldA := 4 }
    if r.2 && d.servesTime p then
      r.1.modPort p fun x => { x with ctl := x.ctl ++ [.drsp (fld k.payload 0 1) (d.masterTime c)] }
    else r.1

/-- TIME_DRSP (R377): the answer to the DREQ last sent. -/
def execTimeDrsp (dt p : Nat) (k : Pkt) (s : State) : Host.Outcome State Fault Refusal :=
  s.actOn (p < s.portCount) dt fun _ d =>
    let r := d.rxPacket p 1 0 { k with fieldA := 5 }
    if r.2 && d.takesTime p then
      match (d.port p).sentDreq with
      | some (q, t3) =>
        if q = fld k.payload 10 1 then
          r.1.modPort p fun x => { x with path := some (t3, fld k.payload 0 8), sentDreq := none }
        else r.1
      | none => r.1
    else r.1

/-- SAFE_NOTICE: the partner's notice on a trunk is taken; the spec gives it no further effect. -/
def execSafeNotice (dt p : Nat) (k : Pkt) (s : State) : Host.Outcome State Fault Refusal :=
  s.actOn (p < s.portCount) dt fun _ d => (d.rxPacket p 8 3 k).1

/-- R378, R53: judge the serve-time setting of each port. -/
def Dev.judgeServe (d : Dev) (c : Ctx) : Dev :=
  (portsOf c).foldl (fun d p =>
    let bad := d.flag (linkK p 0x14) && !d.servesTime p
    if bad = (d.port p).serveHeld then d
    else
      let d := d.modPort p fun x => { x with serveHeld := bad }
      if bad then d.held c (linkK p 0x14) else d.unheld c (linkK p 0x14)) d

/-- The refusals of a write in 0x3400 beside the dictionary's. -/
def checkLink (sub : Nat) (v : Val) : List Nat := if sub = 0x17 && v ≠ .num 1 then [0x0005] else []

/-- The effect of a write in 0x3400. -/
def Dev.writeLink (d : Dev) (c : Ctx) (n sub : Nat) (v : Val) : Dev :=
  if sub = 0x17 then d.clear ([1, 2, 3, 4, 5, 6, 7, 8, 9, 0x0A, 0x12, 0x13].map (linkK n))
  else if sub = 0x14 then (d.set (linkK n sub) v).judgeServe c
  else d.set (linkK n sub) v

/-- The live reads of 0x3400. -/
def Dev.readLink (d : Dev) (n sub : Nat) : Option Val :=
  let x := d.port n
  if sub = 0x0D then some (.num ((upTo 4).foldl (fun a vc => a + x.credit vc * 2 ^ (16 * vc)) 0 : Nat))
  else if sub = 0x0E then some (.num x.vc1.unack.length)
  else if sub = 0x0F then some (.num x.vc2.unack.length)
  else if sub = 0x10 then some (.num x.vc1.expect)
  else if sub = 0x11 then some (.num x.vc2.expect)
  else none

end Sys2Proof.Machine
end

