-- ==== Sys2Proof/Machine/Scheduler.lean ====
section
/-!
DEFINITION. The port scheduler (R636 to R644): which packet a port sends next, policers, the weighted group and queue
sampling.
-/
namespace Sys2Proof.Machine

/-- The key of a port's scheduler object. -/
def schedK (p sub : Nat) : Nat := key 0x7300 p sub

/-- Add to the `w`-byte little-endian counter `i` of a DOMAIN object. -/
def Dev.bumpIn (d : Dev) (k w i n : Nat) : Dev :=
  let b := d.raw k
  d.setB k (b.take (w * i) ++ le w (fld b (w * i) w + n) ++ b.drop (w * (i + 1)))

/-! ## Policers -/

/-- R639: the level of a token bucket now, × 400,000,000; a bucket never used is full. -/
def bucketNow (b : Option (Nat × Nat)) (rate burst t : Nat) : Nat :=
  match b with
  | some (l, t0) => min (burst * 400000000) (l + rate * (t - t0))
  | none => burst * 400000000

/-- R639: whether a bucket holds a token; a rate of 0 turns the policer off. -/
def hasToken (b : Option (Nat × Nat)) (rate burst t : Nat) : Bool :=
  rate = 0 || decide (400000000 ≤ bucketNow b rate burst t)

/-- R639: a token is spent. -/
def spendToken (b : Option (Nat × Nat)) (rate burst t : Nat) : Option (Nat × Nat) :=
  if rate = 0 then b else some (bucketNow b rate burst t - 400000000, t)

/-- Whether the MGMT policer of a port holds a token. -/
def Dev.mgmtToken (d : Dev) (c : Ctx) (p : Nat) : Bool :=
  hasToken (d.port p).bucket (d.nat (schedK p 1)) (d.nat (schedK p 2)) c.t

/-- Whether the policer of a flow holds a token on a port. -/
def Dev.flowToken (d : Dev) (c : Ctx) (p f : Nat) : Bool :=
  hasToken (((d.port p).buckets[f]?).getD none) (d.nat (key 0x7200 f 0x09)) (d.nat (key 0x7200 f 0x0A)) c.t

/-! ## Sending one packet -/

/-- Table 6.5: the LINK CONTROL packet as it leaves now; a SYNC queues its FOLLOW, a DREQ is timed. -/
def Dev.sendCtl (d : Dev) (c : Ctx) (p : Nat) (k : Ctl) : Dev :=
  let lc := fun (d : Dev) (sub : Nat) (b : List Byte) => d.sendPkt p 0 0 ⟨1, sub, 0, b, c.t⟩
  let mepoch := le 2 d.epoch
  match k with
  | .flow => (lc d 1 (d.flowBytes p)).modPort p fun x => { x with vc1 := { x.vc1 with nakDue := false }, vc2 := { x.vc2 with nakDue := false } }
  | .sync q => (lc d 2 (le 1 q ++ zeros 7)).modPort p fun x => { x with ctl := x.ctl ++ [.follow q (d.masterTime c)] }
  | .follow q t1 => lc d 3 (le 8 t1 ++ mepoch ++ le 1 q ++ le 1 d.advertised ++ zeros 4)
  | .dreq q => (lc d 4 (le 1 q ++ zeros 7)).modPort p fun x => { x with sentDreq := some (q, c.t), dreqSeq := (q + 1) % 256 }
  | .drsp q t4 => lc d 5 (le 8 t4 ++ mepoch ++ le 1 q ++ zeros 5)

/-- R365, R369: send the first due packet of a retried channel again, or the first time in this epoch. -/
def Dev.sendDue (d : Dev) (c : Ctx) (p vc : Nat) (e : TxEnt) : Dev :=
  let r := (d.port p).retry vc
  let un := r.unack.map fun t => if t.seq = e.seq then { t with due := false, sent := true, marked := t.sent || t.marked, t := c.t } else t
  let d := d.modPort p fun x =>
    let x := x.setRetry vc { r with unack := un }
    if e.sent then x else x.spend c.t vc
  d.sendPkt p vc e.seq e.pkt

/-- R363: a new packet of a retried channel. -/
def Dev.sendNew (d : Dev) (c : Ctx) (p vc : Nat) (q : QPkt) : Dev :=
  let r := (d.port p).retry vc
  let d := d.modPort p fun x =>
    (x.setRetry vc { r with unack := r.unack ++ [(⟨r.next, true, false, false, q, c.t⟩ : TxEnt)], next := (r.next + 1) % 4096 }).spend c.t vc
  d.sendPkt p vc r.next q

/-- The first due packet of a retried channel that may go: one sent before in this epoch needs no credit. -/
def Port.dueOf (x : Port) (vc : Nat) : Option TxEnt :=
  match (x.retry vc).unack.find? fun e => e.due with
  | some e => if e.sent || 0 < x.credit vc then some e else none
  | none => none

/-- Whether a retried channel may start a new packet (R358, R363, R369). -/
def Port.mayNew (x : Port) (vc : Nat) : Bool :=
  0 < x.credit vc && (x.retry vc).unack.length < 256 && !((x.retry vc).unack.any fun e => e.due)

/-- Whether a flow of the weighted group is ready apart from its policer. -/
def Port.flowHas (x : Port) (f : Nat) : Bool := !((x.flows[f]?).getD []).isEmpty

/-- R638, R639: the scan from flow `f` over `fuel` places: the flow to serve, and how many policed flows were passed
over. -/
def Dev.scanFlows (d : Dev) (c : Ctx) (p : Nat) (cr : List Nat) : Nat → Nat → Nat → Option Nat × Nat
  | 0, _, holds => (none, holds)
  | fuel + 1, f, holds =>
    let g := f % 32
    if (d.port p).flowHas g && 0 < nthN cr g then
      if d.flowToken c p g then (some g, holds) else d.scanFlows c p cr fuel (f + 1) (holds + 1)
    else d.scanFlows c p cr fuel (f + 1) holds

/-- Serve a flow of the weighted group: its oldest packet, one credit and one token. -/
def Dev.serveFlow (d : Dev) (c : Ctx) (p f : Nat) : Dev :=
  match ((d.port p).flows[f]?).getD [] with
  | [] => d
  | q :: r =>
    let d := d.modPort p fun x => { x with
      flows := modifyAt (fun _ => r) f x.flows, scan := (f + 1) % 32
      credits := modifyAt (fun n => n - 1) f x.credits
      buckets := modifyAt (fun b => spendToken b (d.nat (key 0x7200 f 0x09)) (d.nat (key 0x7200 f 0x0A)) c.t) f x.buckets }
    (((d.sendNew c p 2 q).bumpIn (schedK p 6) 8 3 1).bumpIn (schedK p 7) 8 f 1)

/-- R638: the weighted group's turn; a new round starts when no ready flow has credit. Answers whether it sent. -/
def Dev.serveWeighted (d : Dev) (c : Ctx) (p : Nat) : Dev × Bool :=
  let x := d.port p
  let a := d.scanFlows c p x.credits 32 x.scan 0
  let d := if a.2 = 0 then d else d.addTo (schedK p 0x0B) 32 a.2
  match a.1 with
  | some f => (d.serveFlow c p f, true)
  | none =>
    let w := (upTo 32).map fun f => d.nat (key 0x7200 f 0x08)
    match d.scanFlows c p w 32 0 0 with
    | (some f, holds) =>
      let d := (d.modPort p fun x => { x with credits := w, scan := 0 }).addTo (schedK p 8) 64 1
      let d := if holds = 0 then d else d.addTo (schedK p 0x0B) 32 holds
      (d.serveFlow c p f, true)
    | (none, _) => (d, false)

/-- R636: the next packet of a port that is UP. -/
def Dev.nextPacket (d : Dev) (c : Ctx) (p : Nat) : Dev :=
  let x := d.port p
  match x.safe, decide (0 < x.credit 3) with
  | q :: r, true =>
    (d.sendSafe c p q r).bumpIn (schedK p 6) 8 0 1
  | _, _ =>
    match x.ctl with
    | k :: r => (d.modPort p fun x => { x with ctl := r }).sendCtl c p k
    | [] =>
      match x.iso, decide (0 < x.credit 0) with
      | q :: r, true =>
        let d := d.modPort p fun x => { (x.spend c.t 0) with iso := r, tx0 := (x.tx0 + 1) % 4096 }
        (d.sendPkt p 0 x.tx0 q).bumpIn (schedK p 6) 8 1 1
      | _, _ =>
        match x.dueOf 1 with
        | some e => (d.sendDue c p 1 e).bumpIn (schedK p 6) 8 2 1
        | none =>
          let ready := x.mayNew 1 && !x.mgmt.isEmpty
          let ok := d.mgmtToken c p
          let d := if ready && !ok then d.inc (schedK p 0x0B) else d
          match x.mgmt, ready && ok with
          | q :: r, true =>
            let d := d.modPort p fun x => { x with mgmt := r, bucket := spendToken x.bucket (d.nat (schedK p 1)) (d.nat (schedK p 2)) c.t }
            (d.sendNew c p 1 q).bumpIn (schedK p 6) 8 2 1
          | _, _ =>
            match x.dueOf 2 with
            | some e => (d.sendDue c p 2 e).bumpIn (schedK p 6) 8 3 1
            | none =>
              let w := if x.mayNew 2 then d.serveWeighted c p else (d, false)
              if w.2 then w.1 else w.1.sendPkt p 0 0 ⟨0, 0, 0, [], c.t⟩

/-! ## Queue sampling -/

/-- R643, R644: the depth of queue `q` of a port and its oldest packet's time. -/
def Dev.queueAt (d : Dev) (p q : Nat) : Nat × Option Nat :=
  let x := d.port p
  let of := fun (l : List QPkt) => (l.length, (l.head?).map fun k => k.t)
  match q with
  | 0 => of x.safe
  | 1 => of x.iso
  | 2 => of x.mgmt
  | _ => ((x.flows.map List.length).sum,
      x.flows.foldl (fun (o : Option Nat) l =>
        match o, (l.head?).map fun k => k.t with
        | some a, some b => some (min a b)
        | none, b => b
        | a, none => a) none)

/-- R642: whether the sample period has passed since the last sample. -/
def Dev.sampleDue (d : Dev) (c : Ctx) : Bool := decide (d.nat 0x7400_06 + d.nat 0x7400_01 * 400 ≤ c.t)

/-- QUEUE_SAMPLE (R642 to R644): every queue of every port in one tick. -/
def execQueueSample (dt : Nat) (s : State) : Host.Outcome State Fault Refusal :=
  s.act dt fun c d =>
    if !d.sampleDue c then d else
    let all := (upTo 128).map fun i => if i / 4 < (portsOf c).length then d.queueAt (i / 4) (i % 4) else (0, none)
    let depths := all.map fun a => min a.1 65535
    let delays := all.map fun a => match a.2 with
      | some t => min (roundDivN (5 * (c.t - t)) 2) (2 ^ 32 - 1)
      | none => 0
    let peak := fun (k w : Nat) (l : List Nat) =>
      let b := d.raw k
      ((l.zipIdx).map fun p => le w (max p.1 (fld b (w * p.2) w))).flatten
    let d := d.setB 0x7400_04 (peak 0x7400_04 2 depths)
    let d := d.setB 0x7400_05 (peak 0x7400_05 4 delays)
    ((d.setB 0x7400_02 (depths.map (le 2)).flatten).setB 0x7400_03 (delays.map (le 4)).flatten).setN 0x7400_06 c.t

/-- The refusals of a write in 0x7400 beside the dictionary's. -/
def checkSampling (sub : Nat) (v : Val) : List Nat := if sub = 0x07 && v ≠ .num 1 then [0x0005] else []

/-- The effect of a write in 0x7400 (R644). -/
def Dev.writeSampling (d : Dev) (sub : Nat) (v : Val) : Dev :=
  if sub = 0x07 then (d.setB 0x7400_04 []).setB 0x7400_05 [] else d.set (0x7400_00 + sub) v

/-- R636: the flows of the weighted group that are ready on a port (0x7300+p.05). -/
def Dev.flowsReady (d : Dev) (c : Ctx) (p : Nat) : Nat :=
  if (d.port p).mayNew 2 then
    (upTo 32).foldl (fun n f => if (d.port p).flowHas f && d.flowToken c p f then n + 2 ^ f else n) 0
  else 0

end Sys2Proof.Machine
end

