-- ==== Sys2Proof/Machine/Capture.lean ====
section
/-!
DEFINITION. Capture channels and galleys (ch 7): folios, slots, claims' slots, frame lock, conditions, memory budget.
-/
namespace Sys2Proof.Machine

/-- The key of a capture channel's object. -/
def chanK (n sub : Nat) : Nat := key 0x4000 n sub

/-- The key of a forme's object. -/
def formeK (n sub : Nat) : Nat := key 0x5000 n sub

/-- The key of a window's object. -/
def winK (w sub : Nat) : Nat := key 0x5100 w sub

/-- A channel's state (Table 7.4): 0 DISABLED, 1 WAITING, 2 RUNNING, 3 LOST, 4 OVERSIZE, 5 DRAINING. -/
def Dev.chanSt (d : Dev) (n : Nat) : Nat := d.nat (chanK n 0x0C)

/-- A channel's inner state. -/
def Dev.chan (d : Dev) (n : Nat) : Chan := (d.chans[n]?).getD {}

/-- Change a channel's inner state. -/
def Dev.modChan (d : Dev) (n : Nat) (f : Chan → Chan) : Dev := { d with chans := modifyAt f n d.chans }

/-- A window's inner state. -/
def Dev.win (d : Dev) (w : Nat) : Win := (d.wins[w]?).getD {}

/-- Change a window's inner state. -/
def Dev.modWin (d : Dev) (w : Nat) (f : Win → Win) : Dev := { d with wins := modifyAt f w d.wins }

/-- Whether a channel takes input: enabled and started. -/
def Dev.chanOnline (d : Dev) (n : Nat) : Bool := let s := d.chanSt n; 1 ≤ s && s ≤ 4

/-- A flag of Table 7.5. -/
def Dev.chanFlag (d : Dev) (n i : Nat) : Bool := bit (d.nat (chanK n 0x0D)) i

/-- Set a flag of Table 7.5. -/
def Dev.setChanFlag (d : Dev) (n i : Nat) (b : Bool) : Dev := d.setN (chanK n 0x0D) (setBit (d.nat (chanK n 0x0D)) i b)

/-- The channels of the variant. -/
def chansOf (c : Ctx) : List Nat := upTo (if c.s12 then 12 else 24)

/-- The formes of the variant. -/
def formesOf (c : Ctx) : List Nat := upTo (if c.s12 then 12 else 24)

/-- Table 8.1: bits per pixel of a format code; 0 for no code of the table. -/
def bppOf (fmt : Nat) : Nat :=
  match fmt with
  | 0x01 => 16 | 0x02 => 20 | 0x03 => 24 | 0x04 => 24 | 0x05 => 24 | 0x06 => 30 | 0x07 => 30 | 0x08 => 32
  | 0x09 => 36 | 0x0A => 36 | 0x0B => 48 | _ => 0

/-- R457: the bytes of a line. -/
def lineBytes (w fmt : Nat) : Nat := ceilDiv (w * bppOf fmt) 8

/-- Table 6.4: a folio's fields from its payload. -/
def parseFolio (b : List Byte) : Folio :=
  { no := fld b 0 4, src := fld b 4 4, live := fld b 8 4, t := fld b 12 8, epoch := fld b 20 2, flags := fld b 22 1
    quality := fld b 23 1, w := fld b 24 2, h := fld b 26 2, total := fld b 28 2, num := fld b 32 4, den := fld b 36 4
    fmt := fld b 40 1, colour := fld b 41 1, hdr := (b.drop 64).take (fld b 30 2) }

/-! ## Geometry and memory (R397, R399, R423 to R428) -/

/-- R397: bytes of a slot. -/
def slotSize (w h bpp : Nat) : Nat := 4096 + ceilDiv (w * bpp) 512 * 64 * h

/-- R397: a slot as allocated, in whole units of 2 MiB. -/
def slotAlloc (size : Nat) : Nat := ceilDiv size 2097152 * 2097152

/-- A channel's slot size. -/
def Dev.chanSlot (d : Dev) (n : Nat) : Nat := slotSize (d.nat (chanK n 4)) (d.nat (chanK n 5)) (d.nat (chanK n 6))

/-- The galley memory of a channel. -/
def Dev.galleyBytes (d : Dev) (n : Nat) : Nat := slotAlloc (d.chanSlot n) * d.nat (chanK n 3)

/-- The galley a channel holds, as sized at its enable; a DRAINING one is still held (R433). -/
def Dev.galleyHeld (d : Dev) (n : Nat) : Nat :=
  let x := d.chan n
  if d.chanSt n = 0 then 0 else if x.slots.isEmpty then d.galleyBytes n else slotAlloc x.size * x.slots.length

/-- The galleys allocated, apart from one channel. -/
def Dev.galleysHeld (d : Dev) (c : Ctx) (but : Nat) : Nat :=
  (chansOf c).foldl (fun m n => if n ≠ but then m + d.galleyHeld n else m) 0

/-- R399: the galley area with the cache enabled at `mib` MiB, or disabled (0). -/
def galleyArea (mib : Nat) : Nat := (3968 - mib) * 1048576

/-- R399: the galley area now. -/
def Dev.galleyAreaNow (d : Dev) : Nat := galleyArea (if d.flag 0x7100_01 then d.nat 0x7100_02 else 0)

/-- What a window needs to read, from an object view: enabled on an enabled forme, of an enabled channel. -/
def winReads (g : Nat → Nat) (w ch : Nat) : Bool :=
  g (winK w 1) = 1 && g (winK w 3) = ch && g (winK w 2) < 24 && g (formeK (g (winK w 2)) 1) = 1

/-- R427: the read reservation of a window of a channel, in bytes/s as a fraction. -/
def winReserve (g : Nat → Nat) (w ch : Nat) : Nat × Nat :=
  let n := g (winK w 2)
  let cw := if g (winK w 8) = 0 || g (winK w 9) = 0 then g (chanK ch 4) else g (winK w 8)
  let chh := if g (winK w 8) = 0 || g (winK w 9) = 0 then g (chanK ch 5) else g (winK w 9)
  let one := (ceilDiv (cw * g (chanK ch 6)) 512 + 1) * 64 * chh * g (formeK n 6)
  (if g (winK w 4) = 2 then 2 * one else one, g (formeK n 7))

/-- The sum of two fractions. -/
def fracAdd (a b : Nat × Nat) : Nat × Nat := if b.2 = 0 then a else (a.1 * b.2 + b.1 * a.2, a.2 * b.2)

/-- R427: the read reservations of every window of a channel. -/
def chanReads (g : Nat → Nat) (ch : Nat) : Nat × Nat :=
  (upTo 64).foldl (fun a w => if winReads g w ch then fracAdd a (winReserve g w ch) else a) (0, 1)

/-- R427: the write reservation of a channel in bytes/s. -/
def chanWrites (g : Nat → Nat) (ch : Nat) : Nat := slotSize (g (chanK ch 4)) (g (chanK ch 5)) (g (chanK ch 6)) * g (chanK ch 7)

/-- R428: whether all reservations of the enabled channels fit the video share; `on` names the enabled channels. -/
def videoFits (g : Nat → Nat) (on : List Nat) : Bool :=
  let s := on.foldl (fun a ch => fracAdd (a.1 + chanWrites g ch * a.2, a.2) (chanReads g ch)) (0, 1)
  decide (s.1 ≤ 316160000000 * s.2)

/-- R423: the required slot count of a channel. -/
def slotsNeeded (g : Nat → Nat) (ch : Nat) : Nat :=
  let readers := (upTo 64).filter fun w => winReads g w ch
  let longest := readers.foldl (fun m w =>
    let n := g (winK w 2)
    max m (ceilDiv (g (chanK ch 7) * g (formeK n 7)) (g (formeK n 6)))) 0
  longest + 2 + b2n (readers.any fun w => g (winK w 4) = 2)

/-- The active values as a view of numbers. -/
def Dev.view (d : Dev) : Nat → Nat := fun k => d.nat k

/-- The channels whose input is reserved for: enabled and not DRAINING. -/
def Dev.chansOn (d : Dev) (c : Ctx) : List Nat := (chansOf c).filter d.chanOnline

/-! ## Slots -/

/-- Whether a window of a frame claims a slot of a channel. -/
def WFrame.claims (x : WFrame) (ch i : Nat) : Bool :=
  match x.fill with
  | .slots k a b => x.claim && k = ch && (a = i || b = some i)
  | _ => false

/-- Whether any reader claims a slot (R411). -/
def Dev.claimed (d : Dev) (ch i : Nat) : Bool := d.formes.any fun f => f.ws.any fun x => x.claims ch i

/-- Whether a channel has any claim. -/
def Dev.anyClaim (d : Dev) (ch : Nat) : Bool :=
  d.formes.any fun f => f.ws.any fun x => match x.fill with
    | .slots k _ _ => x.claim && k = ch
    | _ => false

/-- R401: whether a slot is protected. -/
def Dev.protected' (d : Dev) (ch i : Nat) : Bool :=
  match (d.chan ch).order with
  | a :: b :: _ => i = a || (i = b && (upTo 64).any fun w => winReads d.view w ch && d.nat (winK w 4) = 2)
  | [a] => i = a
  | [] => false

/-- R402: the slot the writer takes. -/
def Dev.chooseSlot (d : Dev) (ch : Nat) : Option Nat :=
  let x := d.chan ch
  let ok := (upTo x.slots.length).filter fun i => !d.claimed ch i && !d.protected' ch i
  let st := fun i => ((x.slots[i]?).getD {}).st
  match ok.find? fun i => st i = 0 || st i = 3 with
  | some i => some i
  | none => (x.order.reverse).find? fun i => ok.contains i

/-- R405: the frame being written is abandoned. -/
def Dev.abandon (d : Dev) (ch : Nat) : Dev :=
  match (d.chan ch).writing with
  | some i =>
    (d.modChan ch fun x => { x with writing := none, slots := modifyAt (fun _ => { st := 3 }) i x.slots }).inc (chanK ch 0x19)
  | none => d

/-- R433: the end of DRAINING once no claim is left. The lines in the DIRECT line buffer stay readable (R434). -/
def Dev.drainEnd (d : Dev) (ch : Nat) : Dev :=
  if d.chanSt ch = 5 && !d.anyClaim ch then
    (d.setN (chanK ch 0x0C) 0).modChan ch fun x => { buf := x.buf, bufLines := x.bufLines }
  else d

/-! ## Frame lock -/

/-- R420: a channel loses frame lock; `keep`: the offset that starts the next run. -/
def Dev.unlockChan (d : Dev) (ch : Nat) (keep : List Int) : Dev :=
  ((d.modChan ch fun x => { x with offs := keep }).setChanFlag ch 2 false).setI (chanK ch 0x17) 0

/-- R420: every channel loses lock at a realign or a change of the genlock frame rate. -/
def Dev.unlockAll (d : Dev) : Dev := (upTo 24).foldl (fun d ch => d.unlockChan ch []) d

/-- Ticks in ns, rounded. -/
def tickNs (n : Int) (den : Nat) : Int := roundDiv (5 * n) (2 * den)

/-- R419: a folio's arrival offset joins the run; `steady`: no gap and no format change since the folio before. -/
def Dev.lockStep (d : Dev) (c : Ctx) (ch : Nat) (f : Folio) (steady : Bool) : Dev :=
  let off : Int := (c.t : Int) - d.dpll.frameT
  let tol : Int := d.nat (chanK ch 0x0A)
  let x := d.chan ch
  let within := fun (l : List Int) =>
    let s := l.foldl (· + ·) 0
    -- |o − s / n| × 2.5 ns ≤ tol
    l.all fun o => decide (5 * (o * l.length - s).natAbs ≤ (2 * tol * l.length).toNat)
  if d.chanFlag ch 2 then
    let s := x.offs.foldl (· + ·) 0
    let far := decide ((2 * tol * x.offs.length).toNat < 5 * (off * x.offs.length - s).natAbs)
    if far || !steady then d.unlockChan ch [off] else d
  else
    let offs := if steady then (x.offs ++ [off]).drop (x.offs.length + 1 - 8) else [off]
    let d := d.modChan ch fun x => { x with offs := offs }
    if offs.length = 8 && within offs && f.num * d.rateDen = d.rateNum * f.den then
      let s := offs.foldl (· + ·) 0
      ((d.modChan ch fun x => { x with lockT := c.t }).setChanFlag ch 2 true).setI (chanK ch 0x17) (tickNs s 8)
    else d

/-! ## Folios -/

/-- R406: whether two folios name one format. -/
def sameFormat (a b : Folio) : Bool :=
  a.w = b.w && a.h = b.h && a.total = b.total && a.num = b.num && a.den = b.den && a.fmt = b.fmt && a.colour = b.colour && a.hdr = b.hdr

/-- R406: T_if in ns, as a fraction; for a rate of 0 the spec states none, and it is free. -/
def Folio.tif (f : Folio) : Nat × Nat :=
  if f.num = 0 then (1 + Config.rate0Period f.den, 1) else (1000000000 * f.den, f.num)

/-- R408: whether a folio is valid; `n` is its metadata length. -/
def folioValid (f : Folio) (n : Nat) : Bool :=
  f.w ≠ 0 && f.h ≠ 0 && f.total ≠ 0 && f.den ≠ 0 && f.h ≤ f.total && n ≤ 960

/-- R440, R456: whether a valid folio fits a channel. -/
def Dev.folioFits (d : Dev) (ch : Nat) (f : Folio) : Bool :=
  f.w ≤ d.nat (chanK ch 4) && f.h ≤ d.nat (chanK ch 5) && bppOf f.fmt ≠ 0 && bppOf f.fmt ≤ d.nat (chanK ch 6)
    && f.num ≤ d.nat (chanK ch 7) * f.den

/-- R441: the wrong-source flag at a valid folio. Answers whether the folio's source is wrong. -/
def Dev.judgeSource (d : Dev) (c : Ctx) (ch : Nat) (f : Folio) : Dev × Bool :=
  let want := d.nat (chanK ch 8)
  let wrong := want ≠ 0 && f.src ≠ want
  let was := d.chanFlag ch 1
  let d := if wrong = was then d else (d.setChanFlag ch 1 wrong).raiseF c was 48 ch
  (d, wrong)

/-- R442, R443: the freeze count and the NOPIC flag at a valid folio. -/
def Dev.judgeFreeze (d : Dev) (c : Ctx) (ch : Nat) (f : Folio) (before : Option Folio) : Dev :=
  if bit f.flags 0 then d.setChanFlag ch 3 true
  else
    let d := d.setChanFlag ch 3 false
    let same : Bool := match before with
      | some g => g.live = f.live
      | none => false
    if same then
      let d := d.modChan ch fun x => { x with still := x.still + 1 }
      if d.nat (chanK ch 9) ≤ (d.chan ch).still && !d.chanFlag ch 0 then
        ((d.setChanFlag ch 0 true).inc (chanK ch 0x1E)).raise c 49 ch
      else d
    else
      let d := d.modChan ch fun x => { x with still := 0 }
      if d.chanFlag ch 0 then (d.setChanFlag ch 0 false).raiseClr c 49 ch else d

/-- R402, R432: a frame opens in a slot, or is dropped; the DIRECT line buffer follows either way. -/
def Dev.openFrame (d : Dev) (c : Ctx) (ch : Nat) (f : Folio) : Dev :=
  let d := d.modChan ch fun x => { x with bufFolio := some f }
  match d.chooseSlot ch with
  | some i =>
    (d.modChan ch fun x => { x with
      writing := some i, order := x.order.filter fun j => j ≠ i
      slots := modifyAt (fun _ => { st := 1, folio := f }) i x.slots }).setChanFlag ch 4 false
  | none =>
    let d := d.inc (chanK ch 0x1A)
    if d.chanFlag ch 4 then d else (d.setChanFlag ch 4 true).raise c 50 ch

/-- R474: since when a channel gives no usable source (not RUNNING, wrong source, NOPIC), and since when a frozen one. -/
def Dev.noteSource (d : Dev) (c : Ctx) (ch : Nat) : Dev :=
  let since := fun (b : Bool) (o : Option Nat) => if b then some (o.getD c.t) else none
  let bad := d.chanSt ch ≠ 2 || d.chanFlag ch 1 || d.chanFlag ch 3
  let frozen := d.chanFlag ch 0
  d.modChan ch fun x => { x with badT := since bad x.badT, frzT := since frozen x.frzT }

/-- R402 to R444: a folio of a channel; `n` is the metadata length it gives. -/
def Dev.captureFolio (d : Dev) (c : Ctx) (ch : Nat) (f : Folio) (n : Nat) : Dev :=
  let d := (d.linkrefFolio c ch f.quality).abandon ch
  let d := d.modChan ch fun x => { x with bufFolio := none, missLast := x.missNow, missNow := false }
  let d := ((d.setN (chanK ch 0x14) f.no).setN (chanK ch 0x15) f.live).setN (chanK ch 0x16) f.src
  if !folioValid f n then d.inc (chanK ch 0x1C)
  else
    let x := d.chan ch
    let missing := match x.lastNo with
      | some m => let g := (f.no + 2 ^ 32 - m) % 2 ^ 32; if 2 ≤ g && g < 2 ^ 31 then g - 1 else 0
      | none => 0
    let jump : Bool := match x.lastNo with
      | some m => (m + 1) % 2 ^ 32 ≠ f.no
      | none => false
    let changed : Bool := match x.last with
      | some g => !sameFormat g f
      | none => false
    let d := d.addTo (chanK ch 0x1B) 32 missing
    let d := if changed then d.raise c 46 ch else d
    let d := (((d.setN (chanK ch 0x0E) f.w).setN (chanK ch 0x0F) f.h).setN (chanK ch 0x10) f.total).setN (chanK ch 0x11) f.num
    let d := (d.setN (chanK ch 0x12) f.den).setN (chanK ch 0x13) f.fmt
    let d := d.modChan ch fun y => { y with last := some f, lastNo := some f.no, lastT := c.t }
    let d := d.lockStep c ch f (!jump && !changed && x.lastNo.isSome)
    let r := d.judgeSource c ch f
    let d := r.1.judgeFreeze c ch f x.last
    if !d.folioFits ch f then
      let d := d.inc (chanK ch 0x1C)
      if d.chanSt ch = 4 then d else (d.setN (chanK ch 0x0C) 4).raise c 47 ch
    else
      let d := if (d.chan ch).lost then (d.modChan ch fun y => { y with lost := false }).raise c 45 ch else d
      let d := d.setN (chanK ch 0x0C) 2
      if r.2 || bit f.flags 0 then d else d.openFrame c ch f

/-- The capture channel bound to a port and taking input. -/
def Dev.boundChan (d : Dev) (c : Ctx) (p : Nat) : Option Nat :=
  (chansOf c).find? fun n => d.chanOnline n && d.nat (chanK n 2) = p

/-! ## Lines -/

/-- R403: a stored segment replaces one at its place. -/
def putSeg (l : List Seg1) (x : Seg1) : List Seg1 := (l.filter fun y => !(y.line = x.line && y.seg = x.seg)) ++ [x]

/-- R353: the bytes segment `seg` of a line of `b` bytes carries. -/
def segLen (b seg : Nat) : Nat := min 1024 (b - 1024 * seg)

/-- Whether a line of `b` bytes is whole in a list of segments. -/
def lineWhole (l : List Seg1) (line b : Nat) : Bool :=
  (upTo (ceilDiv b 1024)).all fun s => l.any fun x => x.line = line && x.seg = s && x.data.length = segLen b s

/-- The bytes of a line in a list of segments. -/
def lineData (l : List Seg1) (line b : Nat) : List Byte :=
  ((upTo (ceilDiv b 1024)).map fun s =>
    match l.find? fun x => x.line = line && x.seg = s with
    | some x => x.data
    | none => []).flatten

/-- R404: the frame being written is complete. -/
def Dev.completeFrame (d : Dev) (c : Ctx) (ch i : Nat) : Dev :=
  (d.modChan ch fun x => { x with
    writing := none, order := i :: x.order
    slots := modifyAt (fun s => { s with st := 2, doneT := c.t }) i x.slots }).inc (chanK ch 0x18)

/-- R417: a segment enters the DIRECT line buffer, which keeps the last 16 lines. -/
def Chan.buffer (x : Chan) (s : Seg1) : Chan :=
  let lines := if x.bufLines.contains s.line then x.bufLines else (x.bufLines ++ [s.line]).drop (x.bufLines.length + 1 - 16)
  { x with bufLines := lines, buf := (putSeg x.buf s).filter fun y => lines.contains y.line }

/-- The key of a line in the DIRECT line buffer: its frame and its number. -/
def bufKey (no line : Nat) : Nat := no * 8192 + line

/-- R403, R404: a VIDEO LINE packet of a channel. -/
def Dev.captureLine (d : Dev) (c : Ctx) (ch : Nat) (k : Pkt) : Dev :=
  let line := bits k.fieldA 0 13
  let low := bits k.fieldA 13 3
  let x := d.chan ch
  let into := fun (f : Folio) => low = f.no % 8 && line < f.h && k.fieldB < ceilDiv (lineBytes f.w f.fmt) 1024
  let seg := fun (f : Folio) => (⟨line, k.fieldB, k.payload.take (segLen (lineBytes f.w f.fmt) k.fieldB)⟩ : Seg1)
  let d := match x.bufFolio with
    | some f => if into f then d.modChan ch fun x => x.buffer { seg f with line := bufKey f.no line } else d
    | none => d
  match x.writing with
  | none => d.inc (chanK ch 0x19)
  | some i =>
    let f := ((x.slots[i]?).getD {}).folio
    if low ≠ f.no % 8 || f.h ≤ line then d.inc (chanK ch 0x19)
    else if !into f then d
    else
      let d := d.modChan ch fun x => { x with slots := modifyAt (fun s => { s with segs := putSeg s.segs (seg f) }) i x.slots }
      let s := ((d.chan ch).slots[i]?).getD {}
      if (upTo f.h).all fun y => lineWhole s.segs y (lineBytes f.w f.fmt) then d.completeFrame c ch i else d

/-! ## Commands -/

/-- FOLIO (R406): a folio on a port. -/
def execFolio (dt p : Nat) (k : Pkt) (s : State) : Host.Outcome State Fault Refusal :=
  s.actOn (p < s.portCount) dt fun c d =>
    let r := d.rxPacket p 2 0 k
    if r.2 then
      let f := parseFolio k.payload
      let d := r.1.modPort p fun x => { x with folioRx := some f.no }
      match d.boundChan c p with
      | some ch => (d.captureFolio c ch f (fld k.payload 30 2)).noteSource c ch
      | none => d
    else r.1

/-- VIDEO_LINE (R403): one that belongs to no folio of the current partner epoch is discarded (R373). -/
def execVideoLine (dt p : Nat) (k : Pkt) (s : State) : Host.Outcome State Fault Refusal :=
  s.actOn (p < s.portCount) dt fun c d =>
    let r := d.rxPacket p 3 0 k
    if !r.2 then r.1
    else if (r.1.port p).folioRx.isNone then r.1.inc (linkK p 0x08)
    else match r.1.boundChan c p with
      | some ch => r.1.captureLine c ch k
      | none => r.1

/-- R439: whether no valid folio has come for 2·T_if + 1 ms after the last one. -/
def Dev.inputOverdue (d : Dev) (c : Ctx) (ch : Nat) : Bool :=
  match (d.chan ch).last with
  | some f => decide (2 * (2 * f.tif.1 + 1000000 * f.tif.2) ≤ 5 * (c.t - (d.chan ch).lastT) * f.tif.2)
  | none => false

/-- CAPTURE_INPUT_LOST (R439): a running channel's input is lost once the bound has passed (Table 7.4: LOST is entered
from RUNNING). -/
def execCaptureInputLost (dt ch : Nat) (s : State) : Host.Outcome State Fault Refusal :=
  s.actOn (ch < s.count 24 12) dt fun c d =>
    if d.chanSt ch = 2 && d.inputOverdue c ch then
      let d := ((d.abandon ch).unlockChan ch []).setN (chanK ch 0x0C) 3
      (((d.modChan ch fun x => { x with lost := true, bufFolio := none }).inc (chanK ch 0x1D)).raise c 44 ch).noteSource c ch
    else d

/-- A channel starts in WAITING with an empty galley. -/
def Dev.startChan (d : Dev) (ch : Nat) : Dev :=
  ((d.setN (chanK ch 0x0C) 1).setN (chanK ch 0x0D) 0).modChan ch fun _ =>
    { slots := List.replicate (d.nat (chanK ch 3)) {}, size := d.chanSlot ch }

/-- R394: the refusals of a capture enable. -/
def Dev.captureRefusals (d : Dev) (c : Ctx) (ch : Nat) : List Nat :=
  let p := d.nat (chanK ch 2)
  (if d.role p = 1 || (d.chansOn c).any (fun o => o ≠ ch && d.nat (chanK o 2) = p) || d.chanSt ch = 5 then [0x0006] else [])
    ++ (if d.galleyAreaNow < d.galleysHeld c ch + d.galleyBytes ch || !videoFits d.view (ch :: d.chansOn c) then [0x000B] else [])

/-- R429: whether a channel's geometry is inside Table 7.3. -/
def geometryFits (w h r : Nat) : Bool := decide (w * h * r ≤ 2400000000)

/-- The refusals of a write in 0x4000 beside the dictionary's. -/
def Dev.checkCapture (d : Dev) (c : Ctx) (n sub : Nat) (v : Val) : List Nat :=
  let g := fun s => if s = sub then v.int.toNat else d.nat (chanK n s)
  if sub = 0x01 then if v = .num 1 && !d.chanOnline n then d.captureRefusals c n else []
  else if sub = 0x02 && c.s12 && 15 < v.int then [0x0005]
  else if sub = 0x04 || sub = 0x05 || sub = 0x07 then if geometryFits (g 4) (g 5) (g 7) then [] else [0x0005]
  else if sub = 0x24 then if v = .num 1 then [] else [0x0005]
  else []

/-- The effect of a write in 0x4000. -/
def Dev.writeCapture (d : Dev) (n sub : Nat) (v : Val) : Dev :=
  let k := chanK n sub
  if sub = 0x01 then
    let on := d.chanOnline n
    let d := d.set k v
    if v.int = 0 then
      if on then
        let d := (((d.abandon n).unlockChan n []).setN (chanK n 0x0C) 5).setN (chanK n 0x0D) 0
        (d.modChan n fun x => { x with bufFolio := none, lost := false }).drainEnd n
      else d
    else if on || d.videoDown then d
    else { d.startChan n with core := { d.core with fmem := [] } }
  else if sub = 0x24 then d.clear ((0x25 :: (upTo 7).map (· + 0x18)).map (chanK n))
  else d.set k v

/-- The live reads of 0x4000. -/
def Dev.readCapture (d : Dev) (n sub : Nat) : Option Val :=
  let on := d.chanOnline n
  if sub = 0x1F then some (.num ((d.chan n).size : Nat))
  else if sub = 0x20 then some (.num (if on then ceilDiv (chanWrites d.view n) 1000000 else 0 : Nat))
  else if sub = 0x21 then
    let r := chanReads d.view n
    some (.num (if on then ceilDiv r.1 (r.2 * 1000000) else 0 : Nat))
  else if sub = 0x22 then some (.num (if on then slotsNeeded d.view n else 0 : Nat))
  else if sub = 0x23 then
    some (.num (((d.chan n).slots.zipIdx).foldl (fun a p =>
      a + (p.1.st + 4 * b2n (d.protected' n p.2) + 8 * b2n (d.claimed n p.2)) * 16 ^ p.2) 0 : Nat))
  else none

end Sys2Proof.Machine
end

