-- ==== Sys2Proof/Machine/Compose.lean ====
section
/-!
DEFINITION. The window pipeline (Table 8.2): packing of lines, expansion, chroma, crop, scaling, colour matrix, border,
blending and output rounding, as functions of pixels.
-/
namespace Sys2Proof.Machine

/-! ## Pixel formats -/

/-- Table 8.1: the depth of a component. -/
def depthOf (fmt : Nat) : Nat :=
  match fmt with
  | 0x01 | 0x03 | 0x04 | 0x08 => 8
  | 0x02 | 0x06 | 0x07 => 10
  | 0x05 | 0x09 | 0x0A => 12
  | _ => 16

/-- Whether a format is 4:2:2. -/
def is422 (fmt : Nat) : Bool := fmt = 0x01 || fmt = 0x02 || fmt = 0x05

/-- Whether a format holds YCbCr. -/
def isYuv (fmt : Nat) : Bool := is422 fmt || fmt = 0x04 || fmt = 0x07 || fmt = 0x0A

/-- Components per pixel as packed. -/
def compsPer (fmt : Nat) : Nat := if is422 fmt then 2 else if fmt = 0x08 then 4 else 3

/-- R457: the components of a line of `w` pixels. -/
def unpackLine (fmt w : Nat) (b : List Byte) : List Nat :=
  let n := unle b
  (upTo (w * compsPer fmt)).map fun i => bits n (i * depthOf fmt) (depthOf fmt)

/-- Components as one number, the first lowest. -/
def packNat (b : Nat) : List Nat → Nat
  | [] => 0
  | x :: r => x % 2 ^ b + 2 ^ b * packNat b r

/-- R457: components as the bytes of a line. -/
def packLine (fmt w : Nat) (l : List Nat) : List Byte := le (lineBytes w fmt) (packNat (depthOf fmt) l)

/-- Stage 1 of Table 8.2. -/
def expand (b v : Nat) : Nat := if b = 16 then v else (v <<< (16 - b)) ||| (v >>> (2 * b - 16))

/-- An integer limited to 16 bits. -/
def clamp16 (n : Int) : Nat := (clampInt 0 65535 n).toNat

/-- R459: chroma of an odd pixel 2k + 1. -/
def chromaAt (l : List Nat) (k : Nat) : Nat :=
  let at' := fun (i : Int) => ((l[(clampInt 0 (l.length - 1 : Nat) i).toNat]?).getD 0 : Nat)
  let k : Int := k
  clamp16 ((-(at' (k - 1) : Int) + 9 * at' k + 9 * at' (k + 1) - at' (k + 2) + 8) / 16)

/-- Stages 1 and 2: the pixels of a line from its packed components. -/
def pixelsOf (fmt w : Nat) (comps : List Nat) : List Px :=
  let e := comps.map (expand (depthOf fmt))
  let g := fun i => (e[i]?).getD 0
  if is422 fmt then
    let cb := (upTo (w / 2)).map fun k => g (4 * k)
    let cr := (upTo (w / 2)).map fun k => g (4 * k + 2)
    (upTo w).map fun x =>
      let y := g (2 * x + 1)
      if x % 2 = 0 then ⟨y, g (2 * x), g (2 * x + 2), 65535⟩ else ⟨y, chromaAt cb (x / 2), chromaAt cr (x / 2), 65535⟩
  else if fmt = 0x08 then (upTo w).map fun x => ⟨g (4 * x), g (4 * x + 1), g (4 * x + 2), g (4 * x + 3)⟩
  else (upTo w).map fun x => ⟨g (3 * x), g (3 * x + 1), g (3 * x + 2), 65535⟩

/-- R416: the blend of two frames' stored components. -/
def blendComps (alpha : Nat) (f1 f0 : List Nat) : List Nat := (f1.zip f0).map fun p => (alpha * p.1 + (256 - alpha) * p.2 + 128) / 256

/-- R460: a colour object as a pixel. -/
def colourPx (v : Nat) : Px := ⟨expand 10 (bits v 20 10), expand 10 (bits v 10 10), expand 10 (bits v 0 10), 65535⟩

/-! ## Scaling -/

/-- R463: a step, halves rounded up; `follow`: the ratio is limited to 1/8 … 8. -/
def stepOf (crop dest : Nat) (follow : Bool) : Nat :=
  let s := roundDivN (crop * 65536) dest
  if follow then (if s < 8192 then 8192 else if 524288 < s then 524288 else s) else s

/-- R464: the source position of an output pixel. -/
def posOf (c i step : Nat) : Int := (c : Int) * 65536 + ((2 * (i : Int) + 1) * step - 65536) / 2

/-- R464: integer part and phase. -/
def posParts (p : Int) : Int × Nat := (p.fdiv 65536, ((p.fmod 65536) / 1024).toNat)

/-- R466: the linear filter's coefficients. -/
def linearTaps (taps centre phase : Nat) : List Int :=
  (upTo taps).map fun t => if t = centre then 256 - 4 * (phase : Int) else if t = centre + 1 then 4 * phase else 0

/-- R466: the sinc coefficients of a phase, which the spec leaves open but for their range and their sum: any set of
10-bit signed values that sum to 256 (the linear one, should the free values break that). -/
def sincTaps (taps centre phase step : Nat) : List Int :=
  let l := (upTo taps).map fun t => Config.sincCoef t taps phase step
  if (l.all fun x => decide (-512 ≤ x) && decide (x ≤ 511)) && l.foldl (· + ·) 0 = 256 then l else linearTaps taps centre phase

/-- R465, R466: coefficients of `taps` taps whose tap `centre` lies at the integer part. -/
def tapsOf (filter taps centre phase step : Nat) : List Int :=
  match filter with
  | 1 => linearTaps taps centre phase
  | 2 => (upTo taps).map fun t => if t = centre + b2n (32 ≤ phase) then 256 else 0
  | _ => sincTaps taps centre phase step

/-- R466: a tap result. -/
def tapSum (l : List (Int × Nat)) : Nat := clamp16 ((l.foldl (fun (a : Int) p => a + p.1 * (p.2 : Int)) 0 + 128) / 256)

/-- A tap result on pixels. -/
def tapPx (l : List (Int × Px)) : Px :=
  ⟨tapSum (l.map fun p => (p.1, p.2.a)), tapSum (l.map fun p => (p.1, p.2.b)), tapSum (l.map fun p => (p.1, p.2.c)),
    tapSum (l.map fun p => (p.1, p.2.alpha))⟩

/-- R465: a source coordinate limited to the crop. -/
def inCrop (c n : Nat) (i : Int) : Nat := (clampInt c (c + n - 1 : Nat) i).toNat

/-- R461, R465: a pixel of a source line; outside the source frame the fill colour. -/
def srcPx (g : Geo) (fill : Px) (src : List Px) (i : Int) : Px :=
  let x := inCrop g.xc g.cw i
  if x < g.sw then (src[x]?).getD fill else fill

/-- Stage 4: a source line scaled to the window columns `i0` to `i0 + n - 1`. -/
def hScale (g : Geo) (fill : Px) (line : List Px) (i0 n : Nat) : List Px :=
  (upTo n).map fun j =>
    let q := posParts (posOf g.xc (i0 + j) g.sx)
    tapPx (((tapsOf g.filter 8 3 q.2 g.sx).zipIdx).map fun p => (p.1, srcPx g fill line (q.1 + p.2 - 3)))

/-- R465: the source lines an output row's taps use, with their coefficients. -/
def rowTaps (g : Geo) (r : Nat) : List (Int × Nat) :=
  let q := posParts (posOf g.yc r g.sy)
  if g.k ≤ 1 then [(256, inCrop g.yc g.ch (if 32 ≤ q.2 then q.1 + 1 else q.1))]
  else
    let lo := (g.k - 1) / 2
    ((tapsOf g.filter g.k lo q.2 g.sy).zipIdx).map fun p => (p.1, inCrop g.yc g.ch (q.1 + p.2 - lo))

/-- Stages 3 to 5: a window row; `line y` is a source line's pixels. -/
def scaleRow (g : Geo) (fill : Px) (line : Nat → List Px) (r i0 n : Nat) : List Px :=
  let rows := (rowTaps g r).map fun p =>
    (p.1, hScale g fill (if p.2 < g.sh then line p.2 else List.replicate g.sw fill) i0 n)
  (upTo n).map fun j => tapPx (rows.map fun p => (p.1, (p.2[j]?).getD fill))

/-! ## Colour -/

/-- A standard's Kr and Kb in ten-thousandths (BT.709, BT.2020). -/
def kOfStd (std : Nat) : Int × Int := if std = 1 then (2627, 593) else (2126, 722)

/-- PRESUMED: offset and span of a component in 16-bit units (ITU-R): full range 0 and 65535, limited range 4096 with
56064 (57344 for chroma); chroma around 32768. -/
def rangeOf (full chroma : Bool) : Int × Int :=
  if chroma then (32768, if full then 65535 else 57344) else if full then (0, 65535) else (4096, 56064)

/-- The coefficients of a preset on normalized components, as numerators and a denominator per entry (Table 8.3):
identity, YCbCr to RGB or RGB to YCbCr of a standard. -/
def presetCoef (mode : Nat) (i j : Nat) : Int × Int :=
  let k := kOfStd (if mode = 3 || mode = 5 then 1 else 0)
  let kr := k.1
  let kb := k.2
  let kg := 10000 - kr - kb
  if mode = 2 || mode = 3 then
    match i, j with
    | _, 0 => ((1 : Int), (1 : Int))
    | 0, 2 => (2 * (10000 - kr), 10000)
    | 2, 1 => (2 * (10000 - kb), 10000)
    | 1, 1 => (-2 * kb * (10000 - kb), kg * 10000)
    | 1, 2 => (-2 * kr * (10000 - kr), kg * 10000)
    | _, _ => (0, 1)
  else if mode = 4 || mode = 5 then
    match i, j with
    | 0, 0 => (kr, 10000)
    | 0, 1 => (kg, 10000)
    | 0, _ => (kb, 10000)
    | 1, 2 => (1, 2)
    | 1, 0 => (-kr, 2 * (10000 - kb))
    | 1, _ => (-kg, 2 * (10000 - kb))
    | 2, 0 => (1, 2)
    | 2, 1 => (-kg, 2 * (10000 - kr))
    | _, _ => (-kb, 2 * (10000 - kr))
  else if i = j then (1, 1) else (0, 1)

/-- R468: a preset's twelve numbers, rounded to Q16.16 with halves rounded up; `sy`, `dy`: the source and the forme are
YCbCr; `sf`, `df`: their full-range flags. -/
def presetMatrix (mode : Nat) (sy dy sf df : Bool) : List Int :=
  let chroma := fun (yuv : Bool) (i : Nat) => yuv && i ≠ 0
  (upTo 3).flatMap fun i =>
    let d := rangeOf df (chroma dy i)
    let m := (upTo 3).map fun j =>
      let c := presetCoef mode i j
      let s := rangeOf sf (chroma sy j)
      roundDiv (65536 * c.1 * d.2) (c.2 * s.2).toNat
    let o := (upTo 3).foldl (fun (a : Int) j => a + (m[j]?).getD 0 * (rangeOf sf (chroma sy j)).1) 0
    m ++ [d.1 - roundDiv o 65536]

/-- Table 8.3: the preset that mode 0 selects. -/
def autoMode (sy dy : Bool) (sstd dstd : Nat) : Nat :=
  if sy = dy then 1 else if sy then (if sstd = 1 then 3 else 2) else (if dstd = 1 then 5 else 4)

/-- R467: a matrix of twelve numbers on a pixel. -/
def matrixPx (m : List Int) (p : Px) : Px :=
  let g := fun (i : Nat) => (m[i]?).getD 0
  let out := fun (r : Nat) => clamp16 ((g (4 * r) * p.a + g (4 * r + 1) * p.b + g (4 * r + 2) * p.c + 32768).fdiv 65536 + g (4 * r + 3))
  { p with a := out 0, b := out 1, c := out 2 }

/-- Twelve I32 of a DOMAIN. -/
def matrixBytes (b : List Byte) : List Int := (upTo 12).map fun i => signed 4 (fld b (4 * i) 4)

/-! ## Blending and output -/

/-- R470: a pixel's weight. -/
def weightOf (mode global : Nat) (p : Px) : Nat :=
  let a8 := p.alpha / 256
  let ap := a8 + a8 / 128
  match mode with
  | 0 => 256
  | 1 => global
  | 2 => ap
  | _ => (ap * global + 128) / 256

/-- R470: a window pixel over the value beneath. -/
def over2 (a w u : Nat) : Nat := (a * w + (256 - a) * u + 128) / 256

/-- R470 on pixels. -/
def blendPx (a : Nat) (w u : Px) : Px := ⟨over2 a w.a u.a, over2 a w.b u.b, over2 a w.c u.c, u.alpha⟩

/-- R460: output rounding. -/
def roundOut (b v : Nat) : Nat := if b = 16 then v else min (2 ^ b - 1) ((v + 2 ^ (15 - b)) >>> (16 - b))

/-- R459: a row's chroma at an even pixel. -/
def downChroma (f : Px → Nat) (row : List Px) (x : Nat) : Nat :=
  let at' := fun i => ((row[min i (row.length - 1)]?).map f).getD 0
  (at' (x - 1) + 2 * at' x + at' (x + 1) + 2) / 4

/-- Stage 9: a composed row as the packed bytes of a format; `alpha` fills an RGBA format's fourth component. -/
def outputRow (fmt w alpha : Nat) (row : List Px) : List Byte :=
  let b := depthOf fmt
  let r := roundOut b
  let comps :=
    if is422 fmt then
      (row.zipIdx).flatMap fun p =>
        if p.2 % 2 = 0 then [r (downChroma (fun q => q.b) row p.2), r p.1.a]
        else [r (downChroma (fun q => q.c) row (p.2 - 1)), r p.1.a]
    else row.flatMap fun p => if fmt = 0x08 then [r p.a, r p.b, r p.c, alpha % 2 ^ b] else [r p.a, r p.b, r p.c]
  packLine fmt w comps

end Sys2Proof.Machine
end

