-- ==== Sys2Proof/Machine/Admission.lean ====
section
/-!
DEFINITION. The checks a quoin and the enables share (R44, Table 8.7, R208, R209, R423, R428, R485, R486, R491, R534,
R640, R641, R848), over a view of the configuration as it would be.
-/
namespace Sys2Proof.Machine

/-- A configuration: every object's number and bytes. -/
structure View where
  int : Nat → Int
  raw : Nat → List Byte

/-- A view's natural numbers. -/
def View.nat (v : View) (k : Nat) : Nat := (v.int k).toNat

/-- The active configuration. -/
def Dev.active (d : Dev) : View := ⟨d.int, d.raw⟩

/-- The value staged entries give a key. -/
def entOf (l : List Ent) (k : Nat) : Option Val := (l.find? fun e => e.key = k).map fun e => e.val

/-- The configuration with entries in place of the active values. -/
def Dev.after (d : Dev) (l : List Ent) : View :=
  ⟨fun k => match entOf l k with | some v => v.int | none => d.int k,
   fun k => match entOf l k with | some v => v.raw | none => d.raw k⟩

/-! ## Rates and loads -/

/-- Device audio rates by code (Table 9.1). -/
def audioHz (code : Nat) : Nat :=
  match code with
  | 0 => 32000 | 1 => 44100 | 2 => 48000 | 3 => 88200 | 4 => 96000 | 5 => 176400 | _ => 192000

/-- R508: samples per block sent. -/
def audioN (code : Nat) : Nat := if code ≤ 2 then 8 else if code ≤ 4 then 16 else 32

/-- R523, R524: whether output group `h` of a forme is sent. -/
def View.groupSent (v : View) (n h : Nat) : Bool :=
  v.nat (key 0x6100 n 1) = 1 && (h < ceilDiv (v.nat (key 0x6100 n 2)) 4 || fld (v.raw (key 0x6100 n 7)) (2 * h) 2 ≠ 0xFFFF)

/-- R534: the ISO reservation of a forme's audio, bit/s. -/
def View.audioIso (v : View) (n : Nat) : Nat :=
  let g := ((upTo 4).filter fun h => v.groupSent n h).length
  let code := v.nat 0x6300_02
  let k := audioN code
  8 * g * ceilDiv (1001 * audioHz code) (1000 * k) * (28 + 16 * k)

/-- The metadata length reserved for: the largest a frame may carry where a metadata window is named. -/
def View.metaLen (v : View) (n : Nat) : Nat := if v.nat (formeK n 0x10) = 0xFF then 0 else 960

/-- R491: the ISO reservation of a forme before audio, bit/s as a fraction. -/
def View.formeIso (v : View) (n : Nat) : Nat × Nat :=
  let b := lineBytes (v.nat (formeK n 3)) (v.nat (formeK n 8))
  let z := (8 - b % 8) % 8
  (8 * v.nat (formeK n 6) * (v.nat (formeK n 4) * (b + 12 * ceilDiv b 1024 + z) + 76 + v.metaLen n), v.nat (formeK n 7))

/-- R490: the pixel load of a forme, pixels/s as a fraction. -/
def View.pixelLoad (v : View) (n : Nat) : Nat × Nat :=
  (v.nat (formeK n 3) * v.nat (formeK n 5) * v.nat (formeK n 6), v.nat (formeK n 7))

/-- The enabled formes of a view. -/
def View.formes (v : View) (c : Ctx) : List Nat := (formesOf c).filter fun n => v.nat (formeK n 1) = 1

/-- The enabled windows of a forme. -/
def View.wins (v : View) (n : Nat) : List Nat := (upTo 64).filter fun w => v.nat (winK w 1) = 1 && v.nat (winK w 2) = n

/-- R455: the vertical depth of a forme. -/
def View.kf (v : View) (n : Nat) : Nat := (v.wins n).foldl (fun m w => max m (v.nat (winK w 5))) 1

/-- R640: the strict reservation of a port, bit/s as a fraction. -/
def View.strict (v : View) (c : Ctx) (p : Nat) : Nat × Nat :=
  let w := v.nat (portK p 4)
  let iso := (v.formes c).foldl (fun a n =>
    if v.nat (formeK n 2) = p then fracAdd (fracAdd a (v.formeIso n)) (v.audioIso n, 1) else a) (0, 1)
  let ptr := payloadMbit w (v.nat (portK p 5)) * 1000000
  fracAdd (fracAdd iso (ptr, 1024 * w)) (v.nat (schedK p 1) * 8288 + 1000000, 1)

/-- R641: whether a port's strict reservation is at most 90% of its payload rate. -/
def View.admits (v : View) (c : Ctx) (p : Nat) : Bool :=
  let s := v.strict c p
  decide (10 * s.1 ≤ 9 * payloadMbit (v.nat (portK p 4)) (v.nat (portK p 5)) * 1000000 * s.2)

/-! ## DIRECT (R485) -/

/-- R461, R462: a window's geometry for a source size. -/
def View.geo (v : View) (w sw sh : Nat) : Geo :=
  let k := winK w
  let follow := v.nat (k 8) = 0 || v.nat (k 9) = 0
  let cw := if follow then sw else v.nat (k 8)
  let ch := if follow then sh else v.nat (k 9)
  { xc := if follow then 0 else v.nat (k 6), yc := if follow then 0 else v.nat (k 7), cw := cw, ch := ch
    x := v.int (k 0x0A), y := v.int (k 0x0B), dw := v.nat (k 0x0C), dh := v.nat (k 0x0D)
    sx := stepOf cw (v.nat (k 0x0C)) follow, sy := stepOf ch (v.nat (k 0x0D)) follow
    k := v.nat (k 5), filter := v.nat (k 0x19), sw := sw, sh := sh }

/-- R485, first condition: genlock timing at the genlock frame rate. -/
def View.directRate (v : View) (n : Nat) : Bool :=
  v.nat (formeK n 9) = 0 && v.nat (formeK n 6) * v.nat 0x2110_04 = v.nat 0x2110_03 * v.nat (formeK n 7)

/-- The line period of a forme in ns as a fraction. -/
def View.tol (v : View) (n : Nat) : Nat × Nat := (1000000000 * v.nat (formeK n 7), v.nat (formeK n 6) * v.nat (formeK n 5))

/-- R485, row conditions at one row: `til` in ns as a fraction, arrival offset `a` in ns. -/
def directRow (g : Geo) (phi : Nat) (a : Int) (til tol : Nat × Nat) (r : Nat) : Bool :=
  let q := posParts (posOf g.yc r g.sy)
  let nr := q.1 + ((g.k + 1) / 2 : Nat)
  let m := (rowTaps g r).foldl (fun (m : Nat) p => min m p.2) (g.yc + g.ch)
  let pe : Int := 5 * (phi : Int) - 2 * a
  decide (2 * (tol.2 : Int) * ((nr + 2) * til.1 + 1000 * til.2) ≤ til.2 * tol.2 * pe + 2 * til.2 * tol.1 * (g.y + r))
    && decide (til.2 * tol.2 * pe + 2 * til.2 * tol.1 * (g.y + r + 1) ≤ 2 * (tol.2 : Int) * til.1 * ((m : Int) + 16))

/-- R485, R487: whether a window meets the conditions of DIRECT with the channel as it stands. -/
def Dev.directFits (d : Dev) (v : View) (w : Nat) : Bool :=
  let n := v.nat (winK w 2)
  let ch := v.nat (winK w 3)
  if !v.directRate n then false
  else if 24 ≤ ch then true
  else
    let x := d.chan ch
    let a := if d.chanFlag ch 2 then d.int (chanK ch 0x17) else 0
    let tol := v.tol n
    let til := match x.last with
      | some f => (f.tif.1, f.tif.2 * f.total)
      | none => tol
    let sw := match x.last with
      | some f => f.w
      | none => v.nat (chanK ch 4)
    let sh := match x.last with
      | some f => f.h
      | none => v.nat (chanK ch 5)
    let g := v.geo w sw sh
    let r0 := (-g.y).toNat
    let r1 := (min (g.dh : Int) ((v.nat (formeK n 4) : Int) - g.y)).toNat
    if r1 ≤ r0 then true
    else directRow g (v.nat (formeK n 0x0A)) a til tol r0 && directRow g (v.nat (formeK n 0x0A)) a til tol (r1 - 1)

/-! ## Validation of a quoin -/

/-- The lowest key of a list. -/
def lowestKey (ks : List Nat) : Option Nat :=
  ks.foldl (fun o k => match o with
    | some m => some (min m k)
    | none => some k) none

/-- A check that fails: its code and the objects involved. -/
def fails (ok : Bool) (code : Nat) (ks : List Nat) : List (Nat × List Nat) := if ok then [] else [(code, ks)]

/-- R45: the offending object of a failed check, with its code: the lowest staged object among those involved, or, where
none of them is staged, the lowest of those that are no enables (log entry 134). -/
def blame (l : List Ent) (x : Nat × List Nat) : Option (Nat × Nat) :=
  let involved := x.2.filter fun k => l.any fun e => e.key = k
  let plain := x.2.filter fun k => k % 256 ≠ 1
  (lowestKey (if !involved.isEmpty then involved else if !plain.isEmpty then plain else x.2)).map fun k => (k, x.1)

/-- R450: whether a rate equals the genlock rate × M or ÷ D. -/
def rateRelated (num den gnum gden : Nat) : Bool :=
  (upTo 8).any fun i => num * gden = gnum * den * (i + 1) || num * gden * (i + 1) = gnum * den

/-- Whether a fraction d / c lies in 1/8 … 8. -/
def ratioFits (dst crop : Nat) : Bool := crop ≤ 8 * dst && dst ≤ 8 * crop

/-- The largest number of rectangles (left, top, right, bottom) over one pixel. -/
def maxCover (l : List (Int × Int × Int × Int)) : Nat :=
  l.foldl (fun m a => l.foldl (fun m b =>
    max m (l.filter fun r => decide (r.1 ≤ a.1) && decide (a.1 < r.2.2.1) && decide (r.2.1 ≤ b.2.1) && decide (b.2.1 < r.2.2.2)).length) m) 0

/-- The keys of sub-indices of a forme. -/
def fk (n : Nat) (subs : List Nat) : List Nat := subs.map (formeK n)

/-- The keys of sub-indices of windows. -/
def wk (ws subs : List Nat) : List Nat := ws.flatMap fun w => subs.map (winK w)

/-- Table 8.7: the checks of one enabled forme. -/
def Dev.checkForme (d : Dev) (c : Ctx) (l : List Ent) (n : Nat) : List (Nat × List Nat) :=
  let v := d.after l
  let f := fun s => v.nat (formeK n s)
  let ws := v.wins n
  let kf := v.kf n
  let p := f 2
  let staged := fun k => l.any fun e => e.key = k
  let portBad := p = 0xFF || (portsOf c).length ≤ p || v.nat (portK p 2) = 0
  let shared := (v.formes c).filter fun m => m ≠ n && v.nat (formeK m 2) = p
  let rects := ws.filterMap fun w =>
    let x0 := max 0 (v.int (winK w 0x0A))
    let y0 := max 0 (v.int (winK w 0x0B))
    let x1 := min (f 3 : Int) (v.int (winK w 0x0A) + v.int (winK w 0x0C))
    let y1 := min (f 4 : Int) (v.int (winK w 0x0B) + v.int (winK w 0x0D))
    if x0 < x1 && y0 < y1 then some (x0, y0, x1, y1) else none
  let rateIn := decide (20 * f 7 ≤ f 6) && decide (f 6 ≤ 480 * f 7)
  let glk := [0x2110_03, 0x2110_04]
  let load := v.pixelLoad n
  fails rateIn 5 (fk n [1, 6, 7])
    ++ fails (!portBad) 6 (fk n [1, 2])
    ++ fails (portBad || shared.isEmpty) 6 (fk n [1, 2] ++ shared.flatMap fun m => fk m [1, 2])
    ++ fails (decide (f 0x0A * f 6 < 400000000 * f 7)) 6 (fk n [1, 6, 7, 0x0A])
    ++ fails (f 9 ≠ 0 || rateRelated (f 6) (f 7) (v.nat 0x2110_03) (v.nat 0x2110_04)) 6 (glk ++ fk n [1, 6, 7, 9])
    ++ fails (decide (f 4 + kf + 4 ≤ f 5)) 6 (fk n [1, 4, 5] ++ wk ws [1, 2, 5])
    ++ fails (decide (ws.length ≤ 16)) 6 (fk n [1] ++ wk ws [1, 2])
    ++ fails (decide (maxCover rects ≤ 4)) 6 (fk n [1, 3, 4] ++ wk ws [1, 2, 0x0A, 0x0B, 0x0C, 0x0D])
    ++ fails (!(is422 (f 8)) || f 3 % 2 = 0) 6 (fk n [1, 3, 8])
    ++ fails (f 0x0B = 0 || !((fk n [1, 2, 0x0B] ++ [key 0x5400 n 1]).any staged)
        || (!portBad && v.nat (portK p 2) = 1 && v.nat (key 0x5400 n 1) = 1)) 6 (fk n [1, 2, 0x0B] ++ [key 0x5400 n 1])
    ++ fails (decide (load.1 ≤ 2400000000 * load.2)) 0xB (fk n [1, 3, 5, 6, 7])
    ++ ws.flatMap fun w =>
      let g := fun s => v.nat (winK w s)
      let follow := g 8 = 0 || g 9 = 0
      let touched := glk.any staged || (fk n [1, 3, 4, 5, 6, 7, 9, 0x0A]).any staged || l.any fun e => e.key / 256 = 0x5100 + w
      fails (follow || (ratioFits (g 0x0C) (g 8) && ratioFits (g 0x0D) (g 9))) 6 (fk n [1] ++ wk [w] [1, 2, 8, 9, 0x0C, 0x0D])
        ++ fails (decide (g 5 ≤ 4) || decide (g 0x0C ≤ 3840)) 6 (fk n [1] ++ wk [w] [1, 2, 5, 0x0C])
        ++ fails (g 4 ≠ 0 || f 9 = 0) 6 (fk n [1, 9] ++ wk [w] [1, 2, 4])
        ++ if g 4 = 0 && touched && !d.directFits v w then [(6, [formeK n 0x0A])] else []

/-- R848: a monitored window left with no expected source. -/
def Dev.checkExpected (_d : Dev) (c : Ctx) (v : View) : List (Nat × List Nat) :=
  (v.formes c).flatMap fun n =>
    if v.nat (formeK n 0x0B) = 1 then
      (v.wins n).filterMap fun w =>
        let ch := v.nat (winK w 3)
        if ch < 24 && fld (v.raw 0x9010_01) (4 * w) 4 = 0 && v.nat (chanK ch 8) = 0 then some (6, [winK w 3]) else none
    else []

/-- R208, R209: the genlock frame rate. -/
def Dev.checkRate (d : Dev) (l : List Ent) : List (Nat × List Nat) :=
  let v := d.after l
  let num := v.nat 0x2110_03
  let den := v.nat 0x2110_04
  let fits := decide (20 * den ≤ num) && decide (num ≤ 480 * den)
  if !fits then fails false 5 [0x2110_03, 0x2110_04]
  else if num = d.rateNum && den = d.rateDen then []
  else ([0, 1, 2, 4, 5, 6, 7].filterMap fun r =>
    if d.flag (key 0x2100 r 1) && !d.refFits r num den then some (6, [key 0x2100 r 1]) else none).take 1

/-- Which formes a set of entries touches: its own, its windows' old and new formes, and every genlock-timed one at a
change of the genlock frame rate. DESIGN CHOICE (log entry 134): R44 and Table 8.7 do not say whether the checks take in a
forme that the quoin leaves disabled or does not touch; they are applied to the formes touched and enabled after it. -/
def Dev.touchedFormes (d : Dev) (c : Ctx) (l : List Ent) : List Nat :=
  let v := d.after l
  (formesOf c).filter fun n => v.nat (formeK n 1) = 1 && l.any fun e =>
    let i := e.key / 256
    i = 0x5000 + n || i = 0x5400 + n
      || (0x5100 ≤ i && i < 0x5140 && (d.nat (i * 256 + 2) = n || v.nat (i * 256 + 2) = n))
      || (v.nat (formeK n 9) = 0 && (e.key = 0x2110_03 || e.key = 0x2110_04) && e.val.int ≠ d.int e.key)

/-- Table 8.7, R423, R424, R428: totals, slots and budget. -/
def Dev.checkTotals (d : Dev) (c : Ctx) (l : List Ent) : List (Nat × List Nat) :=
  let v := d.after l
  let total := (v.formes c).foldl (fun a n => fracAdd a (v.pixelLoad n)) (0, 1)
  let on := d.chansOn c
  let readers := fun ch => (upTo 64).filter fun w => winReads v.nat w ch
  fails (decide (total.1 ≤ 25600000000 * total.2)) 0xB ((v.formes c).flatMap fun n => fk n [1, 3, 5, 6, 7])
    ++ (on.flatMap fun ch =>
      fails (decide (slotsNeeded v.nat ch ≤ v.nat (chanK ch 3))) 0xB
        (wk (readers ch) [1, 2, 3, 4] ++ (readers ch).flatMap fun w => fk (v.nat (winK w 2)) [1, 6, 7]))
    ++ fails (videoFits v.nat on) 0xB
        (on.flatMap fun ch => (readers ch).flatMap fun w =>
          let a := winReserve v.nat w ch
          let b := if winReads d.nat w ch then winReserve d.nat w ch else (0, 1)
          if b.1 * a.2 < a.1 * b.2 then wk [w] [1, 2, 3, 4, 6, 7, 8, 9] ++ fk (v.nat (winK w 2)) [1, 6, 7] else [])

/-- R641: port admission. -/
def Dev.checkAdmission (d : Dev) (c : Ctx) (l : List Ent) : List (Nat × List Nat) :=
  let v := d.after l
  (portsOf c).flatMap fun p =>
    let a := v.strict c p
    let b := d.active.strict c p
    if v.admits c p || a.1 * b.2 ≤ b.1 * a.2 then []
    else fails false 0xC (schedK p 1 :: (v.formes c).flatMap fun n =>
      if v.nat (formeK n 2) = p then fk n [1, 2, 3, 4, 6, 7, 8, 0x10] ++ [key 0x6100 n 1, key 0x6100 n 2, key 0x6100 n 7] else [])

/-- R73: the order in which one refusal is chosen among several. -/
def codeRank (code : Nat) : Nat :=
  match code with
  | 0xD => 0 | 1 => 1 | 2 => 2 | 3 => 3 | 7 => 4 | 4 => 5 | 5 => 6 | 0xF => 7 | 8 => 8 | 6 => 9 | 0xB => 10 | 0xC => 11
  | _ => 12

/-- The first of a list of refusals in the order of R73. -/
def firstCode (l : List Nat) : Option Nat :=
  l.foldl (fun o c => match o with
    | some b => some (if codeRank c < codeRank b then c else b)
    | none => some c) none

/-- R44, R45: what is wrong with a set of entries: the lowest offending object and its code. -/
def Dev.quoinFault (d : Dev) (c : Ctx) (l : List Ent) : Option (Nat × Nat) :=
  let v := d.after l
  let ranges := l.filterMap fun e => match lookup c.s12 e.key with
    | .row _ _ o => if o.inRange e.val then none else some (e.key, 5)
    | _ => some (e.key, 5)
  let all := ranges ++ (d.checkRate l ++ ((d.touchedFormes c l).flatMap fun n => d.checkForme c l n) ++ d.checkTotals c l
    ++ d.checkAdmission c l ++ d.checkExpected c v).filterMap (blame l)
  all.foldl (fun (o : Option (Nat × Nat)) x => match o with
    | some b => if x.1 < b.1 || (x.1 = b.1 && codeRank x.2 < codeRank b.2) then some x else some b
    | none => some x) none

end Sys2Proof.Machine
end

