-- ==== Sys2Proof/Machine/Audio.lean ====
section
/-!
DEFINITION. Embedded audio (ch 9): audio blocks in and out, the crosspoint with crossfades, gains and fades, lip-sync
delay, passthrough, TDM ports and the device audio clock.
-/
namespace Sys2Proof.Machine

/-! ## Places -/

/-- The key of a capture channel's audio object. -/
def capAudK (c sub : Nat) : Nat := key 0x6000 c sub

/-- The key of a forme's audio object. -/
def outAudK (n sub : Nat) : Nat := key 0x6100 n sub

/-- The key of a TDM port's object. -/
def tdmK (t sub : Nat) : Nat := key 0x6200 t sub

/-- An audio group, 4c + g. -/
def Dev.agroup (d : Dev) (a : Nat) : AGroup := (d.audio.groups[a]?).getD {}

/-- A TDM port's inner state. -/
def Dev.atdm (d : Dev) (t : Nat) : ATdm := (d.audio.tdm[t]?).getD {}

/-- An audio unit. -/
def Dev.aunit (d : Dev) (u : Nat) : AUnit := (d.audio.units[u]?).getD {}

/-- Change an audio group. -/
def Dev.modGroup (d : Dev) (a : Nat) (f : AGroup → AGroup) : Dev :=
  { d with audio := { d.audio with groups := modifyAt f a d.audio.groups } }

/-- Change a TDM port's inner state. -/
def Dev.modTdm (d : Dev) (t : Nat) (f : ATdm → ATdm) : Dev := { d with audio := { d.audio with tdm := modifyAt f t d.audio.tdm } }

/-- Change an audio unit. -/
def Dev.modUnit (d : Dev) (u : Nat) (f : AUnit → AUnit) : Dev :=
  { d with audio := { d.audio with units := modifyAt f u d.audio.units } }

/-- The state of a group (0x6000+c.04): 0 absent, 1 locking, 2 locked, 3 lost, 4 rate error, 5 compressed. -/
def Dev.groupSt (d : Dev) (a : Nat) : Nat := bits (d.nat (capAudK (a / 4) 0x04)) (4 * (a % 4)) 4

/-- Set a group's state and whether it is present. -/
def Dev.setGroupSt (d : Dev) (a st : Nat) : Dev :=
  let k := capAudK (a / 4)
  let d := d.setN (k 0x04) (setBits (d.nat (k 0x04)) (4 * (a % 4)) 4 st)
  d.setN (k 0x02) (setBit (d.nat (k 0x02)) (a % 4) (st ≠ 0 && st ≠ 3))

/-- The device audio rate in force. -/
def Dev.audioRate (d : Dev) : Nat := d.audio.clk.2.1

/-- R532: the state a TDM port of a role has while enabled: a master runs from the synthesizer's clock. -/
def Dev.masterState (d : Dev) : Nat := if d.nat 0x6300_06 = 2 then 3 else 1

/-- Master TDM ports follow the clock (R532, R548, R552). -/
def Dev.settleMasters (d : Dev) : Dev :=
  (upTo 4).foldl (fun d t =>
    if d.nat (tdmK t 0x0E) ≠ 0 && d.nat (tdmK t 0x02) = 0 then d.setN (tdmK t 0x0E) d.masterState else d) d

/-! ## Samples -/

/-- R521: sample `i` of a crossfade from `a` to `b`. -/
def xfade (i : Nat) (a b : Int) : Int := ((256 - (i : Int)) * a + i * b + 128).fdiv 256

/-- A 24-bit sample of a 32-bit word (R506, R531). -/
def wordSample (w : Nat) : Int := signed 3 (w / 256 % 2 ^ 24)

/-- The 32-bit word of a sample. -/
def sampleWord (s : Int) : Nat := toTwos 3 s * 256

/-- R522: limited to 24 bits. -/
def sat24 (n : Int) : Int := clampInt (-8388608) 8388607 n

/-- R515, R514, R544: channel `k` of a capture channel at this tick. -/
def Dev.captureSample (d : Dev) (c : Ctx) (ch k : Nat) : Int :=
  let a := 4 * ch + k / 4
  let g := d.agroup a
  if d.flag (capAudK ch 0x0A) && d.chanFlag ch 1 then 0
  else if d.groupSt a = 2 then (if bit g.valid (k % 4) then (Config.asrcSample c.seed (16 * ch + k)).toInt else 0)
  else if d.groupSt a = 3 && g.decay < 256 then xfade g.decay ((g.held[k % 4]?).getD 0) 0
  else 0

/-- R518, R549: an input slot of a TDM port at this tick. -/
def Dev.tdmSample (d : Dev) (c : Ctx) (t s : Nat) : Int :=
  let x := d.atdm t
  if d.nat (tdmK t 0x0E) ≠ 3 || !bit (d.nat (tdmK t 0x08)) s then 0
  else if d.nat (tdmK t 0x02) = 0 || (x.same && d.nat (tdmK t 0x03) = d.audioRate) then wordSample ((x.words[s]?).getD 0)
  else (Config.asrcSample c.seed (384 + 16 * t + s)).toInt

/-- Table 9.2: a crosspoint input at this tick; any other number is silence. -/
def Dev.inSample (d : Dev) (c : Ctx) (x : Nat) : Int :=
  if x < 384 then d.captureSample c (x / 16) (x % 16)
  else if x < 448 then d.tdmSample c ((x - 384) / 16) ((x - 384) % 16)
  else 0

/-- R510, R511: the input a route entry names now; 0xFFFF for silence. -/
def Dev.routeInput (d : Dev) (r : Nat) : Nat :=
  if r < 448 then r
  else if 0x8000 ≤ r && r < 0x8400 then
    let w := (r - 0x8000) / 16
    let ch := d.nat (winK w 3)
    if d.nat (winK w 0x1A) = 1 && ch < 24 then 16 * ch + (r - 0x8000) % 16 else 0xFFFF
  else 0xFFFF

/-- R521, R538: the value of a chain of crossfades. -/
def Dev.chainValue (d : Dev) (c : Ctx) : List (Nat × Nat) → Int
  | [] => 0
  | (x, i) :: r => if 256 ≤ i then d.inSample c x else xfade i (d.chainValue c r) (d.inSample c x)

/-- One tick further: a finished crossfade or ramp drops what lies beneath it. -/
def advance {α : Type} : List (α × Nat) → List (α × Nat)
  | [] => []
  | (x, i) :: r => if 255 ≤ i then [(x, 256)] else (x, i + 1) :: advance r

/-- R522, R537: a value under the gains in force. -/
def applyGain (g : List (Int × Nat)) (v : Int) : Int :=
  match g with
  | [(0, _)] => v
  | _ => if v = 0 then 0 else sat24 (Config.gained g v)

/-- The longest delay line: 250 ms at 192 kHz. -/
def lineLen : Nat := 48001

/-- R519 to R522, R527, R529, R543: one output at a tick: route `want`, gain code `g`, its unit and the unit's level;
`bad`: its delay buffer read stayed uncorrectable, and the sample is 0 (R550). -/
def Dev.outTick (d : Dev) (c : Ctx) (o want : Nat) (g : Int) (u : AUnit) (bad : Bool) : Dev × Int × Bool :=
  let x := (d.audio.outs[o]?).getD {}
  let changed := match x.srcs with
    | (s, _) :: _ => s ≠ want
    | [] => false
  let srcs := match x.srcs with
    | [] => [(want, 256)]
    | l => if changed then (want, 0) :: l else l
  let gains := match x.gains with
    | [] => [(g, 256)]
    | (g0, i) :: r => if g0 = g then (g0, i) :: r else (g, 0) :: (g0, i) :: r
  let v := applyGain gains (d.chainValue c srcs)
  let ln := (v :: x.line).take lineLen
  let pick := fun (i : Nat) => (ln[i]?).getD 0
  let y := match u.fade with
    | some (old, i) => xfade i (pick old) (pick u.delay)
    | none => if u.frac = 0 then pick u.delay else sat24 (signed 3 (Config.free c.seed (1000 + o) % 2 ^ 24))
  let z := if bad then 0 else xfade u.lvl 0 y
  ({ d with audio := { d.audio with outs := modifyAt (fun x => { x with srcs := advance srcs, gains := advance gains, line := ln }) o d.audio.outs } },
    z, changed)

/-! ## Lip-sync (R526 to R530) -/

/-- R528: the reference window of a unit; 0xFF for none. -/
def Dev.refWindow (d : Dev) (u : Nat) : Nat :=
  if 24 ≤ u then d.nat (tdmK (u - 24) 0x0C)
  else
    let r := d.nat (outAudK u 0x05)
    if r = 0xFE then
      let b := d.raw (outAudK u 0x03)
      match (upTo 16).find? fun k => 0x8000 ≤ fld b (2 * k) 2 && fld b (2 * k) 2 < 0x8400 with
      | some k => (fld b (2 * k) 2 - 0x8000) / 16
      | none => 0xFF
    else r

/-- The offset of a unit in µs. -/
def Dev.lipOffset (d : Dev) (u : Nat) : Int := if 24 ≤ u then d.int (tdmK (u - 24) 0x0D) else d.int (outAudK u 0x06)

/-- Samples of f_a in µs, rounded up. -/
def samplesUs (n hz : Nat) : Nat := ceilDiv (n * 1000000) hz

/-- Show a unit's applied delay. -/
def Dev.showDelay (d : Dev) (u : Nat) : Dev :=
  let us := samplesUs (d.aunit u).delay (audioHz d.audioRate)
  if 24 ≤ u then d.setN (tdmK (u - 24) 0x11) us else d.setN (outAudK u 0x08) us

/-- LIP_SYNC_UPDATE (R527, R529): the target of a unit, and what becomes of the applied delay. -/
def Dev.lipSync (d : Dev) (c : Ctx) (u : Nat) : Dev :=
  let w := d.refWindow u
  let lw := if w < 64 then d.nat (key 0x5300 w 0x01) else 0
  let ns : Int := (lw : Int) + 1000 * d.lipOffset u - 1500000
  let hz := audioHz d.audioRate
  let cl := decide (ns < 0) || decide (250000000 < ns)
  let x := d.aunit u
  let target := (roundDiv (clampInt 0 250000000 ns * hz) 1000000000).toNat
  let d := if cl && !x.clamped then d.raise c 62 u else d
  let d := d.setN 0x6310_05 (setBit (d.nat 0x6310_05) u cl)
  let d := if u < 24 then d.setN (outAudK u 0x09) (samplesUs target hz) else d
  let d := d.modUnit u fun x => { x with clamped := cl }
  let diff := if target < x.delay then x.delay - target else target - x.delay
  if diff * 1000000 ≤ d.nat 0x6310_04 * hz || x.slew = some target then d
  else if d.nat 0x6310_02 = 1 then d.modUnit u fun x => { x with slew := some target }
  else
    (d.modUnit u fun x => { x with
      delay := target, slew := none, frac := 0, fade := if x.lvl = 0 then none else some (x.delay, 0) }).showDelay u

/-- R529: the units whose reference window belongs to a forme, at a boundary of it. -/
def Dev.lipSyncAt (d : Dev) (c : Ctx) (n : Nat) : Dev :=
  (upTo 28).foldl (fun d u =>
    let w := d.refWindow u
    if w < 64 && d.nat (winK w 2) = n then d.lipSync c u else d) d

/-- R529: one tick of a slew and of a lip-sync crossfade. -/
def Dev.delayTick (d : Dev) (u : Nat) : Dev :=
  let x := d.aunit u
  let d := match x.fade with
    | some (o, i) => d.modUnit u fun x => { x with fade := if 255 ≤ i then none else some (o, i + 1) }
    | none => d
  match x.slew with
  | none => d
  | some g =>
    if x.delay = g then d.modUnit u fun x => { x with slew := none, frac := 0 }
    else
      let f := x.frac + d.nat 0x6310_03
      if 1000000 ≤ f then
        (d.modUnit u fun x => { x with
          delay := if x.delay < g then x.delay + 1 else x.delay - 1, frac := f - 1000000 }).showDelay u
      else d.modUnit u fun x => { x with frac := f }

/-! ## The tick -/

/-- R523: whether a unit is to run: its forme runs with audio enabled, or its TDM port runs. -/
def Dev.unitWanted (d : Dev) (u : Nat) : Bool :=
  if 24 ≤ u then d.nat (tdmK (u - 24) 0x0E) = 3 else d.nat (formeK u 0x11) ≠ 0 && d.flag (outAudK u 0x01)

/-- R551: whether a unit is muted by the safe state. -/
def Dev.unitMuted (d : Dev) (u : Nat) : Bool :=
  d.isSafe && if 24 ≤ u then d.flag (tdmK (u - 24) 0x0B) else d.flag (formeK u 0x0B)

/-- R541, R543, R551: the fade level of a unit one tick on; a unit that has faded out stops. -/
def Dev.levelTick (d : Dev) (u : Nat) : Dev :=
  let want := d.unitWanted u
  let x := d.aunit u
  let d :=
    if want && !x.on then
      let outs := if 24 ≤ u then (upTo 16).map (384 + 16 * (u - 24) + ·) else (upTo 16).map (16 * u + ·)
      let d := { d with audio := { d.audio with outs := outs.foldl (fun l o => modifyAt (fun (_ : AOut) => {}) o l) d.audio.outs } }
      d.modUnit u fun x => { x with on := true, lvl := 0, disc := [true, true, true, true], ts := [], pass := [[], [], [], []], fade := none }
    else d
  let up := want && !d.unitMuted u && d.audio.next.isNone
  d.modUnit u fun x =>
    if up then { x with lvl := min 256 (x.lvl + 1) }
    else { x with lvl := x.lvl - 1, on := x.on && (want || 1 < x.lvl) }

/-- The outputs of a unit that take samples from the crosspoint, with route entries and gains. -/
def Dev.unitOuts (d : Dev) (u : Nat) : List (Nat × Nat × Int) :=
  if 24 ≤ u then
    (upTo 16).map fun s =>
      let i := 16 * (u - 24) + s
      (384 + i, fld (d.raw 0x6300_04) (2 * i) 2, signed 2 (fld (d.raw 0x6300_05) (2 * i) 2))
  else
    (upTo (min 16 (d.nat (outAudK u 0x02)))).filterMap fun k =>
      if fld (d.raw (outAudK u 0x07)) (2 * (k / 4)) 2 ≠ 0xFFFF then none
      else some (16 * u + k, fld (d.raw (outAudK u 0x03)) (2 * k) 2, signed 2 (fld (d.raw (outAudK u 0x04)) (2 * k) 2))

/-- R533: a TDM port's format (polarity, width, delay, clock edge). -/
def Dev.tdmFormat (d : Dev) (t : Nat) : List Nat := [4, 5, 6, 7].map fun i => d.nat (tdmK t i)

/-- R533: what a TDM port drives in a slot: its word, or low or nothing in a slot cleared in .09. -/
def Dev.tdmSlot (d : Dev) (t s w : Nat) : Option Nat :=
  if bit (d.nat (tdmK t 0x09)) s then some w else if d.nat (tdmK t 0x0A) = 1 then none else some 0

/-- One unit at a tick: its outputs, its delay, its level; a running master TDM port's frame leaves at once. -/
def Dev.unitTick (d : Dev) (c : Ctx) (bad : List Nat) (u : Nat) : Dev :=
  let d := d.levelTick u
  if !(d.aunit u).on then d
  else
    let x := d.aunit u
    let r := (d.unitOuts u).foldl (fun (p : Dev × List (Nat × Int) × Bool) e =>
      let q := p.1.outTick c e.1 (p.1.routeInput e.2.1) e.2.2 x (bad.contains e.1)
      (q.1, p.2.1 ++ [(e.1, q.2.1)], p.2.2 || q.2.2)) (d, [], false)
    let d := if r.2.2 then r.1.inc 0x6300_07 else r.1
    let d :=
      if 24 ≤ u then
        let t := u - 24
        let slots := r.2.1.map fun p => d.tdmSlot t ((p.1 - 384) % 16) (sampleWord p.2)
        if d.nat (tdmK t 0x02) = 0 && d.nat (tdmK t 0x0E) = 3 then d.emit (.tdm t (d.tdmFormat t) slots) else d
      else
        let outs := r.2.1.foldl (fun l p => modifyAt (fun (o : AOut) => { o with blk := o.blk ++ [p.2] }) p.1 l) d.audio.outs
        let d := { d with audio := { d.audio with outs := outs } }
        d.modUnit u fun x => { x with ts := x.ts ++ [c.t] }
    let d := d.delayTick u
    if d.refWindow u < 64 then d else d.lipSync c u

/-- R541: the set waiting takes over once every output has faded out. -/
def Dev.clockSwitch (d : Dev) : Dev :=
  match d.audio.next with
  | some x =>
    if d.audio.units.all fun u => u.lvl = 0 then
      let units := d.audio.units.map fun u => { u with
          delay := roundDivN (u.delay * audioHz x.2.1) (audioHz d.audioRate), fade := none, slew := none, frac := 0
          disc := [true, true, true, true], ts := [], pass := [[], [], [], []] }
      let outs := d.audio.outs.map fun o => { o with line := [], blk := [] }
      let d := { d with audio := { d.audio with clk := x, next := none, units := units, outs := outs } }
      (d.setN 0x6300_06 (if x.1 = 1 then 2 else if x.1 = 2 then 3 else 1)).settleMasters
    else d
  | none => d

/-- R512: what paces the ticks: the clock state, the genlock frame rate and the device audio rate. -/
def Dev.paceNow (d : Dev) : List Nat := [d.nat 0x6300_06, d.rateNum, d.rateDen, audioHz d.audioRate, d.audio.clk.2.2]

/-- Whether the ticks come from the genlock accumulator (sources 0 and, in fallback, 1). -/
def Dev.byGenlock (d : Dev) : Bool := d.nat 0x6300_06 = 1 || d.nat 0x6300_06 = 4

/-- R512: samples of the running genlock frame that are due, times the rate's numerator, by the part of the frame that
has passed. -/
def Dev.frameShare (d : Dev) (c : Ctx) : Int :=
  let len := d.frameEnd - d.frameStart
  ((audioHz d.audioRate * d.rateDen * min len (c.t * subTick - d.frameStart)) / max 1 len : Nat)

/-- R512: the time between two ticks of the local source or of a synthesizer's output B, in 2^-20 ticks. -/
def Dev.tickGap (d : Dev) (c : Ctx) : Nat :=
  if d.nat 0x6300_06 = 2 then
    match d.readSynth c 0x2200 d.audio.clk.2.2 0x1D with
    | some (.num f) => roundDivN (512 * 400000000 * subTick) (max 1 f.toNat)
    | _ => 0
  else roundDivN (400000000 * subTick) (audioHz d.audioRate)

/-- R512, R542: a change of what paces the ticks starts them anew at once. -/
def Dev.pace (d : Dev) (c : Ctx) : Dev :=
  if d.audio.pace = d.paceNow then d
  else { d with audio := { d.audio with pace := d.paceNow, acc := -d.frameShare c, due := c.t * subTick } }

/-- R512: whether a tick is due. -/
def Dev.tickDue (d : Dev) (c : Ctx) : Bool :=
  if d.byGenlock then decide (0 ≤ d.audio.acc + d.frameShare c) else decide (d.audio.due ≤ c.t * subTick)

/-- R512: the tick is taken. -/
def Dev.tickTaken (d : Dev) (c : Ctx) : Dev :=
  { d with audio :=
    if d.byGenlock then { d.audio with acc := d.audio.acc - d.rateNum } else { d.audio with due := d.audio.due + d.tickGap c } }

/-- R512: a genlock frame has started: its samples join the accumulator. -/
def Dev.paceFrame (d : Dev) : Dev :=
  if d.byGenlock then { d with audio := { d.audio with acc := d.audio.acc + audioHz d.audioRate * d.rateDen } } else d

/-- DEVICE_AUDIO_TICK (R512, R520), once a tick is due: `tdmIn` holds the 64 input words of the master TDM ports' frames;
`bad` names the outputs whose delay buffer read stayed uncorrectable (R550), `again` those whose retry succeeded (R25). -/
def execDeviceAudioTick (dt : Nat) (tdmIn bad again : List Nat) (s : State) : Host.Outcome State Fault Refusal :=
  s.act dt fun c d =>
    if d.nat 0x6300_06 = 0 || d.pwr.st = .standby || d.pwr.st = .hibernate || d.pwr.st = .off then d
    else if !(d.pace c).tickDue c then d.pace c
    else
      let d := (d.pace c).tickTaken c
      let reads := (upTo 28).flatMap fun u => if (d.aunit u).on then (d.unitOuts u).map Prod.fst else []
      let d := reads.foldl (fun d o => if again.contains o && !bad.contains o then d.transient else d) d
      let d := if reads.any bad.contains then (d.raise c 6 0).detect c 0x06 0 else d
      let d := (upTo 4).foldl (fun d t =>
        if d.nat (tdmK t 0x02) = 0 then d.modTdm t fun x => { x with words := (tdmIn.drop (16 * t)).take 16 } else d) d
      let d := (upTo 28).foldl (fun d u => d.unitTick c bad u) d
      let groups := (d.audio.groups.zipIdx).map fun p =>
        if d.groupSt p.2 = 2 then { p.1 with held := (upTo 4).map fun k => d.captureSample c (p.2 / 4) (4 * (p.2 % 4) + k) }
        else { p.1 with decay := min 256 (p.1.decay + 1) }
      ({ d with audio := { d.audio with groups := groups } }).clockSwitch

/-! ## Blocks in -/

/-- Table 9.1: the channel flags of a valid block: whether any channel is compressed. -/
def blockCompressed (b : List Byte) : Bool := bits (fld b 1 1) 4 4 ≠ 0

/-- R547: whether a block is good. -/
def blockGood (g : Nat) (b : List Byte) : Bool :=
  let n := fld b 2 1
  g < 4 && fld b 0 1 ≤ 6 && 1 ≤ n && n ≤ 32 && b.length = 16 + 16 * n

/-- R505, R524: send one block of a forme's output group. -/
def Dev.sendBlock (d : Dev) (c : Ctx) (n h rate flags cnt t : Nat) (mute : Bool) (words : List Byte) : Dev :=
  let x := d.aunit n
  let disc := (x.disc[h]?).getD false
  let no := (x.nos[h]?).getD 0
  let st := if d.nat (formeK n 0x0F) = 1 then (((t : Int) + d.offset) % (2 ^ 64 : Int)).toNat else t
  let b := [byte rate, byte flags, byte cnt, byte (b2n disc + b2n mute * 2)] ++ le 8 st ++ zeros 4 ++ words
  let d := d.modUnit n fun x => { x with
    disc := modifyAt (fun _ => false) h x.disc, nos := modifyAt (fun m => (m + 1) % 65536) h x.nos }
  (d.inc (outAudK n 0x0A)).queueIso (d.nat (formeK n 2)) ⟨4, no, h, b, c.t⟩

/-- R524: a compressed block of group `a` goes to every output group that names it, after its delay in whole
blocks. -/
def Dev.passThrough (d : Dev) (c : Ctx) (a : Nat) (p : APass) : Dev :=
  (formesOf c).foldl (fun d n => (upTo 4).foldl (fun d h =>
    if (d.aunit n).on && d.unitWanted n && fld (d.raw (outAudK n 0x07)) (2 * h) 2 = a then
      let x := d.aunit n
      let q := ((x.pass[h]?).getD []) ++ [p]
      let k := roundDivN (x.delay * audioHz p.rate) (audioHz d.audioRate * p.n)
      let go := q.take (q.length - k)
      let d := d.modUnit n fun x => { x with pass := modifyAt (fun _ => q.drop (q.length - k)) h x.pass }
      go.foldl (fun d y =>
        let m := d.unitMuted n
        d.sendBlock c n h y.rate y.flags y.n c.t m (if m then zeros y.words.length else y.words)) d
    else d) d) d

/-- AUDIO_BLOCK (R514 to R516, R545 to R547): `ppb` is the ASRC's measured ratio error at this block. -/
def execAudioBlock (dt p : Nat) (k : Pkt) (ppb : Int) (s : State) : Host.Outcome State Fault Refusal :=
  s.actOn (p < s.portCount) dt fun c d =>
    let r := d.rxPacket p 4 0 k
    let d := r.1
    match r.2, d.boundChan c p with
    | true, some ch =>
      if !d.flag (capAudK ch 0x01) then d
      else if !blockGood k.fieldB k.payload then d.inc (capAudK ch 0x09)
      else
        let g := k.fieldB
        let a := 4 * ch + g
        let x := d.agroup a
        let st := d.groupSt a
        let rate := fld k.payload 0 1
        let n := fld k.payload 2 1
        let comp := blockCompressed k.payload
        let missing := match x.last with
          | some m => (k.fieldA + 65536 - (m + 1) % 65536) % 65536
          | none => 0
        let fresh := x.last.isNone || bit (fld k.payload 3 1) 0 || decide (4 < missing)
          || bits (d.nat (capAudK ch 0x03)) (4 * g) 4 ≠ rate || st = 0 || st = 3
        let d := d.inc (capAudK ch 0x06)
        let d := d.setN (capAudK ch 0x03) (setBits (d.nat (capAudK ch 0x03)) (4 * g) 4 rate)
        let d := if !fresh && 1 ≤ missing then d.inc (capAudK ch 0x07) else d
        let d := d.modGroup a fun x => { x with last := some (k.fieldA % 65536), valid := fld k.payload 1 1 % 16, n := n, t := c.t }
        if comp then (d.setGroupSt a 5).passThrough c a ⟨rate, fld k.payload 1 1, n, k.payload.drop 16⟩
        else
          let d := d.setB (capAudK ch 0x05)
            (((d.raw (capAudK ch 0x05)).take (4 * g)) ++ le 4 (toTwos 4 ppb) ++ (d.raw (capAudK ch 0x05)).drop (4 * g + 4))
          if 2000000 < ppb.natAbs then if st = 4 then d else (d.setGroupSt a 4).raise c 59 a
          else if fresh || st = 4 || st = 5 then d.setGroupSt a 1
          else d
    | _, _ => d

/-- ASRC_LOCK (R515, R518): `a` is a capture group 4c + g, or 96 + t for a slave TDM port. -/
def execAsrcLock (dt a : Nat) (s : State) : Host.Outcome State Fault Refusal :=
  s.actOn (a < 4 * s.count 24 12 || (96 ≤ a && a < 100)) dt fun _ d =>
    if 96 ≤ a then if d.nat (tdmK (a - 96) 0x0E) = 2 then d.setN (tdmK (a - 96) 0x0E) 3 else d
    else if d.groupSt a = 1 then d.setGroupSt a 2 else d

/-- R544: whether a group has had no block for max(2 ms, 4n / f_in). -/
def Dev.groupOverdue (d : Dev) (c : Ctx) (a : Nat) : Bool :=
  let x := d.agroup a
  let hz := audioHz (bits (d.nat (capAudK (a / 4) 0x03)) (4 * (a % 4)) 4)
  decide (x.t + max 800000 (ceilDiv (4 * x.n * 400000000) hz) ≤ c.t)

/-- AUDIO_INPUT_LOST (R544): a PCM group has had no block for its bound. -/
def execAudioInputLost (dt a : Nat) (s : State) : Host.Outcome State Fault Refusal :=
  s.actOn (a < 4 * s.count 24 12) dt fun c d =>
    let st := d.groupSt a
    if (st = 1 || st = 2 || st = 4) && d.groupOverdue c a then
      let d := d.modGroup a fun x => { x with decay := 0, held := if st = 2 then x.held else [0, 0, 0, 0], last := none }
      ((d.setGroupSt a 3).inc (capAudK (a / 4) 0x08)).raise c 58 a
    else d

/-! ## Blocks out -/

/-- The words of a group's samples, sample-major; channels at or beyond `chans` are 0. -/
def blockWords (outs : List AOut) (n h cnt chans : Nat) : List Byte :=
  (upTo cnt).flatMap fun i => (upTo 4).flatMap fun k =>
    let o := (outs[16 * n + 4 * h + k]?).getD {}
    le 4 (if 4 * h + k < chans then sampleWord ((o.blk[i]?).getD 0) else 0)

/-- AUDIO_BLOCK_SEND (R523 to R525, R551): once a block's samples of a forme are ready, every group of it is sent; a
group with a passthrough source that is not compressed is sent as silence with the mute flag. -/
def execAudioBlockSend (dt n : Nat) (s : State) : Host.Outcome State Fault Refusal :=
  s.actOn (n < s.count 24 12) dt fun c d =>
    let x := d.aunit n
    let cnt := audioN d.audioRate
    if x.ts.length < cnt then d
    else
      let t := (x.ts[0]?).getD c.t
      let chans := min 16 (d.nat (outAudK n 0x02))
      let mute := d.unitMuted n && x.lvl = 0
      let outs := d.audio.outs
      let rest := (upTo 16).foldl (fun l k => modifyAt (fun (o : AOut) => { o with blk := o.blk.drop cnt }) (16 * n + k) l) outs
      let d := { d with audio := { d.audio with outs := rest } }
      let d := d.modUnit n fun x => { x with ts := x.ts.drop cnt }
      (upTo 4).foldl (fun d h =>
        let e := fld (d.raw (outAudK n 0x07)) (2 * h) 2
        if e ≠ 0xFFFF then
          if e < 96 && d.groupSt e = 5 then d
          else d.sendBlock c n h d.audioRate 0 cnt t true (zeros (16 * cnt))
        else if 4 * h < chans then
          d.sendBlock c n h d.audioRate (2 ^ min 4 (chans - 4 * h) - 1) cnt t mute (blockWords outs n h cnt chans)
        else d) d

/-! ## TDM ports -/

/-- The samples a slave port sends: the last ones of its outputs. -/
def Dev.tdmLast (d : Dev) (t : Nat) : List (Option Nat) :=
  (upTo 16).map fun s =>
    let o := (d.audio.outs[384 + 16 * t + s]?).getD {}
    let u := d.aunit (24 + t)
    d.tdmSlot t s (sampleWord (xfade u.lvl 0 ((List.getD o.line u.delay 0))))

/-- TDM_FRAME_SYNC (R549): a frame sync on a slave port `n` bit clocks after the last one, with the frame's input words;
`same`: its clock is the device audio clock. -/
def execTdmFrameSync (dt t n : Nat) (same : Bool) (words : List Nat) (s : State) : Host.Outcome State Fault Refusal :=
  s.actOn (t < 4) dt fun c d =>
    let st := d.nat (tdmK t 0x0E)
    if st = 0 || d.nat (tdmK t 0x02) = 0 then d
    else
      let bad := (st = 2 || st = 3) && n ≠ 512
      let d := if bad then d.inc (tdmK t 0x10) else d
      let d := match (d.atdm t).last with
        | some l => if l < c.t then d.setN (tdmK t 0x0F) (roundDivN 400000000 (c.t - l)) else d
        | none => d
      let direct := same && d.nat (tdmK t 0x03) = d.audioRate
      let d := d.setN (tdmK t 0x0E) (if direct then 3 else if st = 3 && (d.atdm t).same = same then 3 else 2)
      let d := d.modTdm t fun x => { x with last := some c.t, same := same, words := if bad then x.words else words.take 16 }
      d.emit (.tdm t (d.tdmFormat t) (d.tdmLast t))

/-- AUDIO_TDM_CLOCK_LOST (R549): no frame sync for 4 frame periods at the port's nominal rate. -/
def execAudioTdmClockLost (dt t : Nat) (s : State) : Host.Outcome State Fault Refusal :=
  s.actOn (t < 4) dt fun c d =>
    let st := d.nat (tdmK t 0x0E)
    let overdue := match (d.atdm t).last with
      | some l => decide (l * audioHz (d.nat (tdmK t 0x03)) + 1600000000 ≤ c.t * audioHz (d.nat (tdmK t 0x03)))
      | none => false
    if d.nat (tdmK t 0x02) = 1 && (st = 2 || st = 3) && overdue then
      ((d.setN (tdmK t 0x0E) 4).modTdm t fun x => { x with last := none, words := List.replicate 16 0 }).raise c 61 t
    else d

/-! ## The clock set -/

/-- R513: whether a set is consistent: output B of the synthesizer runs at 512 × f_a within ±1000 ppm. -/
def Dev.clockSetOk (d : Dev) (c : Ctx) (x : Nat × Nat × Nat) : Bool :=
  x.1 ≠ 1 ||
  match d.readSynth c 0x2200 x.2.2 0x1D with
  | some (.num f) => decide (1000 * (f - 512 * audioHz x.2.1).natAbs ≤ 512 * audioHz x.2.1)
  | _ => false

/-- AUDIO_CLOCK_SET_APPLY, and the return from fallback (R513, R541, R548, R552): the audio clock at a genlock frame
boundary. -/
def Dev.audioAtFrame (d : Dev) (c : Ctx) : Dev :=
  let d := d.paceFrame
  let x := (d.nat 0x6300_01, d.nat 0x6300_02, d.nat 0x6300_03)
  let st := d.nat 0x6300_06
  let ok := d.clockSetOk c x
  let d :=
    if ok && d.audio.held then ({ d with audio := { d.audio with held := false } }).unheld c 0x6300_01
    else if !ok && !d.audio.held then ({ d with audio := { d.audio with held := true } }).held c 0x6300_01
    else d
  let d :=
    if st = 0 then
      let y := if ok then x else d.audio.clk
      let d := { d with audio := { d.audio with clk := y, next := none } }
      (d.setN 0x6300_06 (if y.1 = 1 then (if d.synSt y.2.2 = 5 then 2 else 4) else if y.1 = 2 then 3 else 1)).settleMasters
    else if ok && x ≠ d.audio.clk then ({ d with audio := { d.audio with next := some x } }).clockSwitch
    else if ok then { d with audio := { d.audio with next := none } }
    else d
  if d.nat 0x6300_06 = 4 && d.synSt d.audio.clk.2.2 = 5 then (d.setN 0x6300_06 2).settleMasters else d

/-! ## Objects -/

/-- R509, R510: whether a route entry is accepted on the variant. -/
def routeOk (s12 : Bool) (r : Nat) : Bool :=
  r = 0xFFFF || (r < 448 && !(s12 && 192 ≤ r && r < 384)) || (0x8000 ≤ r && r < 0x8400)

/-- The refusals of a write in 0x6000 to 0x6310 beside the dictionary's. -/
def Dev.checkAudio (d : Dev) (c : Ctx) (base n sub : Nat) (v : Val) : List Nat :=
  let each := fun (cnt w : Nat) (f : Nat → Bool) => if (upTo cnt).all fun i => f (fld v.raw (w * i) w) then [] else [0x0005]
  let gain := fun (x : Nat) => decide (-192 ≤ signed 2 x) && decide (signed 2 x ≤ 24)
  if base = 0x6100 then
    if sub = 0x03 then each 16 2 (routeOk c.s12)
    else if sub = 0x04 then each 16 2 gain
    else if sub = 0x07 then each 4 2 fun x => x = 0xFFFF || x < (if c.s12 then 48 else 96)
    else []
  else if base = 0x6300 then
    if sub = 0x04 then each 64 2 (routeOk c.s12) else if sub = 0x05 then each 64 2 gain else []
  else if base = 0x6200 && sub = 0x01 && v = .num 1 && d.nat (tdmK n 2) = 0 then
    if d.nat 0x6300_01 ≠ 1 || d.nat (tdmK n 3) ≠ d.nat 0x6300_02 then [0x0006] else []
  else []

/-- The effect of a write in 0x6000 to 0x6310. -/
def Dev.writeAudio (d : Dev) (base n sub : Nat) (v : Val) : Dev :=
  let k := key base n sub
  if base = 0x6200 && sub = 0x01 then
    let was := d.flag k
    let d := d.set k v
    if v.int = 0 then (d.setN (tdmK n 0x0E) 0).modTdm n fun _ => {}
    else if was then d
    else d.setN (tdmK n 0x0E) (if d.nat (tdmK n 2) = 0 then d.masterState else 1)
  else d.set k v

/-- The live reads of 0x6100. -/
def Dev.readAudio (d : Dev) (base n sub : Nat) : Option Val :=
  if base = 0x6100 && sub = 0x0B then some (.num (ceilDiv (d.active.audioIso n) 1000000 : Nat))
  else none

/-- R553: audio stops and the delay buffers are lost. -/
def Dev.audioStop (d : Dev) : Dev :=
  let d := { d with audio := { d.audio with groups := List.replicate 96 {}, outs := List.replicate 448 {}, units := List.replicate 28 {}, tdm := List.replicate 4 {}, next := none } }
  let d := (upTo 24).foldl (fun d ch => (d.setN (capAudK ch 0x02) 0).setN (capAudK ch 0x04) 0) d
  let d := (upTo 4).foldl (fun d t => d.setN (tdmK t 0x0E) (if d.flag (tdmK t 0x01) then 1 else 0)) d
  d.setN 0x6300_06 0

end Sys2Proof.Machine
end

