-- ==== Sys2Proof/Machine/Quoin.lean ====
section
/-!
DEFINITION. The quoin (R38 to R51): who owns a staged entry, arming, applying at a forme's boundary or at the quoin
time, completion; and the start and stop of a forme, which it brings about.
-/
namespace Sys2Proof.Machine

/-- A forme's inner state. -/
def Dev.forme (d : Dev) (n : Nat) : Forme := (d.formes[n]?).getD {}

/-- Change a forme's inner state. -/
def Dev.modForme (d : Dev) (n : Nat) (f : Forme → Forme) : Dev := { d with formes := modifyAt f n d.formes }

/-- The forme states of 0x5000+n.11. -/
def Dev.formeSt (d : Dev) (n : Nat) : Nat := d.nat (formeK n 0x11)

/-- R42: whether a forme runs. -/
def Dev.formeRuns (d : Dev) (n : Nat) : Bool := d.formeSt n ≠ 0

/-- Table 1.2: the forme an entry belongs to; none for the global part. `l` holds the staged entries. -/
def Dev.ownerOf (d : Dev) (l : List Ent) (k : Nat) : Option Nat :=
  let i := k / 256
  if 0x5000 ≤ i && i < 0x5018 then some (i - 0x5000)
  else if 0x5400 ≤ i && i < 0x5418 then some (i - 0x5400)
  else if 0x6100 ≤ i && i < 0x6118 then some (i - 0x6100)
  else if 0x5100 ≤ i && i < 0x5140 then
    let f := (d.after l).nat (i * 256 + 2)
    if f < 24 then some f else none
  else none

/-- R41: whether an entry lies in a scope. -/
def Dev.inScope (d : Dev) (l : List Ent) (scope k : Nat) : Bool :=
  match d.ownerOf l k with
  | some n => bit scope n
  | none => bit scope 31

/-- The entries of an owner. -/
def Dev.owned (d : Dev) (l : List Ent) (o : Option Nat) : List Ent := l.filter fun e => d.ownerOf l e.key = o

/-- The lowest-numbered running forme of a scope. -/
def Dev.anchorOf (d : Dev) (c : Ctx) (scope : Nat) : Option Nat := (formesOf c).find? fun n => bit scope n && d.formeRuns n

/-- R42, R46: the first instant at which a quoin may apply. -/
def Quoin.ripe (q : Quoin) (t : Nat) : Bool := decide (q.valEnd + 40000 ≤ t) && decide (q.qt ≤ t)

/-- Change the quoin. -/
def Dev.modQuoin (d : Dev) (f : Quoin → Quoin) : Dev := { d with itp := { d.itp with quoin := f d.itp.quoin } }

/-- Set active values. -/
def Dev.setAll (d : Dev) (es : List Ent) : Dev := es.foldl (fun d e => (d.set e.key e.val).dropAside e.key) d

/-- R119: a save that fails, with its word as the detail. -/
def Dev.saveFailed (d : Dev) (c : Ctx) (result progress : Nat) : Dev :=
  let w := saveWord 7 result progress
  (d.setN 0x1020_03 w).raise c 27 w

/-- R114: a quoin applies: a save's snapshot in progress restarts once; a second time the save fails. -/
def Dev.snapCut (d : Dev) (c : Ctx) : Dev :=
  match d.itp.saveSnap with
  | none => d
  | some 0 => { d with itp := { d.itp with saveSnap := some 1 } }
  | some _ => { d with itp := { d.itp with saveSnap := none } }.saveFailed c 3 0

/-! ## Starting and stopping a forme -/

/-- A forme starts its frame timing (R50, R502): running, a local-timed one with its first frame start at the instant
`t`, a genlock-timed one with its first frame start at or after `at'`; its history stays. With frame memory off it stays
stopped (R896). -/
def Dev.startForme (d : Dev) (n t at' : Nat) : Dev :=
  if d.rst.fmOff then d else (d.setN (formeK n 0x11) 1).modForme n fun f => { hist := f.hist, f0 := t, nextF := at' }

/-- The claims of a forme's windows are released (R411) and draining channels may end (R433). -/
def Dev.releaseForme (d : Dev) (n : Nat) : Dev :=
  let chs := (d.forme n).ws.filterMap fun x => match x.fill with
    | .slots ch _ _ => some ch
    | _ => none
  let d := d.modForme n fun f => { f with ws := [], rows := [] }
  chs.foldl (fun d ch => d.drainEnd ch) d

/-- A window shows nothing (Tables 8.11, 8.12). -/
def Dev.windowOff (d : Dev) (w : Nat) : Dev :=
  let r := key 0x5300 w
  let d := ((d.setN (winK w 0x1A) 0).setN (r 0x01) 0).setN (r 0x02) 0xFF
  ((d.setN (r 0x03) 0).setI (r 0x04) 0).modWin w fun x => { x with shown := none, prev := none, direct := false, noSrc := false, holdDone := false }

/-- A forme stops: nothing is sent any more (Table 8.5). -/
def Dev.haltForme (d : Dev) (n : Nat) : Dev :=
  let d := (d.releaseForme n).setN (formeK n 0x11) 0
  let d := d.modForme n fun f => { hist := f.hist }
  (d.active.wins n).foldl (fun d w => d.windowOff w) d

/-! ## Applying -/

/-- What follows the new values of a forme's windows: a mode written again is a new DIRECT trial (R422). -/
def Dev.modesAnew (d : Dev) (es : List Ent) : Dev :=
  es.foldl (fun d e =>
    let i := e.key / 256
    if 0x5100 ≤ i && i < 0x5140 && e.key % 256 = 4 then
      (d.modWin (i - 0x5100) fun x => { x with been := false }).setN (chanK (d.nat (i * 256 + 3)) 0x26)
        (setBit (d.nat (chanK (d.nat (i * 256 + 3)) 0x26)) (i - 0x5100) false)
    else d) d

/-- Windows that the entries disable or take from a forme show nothing there. -/
def Dev.windowsGone (d : Dev) (es : List Ent) : Dev :=
  es.foldl (fun d e =>
    let i := e.key / 256
    if 0x5100 ≤ i && i < 0x5140 && (e.key % 256 = 1 || e.key % 256 = 2) && !(d.flag (i * 256 + 1) && d.nat (i * 256 + 2) < 24) then
      d.windowOff (i - 0x5100)
    else d) d

/-- R50: a forme that is not running takes its entries; left enabled, it starts. -/
def Dev.applyStopped (d : Dev) (c : Ctx) (n : Nat) : Dev :=
  let q := d.itp.quoin
  let es := d.owned q.snap (some n)
  let d := ((d.setAll es).modesAnew es).windowsGone es
  let d := d.modQuoin fun q => { q with left := q.left.filter fun m => m ≠ n }
  if d.flag (formeK n 0x01) then d.startForme n c.t (c.t + 1) else d

/-- R46, Table 8.5: a running forme takes its entries; answers whether its timing is new. -/
def Dev.takeEntries (d : Dev) (c : Ctx) (n : Nat) : Dev × Bool :=
  let q := d.itp.quoin
  let es := d.owned q.snap (some n)
  let view := fun (d : Dev) (subs : List Nat) => subs.map fun s => d.nat (formeK n s)
  let raster := [3, 4, 5, 8]
  let timing := [6, 7, 9, 0x0A]
  let old := d
  let d := ((d.setAll es).modesAnew es).windowsGone es
  let d := d.modQuoin fun q => { q with left := q.left.filter fun m => m ≠ n }
  let d := d.modForme n fun f => { f with applied := true }
  let d := if view old raster ≠ view d raster then d.raise c 53 n else d
  let d :=
    if d.flag (formeK n 0x0B) then
      (d.active.wins n).foldl (fun d w => d.modWin w fun x => { x with stale := 0 }) (d.modForme n fun f => { f with eReset := true })
    else d
  (d, view old timing ≠ view d timing)

/-- Table 8.5: a forme's old timing ends at `t`: no folio until the first frame start of the new timing, a local one's
T_of later. -/
def Dev.timingGap (d : Dev) (n t : Nat) : Dev :=
  ((d.releaseForme n).setN (formeK n 0x11) 3).modForme n fun f => { f with nopic := true, nextF := t + 1, f0 := t, cnt := 1 }

/-- R494: at a change of the genlock frame rate every running genlock-timed forme changes its timing at the anchor
boundary, with the entries the quoin holds for it. -/
def Dev.rateGap (d : Dev) (c : Ctx) (n : Nat) : Dev :=
  if !d.formeRuns n || d.nat (formeK n 0x09) ≠ 0 then d
  else
    let d := if d.itp.quoin.left.contains n then (d.takeEntries c n).1 else d
    if d.flag (formeK n 0x01) then d.timingGap n c.t else d.haltForme n

/-- R209, R257, R494: what follows where the genlock frame rate is another than `old`. -/
def Dev.rateTaken (d : Dev) (c : Ctx) (old : Nat × Nat) : Dev :=
  if (d.rateNum, d.rateDen) = old then d
  else (formesOf c).foldl (fun d n => d.rateGap c n) ((d.rateApplied c).synsRate).unlockAll

/-- R42, R49, R494: the global entries apply now; then the formes in scope that do not run take theirs. A restore's
direct-write objects follow at this boundary (R944): `restoring` asks for them. -/
def Dev.applyGlobals (d : Dev) (c : Ctx) : Dev :=
  let q := d.itp.quoin
  let es := d.owned q.snap none
  let rate := (d.rateNum, d.rateDen)
  let d := ((d.setAll es).modesAnew es).windowsGone es
  let d := (d.modQuoin fun q => { q with globals := true }).setN 0x1030_07 c.t
  let d := if q.restore then { d with itp := { d.itp with restoring := [1] } } else d
  let d := d.rateTaken c rate
  d.itp.quoin.left.foldl (fun d n => if d.formeRuns n then d else d.applyStopped c n) d

/-- R49: the applied entries leave the staged set, but for those written again since the snapshot. -/
def Dev.quoinDone (d : Dev) (c : Ctx) : Dev :=
  let q := d.itp.quoin
  if q.st = .armed && q.globals && q.left.isEmpty then
    let d := { d with itp := { d.itp with
      quoin := {}, staged := d.itp.staged.filter fun e => !(q.snap.any fun x => x.key = e.key && x.serial = e.serial) } }
    let d := ((d.setN 0x1030_04 (quoinWord 3 0 0)).inc 0x1030_06).raise c 24 q.scope
    if q.restore then d.setN 0x1020_03 (saveWord 6 1 0) else d
  else d

/-- R42, R50: what a stopped forme means for the quoin in progress. -/
def Dev.afterStop (d : Dev) (c : Ctx) (n : Nat) : Dev :=
  let q := d.itp.quoin
  if q.st ≠ .armed then d
  else
    let d :=
      if q.anchor = some n && !q.globals then
        match d.anchorOf c q.scope with
        | some m => d.modQuoin fun q => { q with anchor := some m }
        | none =>
          let d := d.modQuoin fun q => { q with anchor := none }
          if q.ripe c.t then (d.snapCut c).applyGlobals c else d
      else d
    let q := d.itp.quoin
    let d := if q.globals && q.left.contains n then (d.snapCut c).applyStopped c n else d
    d.quoinDone c

/-- A forme stops, with what that means for the quoin. -/
def Dev.stopForme (d : Dev) (c : Ctx) (n : Nat) : Dev := (d.haltForme n).afterStop c n

/-- R46, Table 8.5: a running forme takes its entries at its boundary. -/
def Dev.applyRunning (d : Dev) (c : Ctx) (n : Nat) : Dev :=
  let r := d.takeEntries c n
  if !r.1.flag (formeK n 0x01) then r.1.stopForme c n
  else if r.2 then r.1.timingGap n c.t
  else r.1

/-- R471: the quoin at a boundary of a running forme. -/
def Dev.quoinAtFrame (d : Dev) (c : Ctx) (n : Nat) : Dev :=
  let q := d.itp.quoin
  if q.st = .armed && q.ripe c.t then
    let d := if (q.anchor = some n && !q.globals) || q.left.contains n then d.snapCut c else d
    let d := if q.anchor = some n && !q.globals then d.applyGlobals c else d
    let d := if d.itp.quoin.left.contains n then d.applyRunning c n else d
    d.quoinDone c
  else d

/-! ## Arming -/

/-- R46, R50: the formes that hold entries of a snapshot. -/
def Dev.formesIn (d : Dev) (c : Ctx) (l : List Ent) : List Nat :=
  (formesOf c).filter fun n => l.any fun e => d.ownerOf l e.key = some n

/-- R43, R48: a commit of a scope with a quoin time in local ticks. -/
def Dev.commit (d : Dev) (scope qt : Nat) (restore : Bool) : Dev :=
  let l := d.itp.staged
  let q : Quoin := { st := .validating, restore := restore, snap := l.filter fun e => d.inScope l scope e.key, scope := scope, qt := qt }
  ({ d with itp := { d.itp with quoin := q } }).setN 0x1030_04 (quoinWord 1 0 0)

/-- R45: a rejection: the word, the event; the staged set is kept. -/
def Dev.rejectQuoin (d : Dev) (c : Ctx) (code k : Nat) : Dev :=
  let w := quoinWord 4 code k
  (d.setN 0x1030_04 w).raise c 25 w

/-- R45, R42: validation of the commit ends. -/
def Dev.validated (d : Dev) (c : Ctx) : Dev :=
  let q := d.itp.quoin
  if q.st ≠ .validating then d
  else
    match d.quoinFault c q.snap with
    | some (k, code) =>
      let d := ({ d with itp := { d.itp with quoin := {} } }).rejectQuoin c code k
      if q.restore then d.setN 0x1020_03 (saveWord 7 6 0) else d
    | none =>
      (d.modQuoin fun q => { q with
        st := .armed, valEnd := c.t, anchor := d.anchorOf c q.scope, left := d.formesIn c q.snap }).setN 0x1030_04 (quoinWord 2 0 0)

/-- R43: validate-only. -/
def Dev.validateOnly (d : Dev) (c : Ctx) (scope : Nat) : Dev :=
  let l := d.itp.staged
  match d.quoinFault c (l.filter fun e => d.inScope l scope e.key) with
  | some (k, code) => d.rejectQuoin c code k
  | none => d.setN 0x1030_04 (quoinWord 6 0 0)

/-- R43, R51: discard. -/
def Dev.discard (d : Dev) (scope : Nat) : Dev :=
  let l := d.itp.staged
  let d := { d with itp := { d.itp with staged := l.filter fun e => !d.inScope l scope e.key } }
  if d.itp.quoin.st = .none then d.setN 0x1030_04 (quoinWord 5 0 0) else d

/-- R42: the later of the quoin time and 100 µs after validation, with no anchor running. -/
def Dev.quoinTime (d : Dev) (c : Ctx) : Dev :=
  let q := d.itp.quoin
  if q.st = .armed && q.anchor.isNone && !q.globals && q.ripe c.t then ((d.snapCut c).applyGlobals c).quoinDone c else d

end Sys2Proof.Machine
end

