-- ==== Sys2Proof/Machine/Forme.lean ====
section
/-!
DEFINITION. Formes (ch 8) and the picture monitor (R847 to R852): the frame start, what each window shows, the folio,
rows fetched and launched, signatures and echoes, latency readouts.
-/
namespace Sys2Proof.Machine

/-! ## Signed fractions -/

/-- The sum of two fractions with a signed numerator. -/
def fAdd (a b : Int × Nat) : Int × Nat := (a.1 * b.2 + b.1 * a.2, a.2 * b.2)

/-- A multiple of a fraction. -/
def fMul (k : Int) (a : Int × Nat) : Int × Nat := (k * a.1, a.2)

/-- The greater of two fractions. -/
def fMax (a b : Int × Nat) : Int × Nat := if a.1 * b.2 < b.1 * a.2 then b else a

/-- A fraction rounded up. -/
def fCeil (a : Int × Nat) : Int := -((-a.1).fdiv a.2)

/-! ## Latency (R482 to R488) -/

/-- R453: t_pipe + t_tx of a port, in ns: 4096 UI at 3.2 Gbit/s × 2^rate are 1280 / 2^rate ns. -/
def Dev.pipeNs (d : Dev) (p : Nat) : Int × Nat :=
  let r : Nat := 2 ^ d.nat (portK p 0x05)
  (1280 + 1000 * (r : Int), r)

/-- R482, R484, R488: the readouts of a window shown by a forme in a mode. -/
def Dev.showLatency (d : Dev) (n w mode kf : Nat) : Dev :=
  let k := key 0x5300 w
  let ch := d.nat (winK w 3)
  let d := (d.setN (k 0x02) mode).setN (k 0x03) kf
  match (if ch < 24 then (d.chan ch).last else none) with
  | none => ((d.setN (k 0x01) 0).setI (k 0x04) 0).setI (k 0x05) 0
  | some f =>
    let v := d.active
    let g := v.geo w f.w f.h
    let tif : Int × Nat := (f.tif.1, f.tif.2)
    let til : Int × Nat := (f.tif.1, f.tif.2 * f.total)
    let num := v.nat (formeK n 6)
    let tof : Int × Nat := (1000000000 * v.nat (formeK n 7), num)
    let tol : Int × Nat := (1000000000 * v.nat (formeK n 7), num * v.nat (formeK n 5))
    let a : Int := if d.chanFlag ch 2 then d.int (chanK ch 0x17) else 0
    let tail := fAdd (fMul (kf + 3) tol) (d.pipeNs (v.nat (formeK n 2)))
    let l :=
      if mode = 0 then fAdd tail (5 * v.nat (formeK n 0x0A) - 2 * a, 2)
      else fAdd tail (fAdd (fMul (if mode = 2 then 2 else 1) tif) tof)
    let p := fMax (fAdd (fMul g.y tol) (fMul (-(g.yc : Int)) til))
      (fAdd (fMul (g.y + g.dh) tol) (fMul (-((g.yc + g.ch : Nat) : Int)) til))
    let total := fCeil (fAdd l p)
    (((d.setN (k 0x01) (total.toNat % 2 ^ 32)).setI (k 0x04) (roundDiv p.1 p.2)).setI (k 0x05) a)

/-! ## What a window shows (Table 8.4) -/

/-- Table 8.3, R468: the matrix of a window for a source of a format and colour, on a forme. -/
def Dev.matrixOf (d : Dev) (n w : Nat) (f : Folio) : List Int :=
  let mode := d.nat (winK w 0x11)
  let dst := d.nat (formeK n 0x0D)
  let sy := isYuv f.fmt
  let dy := isYuv (d.nat (formeK n 8))
  let sf := bit f.colour 4
  let df := bit dst 4
  if mode = 15 then matrixBytes (d.raw (winK w 0x12))
  else if mode = 0 then presetMatrix (autoMode sy dy (bits f.colour 0 4) (bits dst 0 4)) sy dy sf df
  else if mode = 1 then presetMatrix 1 sy dy sf df
  else if mode ≤ 3 then presetMatrix mode true false sf df
  else presetMatrix mode false true sf df

/-- The frame a channel's slot holds. -/
def Dev.slotFolio (d : Dev) (ch i : Nat) : Folio := (((d.chan ch).slots[i]?).getD {}).folio

/-- R410, R412 to R415: a claim in a mode: the fill, the weight of the newest frame and its folio. -/
def Dev.claim (d : Dev) (c : Ctx) (ch mode : Nat) : Option (Fill × Nat × Folio) :=
  match (d.chan ch).order with
  | [] => none
  | a :: rest =>
    let s := ((d.chan ch).slots[a]?).getD {}
    let f1 := s.folio
    match mode, rest with
    | 2, b :: _ =>
      let f0 := d.slotFolio ch b
      if (f0.no + 1) % 2 ^ 32 ≠ f1.no || f0.w ≠ f1.w || f0.h ≠ f1.h || f0.fmt ≠ f1.fmt then some (.slots ch a none, 256, f1)
      else
        -- 256 × (t − c1) / T_if, halves up, at most 256
        let al := roundDivN (1280 * (c.t - s.doneT) * f1.tif.2) (2 * f1.tif.1)
        some (.slots ch a (some b), min 256 al, f1)
    | _, _ => some (.slots ch a none, 256, f1)

/-- R421, R422, R487: whether a DIRECT window runs in DIRECT at this boundary. -/
def Dev.directNow (d : Dev) (c : Ctx) (w ch : Nat) : Bool :=
  let x := d.win w
  let s := d.nat (chanK ch 0x0B)
  d.chanFlag ch 2 && d.directFits d.active w
    && (!x.been || x.direct || (s ≠ 0 && decide ((d.chan ch).lockT + s * 400000000 ≤ c.t)))

/-- R421, R422: a DIRECT window leaves or enters DIRECT: the event and the bitmap. -/
def Dev.directStep (d : Dev) (c : Ctx) (w ch : Nat) (now : Bool) : Dev :=
  let x := d.win w
  let det := w + ch * 256
  let k := chanK ch 0x26
  if now then
    let d := if x.been && !x.direct then (d.raise c 52 det).setN k (setBit (d.nat k) w false) else d
    d.modWin w fun x => { x with been := true, direct := true }
  else if x.direct then
    ((d.raise c 51 det).setN k (setBit (d.nat k) w true)).modWin w fun x => { x with direct := false }
  else d

/-- What a window shows at F: the fill, the weight, .1A, the frame's folio, and the mode in effect. -/
structure Shown where
  fill : Fill
  weight : Nat := 256
  code : Nat
  folio : Option Folio := none
  mode : Nat := 0xFF
  noSrc : Bool := false

/-- R474: the no-source action of a window on a forme. -/
def Dev.noSource (d : Dev) (c : Ctx) (n w ch : Nat) : Shown :=
  match d.nat (winK w 0x16) with
  | 0 => { fill := .hidden, code := 4, noSrc := true }
  | 2 =>
    if d.flag (formeK n 0x0B) || (d.win w).holdDone || d.nat (winK w 0x17) = 0 then { fill := .colour, code := 3, noSrc := true }
    else match d.claim c ch 1 with
      | some (fl, a, f) => { fill := fl, weight := a, code := 2, folio := some f, mode := 1, noSrc := true }
      | none => { fill := .colour, code := 3, noSrc := true }
  | _ => { fill := .colour, code := 3, noSrc := true }

/-- Table 8.4: what a window of a forme shows at F. -/
def Dev.shows (d : Dev) (c : Ctx) (n w : Nat) : Shown :=
  let ch := d.nat (winK w 3)
  if 24 ≤ ch then { fill := .colour, code := 3 }
  else
    let st := d.chanSt ch
    if st = 0 || st = 5 then { fill := .hidden, code := 4 }
    else if st ≠ 2 || d.chanFlag ch 1 || d.chanFlag ch 3 || (d.chanFlag ch 0 && d.nat (winK w 0x18) = 1) then d.noSource c n w ch
    else
      let m := d.nat (winK w 4)
      match (d.win w).direct, (d.chan ch).bufFolio with
      | true, some f => if m = 0 then { fill := .direct ch f.no, code := 1, folio := some f, mode := 0 } else d.noSource c n w ch
      | _, _ =>
        let m := if m = 2 then 2 else 1
        match d.claim c ch m with
        | some (fl, a, f) => { fill := fl, weight := a, code := 1, folio := some f, mode := m }
        | none => d.noSource c n w ch

/-- R461 to R470: a window of the frame under way. -/
def Dev.wframe (d : Dev) (n w : Nat) (s : Shown) : WFrame :=
  let f := s.folio.getD {}
  { w := w, z := d.nat (winK w 0x0E), fill := s.fill, geo := d.active.geo w f.w f.h, fmt := f.fmt, blend := s.weight
    colour := colourPx (d.nat (winK w 0x15)), matrix := d.matrixOf n w f, border := d.nat (winK w 0x13)
    borderPx := colourPx (d.nat (winK w 0x14)), amode := d.nat (winK w 0x10), aglob := d.nat (winK w 0x0F), claim := true }

/-- One window at F: DIRECT, content, read-backs. -/
def Dev.windowAtFrame (d : Dev) (c : Ctx) (n kf w : Nat) : Dev :=
  let ch := d.nat (winK w 3)
  let d := if d.nat (winK w 4) = 0 && ch < 24 then d.directStep c w ch (d.directNow c w ch)
           else d.modWin w fun x => { x with direct := false }
  let s := d.shows c n w
  let x := d.wframe n w s
  let d := d.setN (winK w 0x1A) s.code
  let d := if s.folio.isSome then (d.setN (winK w 0x1B) x.geo.sx).setN (winK w 0x1C) x.geo.sy else d
  let id := s.folio.map fun f => (ch, f.no, f.live, f.src)
  let d := d.modWin w fun y => { y with prev := y.shown, shown := id, noSrc := s.noSrc, holdDone := s.noSrc && y.holdDone }
  let mode := if 24 ≤ ch then 0xFF else if (d.win w).direct then 0 else if d.nat (winK w 4) = 2 then 2 else 1
  (d.modForme n fun f => { f with ws := f.ws ++ [x] }).showLatency n w mode kf

/-! ## Picture monitor (R847 to R852, R862) -/

/-- R847: the expected source of a window. -/
def Dev.expected (d : Dev) (w : Nat) : Nat :=
  let e := fld (d.raw 0x9010_01) (4 * w) 4
  if e ≠ 0 then e else d.nat (chanK (d.nat (winK w 3)) 8)

/-- The detail of a monitor raise (Table 15.3). -/
def monDetail (n w : Nat) : Nat := 2 ^ 31 + n * 2 ^ 24 + w * 2 ^ 16

/-- R862: a monitored window's conditions end; the code's condition of the forme ends with its last window. -/
def Dev.monitorClear (d : Dev) (c : Ctx) (n w : Nat) : Dev :=
  let x := d.win w
  let d := if x.bad10 then d.raiseClr c 48 (monDetail n w) else d
  let d := if x.bad11 then d.raiseClr c 49 (monDetail n w) else d
  let d := d.modWin w fun x => { x with bad10 := false, bad11 := false }
  let any := fun (f : Win → Bool) => (d.active.wins n).any fun v => f (d.win v)
  let d := if x.bad10 && !any (fun v => v.bad10) then d.endCond 0x10 n else d
  if x.bad11 && !any (fun v => v.bad11) then d.endCond 0x11 n else d

/-- R849: one monitored window at F. -/
def Dev.monitorWindow (d : Dev) (c : Ctx) (n w : Nat) : Dev :=
  let x := d.win w
  let ch := d.nat (winK w 3)
  let code := d.nat (winK w 0x1A)
  let wrong := d.chanFlag ch 1 || (match x.shown with
    | some f => f.2.2.2 ≠ d.expected w
    | none => false)
  let fresh : Bool := !d.chanFlag ch 0 && (match x.shown, x.prev with
    | some f, some g => code = 1 && f.2.2.1 ≠ g.2.2.1
    | some _, none => code = 1
    | none, _ => false)
  let d := d.modWin w fun x => { x with
    stale := if fresh then 0 else x.stale + 1, good := if fresh && !wrong then x.good + 1 else 0 }
  let d := if wrong && !x.bad10 then
      ((d.modWin w fun x => { x with bad10 := true }).raise c 48 (monDetail n w)).detect c 0x10 n
    else d
  let d := if 2 ≤ (d.win w).stale && !x.bad11 then
      ((d.modWin w fun x => { x with bad11 := true }).raise c 49 (monDetail n w)).detect c 0x11 n
    else d
  if 2 ≤ (d.win w).good && ((d.win w).bad10 || (d.win w).bad11) then d.monitorClear c n w else d

/-- R847, R849: the monitored windows of a safety forme. -/
def Dev.monitor (d : Dev) (c : Ctx) (n : Nat) : Dev :=
  (d.active.wins n).foldl (fun d w => if d.nat (winK w 3) < 24 then d.monitorWindow c n w else d) d

/-- R851: the missing-echo rule at the F that sends folio `j`. -/
def Dev.echoRule (d : Dev) (c : Ctx) (n j : Nat) : Dev :=
  let f := d.forme n
  let d := if f.eReset then d.modForme n fun f => { f with e := (j + 2 ^ 32 - 1) % 2 ^ 32, eReset := false } else d
  let gap := (j + 2 ^ 32 - (d.forme n).e) % 2 ^ 32
  if 3 ≤ gap && !(d.saf.conds.contains (0x14, n)) then (d.raise c 57 n).detect c 0x14 n else d

/-! ## The folio (R347 to R354, R477) -/

/-- R203: the advertised quality on a port: 15 where the device takes genlock from that port. -/
def Dev.qualityOn (d : Dev) (p : Nat) : Nat := if d.linkrefPort = some p then 15 else d.advertised

/-- Table 6.4: a folio's payload. -/
def folioBytes (f : Folio) : List Byte :=
  le 4 f.no ++ le 4 f.src ++ le 4 f.live ++ le 8 f.t ++ le 2 f.epoch ++ le 1 f.flags ++ le 1 f.quality ++ le 2 f.w ++ le 2 f.h
    ++ le 2 f.total ++ le 2 f.hdr.length ++ le 4 f.num ++ le 4 f.den ++ le 1 f.fmt ++ le 1 f.colour ++ zeros 22 ++ f.hdr

/-- The folio of a forme's frame. -/
def Dev.formeFolio (d : Dev) (c : Ctx) (n : Nat) (nopic : Bool) : Folio :=
  let k := fun s => d.nat (formeK n s)
  let mw := k 0x10
  let hdr := if mw < 64 && d.flag (winK mw 1) && d.nat (winK mw 2) = n then
      match (d.win mw).shown, (d.chan (d.nat (winK mw 3))).slots.find? (fun s => some s.folio.no = (d.win mw).shown.map (fun x => x.2.1)) with
      | some _, some s => s.folio.hdr
      | some x, none => (match (d.chan x.1).bufFolio with
          | some f => if f.no = x.2.1 then f.hdr else []
          | none => [])
      | none, _ => []
    else []
  { no := k 0x12, src := k 0x0E, live := k 0x13, t := if k 0x0F = 1 then d.masterTime c else c.t, epoch := d.epoch
    flags := b2n nopic + b2n (k 0x0F = 1) * 4, quality := d.qualityOn (k 2), w := k 3, h := k 4
    total := k 5, num := k 6, den := k 7, fmt := k 8, colour := k 0x0D, hdr := hdr }

/-- R354: the raster, rate and format of the last folio queued or sent on a port. -/
def Dev.lastFormat (d : Dev) (p : Nat) : List Byte :=
  match ((d.port p).iso.filter fun q => q.ty = 2).getLast? with
  | some q => folioFormat q.payload
  | none => (d.port p).fmtTx

/-- R354: a folio leaves for a port, with the format-change flag where its raster, rate or pixel format is new there. -/
def Dev.queueFolio (d : Dev) (p t : Nat) (f : Folio) : Dev :=
  let new := d.lastFormat p ≠ folioFormat (folioBytes f)
  d.queueIso p ⟨2, 0, 0, folioBytes { f with flags := f.flags + 2 * b2n new }, t⟩

/-- R479: a frame enters the history of 8. -/
def Dev.pushSig (d : Dev) (n : Nat) (x : Sig) : Dev :=
  let d := d.modForme n fun f => { f with hist := (f.hist ++ [x]).drop (f.hist.length + 1 - 8) }
  (d.setN (key 0x5400 n 2) x.sig).setN (key 0x5400 n 3) x.no

/-! ## The frame start -/

/-- Table 8.5: whether an armed quoin is to change the raster of a forme. -/
def Dev.rasterPending (d : Dev) (n : Nat) : Bool :=
  let q := d.itp.quoin
  q.st = .armed && q.left.contains n
    && ([3, 4, 5, 8].any fun s => match entOf q.snap (formeK n s) with
      | some v => v ≠ d.get (formeK n s)
      | none => false)

/-- R855, R875: whether a safety forme sends the safe pattern: in START-UP SAFE, and in SAFE from the first F at least
20 µs after the detection. -/
def Dev.safePattern (d : Dev) (c : Ctx) (n : Nat) : Bool :=
  d.flag (formeK n 0x0B) && (d.safety = 0 || (d.safety = 2 && decide (d.nat 0x9000_04 + 8000 ≤ c.t)))

/-- R471 to R478: the frame of a running forme, after its quoin. -/
def Dev.frame (d : Dev) (c : Ctx) (n : Nat) : Dev :=
  let d := d.releaseForme n
  let safe := d.safePattern c n
  let pending := d.rasterPending n
  let d := d.setN (formeK n 0x11) (if safe then 4 else if pending then 2 else 1)
  let v := d.active
  let kf := v.kf n
  let d := (v.wins n).foldl (fun d w => d.windowAtFrame c n kf w) d
  let nopic := safe || pending
  let p := d.nat (formeK n 2)
  let j := ((d.port p).folioNo + 1) % 2 ^ 32
  let fresh := (v.wins n).any fun w => (d.win w).shown.isSome && (d.win w).shown ≠ (d.win w).prev
  let f := d.forme n
  let live := (d.nat (formeK n 0x13) + b2n (!nopic && (f.applied || fresh))) % 2 ^ 32
  let d := ((d.setN (formeK n 0x12) j).setN (formeK n 0x13) live).inc (formeK n 0x14)
  let d := if nopic then d.inc (formeK n 0x19) else d
  let fo := d.formeFolio c n nopic
  let d := (d.modPort p fun x => { x with folioNo := j, folioLive := live }).queueFolio p c.t fo
  let d := d.modForme n fun f => { f with
    f := c.t, nopic := nopic, fetch := 0, line := 0, crc := 0xFFFFFFFF, lateSaid := false, applied := false }
  let d := if nopic then d.pushSig n ⟨j, fo.src, fo.live, 0, c.t⟩ else d
  let d :=
    if d.flag (formeK n 0x0B) then
      let d := if pending && !safe then d else d.monitor c n
      if d.flag (key 0x5400 n 1) then d.echoRule c n j else d
    else d
  d.lipSyncAt c n

/-! ## Rows -/

/-- The packed line `y` of a channel's slot. -/
def Dev.slotLine (d : Dev) (ch i y : Nat) : List Byte :=
  let s := ((d.chan ch).slots[i]?).getD {}
  lineData s.segs y (lineBytes s.folio.w s.folio.fmt)

/-- R416: the pixels of a source line of a window; none where the DIRECT line buffer lacks it. -/
def Dev.srcLine (d : Dev) (x : WFrame) (y : Nat) : Option (List Px) :=
  let w := x.geo.sw
  let comps := fun b => unpackLine x.fmt w b
  match x.fill with
  | .slots ch a none => some (pixelsOf x.fmt w (comps (d.slotLine ch a y)))
  | .slots ch a (some b) => some (pixelsOf x.fmt w (blendComps x.blend (comps (d.slotLine ch a y)) (comps (d.slotLine ch b y))))
  | .direct ch no =>
    let k := bufKey no y
    let b := lineBytes w x.fmt
    if lineWhole (d.chan ch).buf k b then some (pixelsOf x.fmt w (comps (lineData (d.chan ch).buf k b))) else none
  | _ => some []

/-- R462: the columns of a forme of width `fw` that a window covers: first column, first window column, count. -/
def coverX (g : Geo) (fw : Nat) : Nat × Nat × Nat :=
  let x0 := max 0 g.x
  let x1 := min (fw : Int) (g.x + g.dw)
  (x0.toNat, (x0 - g.x).toNat, (x1 - x0).toNat)

/-- Whether a window covers output row `y`. -/
def coversRow (g : Geo) (y : Nat) : Bool := decide (g.y ≤ y) && decide ((y : Int) < g.y + g.dh)

/-- R469: the border over a window row. -/
def withBorder (x : WFrame) (r i0 : Nat) (l : List Px) : List Px :=
  let b := x.border
  (l.zipIdx).map fun p =>
    let i := i0 + p.2
    if i < b || x.geo.dw ≤ i + b || r < b || x.geo.dh ≤ r + b then x.borderPx else p.1

/-- R418, R420: a DIRECT line miss of a channel: counted; misses in two frames in a row end the lock. -/
def Dev.lineMiss (d : Dev) (ch : Nat) : Dev :=
  let d := (d.inc (chanK ch 0x25)).modChan ch fun x => { x with missNow := true }
  if (d.chan ch).missLast && d.chanFlag ch 2 then d.unlockChan ch [] else d

/-- Whether a window of a frame reads a galley. -/
def WFrame.galley (x : WFrame) : Bool :=
  match x.fill with
  | .slots .. => true
  | _ => false

/-- Stages 1 to 7 of Table 8.2 for one window of an output row; `bad`: its read stayed uncorrectable (R500). -/
def Dev.fetchWindow (d : Dev) (n y : Nat) (bad : Bool) (x : WFrame) : Dev × Option (Nat × Nat × List Px) :=
  let q := coverX x.geo (d.nat (formeK n 3))
  if !coversRow x.geo y || q.2.2 = 0 then (d, none)
  else
    let r := (y - x.geo.y).toNat
    let solid := fun (p : Px) => some (x.w, q.1, List.replicate q.2.2 p)
    match x.fill with
    | .hidden => (d, none)
    | .colour => (d, solid x.colour)
    | fl =>
      if bad && x.galley then (d, solid x.colour)
      else
        let need := ((rowTaps x.geo r).map fun p => p.2).filter fun i => i < x.geo.sh
        if need.any fun i => (d.srcLine x i).isNone then
          (match fl with
            | .direct ch _ => d.lineMiss ch
            | _ => d, solid (colourPx (d.nat (formeK n 0x0C))))
        else
          let row := scaleRow x.geo x.colour (fun i => (d.srcLine x i).getD []) r q.2.1 q.2.2
          (d, some (x.w, q.1, withBorder x r q.2.1 (row.map (matrixPx x.matrix))))

/-- R411: the claim of a window whose last row this is ends. -/
def Dev.endClaims (d : Dev) (n y : Nat) : Dev :=
  let h := d.nat (formeK n 4)
  let done := fun (x : WFrame) => x.claim && decide (min (h : Int) (x.geo.y + x.geo.dh) ≤ y + 1)
  let chs := (d.forme n).ws.filterMap fun x => match x.fill with
    | .slots ch _ _ => if done x then some ch else none
    | _ => none
  let d := d.modForme n fun f => { f with ws := f.ws.map fun x => if done x then { x with claim := false } else x }
  chs.foldl (fun d ch => d.drainEnd ch) d

/-- Whether a window of a frame reads the galley for output row `y`. -/
def Dev.readsRow (d : Dev) (n y : Nat) (x : WFrame) : Bool :=
  x.galley && coversRow x.geo y && (coverX x.geo (d.nat (formeK n 3))).2.2 ≠ 0

/-- R453: whether the fetch of row `y` has begun: F + y · T_ol, to the nearest tick. -/
def Dev.rowDue (d : Dev) (c : Ctx) (n y : Nat) : Bool :=
  let k := fun s => d.nat (formeK n s)
  decide ((d.forme n).f + roundDivN (400000000 * y * k 7) (k 6 * k 5) ≤ c.t)

/-- ROW_FETCH (R453, R418, R500): `again` names the windows whose frame memory read was uncorrectable and succeeded at
its retry, which is counted (R25), `bad` those whose read stayed uncorrectable, which is detection 0x06. -/
def execRowFetch (dt n y : Nat) (bad again : List Nat) (s : State) : Host.Outcome State Fault Refusal :=
  s.actOn (n < s.count 24 12) dt fun c d =>
    if !d.formeRuns n || d.nat (formeK n 4) ≤ y || y < (d.forme n).fetch || !d.rowDue c n y then d
    else
      let reads := (d.forme n).ws.filter (d.readsRow n y)
      let r := (d.forme n).ws.foldl (fun (p : Dev × List (Nat × Nat × List Px)) x =>
        let q := p.1.fetchWindow n y (bad.contains x.w) x
        (q.1, p.2 ++ q.2.toList)) (d, [])
      let d := r.1.modForme n fun f => { f with fetch := y + 1, rows := f.rows ++ [(⟨y, r.2⟩ : Row)] }
      let d := reads.foldl (fun d x => if again.contains x.w && !bad.contains x.w then d.transient else d) d
      let d := if reads.any fun x => bad.contains x.w then (d.raise c 6 0).detect c 0x06 0 else d
      d.endClaims n y

/-- R470: a window's row over the row beneath. -/
def blendRow (x : WFrame) (x0 : Nat) (l under : List Px) : List Px :=
  (under.zipIdx).map fun p =>
    if x0 ≤ p.2 && p.2 < x0 + l.length then
      let px := (l[p.2 - x0]?).getD p.1
      blendPx (weightOf x.amode x.aglob px) px p.1
    else p.1

/-- R470: the windows in z-order, the higher number on top. -/
def zOrder (ws : List WFrame) : List WFrame :=
  (upTo 16).flatMap fun z => (upTo 64).flatMap fun w => ws.filter fun x => x.z = z && x.w = w

/-- Stage 8: the composed row, without the windows of `missing`. -/
def Dev.composeRow (d : Dev) (n : Nat) (r : Row) (missing : List Nat) : List Px :=
  let back := List.replicate (d.nat (formeK n 3)) (colourPx (d.nat (formeK n 0x0C)))
  (zOrder (d.forme n).ws).foldl (fun u x =>
    match r.wins.find? fun p => p.1 = x.w with
    | some (_, x0, l) => if missing.contains x.w then u else blendRow x x0 l u
    | none => u) back

/-- R499: a late row. -/
def Dev.lateRow (d : Dev) (c : Ctx) (n y : Nat) : Dev :=
  let d := d.inc (formeK n 0x18)
  let d := if d.flag (formeK n 0x0B) then d.detect c 0x18 n else d
  if (d.forme n).lateSaid then d else (d.modForme n fun f => { f with lateSaid := true }).raise c 54 (n + y * 65536)

/-- R352, R353, R479, R499: row `y` leaves in segments and joins the frame's signature; `missing` names the windows
whose fetch has not completed. -/
def Dev.launchRow (d : Dev) (c : Ctx) (n y : Nat) (missing : List Nat) : Dev :=
  let f := d.forme n
  let got := f.rows.find? fun r => r.y = y
  let r := got.getD ⟨y, []⟩
  let late := (got.isNone && !f.ws.isEmpty) || r.wins.any fun p => missing.contains p.1
  let d := if late then d.lateRow c n y else d
  let b := outputRow (d.nat (formeK n 8)) (d.nat (formeK n 3)) (Config.free c.seed 7) (d.composeRow n r missing)
  let no := d.nat (formeK n 0x12)
  let crc := crcRun f.crc b
  let d := d.modForme n fun f => { f with crc := crc, line := y + 1, rows := f.rows.filter fun r => r.y ≠ y }
  let d := (upTo (ceilDiv b.length 1024)).foldl (fun d i =>
    d.queueIso (d.nat (formeK n 2)) ⟨3, y + no % 8 * 8192, i, (b.drop (1024 * i)).take 1024, c.t⟩) d
  if y + 1 = d.nat (formeK n 4) then
    d.pushSig n ⟨no, d.nat (formeK n 0x0E), d.nat (formeK n 0x13), crc ^^^ 0xFFFFFFFF, f.f⟩
  else d

/-- ROW_LAUNCH (R352): each row of the frame once and in order. A NOPIC frame sends no rows. -/
def execRowLaunch (dt n y : Nat) (missing : List Nat) (s : State) : Host.Outcome State Fault Refusal :=
  s.actOn (n < s.count 24 12) dt fun c d =>
    if !d.formeRuns n || (d.forme n).nopic || d.nat (formeK n 4) ≤ y || y ≠ (d.forme n).line then d
    else d.launchRow c n y missing

/-- R352: every row of a frame leaves before the next folio. -/
def Dev.launchRest (d : Dev) (c : Ctx) (n : Nat) : Dev :=
  if !d.formeRuns n || (d.forme n).nopic then d
  else (upTo (d.nat (formeK n 4))).foldl (fun d y => if y = (d.forme n).line then d.launchRow c n y [] else d) d

/-! ## The frame start -/

/-- R450, R451: a forme's next frame start: on the timebase, or at a genlock frame start plus Φ, of the frames whose
count the divisor divides, or M times in each frame. -/
def Dev.formeDue (d : Dev) (n : Nat) : Option Nat :=
  let k := fun s => d.nat (formeK n s)
  let f := d.forme n
  if k 9 = 1 then some (f.f0 + roundDivN (f.cnt * 400000000 * k 7) (k 6))
  else
    let mult := (upTo 8).find? fun i => k 6 * d.rateDen = d.rateNum * k 7 * (i + 1)
    let div := (upTo 8).find? fun i => k 6 * d.rateDen * (i + 1) = d.rateNum * k 7
    let l := d.dpll.starts.flatMap fun s =>
      match mult, div with
      | some i, _ => (upTo (i + 1)).map fun j => s.1 + k 0x0A + roundDivN (j * d.framePeriod.1) (d.framePeriod.2 * (i + 1))
      | none, some i => if s.2 % (i + 1) = 0 then [s.1 + k 0x0A] else []
      | none, none => []
    l.foldl (fun o t => if t < f.nextF then o else match o with
      | some u => some (min u t)
      | none => some t) none

/-- FORME_FRAME_START's work at a forme's frame start F: the rows left of the frame before, the quoin due, then the
frame; the F that ends an old timing sends nothing. `t`: F. -/
def Dev.formeFrame (d : Dev) (c : Ctx) (n t : Nat) : Dev :=
  let c := { c with t := t }
  let d := d.launchRest c n
  let d := if d.formeSt n = 3 then d.setN (formeK n 0x11) 1 else d
  let d := (d.modForme n fun f => { f with nextF := t + 1, cnt := f.cnt + 1 }).quoinAtFrame c n
  if !d.formeRuns n || d.formeSt n = 3 then d else d.frame c n

/-- When a running forme's frame starts, once that time has come. -/
def Dev.formeFrameAt (d : Dev) (c : Ctx) (n : Nat) : Option Nat :=
  if d.formeRuns n then (d.formeDue n).filter fun t => decide (t ≤ c.t) else none

/-- R474: since when a window's source is one its no-source action replaces. -/
def Dev.holdSince (d : Dev) (w : Nat) : Option Nat :=
  let x := d.chan (d.nat (winK w 3))
  let frz := if d.nat (winK w 0x18) = 1 then x.frzT else none
  match x.badT, frz with
  | some a, some b => some (min a b)
  | some a, none => some a
  | none, o => o

/-- HOLD_TIME_END (R474, R497): .17 ms from the state change the hold is over; the fill colour shows from the next F. -/
def execHoldTimeEnd (dt w : Nat) (s : State) : Host.Outcome State Fault Refusal :=
  s.actOn (w < 64) dt fun c d =>
    match d.holdSince w with
    | some t =>
      if (d.win w).noSrc && d.nat (winK w 0x16) = 2 && decide (t + d.nat (winK w 0x17) * 400000 ≤ c.t) then
        d.modWin w fun x => { x with holdDone := true }
      else d
    | none => d

/-! ## Echoes (R480, R851, R862) -/

/-- R480: an echo of a forme: folio number, source identifier, liveness counter, signature. -/
def Dev.takeEcho (d : Dev) (c : Ctx) (n : Nat) (b : List Byte) : Dev :=
  let k := key 0x5400 n
  let no := fld b 0 4
  let safe := d.flag (formeK n 0x0B)
  let f := d.forme n
  match (f.hist.reverse).find? fun x => x.no = no with
  | none =>
    let d := (d.inc (k 7)).raise c 56 n
    if safe then d.detect c 0x13 n else d
  | some x =>
    let d := d.setN (k 8) (roundDivN (c.t - x.t) 400 % 2 ^ 32)
    if x.src = fld b 4 4 && x.live = fld b 8 4 && x.sig = fld b 12 4 then
      let newer := decide ((no + 2 ^ 32 - f.e) % 2 ^ 32 < 2 ^ 31)
      let d := (d.inc (k 5)).modForme n fun f => { f with e := if newer then no else f.e, matched := f.matched + 1 }
      let j := d.nat (formeK n 0x12)
      if 2 ≤ (d.forme n).matched && (j + 2 ^ 32 - (d.forme n).e) % 2 ^ 32 ≤ 2 then (d.endCond 0x12 n).endCond 0x14 n else d
    else
      let d := ((d.inc (k 6)).modForme n fun f => { f with matched := 0 }).raise c 55 n
      if safe then d.detect c 0x12 n else d

/-- ECHO (R480): an ECHO on a forme's port. -/
def execEcho (dt p : Nat) (k : Pkt) (s : State) : Host.Outcome State Fault Refusal :=
  s.actOn (p < s.portCount) dt fun c d =>
    let r := d.rxPacket p 7 3 k
    if !r.2 then r.1
    else
      let d := r.1.modPort p fun x => { x with sinkStatus := fld k.payload 16 4 }
      match (formesOf c).find? fun n => d.formeRuns n && d.nat (formeK n 2) = p && d.flag (key 0x5400 n 1) with
      | some n => d.takeEcho c n k.payload
      | none => d

/-! ## The genlock frame start -/

/-- Table 8.5, first row; R348, R349: the folio of an enabled sink-facing port without a running forme: the port's next
number and its last liveness counter. The spec gives its source identifier no value. -/
def Dev.defaultFolio (d : Dev) (c : Ctx) (p : Nat) : Dev :=
  let no := ((d.port p).folioNo + 1) % 2 ^ 32
  let t := d.dpll.frameT
  let f : Folio := { no := no, src := Config.free c.seed (200 + p) % 2 ^ 32, live := (d.port p).folioLive, t := t
                     epoch := d.epoch, flags := 1, quality := d.qualityOn p, w := 1920, h := 1080, total := 1125
                     num := d.rateNum, den := d.rateDen, fmt := 0x03, colour := 0x10 }
  (d.modPort p fun x => { x with folioNo := no }).queueFolio p c.t f

/-- Table 8.5: every port's default folio at a genlock frame. -/
def Dev.defaultFolios (d : Dev) (c : Ctx) : Dev :=
  (portsOf c).foldl (fun d p =>
    if d.role p = 1 && d.flag (portK p 1) then
      if (formesOf c).any fun n => d.formeRuns n && d.nat (formeK n 2) = p then d else d.defaultFolio c p
    else d) d

/-- R502: the formes of the loaded configuration start at the first genlock frame start. -/
def Dev.autoStart (d : Dev) (c : Ctx) : Dev :=
  if d.rst.autorun then
    let d := { d with rst := { d.rst with autorun := false } }
    (formesOf c).foldl (fun d n =>
      if d.flag (formeK n 1) && !d.formeRuns n then d.startForme n d.dpll.frameT d.dpll.frameT else d) d
  else d

/-- GENLOCK_FRAME_START (R207), once the running frame is over. -/
def execGenlockFrameStart (dt : Nat) (s : State) : Host.Outcome State Fault Refusal :=
  s.act dt fun c d =>
    if !d.rst.video || d.pwr.st = .standby || d.pwr.st = .hibernate || d.pwr.st = .off || !d.frameDue c then d
    else
      let realigned := d.dpll.realign && (d.dpllSt = 1 || d.dpllSt = 2)
      let d := (d.genlockFrame c).noteStart
      let d := if realigned then d.unlockAll else d
      let d := ((d.synsFrame c realigned).marksAtFrame c).audioAtFrame c
      (d.autoStart c).defaultFolios c

/-! ## Objects -/

/-- The live reads of 0x5000 and 0x5400. -/
def Dev.readForme (d : Dev) (base n sub : Nat) : Option Val :=
  let v := d.active
  let up := fun (a : Nat × Nat) => some (Val.num (ceilDiv a.1 (a.2 * 1000000) : Nat))
  if base = 0x5000 then
    if sub = 0x15 then up (v.pixelLoad n)
    else if sub = 0x16 then up (v.formeIso n)
    else if sub = 0x17 then some (.num (v.kf n))
    else none
  else if base = 0x5400 && sub = 0x04 then
    some (.bytes ((d.forme n).hist.flatMap fun x => le 4 x.no ++ le 4 x.src ++ le 4 x.live ++ le 4 x.sig))
  else none

end Sys2Proof.Machine
end

