-- ==== Sys2Proof/Machine/Title.lean ====
section
/-!
DEFINITION. The title port (R554 to R614): templates, transactions in class order, XIP windows, page buffers and
flushes, identification.
-/
namespace Sys2Proof.Machine

/-- The key of a title port object. -/
def titleK (sub : Nat) : Nat := 0x7000_00 + sub

/-- A title slot. -/
def Dev.tslot (d : Dev) (s : Nat) : TSlot := (d.title.slots[s]?).getD {}

/-- Change a title slot. -/
def Dev.modTslot (d : Dev) (s : Nat) (f : TSlot → TSlot) : Dev :=
  { d with title := { d.title with slots := modifyAt f s d.title.slots } }

/-- A slot's state: 0 disabled, 1 identifying, 2 accepted, 3 refused, 4 absent, 5 failed. -/
def Dev.slotSt (d : Dev) (s : Nat) : Nat := d.nat (titleK (0x12 + s))

/-- Set a slot's state. -/
def Dev.setSlotSt (d : Dev) (s st : Nat) : Dev := d.setN (titleK (0x12 + s)) st

/-! ## Templates (R561, R562) -/

/-- Table 10.1. -/
structure Tmpl where
  cmd : Nat
  cmdLen : Nat
  cmdLanes : Nat
  cmdDdr : Bool
  addrLen : Nat
  addrLanes : Nat
  addrDdr : Bool
  altLen : Nat
  altLanes : Nat
  altDdr : Bool
  dummy : Nat
  alt : Nat
  dataLanes : Nat
  dataDdr : Bool
  strobe : Bool
  write : Bool
  wait : Bool
  rsvd : Nat

/-- A template from its 16 bytes; `rsvd` is its reserved field. -/
def parseTmpl (b : List Byte) : Tmpl :=
  let n := unle (b.take 16)
  { cmd := bits n 0 32, cmdLen := bits n 32 6, cmdLanes := bits n 38 2, cmdDdr := bit n 40
    addrLen := bits n 41 6, addrLanes := bits n 47 2, addrDdr := bit n 49
    altLen := bits n 50 6, altLanes := bits n 56 2, altDdr := bit n 58, dummy := bits n 59 5, alt := bits n 64 32
    dataLanes := bits n 96 2, dataDdr := bit n 98, strobe := bit n 99, write := bit n 100, wait := bit n 101
    rsvd := bits n 102 26 }

/-- R562: a length of 0 or 4 to 32 bits that fills whole transfers, on both edges in DDR. -/
def lenValid (len lanes : Nat) (ddr : Bool) : Bool :=
  len % ((if ddr then 2 else 1) * 2 ^ (lanes + 1)) = 0

/-- R562, R10: whether a template is accepted; `reads`: its transaction reads data. -/
def tmplOk (b : List Byte) (reads : Bool) : Bool :=
  let t := parseTmpl b
  4 ≤ t.cmdLen && t.cmdLen ≤ 32
    && (t.addrLen = 0 || (4 ≤ t.addrLen && t.addrLen ≤ 32)) && (t.altLen = 0 || (4 ≤ t.altLen && t.altLen ≤ 32))
    && lenValid t.cmdLen t.cmdLanes t.cmdDdr && lenValid t.addrLen t.addrLanes t.addrDdr && lenValid t.altLen t.altLanes t.altDdr
    && t.rsvd = 0 && t.cmdLanes ≠ 3 && t.addrLanes ≠ 3 && t.altLanes ≠ 3 && t.dataLanes ≠ 3
    && !(t.strobe && (!t.dataDdr || t.write)) && !(reads && !t.write && t.dummy = 0)

/-- R564: the end of the addressable cartridge: 2^n of the READ template. -/
def Dev.titleTop (d : Dev) : Nat := 2 ^ (parseTmpl (d.raw (titleK 5))).addrLen

/-- R558: the transfers of a word's low `len` bits, most significant first. -/
def wordXfers (len lanes v : Nat) : List Nat := (upTo (len / lanes)).map fun i => bits v (len - lanes * (i + 1)) lanes

/-- R556 to R563: the phases of a template's transaction: a write fills its last TPCK cycle with 0xFF, a read its last
cycle with bytes that are discarded. -/
def Tmpl.phases (t : Tmpl) (addr : Nat) (wdata : List Byte) (rlen : Nat) : List TPhase :=
  let lanes := fun (code : Nat) => 2 ^ (code + 1)
  let word := fun (len code v : Nat) (ddr : Bool) => if len = 0 then [] else [TPhase.drive (lanes code) ddr (wordXfers len (lanes code) v)]
  let cycle := if t.dataDdr && t.dataLanes = 2 then 2 else 1
  let whole := fun (n : Nat) => cycle * ceilDiv n cycle
  let data := wdata ++ List.replicate (whole wdata.length - wdata.length) 0xFF#8
  word t.cmdLen t.cmdLanes t.cmd t.cmdDdr ++ word t.addrLen t.addrLanes addr t.addrDdr ++ word t.altLen t.altLanes t.alt t.altDdr
    ++ (if t.dummy = 0 then [] else [.dummy t.dummy])
    ++ (if wdata.isEmpty then [] else [.drive (lanes t.dataLanes) t.dataDdr (data.flatMap fun b => wordXfers 8 (lanes t.dataLanes) b.toNat)])
    ++ (if rlen = 0 then [] else [.sample (lanes t.dataLanes) t.dataDdr t.strobe (whole rlen * 8 / lanes t.dataLanes)])

/-- The TPCK cycles of a phase (R557). -/
def TPhase.cycles : TPhase → Nat
  | .drive _ ddr l => if ddr then ceilDiv l.length 2 else l.length
  | .dummy n => n
  | .sample _ ddr _ n => if ddr then ceilDiv n 2 else n

/-- R555, R556: the ticks of a transaction at divider `n`, with its select margins of 1.5 periods. -/
def txnTicks (n : Nat) (l : List TPhase) : Nat := (2 * (l.map TPhase.cycles).sum + 3) * n / 24

/-- R556 to R563: a transaction of a template leaves. -/
def Dev.txn (d : Dev) (slot : Nat) (tmpl : List Byte) (addr : Nat) (wdata : List Byte) (rlen : Nat) : Dev :=
  let t := parseTmpl tmpl
  let l := t.phases addr wdata rlen
  let n := d.nat (titleK 3)
  { d.emit (.title slot n (d.nat (titleK 4)) l) with title := { d.title with
    curLen := txnTicks n l, waits := t.wait && !(wdata.isEmpty && rlen = 0), strobes := t.strobe && rlen ≠ 0 } }

/-! ## The page buffer and its record -/

/-- The marked offsets of a page buffer: the first and the last. -/
def PageBuf.span (b : PageBuf) : Nat × Nat :=
  let l := (upTo 256).filter fun i => ((b.bytes[i]?).getD none).isSome
  (l.headD 0, l.getLastD 0)

/-- R607: the slot's record in AON, at the start of a step. -/
def Dev.record (d : Dev) (c : Ctx) (s step : Nat) : Dev :=
  match (d.tslot s).pb with
  | some b =>
    let p := b.span
    let t := match (d.tslot s).aon with
      | some r => if r.step = step then r.t else c.t
      | none => c.t
    d.modTslot s fun x => { x with aon := some ⟨b.page, step, p.1, p.2, t⟩ }
  | none => d

/-- Table 10.6: a record's bytes. -/
def TRec.bytes (r : TRec) (s : Nat) : List Byte :=
  le 4 r.page ++ le 1 s ++ le 1 r.step ++ le 1 r.first ++ le 1 r.last ++ le 8 r.t

/-! ## The port -/

/-- Put a request at the end of the queue. -/
def Dev.ask (d : Dev) (r : TReq) : Dev := { d with title := { d.title with queue := d.title.queue ++ [r] } }

/-- R585: the class of a request; a line fetched ahead comes last (R565). -/
def Dev.classNo (d : Dev) (r : TReq) : Nat :=
  match r.kind with
  | .line off _ => if (d.tslot r.slot).readers.any fun x => x.off / 64 = off / 64 || (x.off + x.len - 1) / 64 = off / 64 then 1 else 6
  | .writeEnable | .program => 2
  | .raw => 3
  | .ident => 4
  | .fill _ _ _ | .header _ _ => 5

/-- R569, R601, Table 10.2: whether a request may start now. -/
def Dev.mayStart (d : Dev) (r : TReq) : Bool :=
  let x := d.tslot r.slot
  let before := d.title.queue.takeWhile fun q => !(q.slot = r.slot && q.kind = .ident)
  match r.kind with
  | .writeEnable | .program => true
  | .ident => x.flush.isNone && !(before.any fun q => q.slot = r.slot)
  | _ => x.flush.isNone && x.pb.isNone && (d.slotSt r.slot = 2 || (d.slotSt r.slot = 1 && before.contains r))

/-- The request the port takes next. -/
def Dev.chooseReq (d : Dev) : Option TReq :=
  (upTo 7).findSome? fun k => d.title.queue.find? fun r => d.classNo r = k && d.mayStart r

/-- A raw request (R597): template, slot, address, data length, data. -/
def Dev.rawReq (d : Dev) : List Byte × Nat × Nat × Nat × List Byte :=
  let b := d.raw (titleK 0x17)
  (b.take 16, fld b 16 1, fld b 20 4, fld b 24 2, b.drop 28)

/-- Start a request's transaction; `addr` and `len` are those of a title stream read. -/
def Dev.startTxn (d : Dev) (c : Ctx) (r : TReq) (again : Bool) (addr len : Nat) : Dev :=
  let d := { d with title := { d.title with cur := some (r, again), curT := c.t } }
  let rd := d.raw (titleK 5)
  match r.kind with
  | .line off _ => d.txn r.slot rd (off / 64 * 64) [] 64
  | .writeEnable => (d.record c r.slot 2).txn r.slot (d.raw (titleK 6)) 0 [] 0
  | .program =>
    match (d.tslot r.slot).pb with
    | some b =>
      let p := b.span
      let data := (upTo (p.2 + 1 - p.1)).map fun i => (((b.bytes[p.1 + i]?).getD none).getD 0xFF#8)
      (d.record c r.slot 3).txn r.slot (d.raw (titleK 7)) (b.page + p.1) data 0
    | none => d
  | .raw =>
    let q := d.rawReq
    let w := (parseTmpl q.1).write
    (d.setN (titleK 0x18) 2).txn r.slot q.1 q.2.2.1 (if w then q.2.2.2.2.take q.2.2.2.1 else []) (if w then 0 else q.2.2.2.1)
  | .ident => d.txn r.slot rd (d.nat (titleK 0x11)) [] 8
  | .fill _ _ _ | .header _ _ => d.txn r.slot rd addr [] len

/-- The cartridge address of a title stream read's part. -/
def Dev.partAddr (d : Dev) (r : TReq) : Nat :=
  match r.kind with
  | .fill page num part =>
    match d.cache.fills.find? fun f => f.tag.slot = r.slot && f.tag.page = page && f.tag.num = num with
    | some f => f.addr + 512 * part
    | none => 0
  | .header _ part => 512 * part
  | _ => 0

/-- R567: a flush of a slot's marked bytes begins with its write enable. -/
def Dev.openFlush (d : Dev) (s : Nat) : Dev :=
  let x := d.tslot s
  if x.pb.isSome && x.flush.isNone then (d.modTslot s fun x => { x with flush := some {} }).ask ⟨s, .writeEnable⟩ else d

/-- Table 10.2: a read of a slot waiting at the port, by a window or by a title stream, flushes the slot's page buffer. -/
def Dev.flushForReads (d : Dev) : Dev :=
  [0, 1].foldl (fun d s => if d.title.queue.any fun r => r.slot = s then d.openFlush s else d) d

/-- R585: between transactions the port takes the next request. -/
def Dev.titleNext (d : Dev) (c : Ctx) : Dev :=
  let d := d.flushForReads
  if d.title.cur.isSome then d
  else match d.chooseReq with
    | some r =>
      let d := { d with title := { d.title with queue := d.title.queue.erase r } }
      d.startTxn c r false (d.partAddr r) 512
    | none => d

/-- R567: a slot's marked bytes are flushed. -/
def Dev.startFlush (d : Dev) (c : Ctx) (s : Nat) : Dev :=
  let x := d.tslot s
  if x.pb.isSome && x.flush.isNone then (d.openFlush s).titleNext c else d

/-! ## Windows -/

/-- Answer a bus request. -/
def Dev.busAnswer (d : Dev) (m id : Nat) (err : Bool) (data : List Byte) : Dev := d.emit (.bus m id err data)

/-- The lines a read needs. -/
def TRead.lines (r : TRead) : List Nat :=
  let a := r.off / 64
  let b := (r.off + (r.len - 1)) / 64
  if a = b then [a] else [a, b]

/-- The bytes of a read from the prefetch buffer, when all its lines are there. -/
def TSlot.hit (x : TSlot) (r : TRead) : Option (List Byte) :=
  let get := fun l => (x.pf.find? fun p => p.1 = l).map fun p => p.2
  if r.lines.all fun l => (get l).isSome then
    some (((r.lines.flatMap fun l => (get l).getD []).drop (r.off % 64)).take r.len)
  else none

/-- Serve the reads of a slot whose lines are there and ask for the first missing line of the others. -/
def Dev.serveReaders (d : Dev) (c : Ctx) (s : Nat) : Dev :=
  let x := d.tslot s
  if x.flush.isSome || x.pb.isSome || d.slotSt s ≠ 2 then d
  else
    let d := x.readers.foldl (fun d r =>
      match (d.tslot s).hit r with
      | some b => (d.busAnswer r.master r.id false b).modTslot s fun x => { x with readers := x.readers.erase r }
      | none =>
        match r.lines.find? fun l => !((d.tslot s).pf.any fun p => p.1 = l) with
        | some l =>
          let q : TReq := ⟨s, .line (l * 64) (d.nat (titleK 0x0F))⟩
          let same := fun (y : TReq) => match y.kind with
            | .line o _ => y.slot = s && o / 64 = l
            | _ => false
          if d.title.queue.any same || (match d.title.cur with | some (y, _) => same y | none => false) then d else d.ask q
        | none => d) d
    d.titleNext c

/-- WINDOW_READ's effect (R564, R565, R572, Table 10.2). -/
def Dev.windowRead (d : Dev) (c : Ctx) (s : Nat) (r : TRead) : Dev :=
  if d.slotSt s = 1 && (d.tslot s).identHold then d.modTslot s fun x => { x with readers := x.readers ++ [r] }
  else if d.slotSt s ≠ 2 || d.titleTop < r.off + r.len || r.len = 0 then d.busAnswer r.master r.id true []
  else ((d.modTslot s fun x => { x with readers := x.readers ++ [r] }).startFlush c s).serveReaders c s

/-- R602: a write updates the prefetch buffer's copy. -/
def patchLine (off : Nat) (data : List Byte) (p : Nat × List Byte) : Nat × List Byte :=
  (p.1, (p.2.zipIdx).map fun q =>
    let a := p.1 * 64 + q.2
    if off ≤ a && a < off + data.length then (data[a - off]?).getD q.1 else q.1)

/-- WINDOW_WRITE's effect (R566, R567, R602, R607). -/
def Dev.windowWrite (d : Dev) (c : Ctx) (s : Nat) (w : TWrite) : Dev :=
  let x := d.tslot s
  let hold := d.modTslot s fun x => { x with writers := x.writers ++ [w] }
  if d.slotSt s = 1 && x.identHold then hold
  else if d.slotSt s ≠ 2 || d.titleTop < w.off + w.data.length then d.busAnswer w.master w.id true []
  else
    let page := w.off / 256 * 256
    let other : Bool := match x.pb with
      | some b => b.page ≠ page
      | none => false
    if x.flush.isSome || other then hold.startFlush c s
    else
      let b := x.pb.getD ⟨page, List.replicate 256 none, c.t⟩
      let bytes := (w.data.zipIdx).foldl (fun l p => modifyAt (fun _ => some p.1) (w.off - page + p.2) l) b.bytes
      let d := (d.modTslot s fun x => { x with pb := some { b with bytes := bytes, t := c.t }, pf := x.pf.map (patchLine w.off w.data) }).record c s 1
      let d := d.busAnswer w.master w.id false []
      if bytes.all Option.isSome then d.startFlush c s else d

/-- What waits for a slot that serves no more receives an error response (R572, R601). -/
def Dev.failWaiters (d : Dev) (s : Nat) : Dev :=
  let x := d.tslot s
  let d := x.readers.foldl (fun d r => d.busAnswer r.master r.id true []) d
  let d := x.writers.foldl (fun d w => d.busAnswer w.master w.id true []) d
  let mine := fun (r : TReq) => r.slot = s
  let d := if d.title.queue.any fun r => mine r && r.kind = .raw then d.setN (titleK 0x18) 4 else d
  ({ d with title := { d.title with queue := d.title.queue.filter fun r => !(mine r && match r.kind with
      | .line _ _ | .raw | .ident => true
      | _ => false) } }).modTslot s fun x => { x with readers := [], writers := [] }

/-- R600: the slot becomes DISABLED once no flush and no transaction of it runs. -/
def Dev.finishClose (d : Dev) (s : Nat) : Dev :=
  let x := d.tslot s
  let busy : Bool := match d.title.cur with
    | some (r, _) => r.slot = s
    | none => false
  if x.closing && x.flush.isNone && !busy then (d.setSlotSt s 0).modTslot s fun x => { aon := x.aon } else d

/-- A slot's held requests go on (Table 10.2, R601). -/
def Dev.release (d : Dev) (c : Ctx) (s : Nat) : Dev :=
  let x := d.tslot s
  if d.slotSt s = 1 then d.titleNext c
  else
    let d := d.modTslot s fun x => { x with writers := [] }
    let d := x.writers.foldl (fun d w => d.windowWrite c s w) d
    ((d.serveReaders c s).titleNext c).finishClose s

/-- A slot enters FAILED. -/
def Dev.failSlot (d : Dev) (s : Nat) : Dev :=
  ((d.setSlotSt s 5).modTslot s fun x => { x with pb := none, flush := none, ident := [] }).failWaiters s

/-! ## Flushes -/

/-- R607: a completed flush. -/
def Dev.flushDone (d : Dev) (c : Ctx) (s : Nat) : Dev :=
  let d := match (d.tslot s).flush with
    | some f => if f.again || f.extended then d.transient else d
    | none => d
  ((d.modTslot s fun x => { x with pb := none, flush := none, aon := none }).inc (titleK 0x22)).release c s

/-- R605: a lasting write failure; the buffer is discarded, and the record with it (R607). -/
def Dev.flushLost (d : Dev) (c : Ctx) (s : Nat) : Dev :=
  let page := match (d.tslot s).pb with
    | some b => b.page
    | none => 0
  let d := ((d.setN (titleK 0x21) page).inc (titleK 0x1C)).modTslot s fun x => { x with aon := none }
  (((d.failSlot s).raise c 74 (s + 256)).finishClose s).titleNext c

/-- R605: an error of a flush: the whole sequence once more, or lasting. -/
def Dev.flushError (d : Dev) (c : Ctx) (s : Nat) : Dev :=
  match (d.tslot s).flush with
  | some f =>
    if f.again then d.flushLost c s
    else ((d.modTslot s fun x => { x with flush := some { again := true } }).ask ⟨s, .writeEnable⟩).titleNext c
  | none => d

/-- R568, R585: one poll of a flush, between transactions, once t0 + k × the poll interval has come. -/
def Dev.poll (d : Dev) (c : Ctx) (s status : Nat) : Dev :=
  match (d.tslot s).flush with
  | some f =>
    if f.step ≠ 4 || d.title.cur.isSome || c.t < f.t0 + f.k * d.nat (titleK 0x0D) * 400 then d
    else
      let d := d.txn s (d.raw (titleK 8)) 0 [] (d.nat (titleK 9) / 8)
      let st := status % 2 ^ d.nat (titleK 9)
      let busy := d.nat (titleK 0x0A)
      let us := f.k * d.nat (titleK 0x0D)
      if st &&& d.nat (titleK 0x0C) ≠ 0 then d.flushError c s
      else if st &&& busy = d.nat (titleK 0x0B) &&& busy then d.flushDone c s
      else if f.extended && 10000 ≤ us then d.flushLost c s
      else d.modTslot s fun x => { x with flush := some { f with k := f.k + 1, extended := f.extended || decide (5000 ≤ us) } }
  | none => d

/-! ## Identification -/

/-- R570, R601: identify a slot, after a flush of it and after the requests it serves. -/
def Dev.startIdent (d : Dev) (c : Ctx) (s : Nat) : Dev :=
  let d := d.startFlush c s
  let hold := d.slotSt s = 2 || (d.slotSt s = 1 && (d.tslot s).identHold)
  let q := d.title.queue.filter fun r => !(r.slot = s && r.kind = .ident)
  let d := { d with title := { d.title with queue := q } }
  (((d.setSlotSt s 1).modTslot s fun x => { x with ident := [], identAgain := false, identHold := hold, identCmd := false }).ask ⟨s, .ident⟩).titleNext c

/-- R570: a further read of a running identification, ahead of the requests it holds. -/
def Dev.askIdent (d : Dev) (s : Nat) : Dev := { d with title := { d.title with queue := ⟨s, .ident⟩ :: d.title.queue } }

/-- R571: an identifier read twice alike. -/
def Dev.accept (d : Dev) (c : Ctx) (s id : Nat) : Dev :=
  let d := d.setN (titleK (0x14 + s)) id
  let allow := d.rst.fuses.allow
  if id = 0 || id = 2 ^ 64 - 1 then d.setSlotSt s 4
  else if allow.isEmpty || allow.contains id then (d.setSlotSt s 2).raise c 71 s
  else (d.setSlotSt s 3).raise c 72 s

/-- R570: one read of an identification has returned. -/
def Dev.identRead (d : Dev) (c : Ctx) (s : Nat) (data : List Byte) : Dev :=
  let x := d.tslot s
  match x.ident with
  | [a] =>
    if a = data then
      let d := if x.identAgain then d.transient else d
      let d := (d.modTslot s fun x => { x with ident := [], identHold := false }).accept c s (unle (data.take 8))
      if d.slotSt s = 2 then d.release c s else d.failWaiters s
    else if x.identAgain then d.failSlot s
    else (d.modTslot s fun x => { x with ident := [], identAgain := true }).askIdent s
  | _ => (d.modTslot s fun x => { x with ident := [data] }).askIdent s

/-! ## The end of a transaction -/

/-- R565: a line enters the prefetch buffer of 4. -/
def TSlot.keep (x : TSlot) (l : Nat) (data : List Byte) : TSlot :=
  let rest := x.pf.filter fun p => p.1 ≠ l
  { x with pf := (rest ++ [(l, data)]).drop (rest.length + 1 - 4) }

/-- R565: the first of the next `ahead` lines that the prefetch buffer lacks, with the lines left after it. -/
def TSlot.nextLine (x : TSlot) (l : Nat) : Nat → Option (Nat × Nat)
  | 0 => none
  | n + 1 => if x.pf.any fun p => p.1 = l + 1 then x.nextLine (l + 1) n else some (l + 1, n)

/-- The effect of a completed transaction of the port's own (all but title stream reads). -/
def Dev.titleDone (d : Dev) (c : Ctx) (r : TReq) (data : List Byte) : Dev :=
  let s := r.slot
  match r.kind with
  | .line off ahead =>
    let d := (d.modTslot s fun x => x.keep (off / 64) (data.take 64)).serveReaders c s
    if d.title.queue.isEmpty && d.title.cur.isNone && !(d.tslot s).closing then
      match (d.tslot s).nextLine (off / 64) ahead with
      | some (l, n) => if 64 * l + 64 ≤ d.titleTop then d.ask ⟨s, .line (64 * l) n⟩ else d
      | none => d
    else d
  | .writeEnable => d.ask ⟨s, .program⟩
  | .program => (d.record c s 4).modTslot s fun x => { x with flush := x.flush.map fun f => { f with step := 4, k := 1, t0 := c.t } }
  | .raw => (d.setN (titleK 0x18) 3).setB (titleK 0x19) (if (parseTmpl d.rawReq.1).write then [] else data.take d.rawReq.2.2.2.1)
  | .ident => if d.slotSt s = 1 then d.identRead c s data else d
  | .fill _ _ _ | .header _ _ => d

/-- R583, R584: whether a stall of the transaction in progress may have passed the TPRDY timeout. -/
def Dev.tprdyDue (d : Dev) (c : Ctx) : Bool :=
  d.title.cur.isSome && d.title.waits && decide (d.title.curT + d.nat (titleK 0x0E) * 400 < c.t)

/-- R560, R584: whether the transaction in progress may have missed 8 TPCK periods of TPDS. -/
def Dev.strobeDue (d : Dev) (c : Ctx) : Bool :=
  d.title.cur.isSome && d.title.strobes && decide (d.title.curT + 8 * d.nat (titleK 3) / 12 ≤ c.t)

/-- R555 to R563: whether the cycles of the transaction in progress have passed. -/
def Dev.titleTxnDue (d : Dev) (c : Ctx) : Bool := d.title.cur.isSome && decide (d.title.curT + d.title.curLen ≤ c.t)

/-- R584, R604, R605: the transaction in progress is ended. -/
def Dev.titleTimeout (d : Dev) (c : Ctx) : Dev :=
  match d.title.cur with
  | none => d
  | some (r, again) =>
    let d := { d with title := { d.title with cur := none } }
    let s := r.slot
    let lost := fun (d : Dev) => (((d.inc (titleK 0x1E)).failSlot s).raise c 73 (s + 256)).finishClose s
    match r.kind with
    | .program | .writeEnable => (d.flushError c s).titleNext c
    | .raw =>
      if !again then d.startTxn c r true 0 0
      else
        let d := d.setN (titleK 0x18) 4
        (if (parseTmpl d.rawReq.1).write then d else lost d).titleNext c
    | _ => if !again then d.startTxn c r true (d.partAddr r) 512 else (lost d).titleNext c

/-! ## Enables -/

/-- R567, R600: a slot is disabled. -/
def Dev.closeSlot (d : Dev) (c : Ctx) (s : Nat) : Dev :=
  (((d.modTslot s fun x => { x with closing := true }).startFlush c s).failWaiters s).finishClose s

/-- R570, R600: slots follow their enables. -/
def Dev.slotsFollow (d : Dev) (c : Ctx) : Dev :=
  [0, 1].foldl (fun d s =>
    let want := d.flag (titleK 1) && bit (d.nat (titleK 2)) s
    let on := d.slotSt s ≠ 0 && !(d.tslot s).closing
    if want && !on then (d.modTslot s fun x => { x with closing := false }).startIdent c s
    else if !want && on then d.closeSlot c s
    else d) d

/-! ## Commands -/

/-- WINDOW_READ (R565): a read of `len` bytes at a window offset, by bus master `m` with ID `id`. -/
def execWindowRead (dt slot off len m id : Nat) (s : State) : Host.Outcome State Fault Refusal :=
  s.actOn (slot < 2) dt fun c d => d.windowRead c slot ⟨m, id, off, len⟩

/-- WINDOW_WRITE (R566). -/
def execWindowWrite (dt slot off : Nat) (data : List Byte) (m id : Nat) (s : State) : Host.Outcome State Fault Refusal :=
  s.actOn (slot < 2) dt fun c d => d.windowWrite c slot ⟨m, id, off, data⟩

/-- COALESCE_TIME_END (R567): .10 µs after the last write to the buffer. -/
def execCoalesceTimeEnd (dt slot : Nat) (s : State) : Host.Outcome State Fault Refusal :=
  s.actOn (slot < 2) dt fun c d =>
    match (d.tslot slot).pb with
    | some b => if b.t + d.nat (titleK 0x10) * 400 ≤ c.t then d.startFlush c slot else d
    | none => d

/-! ## Objects -/

/-- R597: whether the raw request can run. -/
def Dev.rawOk (d : Dev) : Bool :=
  let b := d.raw (titleK 0x17)
  let q := d.rawReq
  28 ≤ b.length && q.2.1 < 2 && q.2.2.2.1 ≤ 256 && tmplOk q.1 (0 < q.2.2.2.1)
    && fld b 17 3 = 0 && fld b 26 2 = 0
    && (!(parseTmpl q.1).write || q.2.2.2.1 ≤ q.2.2.2.2.length)

/-- The refusals of a write in 0x7000 beside the dictionary's. -/
def Dev.checkTitle (d : Dev) (sub : Nat) (v : Val) : List Nat :=
  let one := if v = .num 1 then [] else [0x0005]
  if sub = 0x03 then if v.int % 2 = 0 then [] else [0x0005]
  else if 0x05 ≤ sub && sub ≤ 0x08 then if tmplOk v.raw (sub = 0x05 || sub = 0x08) then [] else [0x0005]
  else if sub = 0x09 then if v = .num 8 || v = .num 16 then [] else [0x0005]
  else if sub = 0x02 || sub = 0x16 then if v.int ≤ 3 then [] else [0x0005]
  else if sub = 0x18 then
    let s := d.rawReq.2.1
    one ++ (if d.rawOk then (if d.slotSt s = 2 || (d.slotSt s = 1 && (d.tslot s).identHold) then [] else [0x0006]) else [0x0005])
      ++ (if d.nat (titleK 0x18) = 1 || d.nat (titleK 0x18) = 2 then [0x0008] else [])
  else if sub = 0x1B then one
  else if sub = 0x20 then
    (if v.int ≤ 3 then [] else [0x0005])
      ++ (if [0, 1].any fun s => bit v.int.toNat s && (d.slotSt s = 0 || d.slotSt s = 5) then [0x0006] else [])
  else []

/-- The effect of a write in 0x7000. -/
def Dev.writeTitle (d : Dev) (c : Ctx) (sub : Nat) (v : Val) : Dev :=
  let k := titleK sub
  let named := fun (f : Dev → Nat → Dev) => [0, 1].foldl (fun d s => if bit v.int.toNat s then f d s else d) d
  if sub ≤ 0x02 then (d.set k v).slotsFollow c
  else if sub = 0x16 then named fun d s => d.startFlush c s
  else if sub = 0x18 then
    let s := d.rawReq.2.1
    (((d.setN k 1).startFlush c s).ask ⟨s, .raw⟩).titleNext c
  else if sub = 0x1B then
    (d.setB (titleK 0x1A) []).modTslot 0 (fun x => { x with aon := none }) |>.modTslot 1 fun x => { x with aon := none }
  else if sub = 0x20 then named fun d s => (d.startIdent c s).modTslot s fun x => { x with identCmd := true }
  else d.set k v

/-- The live reads of 0x7000. -/
def Dev.readTitle (d : Dev) (sub : Nat) : Option Val :=
  if sub = 0x16 then some (.num (b2n (d.tslot 0).flush.isSome + 2 * b2n (d.tslot 1).flush.isSome : Nat)) else none

/-- R609: at start-up the records that are not empty raise their event and are shown. -/
def Dev.showRecords (d : Dev) (c : Ctx) : Dev :=
  let have' := [0, 1].filter fun s => (d.tslot s).aon.isSome && (d.tslot s).flush.isNone
  if have'.isEmpty then d
  else
    let b := have'.flatMap fun s => match (d.tslot s).aon with
      | some r => r.bytes s
      | none => []
    have'.foldl (fun d s => d.raise c 75 s) (d.setB (titleK 0x1A) b)

end Sys2Proof.Machine
end

