-- ==== Sys2Proof/Machine/Streams.lean ====
section
/-!
DEFINITION. Title cache and multicast streaming (ch 11): fills and verification, cache cycles, streams, destinations,
repair, and the commands of the title port that touch them.
-/
namespace Sys2Proof.Machine

/-- The key of a cache object. -/
def cacheK (sub : Nat) : Nat := 0x7100_00 + sub

/-- The key of a stream's object. -/
def strK (s sub : Nat) : Nat := key 0x7200 s sub

/-- A stream's inner state. -/
def Dev.stream (d : Dev) (s : Nat) : Stream := (d.streams[s]?).getD {}

/-- Change a stream's inner state. -/
def Dev.modStream (d : Dev) (s : Nat) (f : Stream → Stream) : Dev := { d with streams := modifyAt f s d.streams }

/-- A stream's state (Table 11.5): 0 STOPPED, 1 STARTING, 2 RUNNING, 3 COMPLETE, 4 STOPPING, 5 FAILED. -/
def Dev.streamSt (d : Dev) (s : Nat) : Nat := d.nat (strK s 1)

/-- The next block a stream will enqueue (.0E). -/
def Dev.readPos (d : Dev) (s : Nat) : Nat := d.nat (strK s 0x0E)

/-- The identifier of a slot as last read. -/
def Dev.slotIdent (d : Dev) (slot : Nat) : Nat := d.nat (titleK (0x14 + slot))

/-- Change the cache. -/
def Dev.modCache (d : Dev) (f : Cache → Cache) : Dev := { d with cache := f d.cache }

/-- The tag of a stream's block. -/
def Dev.blockTag (d : Dev) (s k : Nat) : CTag := ⟨d.nat (strK s 2), (d.stream s).ident, false, k⟩

/-- The tag of a block's table page (R616). -/
def CTag.pageOf (t : CTag) : CTag := { t with page := true, num := t.num / 1023 }

/-! ## Positions -/

/-- Whether a queued packet is a repair packet (R355). -/
def QPkt.isRepair (q : QPkt) : Bool := bit (fld q.payload 10 1) 1

/-- The packets of a stream's flow queued on a port. -/
def Dev.flowOf (d : Dev) (s p : Nat) : List QPkt := ((d.port p).flows[s]?).getD []

/-- R625: pos of a multicast destination. -/
def Dev.posOfDest (d : Dev) (s p : Nat) : Nat :=
  match (d.flowOf s p).find? fun q => !q.isRepair with
  | some q => fld q.payload 0 4
  | none => d.readPos s

/-- The ports of a bitmap. -/
def portsIn (m : Nat) : List Nat := (upTo 32).filter fun p => bit m p

/-- The multicast destinations of a stream. -/
def Dev.dests (d : Dev) (s : Nat) : List Nat := portsIn (d.nat (strK s 0x0B))

/-- R625, R664: the leader's position. -/
def Dev.leaderPos (d : Dev) (s : Nat) : Option Nat :=
  ((d.dests s).filter fun p => d.portSt p = 3).foldl (fun (o : Option Nat) p =>
    match o with
    | some m => some (max m (d.posOfDest s p))
    | none => some (d.posOfDest s p)) none

/-- R647: a stream whose every block is enqueued and handed over is COMPLETE. -/
def Dev.completeCheck (d : Dev) (c : Ctx) (s : Nat) : Dev :=
  if d.streamSt s = 2 && (d.stream s).stop ≤ d.readPos s && (d.dests s).all fun p => d.posOfDest s p = d.readPos s then
    (d.setN (strK s 1) 3).raise c 79 s
  else d

/-! ## The cache -/

/-- R619: how many entries the cache has. -/
def Dev.cacheSize (d : Dev) : Nat := if d.flag (cacheK 1) then d.nat (cacheK 2) * 256 else 0

/-- R627: the end of a stream's fill window. -/
def Dev.windowEnd (d : Dev) (s : Nat) : Nat := min (d.stream s).stop (d.readPos s + 2 * d.nat (strK s 0x19))

/-- Whether a stream wants a block: in its fill window, or for a repair. -/
def Dev.wants (d : Dev) (s : Nat) (t : CTag) : Bool :=
  t.slot = d.nat (strK s 2) && t.ident = (d.stream s).ident &&
    ((d.streamSt s = 2 && decide (d.readPos s ≤ t.num) && decide (t.num < d.windowEnd s))
      || ((d.streamSt s = 2 || d.streamSt s = 3) && (d.stream s).repairs.any fun r => r.2 = t.num))

/-- R621: whether an entry is pinned. -/
def Dev.pinned (d : Dev) (e : CEnt) : Bool :=
  !e.tag.page && ((upTo 32).any fun s =>
    (d.streamSt s = 2 && d.nat (strK s 2) = e.tag.slot && (d.stream s).ident = e.tag.ident
      && decide (d.readPos s ≤ e.tag.num) && decide (e.tag.num < d.windowEnd s))
    || (d.nat (strK s 2) = e.tag.slot && (d.stream s).ident = e.tag.ident
      && d.ports.any fun x => (((x.flows[s]?).getD []).any fun q => fld q.payload 0 4 = e.tag.num)))

/-- The entry of a tag that a stream may hit; `unv`: one with the deliver-unverified flag. -/
def Cache.entry (x : Cache) (t : CTag) (unv : Bool) : Option CEnt :=
  match x.ents.find? fun e => e.tag = t && !e.unv with
  | some e => some e
  | none => if unv then x.ents.find? fun e => e.tag = t else none

/-- Whether a block carries an unverifiable mark, its own or its page's (R668, R669). -/
def Cache.marked (x : Cache) (t : CTag) : Bool := x.marks.any fun m => m.1 = t || m.1 = t.pageOf

/-- R622: a mark enters; a full list of 256 loses its oldest. -/
def Cache.mark (x : Cache) (t : CTag) (cyc : Nat) : Cache :=
  let rest := x.marks.filter fun m => m.1 ≠ t
  let rest := if 256 ≤ rest.length then
      let old := rest.foldl (fun a m => min a m.2) cyc
      match rest.find? fun m => m.2 = old with
      | some m => rest.erase m
      | none => rest
    else rest
  { x with marks := rest ++ [(t, cyc)] }

/-- Ask for the 8 reads of a fill (R651). -/
def Dev.askFill (d : Dev) (t : CTag) : Dev := (upTo 8).foldl (fun d i => d.ask ⟨t.slot, .fill t.page t.num i⟩) d

/-- R623: start the fill of a table page, unless one is outstanding. -/
def Dev.fillPage (d : Dev) (t : CTag) (table : Nat) (again : Bool) : Dev :=
  if (d.cache.fills.any fun f => f.tag = t) || (d.cache.ready.any fun e => e.tag = t) then d
  else
    let d := d.modCache fun x => { x with fills := x.fills ++ [(⟨t, table + 4096 * t.num, [], again, false⟩ : Fill1)] }
    (d.addTo (cacheK 7) 64 1).askFill t

/-- R623, R651: start the fill of a block; its table page comes first. A block with an unverifiable mark is read for a
stream that delivers it unverified (R671), without the page. -/
def Dev.fillBlock (d : Dev) (s k : Nat) : Dev :=
  let t := d.blockTag s k
  let x := d.stream s
  if (d.cache.fills.any fun f => f.tag = t) || (d.cache.ready.any fun e => e.tag = t) then d
  else
    let pt := t.pageOf
    let marked := d.cache.marked t
    let there := marked || (d.cache.entry pt false).isSome
    let d := if there then d else d.fillPage pt x.table false
    let d := d.modCache fun y => { y with fills := y.fills ++ [(⟨t, x.dataAt + 4096 * k, [], marked, !there⟩ : Fill1)] }
    let d := d.addTo (cacheK 7) 64 1
    if there then d.askFill t else d

/-- R620, R627: a lookup of a stream's block: a hit refreshes it, a miss starts or joins a fill. -/
def Dev.lookupBlock (d : Dev) (cyc s k : Nat) : Dev :=
  let t := d.blockTag s k
  let unv := d.flag (strK s 7)
  match d.cache.entry t unv with
  | some e =>
    (d.modCache fun x => { x with ents := x.ents.map fun y => if y.idx = e.idx then { y with hit := cyc } else y }).addTo (cacheK 6) 64 1
  | none =>
    if d.cache.marked t && !unv then
      d.modCache fun x => { x with marks := x.marks.map fun m => if m.1 = t || m.1 = t.pageOf then (m.1, cyc) else m }
    else if d.cache.marked t && (d.cache.ready.any fun e => e.tag = t) then d
    else d.fillBlock s k

/-- R622: the place a fill takes: the first free one, else the unpinned one hit longest ago. -/
def Dev.place (d : Dev) : Option (Nat × Option CEnt) :=
  match (upTo d.cacheSize).find? fun i => !(d.cache.ents.any fun e => e.idx = i) with
  | some i => some (i, none)
  | none =>
    (d.cache.ents.filter fun e => !d.pinned e).foldl (fun (o : Option (Nat × Option CEnt)) e =>
      match o with
      | some (_, some b) => if e.hit < b.hit || (e.hit = b.hit && e.idx < b.idx) then some (e.idx, some e) else o
      | _ => some (e.idx, some e)) none

/-- R620: a completed fill enters, where there is a place. -/
def Dev.enterFill (d : Dev) (cyc : Nat) (e : CEnt) : Dev :=
  match d.place with
  | some (i, old) =>
    let d := d.modCache fun x => { x with
      ready := x.ready.erase e, ents := (x.ents.filter fun y => y.idx ≠ i) ++ [{ e with idx := i, hit := cyc }] }
    if old.isSome then d.setN (cacheK 8) (setBits (d.nat (cacheK 8)) 0 16 (min 65535 (bits (d.nat (cacheK 8)) 0 16 + 1))) else d
  | none => d

/-- Fills that wait for a page that is there now ask for their reads; those of a page found unverifiable end (R669). -/
def Dev.wakeFills (d : Dev) : Dev :=
  d.cache.fills.foldl (fun d f =>
    if f.waits && (d.cache.entry f.tag.pageOf false).isSome then
      (d.modCache fun x => { x with fills := x.fills.map fun g => if g.tag = f.tag then { g with waits := false } else g }).askFill f.tag
    else if f.waits && d.cache.marked f.tag then d.modCache fun x => { x with fills := x.fills.filter fun g => g.tag ≠ f.tag }
    else d) d

/-- R620, R665: entries free by age, and those of an identification that no longer holds; pinned ones stay. -/
def Dev.ageCache (d : Dev) (cyc : Nat) : Dev :=
  let old := fun (h : Nat) => decide (h + d.nat (cacheK 3) * 1000000 ≤ cyc)
  let stale := fun (t : CTag) => d.slotIdent t.slot ≠ t.ident
  let free := fun (e : CEnt) => !d.pinned e && (old e.hit || stale e.tag)
  let aged := (d.cache.ents.filter fun e => free e && old e.hit).length
  let d' := d.modCache fun x => { x with
    ents := x.ents.filter fun e => !free e, marks := x.marks.filter fun m => !(old m.2 || stale m.1) }
  if aged = 0 then d'
  else d'.setN (cacheK 8) (setBits (d'.nat (cacheK 8)) 16 16 (min 65535 (bits (d'.nat (cacheK 8)) 16 16 + aged)))

/-! ## Putting blocks into queues -/

/-- R355, R626, R631: the 8 packets of a block; bit 0 of `flags`: unverified, bit 1: repair. -/
def blockPkts (s k flags t : Nat) (data : List Byte) : List QPkt :=
  (upTo 8).map fun i =>
    ⟨5, s, i, le 4 k ++ le 4 (crc32c data) ++ [byte s, byte i, byte flags, 0#8] ++ (data.drop (512 * i)).take 512, t⟩

/-- The packets join a port's flow. -/
def Dev.toFlow (d : Dev) (s p : Nat) (l : List QPkt) : Dev :=
  d.modPort p fun x => { x with flows := modifyAt (fun q => q ++ l) s x.flows }

/-- Remove packets of a stream's flow from a port; answers how many. -/
def Dev.cutFlow (d : Dev) (s p : Nat) (f : QPkt → Bool) : Dev × Nat :=
  let l := d.flowOf s p
  (d.modPort p fun x => { x with flows := modifyAt (fun q => q.filter fun y => !f y) s x.flows }, (l.filter f).length)

/-- Whether packets of flow s enqueued at a port are discarded: the port is DISABLED or FAILED (R629), or its role sends
no TITLE DATA (R343). -/
def Dev.takesNoTitle (d : Dev) (p : Nat) : Bool := d.portSt p = 0 || d.portSt p = 7 || !sends (d.role p) 5 0

/-- R628, R629: one destination at the enqueue of block r: dropped when its backlog would pass the lag window or its
port takes nothing. -/
def Dev.enqueueAt (d : Dev) (c : Ctx) (s p r : Nat) (pkts : List QPkt) : Dev :=
  if d.nat (strK s 6) < r + 1 - d.posOfDest s p then
    let q := d.cutFlow s p fun y => !y.isRepair
    q.1.dropDest c s p q.2
  else if d.takesNoTitle p then d.dropDest c s p 8
  else d.toFlow s p pkts

/-- R674: the frame memory read of a cache entry (0 to 3 as in `checkRead`): an uncorrectable one frees the entry. -/
def Dev.readEnt (d : Dev) (c : Ctx) (e : CEnt) (mem : Nat) : Dev :=
  let d := d.checkRead c mem
  if mem = 2 then d.modCache fun x => { x with ents := x.ents.filter fun y => y.idx ≠ e.idx } else d

/-- How the read of the entry at a place turns out: 2 if it is in `bad`, 1 if it is in `again`. -/
def memOf (bad again : List Nat) (i : Nat) : Nat := if bad.contains i then 2 else if again.contains i then 1 else 0

/-- STREAM_ENQUEUE's effect (R626, R628, R670, R671, R674); `mem`: how the read of the block's entry turns out. -/
def Dev.enqueue (d : Dev) (c : Ctx) (s mem : Nat) : Dev :=
  let r := d.readPos s
  if d.streamSt s ≠ 2 || (d.stream s).stop ≤ r then d
  else
    let t := d.blockTag s r
    let unv := d.flag (strK s 7)
    match d.cache.entry t unv with
    | some e =>
      match d.leaderPos s with
      | some m =>
        if d.nat (strK s 0x19) ≤ r - m then d
        else if mem = 2 then d.readEnt c e mem
        else
          let d := d.readEnt c e mem
          let pkts := blockPkts s r (b2n e.unv) c.t e.data
          let d := (d.dests s).foldl (fun d p => d.enqueueAt c s p r pkts) d
          let d := (d.setN (strK s 0x0E) (r + 1)).inc (strK s 0x11)
          (if e.unv then d.inc (strK s 0x14) else d).completeCheck c s
      | none => d
    | none =>
      if d.cache.marked t && !unv then
        let d := ((d.setN (strK s 0x0E) (r + 1)).inc (strK s 0x12)).setN (strK s 0x13) r
        (d.setN (strK s 0x0D) (d.nat (strK s 0x0D) ||| d.nat (strK s 0x0B))).completeCheck c s
      else d

/-- R633, R630: the repair blocks of one destination that are there move into its flow, in order; one whose entry does
not read waits for its new fill (R674). -/
def Dev.repairsOf (d : Dev) (c : Ctx) (s p : Nat) (mem : Nat → Nat) : Nat → Dev
  | 0 => d
  | fuel + 1 =>
    match (d.stream s).repairs.find? fun r => r.1 = p with
    | none => d
    | some r =>
      let t := d.blockTag s r.2
      let unv := d.flag (strK s 7)
      let gone := d.modStream s fun x => { x with repairs := x.repairs.erase r }
      match d.cache.entry t unv with
      | some e =>
        if d.takesNoTitle p then (gone.addTo (strK s 0x17) 32 8).repairsOf c s p mem fuel
        else if mem e.idx = 2 then d.readEnt c e (mem e.idx)
        else
          let d := gone.readEnt c e (mem e.idx)
          ((d.toFlow s p (blockPkts s r.2 (b2n e.unv + 2) c.t e.data)).inc (strK s 0x15)).repairsOf c s p mem fuel
      | none =>
        if d.cache.marked t && !unv then
          (gone.setN (strK s 0x0D) (setBit (d.nat (strK s 0x0D)) p true)).repairsOf c s p mem fuel
        else d

/-- The repair blocks of every stream. -/
def Dev.serveRepairs (d : Dev) (c : Ctx) (mem : Nat → Nat) : Dev :=
  (upTo 32).foldl (fun d s =>
    (portsIn (d.nat (strK s 0x0B) ||| d.nat (strK s 0x0C))).foldl (fun d p => d.repairsOf c s p mem 256) d) d

/-! ## Failing and stopping -/

/-- R648: title stream reads that no stream wants any more are withdrawn. -/
def Dev.withdraw (d : Dev) : Dev :=
  let live := fun (t : CTag) =>
    if t.page then d.cache.fills.any fun f => f.waits && f.tag.pageOf = t && (upTo 32).any fun s => d.wants s f.tag
    else (upTo 32).any fun s => d.wants s t
  let dead := d.cache.fills.filter fun f => !live f.tag
  let d := d.modCache fun x => { x with fills := x.fills.filter fun f => live f.tag }
  { d with title := { d.title with queue := d.title.queue.filter fun r => match r.kind with
      | .fill page num _ => !(dead.any fun f => f.tag.slot = r.slot && f.tag.page = page && f.tag.num = num)
      | .header s _ => d.streamSt s = 1
      | _ => true } }

/-- R672, R673, R665: a stream fails for a reason. -/
def Dev.failStream (d : Dev) (c : Ctx) (s reason : Nat) : Dev :=
  (((d.setN (strK s 1) 5).setN (strK s 0x18) reason).raise c 81 s).withdraw

/-- R665, R673: the streams of a slot that are starting, running or complete fail. -/
def Dev.failStreamsOf (d : Dev) (c : Ctx) (slot reason : Nat) : Dev :=
  (upTo 32).foldl (fun d s =>
    let st := d.streamSt s
    if (st = 1 || st = 2 || st = 3) && d.nat (strK s 2) = slot then d.failStream c s reason else d) d

/-- R673: the streams of a slot that has failed. -/
def Dev.streamsFollow (d : Dev) (c : Ctx) : Dev :=
  [0, 1].foldl (fun d s => if d.slotSt s = 5 then d.failStreamsOf c s 3 else d) d

/-- R665, R619: the unpinned entries and the marks of a slot are freed. -/
def Dev.freeSlot (d : Dev) (slot : Nat) : Dev :=
  d.modCache fun x => { x with
    ents := x.ents.filter fun e => e.tag.slot ≠ slot || d.pinned e
    marks := x.marks.filter fun m => m.1.slot ≠ slot }

/-! ## Headers and fills -/

/-- R618: whether a header is valid for a slot. -/
def Dev.headerOk (d : Dev) (slot : Nat) (b : List Byte) : Bool :=
  let n := fld b 0x10 4
  let t := fld b 0x14 4
  let a := fld b 0x18 4
  let tl := 4096 * ceilDiv n 1023
  let al := 4096 * n
  fld b 0 4 = 0x4D495446 && fld b 4 2 = 1 && fld b 0xFFC 4 = crc32c (b.take 0xFFC) && fld b 8 8 = d.slotIdent slot
    && 4096 ≤ t && 4096 ≤ a && (t + tl ≤ a || a + al ≤ t) && t + tl ≤ d.titleTop && a + al ≤ d.titleTop

/-- Ask for the 8 reads of a header. -/
def Dev.askHeader (d : Dev) (s : Nat) : Dev := (upTo 8).foldl (fun d i => d.ask ⟨d.nat (strK s 2), .header s i⟩) d

/-- HEADER_CHECK (R645, R672): the header of a starting stream has been read. -/
def execHeaderCheck (dt s : Nat) (st : State) : Host.Outcome State Fault Refusal :=
  st.actOn (s < 32) dt fun c d =>
    let x := d.stream s
    if d.streamSt s ≠ 1 || x.hdr.length < 4096 then d
    else
      let slot := d.nat (strK s 2)
      if d.headerOk slot x.hdr then
        let n := fld x.hdr 0x10 4
        let first := d.nat (strK s 3)
        let cnt := d.nat (strK s 4)
        let stop := if cnt = 0 then n else first + cnt
        let d := if x.again then d.transient else d
        if n < stop || n ≤ first then d.failStream c s 4
        else
          (((d.modStream s fun x => { x with
            n := n, table := fld x.hdr 0x14 4, dataAt := fld x.hdr 0x18 4, ident := d.slotIdent slot, stop := stop, hdr := [] }).setN (strK s 1) 2).setN
              (strK s 0x0E) first).completeCheck c s
      else if x.again then d.failStream c s 1
      else (((d.modStream s fun x => { x with hdr := [], again := true }).askHeader s).titleNext c)

/-- A verified or delivered entry waits for the next cycle. -/
def Dev.makeReady (d : Dev) (t : CTag) (data : List Byte) (unv : Bool) : Dev :=
  d.modCache fun x => { x with ready := x.ready ++ [(⟨0, t, 0, data, unv⟩ : CEnt)] }

/-- FILL_COMPLETE's effect on a page (R669). -/
def Dev.pageDone (d : Dev) (c : Ctx) (f : Fill1) : Dev :=
  let drop := d.modCache fun x => { x with fills := x.fills.filter fun g => g.tag ≠ f.tag }
  if crc32c (f.data.take 4092) = fld f.data 4092 4 then
    let d := drop.makeReady f.tag f.data false
    if f.again then (d.inc (cacheK 9)).transient else d
  else if !f.again then
    (d.modCache fun x => { x with fills := x.fills.map fun g => if g.tag = f.tag then { g with data := [], again := true } else g }).askFill f.tag
  else
    ((drop.modCache fun x => x.mark f.tag (c.t / 400)).inc (cacheK 0x0B)).raise c 77 (f.tag.num % 2 ^ 20 + 2 ^ 20 + f.tag.slot * 2 ^ 21)

/-- FILL_COMPLETE's effect on a block (R650, R668, R671, R674); `mem`: how the read of its page's entry turns out. -/
def Dev.blockDone (d : Dev) (c : Ctx) (f : Fill1) (mem : Nat) : Dev :=
  let pt := f.tag.pageOf
  let drop := d.modCache fun x => { x with fills := x.fills.filter fun g => g.tag ≠ f.tag }
  let table := match (upTo 32).find? fun s => d.wants s f.tag with
    | some s => (d.stream s).table
    | none => 0
  if d.cache.marked f.tag then drop.makeReady f.tag f.data true
  else match d.cache.entry pt false with
  | none => d.fillPage pt table false
  | some e =>
    if mem = 2 then (d.readEnt c e mem).fillPage pt table false
    else
    let d := d.readEnt c e mem
    let drop := drop.readEnt c e mem
    if crc32c f.data = fld e.data (4 * (f.tag.num % 1023)) 4 then
      let d := drop.makeReady f.tag f.data false
      if f.again then (d.inc (cacheK 9)).transient else d
    else if !f.again then
      let d := d.modCache fun x => { x with
        fills := x.fills.map fun g => if g.tag = f.tag then { g with data := [], again := true, waits := true } else g
        ents := x.ents.filter fun y => y.tag ≠ pt }
      d.fillPage pt table false
    else
      let d := ((drop.modCache fun x => x.mark f.tag (c.t / 400)).inc (cacheK 0x0A)).raise c 77 (f.tag.num % 2 ^ 20 + f.tag.slot * 2 ^ 21)
      if (upTo 32).any fun s => d.streamSt s ≠ 0 && d.flag (strK s 7) && d.nat (strK s 2) = f.tag.slot then
        d.makeReady f.tag f.data true
      else d

/-- FILL_COMPLETE (R650, R674): the reads of the fill of a block or page of a slot have ended. -/
def execFillComplete (dt slot : Nat) (page : Bool) (num mem : Nat) (s : State) : Host.Outcome State Fault Refusal :=
  s.actOn (slot < 2) dt fun c d =>
    match d.cache.fills.find? fun f => f.tag.slot = slot && f.tag.page = page && f.tag.num = num with
    | some f =>
      if f.waits || f.data.length < 4096 then d
      else
        let d := d.addTo (cacheK 0x0C) 64 4096
        (if page then d.pageDone c f else d.blockDone c f mem).titleNext c
    | none => d

/-- R620: whether a cycle is due: one in each µs of local time. -/
def Dev.cycleDue (d : Dev) (c : Ctx) : Bool :=
  match d.cache.cyc with
  | some y => decide (y < c.t / 400)
  | none => true

/-- CACHE_CYCLE (R620, R674): completed fills enter, lookups, ageing; `bad`, `again`: the places of the entries whose
read for a repair is uncorrectable, or good at its retry. -/
def execCacheCycle (dt : Nat) (bad again : List Nat) (s : State) : Host.Outcome State Fault Refusal :=
  s.act dt fun c d =>
    if !d.flag (cacheK 1) || d.videoDown || d.rst.fmOff || !d.cycleDue c then d
    else
      let cyc := c.t / 400
      let d := d.modCache fun x => { x with cyc := some cyc }
      let d := d.cache.ready.foldl (fun d e => d.enterFill cyc e) d
      let d := d.wakeFills
      let d := (upTo 32).foldl (fun d s =>
        let d := if d.streamSt s = 2 then
            (upTo (d.windowEnd s - d.readPos s)).foldl (fun d i => d.lookupBlock cyc s (d.readPos s + i)) d
          else d
        (d.stream s).repairs.foldl (fun d r => d.lookupBlock cyc s r.2) d) d
      ((d.serveRepairs c (memOf bad again)).ageCache cyc).titleNext c

/-! ## The title port's transactions -/

/-- A part of a title stream read returns; a withdrawn one is discarded. -/
def Dev.streamPart (d : Dev) (r : TReq) (data : List Byte) : Dev :=
  match r.kind with
  | .fill page num part =>
    d.modCache fun x => { x with fills := x.fills.map fun f =>
      if f.tag.slot = r.slot && f.tag.page = page && f.tag.num = num && f.data.length = 512 * part then
        { f with data := f.data ++ data.take 512 } else f }
  | .header s part =>
    if d.streamSt s = 1 then d.modStream s fun x => if x.hdr.length = 512 * part then { x with hdr := x.hdr ++ data.take 512 } else x
    else d
  | _ => d

/-- R665: what an identification means for the cache and the streams. -/
def Dev.identFollow (d : Dev) (c : Ctx) (s old : Nat) : Dev :=
  let st := d.slotSt s
  if (2 ≤ st && st ≠ 2) || (st = 2 && d.slotIdent s ≠ old) then
    (d.failStreamsOf c s 2).freeSlot s
  else d

/-- R585: the transaction in progress ends with the data read; `stalls` TPRDY stalls were seen in it (R583). -/
def Dev.txnEnd (d : Dev) (c : Ctx) (data : List Byte) (stalls : Nat) : Dev :=
  match d.title.cur with
  | none => d
  | some (r, again) =>
    let old := d.slotIdent r.slot
    let d := { d with title := { d.title with cur := none } }
    let d := if d.title.waits then d.addTo (titleK 0x1F) 32 stalls else d
    let d := if again then (d.inc (titleK 0x1D)).transient else d
    let d := (d.streamPart r data).titleDone c r data
    let d := if r.kind = .ident && d.slotSt r.slot ≠ 1 then d.identFollow c r.slot old else d
    ((d.finishClose r.slot).streamsFollow c).titleNext c

/-- TITLE_TRANSACTION_END (R585). -/
def execTitleTransactionEnd (dt : Nat) (data : List Byte) (stalls : Nat) (s : State) : Host.Outcome State Fault Refusal :=
  s.act dt fun c d => if d.titleTxnDue c then d.txnEnd c data stalls else d

/-- TPRDY_TIMEOUT (R584, R604, R605). -/
def execTprdyTimeout (dt : Nat) (s : State) : Host.Outcome State Fault Refusal :=
  s.act dt fun c d =>
    if d.tprdyDue c then ((d.inc (titleK 0x1F)).titleTimeout c).streamsFollow c else d

/-- STROBE_TIMEOUT (R584). -/
def execStrobeTimeout (dt : Nat) (s : State) : Host.Outcome State Fault Refusal :=
  s.act dt fun c d => if d.strobeDue c then (d.titleTimeout c).streamsFollow c else d

/-- STATUS_POLL (R568, R605): the flash status read at a poll of a slot's flush. -/
def execStatusPoll (dt slot status : Nat) (s : State) : Host.Outcome State Fault Refusal :=
  s.actOn (slot < 2) dt fun c d => (d.poll c slot status).streamsFollow c

/-! ## Streams -/

/-- STREAM_ENQUEUE (R626, R674). -/
def execStreamEnqueue (dt s mem : Nat) (st : State) : Host.Outcome State Fault Refusal :=
  st.actOn (s < 32) dt fun c d => d.enqueue c s mem

/-- TITLE_STREAM_STOPPED (R648): every completion of a stopping stream has returned. -/
def execTitleStreamStopped (dt s : Nat) (st : State) : Host.Outcome State Fault Refusal :=
  st.actOn (s < 32) dt fun c d =>
    let slot := d.nat (strK s 2)
    let busy : Bool := match d.title.cur with
      | some (r, _) => r.slot = slot && (match r.kind with
          | .header t _ => t = s
          | .fill page num _ => !(d.cache.fills.any fun f => f.tag.slot = slot && f.tag.page = page && f.tag.num = num)
          | _ => false)
      | none => false
    if d.streamSt s = 4 && !busy then (d.setN (strK s 1) 0).raise c 80 s else d

/-- The status of one range of a repair request (Table 11.4) and the blocks it queues. -/
def Dev.repairRange (d : Dev) (s p first cnt : Nat) : Nat × List Nat :=
  let st := d.streamSt s
  let member := bit (d.nat (strK s 0x0B) ||| d.nat (strK s 0x0C)) p
  let queued := ((d.stream s).repairs.filter fun r => r.1 = p).length + ceilDiv ((d.flowOf s p).filter QPkt.isRepair).length 8
  let blocks := (upTo cnt).map (first + ·)
  let good := blocks.filter fun k => d.flag (strK s 7) || !d.cache.marked (d.blockTag s k)
  if st ≠ 2 && st ≠ 3 then (5, [])
  else if !member then (4, [])
  else if first < d.nat (strK s 3) || (d.stream s).stop < first + cnt || cnt = 0 || 256 < cnt then (2, [])
  else if 256 < queued + good.length then (3, [])
  else (b2n (good.length ≠ cnt), good)

/-- REPAIR_REQUEST (R632 to R634, R674): the request is served and answered; `bad`, `again` as in CACHE_CYCLE. -/
def execRepairRequest (dt p : Nat) (k : Pkt) (bad again : List Nat) (s : State) : Host.Outcome State Fault Refusal :=
  s.actOn (p < s.portCount) dt fun c d =>
    let r := d.rxPacket p 6 1 { k with fieldA := 2 }
    let d := r.1
    let b := k.payload
    let n := fld b 3 1
    let str := fld b 2 1
    if !r.2 then d
    else if 31 < str || n = 0 || 16 < n || b.length ≠ 8 + 8 * n then d.inc (linkK p 0x09)
    else
      let q := (upTo n).foldl (fun (a : Dev × List Byte) i =>
        let x := a.1.repairRange str p (fld b (8 + 8 * i) 4) (fld b (12 + 8 * i) 2)
        let d := a.1.modStream str fun y => { y with repairs := y.repairs ++ x.2.map fun m => (p, m) }
        let d := if 2 ≤ x.1 then d.inc (strK str 0x16) else d
        (d, a.2 ++ le 1 x.1 ++ le 1 0 ++ le 2 x.2.length)) (d, [])
      let reply := b.take 4 ++ zeros 4 ++ q.2
      (q.1.queueMgmt p ⟨6, 3, 0, reply, c.t⟩).serveRepairs c (memOf bad again)

/-- PACKET_END (R636): the port's next packet; a stream may be COMPLETE. -/
def execPacketEnd (dt p : Nat) (s : State) : Host.Outcome State Fault Refusal :=
  s.actOn (p < s.portCount) dt fun c d =>
    if d.portSt p ≠ 3 then d
    else (upTo 32).foldl (fun d s => d.completeCheck c s) (d.nextPacket c p)

/-! ## Objects -/

/-- R653: the pins of the streams that are not STOPPED, and of stream `s`. -/
def Dev.pinBudget (d : Dev) (s : Nat) : Nat :=
  ((upTo 32).map fun t => if d.streamSt t ≠ 0 || t = s then d.nat (strK t 6) + 2 * d.nat (strK t 0x19) else 0).sum

/-- The refusals of a write in 0x7100 to 0x7300 beside the dictionary's. -/
def Dev.checkStreams (d : Dev) (c : Ctx) (base n sub : Nat) (v : Val) : List Nat :=
  if base = 0x7100 then
    if sub = 0x01 then
      if v.int = 0 then (if d.flag (cacheK 1) && (upTo 32).any fun s => d.streamSt s ≠ 0 then [0x0006] else [])
      else if !d.flag (cacheK 1) && galleyArea (d.nat (cacheK 2)) < d.galleysHeld c 24 then [0x000B] else []
    else if sub = 0x02 then (if v.int % 64 = 0 then [] else [0x0005])
    else if sub = 0x0D then (if v.int ≤ 3 then [] else [0x0005])
    else []
  else if base = 0x7200 then
    if sub = 0x01 then
      if v = .num 1 then
        let slot := d.nat (strK n 2)
        (if d.streamSt n ≠ 0 then [0x0008] else [])
          ++ (if !d.flag (cacheK 1) || d.slotSt slot ≠ 2 || (portsIn (d.nat (strK n 5))).any (fun p => d.role p = 1) then [0x0006] else [])
          ++ (if d.cacheSize < 2 * d.pinBudget n then [0x000B] else [])
      else if v = .num 2 then []
      else [0x0005]
    else if (sub = 0x05 || sub = 0x1A) && c.s12 && 65535 < v.int then [0x0005]
    else []
  else []

/-- R648: a stop. -/
def Dev.stopStream (d : Dev) (s : Nat) : Dev :=
  if d.streamSt s = 0 || d.streamSt s = 4 then d
  else
    let d := (d.setN (strK s 1) 4).modStream s fun x => { x with repairs := [], hdr := [] }
    let d := (upTo 32).foldl (fun d p =>
      let q := d.cutFlow s p fun _ => true
      -- R666: a reply still queued is cancelled
      (q.1.addTo (strK s 0x17) 32 q.2).modPort p fun x => { x with
        mgmt := x.mgmt.filter fun m => !(m.ty = 6 && m.fieldA = 3 && fld m.payload 2 1 = s) }) d
    d.withdraw

/-- R655: the destination set of a stream that is not STOPPED changes port by port. -/
def Dev.setDests (d : Dev) (s v : Nat) : Dev :=
  let old := d.nat (strK s 5)
  let d := d.setN (strK s 5) v
  let st := d.streamSt s
  if !(1 ≤ st && st ≤ 3) then d
  else (upTo 32).foldl (fun d p =>
    if bit v p && !bit old p then
      let d := d.setN (strK s 0x0B) (setBit (d.nat (strK s 0x0B)) p true)
      if d.readPos s ≠ d.nat (strK s 3) then d.setN (strK s 0x0D) (setBit (d.nat (strK s 0x0D)) p true) else d
    else if !bit v p && bit old p then
      let q := d.cutFlow s p fun _ => true
      let d := (q.1.addTo (strK s 0x17) 32 q.2).modStream s fun x => { x with repairs := x.repairs.filter fun r => r.1 ≠ p }
      (d.setN (strK s 0x0B) (setBit (d.nat (strK s 0x0B)) p false)).setN (strK s 0x0C) (setBit (d.nat (strK s 0x0C)) p false)
    else d) d

/-- The effect of a write in 0x7100 to 0x7300. -/
def Dev.writeStreams (d : Dev) (c : Ctx) (base n sub : Nat) (v : Val) : Dev :=
  let k := key base n sub
  if base = 0x7100 then
    if sub = 0x01 then
      let d := d.set k v
      if v.int = 0 then d.modCache fun _ => {} else d
    else if sub = 0x0D then [0, 1].foldl (fun d s => if bit v.int.toNat s then d.freeSlot s else d) d
    else d.set k v
  else if base = 0x7200 then
    if sub = 0x01 then
      if v = .num 1 then
        let d := (((d.setN k 1).setN (strK n 0x0B) (d.nat (strK n 5))).setN (strK n 0x0C) 0).setN (strK n 0x0D) 0
        let d := ((d.setN (strK n 0x0E) (d.nat (strK n 3))).setN (strK n 0x18) 0).modStream n fun _ => {}
        (d.askHeader n).titleNext c
      else (d.stopStream n).titleNext c
    else if sub = 0x05 then (d.setDests n v.int.toNat).completeCheck c n
    else if sub = 0x1A then
      let m := v.int.toNat &&& d.nat (strK n 0x0C)
      (d.setN (strK n 0x0B) (d.nat (strK n 0x0B) ||| m)).setN (strK n 0x0C) (d.nat (strK n 0x0C) - m)
    else d.set k v
  else d.set k v

/-- The live reads of 0x7100 to 0x7300. -/
def Dev.readStreams (d : Dev) (c : Ctx) (base n sub : Nat) : Option Val :=
  if base = 0x7100 then
    if sub = 0x04 then some (.num d.cache.ents.length)
    else if sub = 0x05 then some (.num (d.cache.ents.filter d.pinned).length)
    else none
  else if base = 0x7200 then
    if sub = 0x0F then some (.num ((d.leaderPos n).getD 0))
    else if sub = 0x10 then
      some (.bytes (if d.streamSt n = 0 then [] else (upTo 32).flatMap fun p =>
        le 4 (if bit (d.nat (strK n 0x0B)) p then d.posOfDest n p else 0xFFFFFFFF)))
    else none
  else
    let v := d.active
    let s := v.strict c n
    let r := payloadMbit (d.nat (portK n 4)) (d.nat (portK n 5)) * 1000000
    if sub = 0x03 then some (.num (ceilDiv s.1 (s.2 * 1000000) : Nat))
    else if sub = 0x04 then some (.num (min 65535 (roundDivN (10000 * s.1) (s.2 * r)) : Nat))
    else if sub = 0x05 then some (.num (d.flowsReady c n))
    else none

end Sys2Proof.Machine
end

