-- ==== Sys2Proof/Machine/Start.lean ====
section
/-!
DEFINITION. The start of the video path at the configuration load and on leaving STANDBY (R223, R266, R268, R333, R335,
R446, R448, R502 to R504, R552, R553), its stop on entering STANDBY (Table 14.2), and the loaded sets that break a
dependency (R941).
-/
namespace Sys2Proof.Machine

/-! ## Loaded sets that break a dependency (R941) -/

/-- The active values of the staged class, as entries. -/
def Dev.stagedClass (d : Dev) (c : Ctx) : List Ent :=
  d.obj.filterMap fun p => match lookup c.s12 p.1 with
    | .row _ _ o => if o.acc = .rws then some ⟨p.1, p.2, 0⟩ else none
    | _ => none

/-- Every enabled port and channel taken as started: what the dependencies of the enables are judged over. -/
def Dev.asStarted (d : Dev) (c : Ctx) : Dev :=
  let d := (portsOf c).foldl (fun d p => if d.flag (portK p 1) && !d.portOn p then d.setPort p 1 else d) d
  (chansOf c).foldl (fun d n => if d.flag (chanK n 1) && d.chanSt n = 0 then d.setN (chanK n 0x0C) 1 else d) d

/-- The genlock frame rate's objects. -/
def rateKeys : List Nat := [0x2110_03, 0x2110_04]

/-- R941: the sets of objects whose dependency the active values break, each by all its objects: the genlock rate (R209),
references (R208), mark offsets (R204), synthesizer phases (R230), ports (R271, R272), captures (R394, R429), TDM ports
(0x6200+t.01), the cache (R652), formes and totals (Table 8.7, R641, R848). -/
def Dev.brokenSets (d : Dev) (c : Ctx) : List (List Nat) :=
  let a := d.asStarted c
  let l := d.stagedClass c
  let before := a.clear (l.map fun e => e.key)
  let of := fun (is : List Nat) (bad : Nat → Bool) (ks : Nat → List Nat) => (is.filter bad).map ks
  let chan := fun n => [1, 2, 3, 4, 5, 6, 7].map (chanK n)
  let port := fun p => [1, 3, 4, 5].map (portK p)
  let on := a.chansOn c
  of [0] (fun _ => !(decide (20 * d.rateDen ≤ d.rateNum) && decide (d.rateNum ≤ 480 * d.rateDen))) (fun _ => rateKeys)
    ++ of (upTo 8) (fun r => d.flag (key 0x2100 r 1) && !d.refFits r d.rateNum d.rateDen)
      (fun r => [1, 4, 5, 0x14].map (key 0x2100 r) ++ rateKeys)
    ++ of (upTo 4) (fun m => decide (d.framePeriod.1 < (d.int (key 0x2120 m 2)).natAbs * d.framePeriod.2))
      (fun m => key 0x2120 m 2 :: rateKeys)
    ++ of (upTo 4) (fun y => decide (d.nat (synK y 7) ≤ d.nat (synK y 0x0E)) && d.nat (synK y 0x0E) ≠ 0) (fun y => [synK y 7, synK y 0x0E])
    ++ of (upTo 4) (fun y => decide (d.nat (synK y 8) ≤ d.nat (synK y 0x0F)) && d.nat (synK y 0x0F) ≠ 0) (fun y => [synK y 8, synK y 0x0F])
    ++ of (portsOf c) (fun p => d.flag (portK p 1) && a.enableRefusals c p ≠ []) port
    ++ of (chansOf c) (fun n => !geometryFits (d.nat (chanK n 4)) (d.nat (chanK n 5)) (d.nat (chanK n 7))) (fun n => [4, 5, 7].map (chanK n))
    ++ of (chansOf c) (fun n => d.flag (chanK n 1) && (a.captureRefusals c n).contains 0x0006)
      (fun n => [chanK n 1, chanK n 2, portK (d.nat (chanK n 2)) 2])
    ++ of (chansOf c) (fun n => d.flag (chanK n 1) && (a.captureRefusals c n).contains 0x000B)
      (fun _ => on.flatMap chan ++ [cacheK 1, cacheK 2])
    ++ of (upTo 4) (fun t => d.flag (tdmK t 1) && d.checkAudio c 0x6200 t 1 (.num 1) ≠ [])
      (fun t => [1, 2, 3].map (tdmK t) ++ [0x6300_01, 0x6300_02])
    ++ of [0] (fun _ => d.flag (cacheK 1) && decide (galleyArea (d.nat (cacheK 2)) < a.galleysHeld c 24))
      (fun _ => [cacheK 1, cacheK 2] ++ on.flatMap chan)
    ++ ((formesOf c).flatMap fun n => if d.flag (formeK n 1) then before.checkForme c l n else []).map Prod.snd
    ++ (before.checkTotals c l ++ before.checkAdmission c l ++ d.checkExpected c d.active).map Prod.snd

/-- The loaded value of a key, if its set is held aside: the value read back and saved (R941). -/
def Dev.asideVal (d : Dev) (k : Nat) : Option Val :=
  (d.rst.aside.flatMap Prod.snd).find? (fun e => e.1 = k) |>.map Prod.snd

/-- One set is put aside: its objects act at their defaults, and the mismatch is raised (R53). -/
def Dev.putAside (d : Dev) (c : Ctx) (ks : List Nat) : Dev :=
  let es := (d.obj.filter fun p => ks.contains p.1)
  match ks with
  | [] => d
  | k :: r =>
    if es.isEmpty then d
    else
      let low := r.foldl min k
      ({ (d.clear ks) with rst := { d.rst with aside := d.rst.aside ++ [(low, es)] } }).held c low

/-- R941: the loaded set is judged; a set that falls to its defaults may leave another broken, until none is left. Every
round takes at least one object. -/
def Dev.judgeRounds (d : Dev) (c : Ctx) : Nat → Dev
  | 0 => d
  | n + 1 =>
    let bs := (d.brokenSets c).filter fun ks => d.obj.any fun p => ks.contains p.1
    if bs.isEmpty then d else Dev.judgeRounds (bs.foldl (fun d ks => d.putAside c ks) d) c n

/-- R941: the loaded set is judged as a whole. -/
def Dev.judgeLoaded (d : Dev) (c : Ctx) : Dev := d.judgeRounds c d.obj.length

/-- A loaded value takes effect: an enable starts its block, any other object takes its value. -/
def Dev.takeLoaded (d : Dev) (c : Ctx) (k : Nat) (v : Val) : Dev :=
  match lookup c.s12 k with
  | .row base n o =>
    if o.sub = 1 && base = 0x2100 then d.writeGenlock c base n 1 v
    else if o.sub = 1 && base = 0x3000 then d.writeLanes c base n 1 v
    else if o.sub = 1 && base = 0x4000 then d.writeCapture n 1 v
    else if o.sub = 1 && base = 0x6200 then d.writeAudio base n 1 v
    else if o.sub = 1 && base = 0x7100 then d.writeStreams c base n 1 v
    else d.set k v
  | _ => d

/-- The device with objects at values. -/
def Dev.setObjs (d : Dev) (l : List (Nat × Val)) : Dev := l.foldl (fun d e => d.set e.1 e.2) d

/-- R503: a forme whose loaded set takes effect now starts where auto-run has started the others. -/
def Dev.startLoaded (d : Dev) (c : Ctx) (g : List (Nat × Val)) : Dev :=
  if !(d.rst.video && d.flag 0x1010_06 && d.nat 0x1020_05 ≠ 0 && !d.flag 0x1040_0A && !d.rst.autorun) then d
  else (formesOf c).foldl (fun d n =>
    if (g.any fun e => e.1 = formeK n 1) && d.flag (formeK n 1) && !d.formeRuns n then d.startForme n c.t (c.t + 1) else d) d

/-- R941: after a write, the sets held aside that are consistent now take effect; one that a write has emptied is
consistent by that write (R53). -/
def Dev.retryAside (d : Dev) (c : Ctx) : Dev :=
  if d.rst.aside.isEmpty then d
  else
    let all := d.rst.aside.flatMap Prod.snd
    let broken : List Nat := ((d.setObjs all).brokenSets c).flatten
    let good := fun (g : Nat × List (Nat × Val)) => !(g.2.any fun e => broken.contains e.1)
    let now := d.rst.aside.filter good
    let d := { d with rst := { d.rst with aside := d.rst.aside.filter fun g => !good g } }
    let rate := (d.rateNum, d.rateDen)
    let d := now.foldl (fun d g => (g.2.foldl (fun d e => d.takeLoaded c e.1 e.2) d).unheld c g.1) d
    (d.rateTaken c rate).startLoaded c (now.flatMap Prod.snd)

/-! ## Starting and stopping the video path -/

/-- R266, R268: an enabled synthesizer starts through SEARCH with the loaded set as shadow and active set; an
inconsistent one is not applied (R941). -/
def Dev.startSyn (d : Dev) (c : Ctx) (s : Nat) : Dev :=
  if !d.flag (synK s 1) then d
  else
    let x := d.shadowSet s
    let d :=
      if d.rst.stage = .up then d
      else if d.synValid s x then d.modSyn s fun y => { y with act := x }
      else ((d.modSyn s fun y => { y with held := true }).setN (synK s 9) 4).held c (synK s 2)
    d.synSearch s

/-- Every live value of the video path as before it runs. -/
def Dev.videoReset (d : Dev) (c : Ctx) : Dev :=
  let d := d.clear [0x2110_0A, 0x2110_0B, 0x2110_0C, 0x2110_0D, 0x2110_0E, 0x2110_10, 0x2110_11]
  let d := (upTo 8).foldl (fun d r => d.setRefSt r (b2n (d.flag (key 0x2100 r 1)))) d
  let d := { d with refs := d.refs.map Ref.anew, dpll := { frameT := c.t }, marks := d.marks.map Mark.anew }
  (upTo 4).foldl (fun d s => (((d.setSyn s 0).unalign s).profIdle s).modSyn s fun x => { act := x.act, armed := x.armed, held := x.held }) d

/-- The video path starts (step 4 of Table 12.7, step 6 of R797). With frame memory off, captures stay stopped
(R896). -/
def Dev.videoStart (d : Dev) (c : Ctx) : Dev :=
  let d := (d.videoReset c).judgeTimePair c |>.judgeServe c
  let d := { d with rst := { d.rst with video := true } }
  let d := (upTo 4).foldl (fun d s => d.startSyn c s) d
  let d := (portsOf c).foldl (fun d p => if d.flag (portK p 1) then d.startPort c p else d) d
  let d := if d.rst.fmOff then d else (chansOf c).foldl (fun d n => if d.flag (chanK n 1) then d.startChan n else d) d
  (upTo 4).foldl (fun d t =>
    if d.flag (tdmK t 1) then d.setN (tdmK t 0x0E) (if d.nat (tdmK t 2) = 0 then d.masterState else 1) else d) d

/-- Table 14.2, step 3: streams, formes, captures and audio stop, ports go to electrical idle (R335, R448, R504, R553,
R677), synthesizers and genlock stop with GCLK (R268). -/
def Dev.videoStop (d : Dev) (c : Ctx) : Dev :=
  let d := (upTo 32).foldl (fun d s =>
    ((((d.setN (strK s 1) 0).setN (strK s 0x0B) 0).setN (strK s 0x0C) 0).setN (strK s 0x0D) 0).modStream s fun _ => {}) d
  let d := (d.modCache fun _ => {}).withdraw
  let d := (formesOf c).foldl (fun d n => (if d.formeRuns n then d.haltForme n else d).modForme n fun _ => {}) d
  let d := (chansOf c).foldl (fun d n => if d.chanSt n = 0 then d else
    ((d.setN (chanK n 0x0C) 0).setN (chanK n 0x0D) 0).modChan n fun _ => {}) d
  let d := (portsOf c).foldl (fun d p => if d.portOn p then d.stopPort c p else d) d.audioStop
  let d := match d.test with
    | some t => d.endTest.dropQuad c (t.first / 4)
    | none => d
  let d := (upTo 48).foldl (fun d l => d.clear [laneK l 0x11, laneK l 0x12, laneK l 0x13]) d
  { d.videoReset c with core := { d.core with fmem := [] }, rst := { d.rst with video := false, autorun := false } }

end Sys2Proof.Machine
end

