-- ==== Sys2Proof/Machine/Power.lean ====
section
/-!
DEFINITION. The power manager (ch 14): power states, rails, seats, PMBus, AVS, ADC, supply and thermal monitors, GPIO.
-/
namespace Sys2Proof.Machine

/-- A key of rail `r`. -/
def railK (r sub : Nat) : Nat := key 0x8100 r sub

/-- A key of seat `s`. -/
def seatK (s sub : Nat) : Nat := key 0x8200 s sub

/-- Change the power manager. -/
def Dev.modPwr (d : Dev) (f : Pwr → Pwr) : Dev := { d with pwr := f d.pwr }

/-- A rail. -/
def Dev.rail (d : Dev) (r : Nat) : Rail := (d.pwr.rails[r]?).getD {}

/-- Change a rail. -/
def Dev.modRail (d : Dev) (r : Nat) (f : Rail → Rail) : Dev := d.modPwr fun p => { p with rails := modifyAt f r p.rails }

/-- A rail's state: 0 off, 1 waiting, 2 on, 3 restarting, 4 failed. -/
def Dev.railSt (d : Dev) (r : Nat) : Nat := d.nat (railK r 0x0F)

/-- A seat. -/
def Dev.seat (d : Dev) (s : Nat) : Seat := (d.pwr.seats[s]?).getD {}

/-- Change a seat. -/
def Dev.modSeat (d : Dev) (s : Nat) (f : Seat → Seat) : Dev := d.modPwr fun p => { p with seats := modifyAt f s p.seats }

/-- Whether the power manager runs (Table 14.1). -/
def Dev.powered (d : Dev) : Bool := d.rst.stage = .up && d.pwr.st ≠ .hibernate && d.pwr.st ≠ .off

/-! ## PMBus (R810, R811) -/

/-- R810: a transaction with a rail, if it has an address: at the rate of 0x8000.10, with the rail's PEC. -/
def Dev.pmbus (d : Dev) (r : Nat) (cmd : Pmb) (data : List Byte) : Dev :=
  let a := d.nat (railK r 0x0A)
  if a = 0 then d else d.emit (.pmbus a (d.nat 0x8000_10 = 1) (d.flag (railK r 0x0D)) cmd data)

/-- R811: a voltage in mV as LINEAR16; one that does not fit 16 bits has no stated encoding. -/
def Dev.linear16 (d : Dev) (c : Ctx) (r mv : Nat) : Nat :=
  let n := roundDivN (mv * 2 ^ (d.int (railK r 0x0B)).natAbs) 1000
  if n < 65536 then n else Config.free c.seed 50 % 65536

/-- R811: READ_VOUT in mV; a value beyond the object's type is not stated. -/
def Dev.voutMv (d : Dev) (c : Ctx) (r raw : Nat) : Nat :=
  let n := roundDivN (raw * 1000) (2 ^ (d.int (railK r 0x0B)).natAbs)
  if n < 65536 then n else Config.free c.seed 51 % 65536

/-- R811: LINEAR11 in mA. -/
def linear11Ma (c : Ctx) (raw : Nat) : Int :=
  let m := (bits raw 0 11 : Int) - (if bit raw 10 then 2048 else 0)
  let e := bits raw 11 5
  let n := if e < 16 then m * 1000 * 2 ^ e else roundDiv (m * 1000) (2 ^ (32 - e))
  fitI32 c 52 n

/-! ## Seats (R807 to R809) -/

/-- SEATEN falls; the seat's state follows. -/
def Dev.seatOff (d : Dev) (s st : Nat) : Dev :=
  (d.modSeat s fun x => { x with en := false, blank := false, overT := none }).setN (seatK s 0x0A) st

/-- Every seat that is on and chosen is switched off and waits. -/
def Dev.seatsOff (d : Dev) (f : Nat → Bool) : Dev :=
  (upTo 8).foldl (fun d s => if (d.seat s).en && f s then d.seatOff s 1 else d) d

/-- R807: whether a seat waits and could rise now, the stagger apart. -/
def Dev.seatReady (d : Dev) (s : Nat) : Bool :=
  let r := d.nat (seatK s 2)
  d.flag (seatK s 1) && d.nat (seatK s 0x0A) = 1 && d.nat 0x8000_0C = 2 && (16 ≤ r || d.railSt r = 2)
    && !(d.isSafe && d.flag (seatK s 9)) && !(d.pwr.st = .standby && d.flag (seatK s 8))

/-- R828: the settings a seat's rise takes. -/
def Dev.seatSet (d : Dev) (s : Nat) : SeatSet :=
  { rail := d.nat (seatK s 2), chan := d.nat (seatK s 3), lim := d.int (seatK s 4), trip := d.nat (seatK s 5)
    blank := d.nat (seatK s 6), retry := d.nat (seatK s 7), sbOff := d.flag (seatK s 8), safeOff := d.flag (seatK s 9) }

/-- SEATEN_RISE (R807): the lowest waiting seat, the stagger after the last rise. -/
def execSeatenRise (dt n : Nat) (s : State) : Host.Outcome State Fault Refusal :=
  s.actOn (n < 8) dt fun c d =>
    let apart : Bool := match d.pwr.lastRise with
      | some t => decide (t + d.nat 0x8000_12 * 400000 ≤ c.t)
      | none => true
    if d.powered && d.seatReady n && apart && !((upTo n).any d.seatReady) then
      let set := d.seatSet n
      ((d.modSeat n fun x => { x with en := true, set := set, blank := true, riseT := c.t, overT := none }).setN (seatK n 0x0A) 2).modPwr
        fun p => { p with lastRise := some c.t }
    else d

/-- INRUSH_BLANKING_END (R808): the blanking time after the rise; a retry that has got so far has succeeded (R25). -/
def execInrushBlankingEnd (dt n : Nat) (s : State) : Host.Outcome State Fault Refusal :=
  s.actOn (n < 8) dt fun c d =>
    let x := d.seat n
    if x.en && x.blank && decide (x.riseT + x.set.blank * 400000 ≤ c.t) then (if x.again then d.transient else d).modSeat n fun x => { x with blank := false } else d

/-- SEAT_FAULT (R808, R838): the current has been above the limit for the trip time. -/
def execSeatFault (dt n : Nat) (s : State) : Host.Outcome State Fault Refusal :=
  s.actOn (n < 8) dt fun c d =>
    let x := d.seat n
    let due : Bool := match x.overT with
      | some t => decide (t + x.set.trip * 400 ≤ c.t)
      | none => false
    if x.en && !x.blank && due then
      let lasting := x.again && decide (c.t ≤ x.riseT + 4000000000)
      (((d.seatOff n (if lasting then 4 else 3)).inc (seatK n 0x0C)).modSeat n fun x => { x with again := false, tripT := c.t }).raise c 85
        (n + b2n lasting * 256)
    else d

/-- RETRY_DELAY_END (R838): the retry delay after the trip, the seat waits to be switched on again. -/
def execRetryDelayEnd (dt n : Nat) (s : State) : Host.Outcome State Fault Refusal :=
  s.actOn (n < 8) dt fun c d =>
    let x := d.seat n
    if d.nat (seatK n 0x0A) = 3 && decide (x.tripT + x.set.retry * 400000 ≤ c.t) then (d.setN (seatK n 0x0A) 1).modSeat n fun x => { x with again := true } else d

/-! ## Rail sequences (R803, R804) -/

/-- The rails a power-up raises at a step. -/
def Dev.ups (d : Dev) (k : Nat) : List Nat :=
  (upTo 16).filter fun r => d.flag (railK r 1) && d.nat (railK r 0x0E) = 0 && d.nat (railK r 2) = k && d.railSt r ≠ 4

/-- The rails that the running power-down lowers at a step. -/
def Dev.downs (d : Dev) (k : Nat) : List Nat :=
  (upTo 16).filter fun r => (d.rail r).pen && d.nat (railK r 2) = k &&
    match d.pwr.seq with
    | .standby => d.flag (railK r 8)
    | .hibernate => d.flag (railK r 9)
    | .fault => d.pwr.faults.contains r || decide (d.pwr.low < k)
    | .takeOver => !(d.flag (railK r 1) && d.nat (railK r 0x0E) = 0)
    | _ => true

/-- R804, R809: a rail's PEN falls, OPERATION 0x00, and the seats on it wait. -/
def Dev.railDown (d : Dev) (r st : Nat) : Dev :=
  let d := ((d.modRail r fun x => { x with pen := false, pg := false }).setN (railK r 0x0F) st).pmbus r .operation [0x00#8]
  d.seatsOff fun s => (d.seat s).set.rail = r

/-- R803: a rail's PMBus writes, then its PEN; with PG mode 0 it is on at once. -/
def Dev.railUp (d : Dev) (c : Ctx) (r : Nat) : Dev :=
  if (d.rail r).pen then d
  else
    let mv := d.nat (railK r 0x0C)
    let d := if mv = 0 then d else d.pmbus r .voutCommand (le 2 (d.linear16 c r mv))
    let free := d.nat (railK r 6) = 0
    let st := if free then 2 else if d.railSt r = 3 then 3 else 1
    ((d.pmbus r .operation [0x80#8]).modRail r fun x => { x with pen := true, pg := free }).setN (railK r 0x0F) st

/-- The largest of a delay in µs (`.03` on, `.04` off) among rails, in ticks. -/
def Dev.railDelay (d : Dev) (sub : Nat) (rs : List Nat) : Nat := (rs.map fun r => 400 * d.nat (railK r sub)).foldl max 0

/-- R803: a step whose every rail is on waits its on delay. -/
def Dev.stepOn (d : Dev) (c : Ctx) : Dev :=
  if (d.ups d.pwr.step).all fun r => d.railSt r = 2 then
    let due := c.t + d.railDelay 3 (d.ups d.pwr.step)
    (if d.pwr.retried then d.transient else d).modPwr fun p => { p with wait := .onDelay, dueT := due }
  else d.modPwr fun p => { p with wait := .pg }

/-- R797, steps 5 and 6: the video blocks start, every enabled slot is identified again (R614), and auto-run may act. -/
def Dev.videoWake (d : Dev) (c : Ctx) : Dev :=
  let d := (d.modPwr fun p => { p with waking := false }).videoStart c
  let d := [0, 1].foldl (fun d s => if d.slotSt s = 0 || d.slotSt s = 5 then d else d.startIdent c s) d
  { d with rst := { d.rst with autorun := true } }

/-- A rail sequence has ended with 0x8000.0C at `st`; the video blocks that waited for it start. -/
def Dev.seqEnd (d : Dev) (c : Ctx) (st : Nat) : Dev :=
  let d := (d.setN 0x8000_0C st).modPwr fun p => { p with seq := .none, wait := .none, restarting := none, faults := [] }
  if d.pwr.waking then d.videoWake c else d

/-- R803: the power-up goes on with the first used step from `k` on. -/
def Dev.rise (d : Dev) (c : Ctx) (k : Nat) : Dev :=
  match (upTo 16).find? fun j => k ≤ j && !(d.ups j).isEmpty with
  | some j => (((d.ups j).foldl (fun d r => d.railUp c r) d).modPwr fun p => { p with step := j, waitT := c.t }).stepOn c
  | none => d.seqEnd c 2

/-- R805: a power-up from a step on. -/
def Dev.powerUp (d : Dev) (c : Ctx) (k : Nat) : Dev :=
  ((d.setN 0x8000_0C 1).modPwr fun p => { p with seq := .up, retried := false, faults := [] }).rise c k

/-- Table 2.2: the root PLL and every domain clock off. -/
def Dev.clocksOff (d : Dev) : Dev :=
  { ((d.setN 0x2000_01 0).setN 0x2000_02 0) with clk := { d.clk with tb := false } }

/-- HIBERNATE is reached: only AON runs; a wake latched during entry acts at once (R795, R831), the slow ticks then
coming with the start of the root PLL (R163). -/
def Dev.hibernated (d : Dev) : Dev :=
  let src := d.pwr.latched
  let d := (d.clocksOff).modPwr fun p => { p with st := .hibernate, seq := .none, wait := .none, latched := 0, hib := false }
  if src = 0 then d else (d.setN 0x8000_09 src).wantReset 4

/-- R136: the lock time of a root PLL start that no command reports: at most 200 µs, otherwise free. -/
def pllTime (c : Ctx) : Nat := Config.free c.seed 54 % 201

/-- R797: the STANDBY wake, by sources `src`, the root PLL locking in `us`: the core resumes, the rails that were switched
off are sequenced up, and then the video blocks start. -/
def Dev.standbyWake (d : Dev) (c : Ctx) (src us : Nat) : Dev :=
  let d := (d.modPwr fun p => { p with st := .run, latched := 0, seq := .none, wait := .none, waking := true }).rootLocked c us
  let d := ((d.setN 0x8000_09 src).trcWake c 1).raise c 82 0
  let off := if d.nat 0x8000_0C = 2 then (upTo 16).find? fun k => (d.ups k).any fun r => !(d.rail r).pen else none
  match off with
  | some k => d.powerUp c k
  | none => d.videoWake c

/-- A power-down has no rail left: what follows, but for the HIBERNATE steps. -/
def Dev.fallEnd (d : Dev) (c : Ctx) : Dev :=
  let k := d.pwr.seq
  let d := d.modPwr fun p => { p with seq := .none, wait := .none }
  match k with
  | .down => d.seqEnd c 0
  | .failed => d.seqEnd c 4
  | .standby => if d.pwr.latched ≠ 0 then d.standbyWake c d.pwr.latched (pllTime c) else d
  | .hibernate => d.hibernated
  | .fault => if (upTo 16).any fun r => d.railSt r = 3 then d.powerUp c d.pwr.low else d.seqEnd c 2
  | .takeOver => if d.flag 0x8000_0B then d.powerUp c 0 else d.seqEnd c 0
  | _ => d

/-- R804: the power-down goes on with the highest step, at most the present one, that has a rail to lower. -/
def Dev.fall1 (d : Dev) (c : Ctx) : Dev :=
  match ((upTo (d.pwr.step + 1)).reverse).find? fun k => !(d.downs k).isEmpty with
  | some k =>
    let st := if d.pwr.seq = .fault then 1 else 0
    let due := c.t + d.railDelay 4 (d.downs k)
    let d := (d.downs k).foldl (fun d r => d.railDown r (if d.railSt r = 3 || d.railSt r = 4 then d.railSt r else st)) d
    d.modPwr fun p => { p with step := k, wait := .offDelay, dueT := due }
  | none => d.fallEnd c

/-- R795: HIBERNATE goes on from the end of the STANDBY rails: every seat, then the rails off in HIBERNATE. -/
def Dev.fall (d : Dev) (c : Ctx) : Dev :=
  let none' := ((upTo (d.pwr.step + 1)).all fun k => (d.downs k).isEmpty)
  if d.pwr.seq = .standby && d.pwr.hib && none' then
    ((d.seatsOff fun _ => true).modPwr fun p => { p with seq := .hibernate, step := 15 }).fall1 c
  else d.fall1 c

/-- A power-down of a kind starts. -/
def Dev.startFall (d : Dev) (c : Ctx) (k : SeqKind) (low : Nat) : Dev :=
  (d.modPwr fun p => { p with seq := k, step := 15, low := low, retried := false }).fall c

/-- R805: a power-down: the seats first. -/
def Dev.powerDown (d : Dev) (c : Ctx) : Dev := (((d.seatsOff fun _ => true).setN 0x8000_0C 3).startFall c .down 0)

/-- R836: the step fails: its rails are off and it is run once more, or the sequence fails. -/
def Dev.stepFail (d : Dev) (c : Ctx) : Dev :=
  let k := d.pwr.step
  let again := d.pwr.retried
  let due := c.t + d.railDelay 4 (d.ups k)
  let d := (d.ups k).foldl (fun d r => if (d.rail r).pen then d.railDown r 0 else d) d
  if again then
    ((((d.setN 0x8000_0D k).setN 0x8000_0C 4).raise c 84 0).seatsOff fun _ => true).startFall c .failed 0
  else d.modPwr fun p => { p with retried := true, wait := .offDelay, dueT := due }

/-- PG_GOOD (R806, R862): a rail's PG has been good for 10 µs. -/
def execPgGood (dt r : Nat) (s : State) : Host.Outcome State Fault Refusal :=
  s.actOn (r < 16) dt fun c d =>
    let st := d.railSt r
    let d := (d.modRail r fun x => { x with pg := true }).endCond 0x16 r
    if (d.rail r).pen && (st = 1 || st = 3) then
      let d := if st = 3 then d.transient.modRail r fun x => { x with restartT := some c.t } else d
      let d := d.setN (railK r 0x0F) 2
      if d.pwr.seq = .up && d.pwr.wait = .pg then d.stepOn c else d
    else d

/-- ON_DELAY_END (R803). -/
def execOnDelayEnd (dt : Nat) (s : State) : Host.Outcome State Fault Refusal :=
  s.act dt fun c d =>
    if d.pwr.seq = .up && d.pwr.wait = .onDelay && decide (d.pwr.dueT ≤ c.t) then (d.modPwr fun p => { p with retried := false }).rise c (d.pwr.step + 1)
    else d

/-- OFF_DELAY_END (R804, R836). -/
def execOffDelayEnd (dt : Nat) (s : State) : Host.Outcome State Fault Refusal :=
  s.act dt fun c d =>
    if d.pwr.wait ≠ .offDelay || decide (c.t < d.pwr.dueT) then d
    else if d.pwr.seq = .up then d.rise c d.pwr.step
    else d.fall c

/-- R836: whether a rail of the step that is not on has had its PG timeout. -/
def Dev.pgLate (d : Dev) (c : Ctx) : Bool :=
  d.pwr.seq = .up && d.pwr.wait = .pg && (d.ups d.pwr.step).any fun r =>
    d.railSt r ≠ 2 && decide (d.pwr.waitT + d.nat (railK r 5) * 400000 ≤ c.t)

/-- PG_TIMEOUT (R836). -/
def execPgTimeout (dt : Nat) (s : State) : Host.Outcome State Fault Refusal :=
  s.act dt fun c d => if d.pgLate c then d.stepFail c else d

/-- R837: the power-down of a rail's fault: the faulty rails and every rail of a later step. Where the rails go down for
another reason already, the rail goes down at once, and no power-up of its own follows. -/
def Dev.faultDown (d : Dev) (c : Ctx) (r : Nat) (lasting : Bool) : Dev :=
  let st := if lasting then 4 else 3
  if d.pwr.seq = .none || d.pwr.seq = .up || d.pwr.seq = .fault then
    let rs := r :: d.pwr.faults
    let low := rs.foldl (fun k x => min k (d.nat (railK x 2))) 15
    (((d.setN (railK r 0x0F) st).setN 0x8000_0C 3).modPwr fun p => { p with faults := rs }).startFall c .fault low
  else d.railDown r (if lasting then 4 else 0)

/-- RAIL_FAULT (R806, R834, R837): a rail's PG has been not good for 10 µs. -/
def execRailFault (dt r : Nat) (s : State) : Host.Outcome State Fault Refusal :=
  s.actOn (r < 16) dt fun c d =>
    let x := d.rail r
    let k := d.nat (railK r 2)
    if d.nat (railK r 6) = 0 then d
    else if d.railSt r = 2 then
      let act := d.nat (railK r 7)
      let again : Bool := act ≠ 0 && match x.restartT with
        | some t => decide (c.t ≤ t + 4000000000)
        | none => false
      let d := ((d.modRail r fun x => { x with pg := false }).inc (railK r 0x14)).raise c 83 (r + b2n again * 256)
      if act = 0 then d
      else (if act = 2 then d.detect c 0x16 r else d).faultDown c r again
    else if d.pwr.seq = .up && d.pwr.wait = .pg && k = d.pwr.step && d.railSt r ≠ 0 then d.stepFail c
    else d

/-- R837, R839: `.13` written 0x01: CLEAR_FAULTS, polling again, a power-up from the rail's step. -/
def Dev.restartRail (d : Dev) (c : Ctx) (r : Nat) : Dev :=
  let d := (d.pmbus r .clearFaults []).modRail r fun x => { x with noPoll := false, restartT := none }
  let d := if d.railSt r = 4 then d.setN (railK r 0x0F) 0 else d
  if d.flag (railK r 1) && d.nat (railK r 0x0E) = 0 then
    (d.modPwr fun p => { p with restarting := some r }).powerUp c (d.nat (railK r 2))
  else d

/-- R835, R841, boot step 4: the loaded configuration takes PEN and SEATEN over: rails it does not enable go down, seats it
does not enable are off, then the power-up of 0x8000.0B. -/
def Dev.powerBoot (d : Dev) (c : Ctx) : Dev :=
  let d := (upTo 16).foldl (fun d r =>
    let x := d.rail r
    if x.pen && d.flag (railK r 1) && d.nat (railK r 0x0E) = 0 then
      d.setN (railK r 0x0F) (if x.pg || d.nat (railK r 6) = 0 then 2 else 1)
    else d) d
  let d := (upTo 8).foldl (fun d s =>
    if d.flag (seatK s 1) then d.setN (seatK s 0x0A) (if (d.seat s).en then 2 else 1)
    else d.seatOff s 0) d
  d.startFall c .takeOver 0

/-! ## DOZE (R791, R792) -/

/-- R791: whether nothing keeps the device from DOZE but marked title bytes. -/
def Dev.mayDoze (d : Dev) : Bool :=
  d.powered && d.pwr.st = .run && d.flag 0x8000_03 && !d.core.halted && (d.core.waiting || !(d.nat 0xA000_05 = 2))
    && d.itp.segs.isEmpty && d.itp.waiting.isEmpty && !d.saving && d.itp.quoin.st ≠ .validating && d.itp.restoring.isEmpty && d.host.frames.isEmpty

/-- DOZE_ENTRY (R791, R719): marked title bytes are flushed first. -/
def execDozeEntry (dt : Nat) (s : State) : Host.Outcome State Fault Refusal :=
  s.act dt fun c d =>
    if !d.mayDoze then d
    else if [0, 1].any fun i => (d.tslot i).pb.isSome then (d.startFlush c 0).startFlush c 1
    else (((d.setN 0x8000_01 1).inc 0x8000_0A).modPwr fun p => { p with st := .doze }).trcSleep c 0

/-- DOZE_EXIT (R792). -/
def execDozeExit (dt : Nat) (s : State) : Host.Outcome State Fault Refusal := s.act dt fun c d => d.leaveDoze c

/-! ## STANDBY and HIBERNATE -/

/-- Table 14.2, step 2: a slot's page buffer is flushed; `lost`: its write failed for good. -/
def Dev.flushNow (d : Dev) (c : Ctx) (lost : Bool) (i : Nat) : Dev :=
  if (d.tslot i).pb.isNone then d
  else
    let d := (d.startTxn c ⟨i, .writeEnable⟩ false 0 0).startTxn c ⟨i, .program⟩ false 0 0
    let q := d.title.queue.filter fun r => !(r.slot = i && (r.kind = .writeEnable || r.kind = .program))
    let d := { d with title := { d.title with cur := none, queue := q } }
    if lost then d.flushLost c i else d.flushDone c i

/-- R845, R858, R872: SAFE with code 0x1A, unless the device is in SAFE already. -/
def Dev.enterStandby (d : Dev) (c : Ctx) : Dev :=
  let d := { d with saf := { d.saf with latchA := true, latchB := true } }
  if d.safety = 2 then d
  else
    let d := ((d.setN 0x9000_01 2).recordEntry c 0x1A).inc 0x9300_02
    (d.setN 0x9000_0B 0).raise c 0 0x1A

/-- R794, R795: entry to STANDBY, or on to HIBERNATE. `lost`: the slots whose flush fails for good. -/
def Dev.standby (d : Dev) (c : Ctx) (hib : Bool) (lost : List Nat) : Dev :=
  let d := d.seatsOff fun s => (d.seat s).set.sbOff
  let d := [0, 1].foldl (fun d i => d.flushNow c (lost.contains i) i) d
  let d := d.videoStop c
  let d := d.enterStandby c
  let d := ((d.trcSleep c 1).setN 0x2000_01 3).setN 0x2000_02 16
  let d := { d with clk := { d.clk with tb := false, sbT := c.t } }
  (d.modPwr fun p => { p with st := .standby, hib := hib, latched := 0 }).startFall c .standby 0

/-- R793, R775: the refusals of a power request. -/
def Dev.checkRequest (d : Dev) (v : Val) : List Nat :=
  let w := fun (x : Wdg) => x.run && x.set.e = 0
  (if v = .num 1 || v = .num 2 then [] else [5])
    ++ (if d.saving || d.itp.quoin.st = .armed || d.pwr.seq ≠ .none then [8] else [])
    ++ (if w d.wd0 || w d.wd1 || d.core.halted then [6] else [])

/-- Table 14.3: of sources that fire in STANDBY, those that wake: the enabled ones, the fixed ones, thermal critical. -/
def Dev.wakes (d : Dev) (src : Nat) : Nat :=
  bitmap 12 fun i => bit src i && (bit (d.nat 0x8000_04) i || i = 6 || i = 9 || (i = 8 && d.pwr.critOn))

/-- STANDBY_WAKE (R797, R799, R831): sources `src` fire; the root PLL locks in `us`. -/
def execStandbyWake (dt src us : Nat) (s : State) : Host.Outcome State Fault Refusal :=
  s.act dt fun c d =>
    let w := if d.pwr.hib then src &&& d.nat 0x8000_04 &&& 0x1001 else d.wakes src
    if d.pwr.st ≠ .standby || w = 0 then d
    else if d.pwr.seq = .standby || d.pwr.seq = .hibernate then d.modPwr fun p => { p with latched := p.latched ||| w }
    else d.standbyWake c w us

/-- R798: a wake from HIBERNATE: a cold reset that keeps AON, `slow` slow ticks after the reset took hold (R163). -/
def Dev.hibernateWake (d : Dev) (src slow : Nat) : Dev :=
  let d := (d.setN 0x8000_09 src).wantReset 4
  { d with rst := { d.rst with skip := 11851 * slow } }

/-- HIBERNATE_WAKE (R798, R799): the WAKE pin, if enabled; `src` may name the wake timer too. -/
def execHibernateWake (dt src slow : Nat) (s : State) : Host.Outcome State Fault Refusal :=
  s.act dt fun _ d =>
    let w := src &&& d.nat 0x8000_04 &&& 0x1001
    if d.pwr.st = .hibernate && w ≠ 0 then d.hibernateWake w slow else d

/-- WAKE_TIMER (R799): 0x8000.08 seconds of the AON slow tick have passed. -/
def execWakeTimer (dt slow : Nat) (s : State) : Host.Outcome State Fault Refusal :=
  s.act dt fun _ d =>
    let due := decide (d.nat 0x8000_08 * 400000000 ≤ 11851 * (slow + 1))
    if d.pwr.st = .hibernate && bit (d.nat 0x8000_04) 12 && d.nat 0x8000_08 ≠ 0 && due then d.hibernateWake 0x1000 slow else d

/-! ## PMBus polling and AVS -/

/-- R839: how many times a transaction of a rail failed: once is transient, twice ends its polling. -/
def Dev.pmbusErrs (d : Dev) (c : Ctx) (r errs : Nat) : Dev :=
  if errs = 0 then d
  else if errs = 1 then d.transient
  else (d.modRail r fun x => { x with noPoll := true }).raise c 89 r

/-- R839: a read of a rail, repeated once where it fails; `errs` counts its failed tries. -/
def Dev.pmbusRead (d : Dev) (c : Ctx) (r : Nat) (cmd : Pmb) (errs : Nat) : Dev :=
  let d := d.pmbus r cmd []
  (if errs = 0 then d else d.pmbus r cmd []).pmbusErrs c r errs

/-- R812: one transaction of a poll: READ_VOUT (0), READ_IOUT (1) or STATUS_WORD (2) of a rail. `rd`: what the rails
answer: rail, transaction, word, failed tries; one that does not answer ends in a NACK twice. -/
def Dev.pollOne (d : Dev) (c : Ctx) (rd : List (Nat × Nat × Nat × Nat)) (x : Nat × Nat) : Dev :=
  let r := x.1
  if d.nat (railK r 0x0A) = 0 || (d.rail r).noPoll then d
  else
    let (w, errs) := match rd.find? fun y => y.1 = r && y.2.1 = x.2 with
      | some y => (y.2.2.1 % 65536, y.2.2.2)
      | none => (0, 2)
    let d := d.pmbusRead c r (match x.2 with | 0 => .readVout | 1 => .readIout | _ => .statusWord) errs
    if 2 ≤ errs then d
    else match x.2 with
      | 0 => d.setN (railK r 0x10) (d.voutMv c r w)
      | 1 => d.setI (railK r 0x11) (linear11Ma c w)
      | _ => d.setN (railK r 0x12) w

/-- R812: the transactions of a poll, in ascending rail order. -/
def pollList : List (Nat × Nat) := (upTo 16).flatMap fun r => [(r, 0), (r, 1), (r, 2)]

/-- R812, R833: the transactions left of the running poll. -/
def Dev.pollRest (d : Dev) (c : Ctx) (rd : List (Nat × Nat × Nat × Nat)) : Dev :=
  (d.pwr.poll.foldl (fun d x => d.pollOne c rd x) d).modPwr fun p => { p with poll := [] }

/-- PMBUS_POLL (R812, R839): what the rails answer; `cut`: the transactions done when an AVS write falls due, which goes out
ahead of the others (R833); a poll cut off goes on with the next AVS_UPDATE. -/
def execPmbusPoll (dt : Nat) (readings : List (Nat × Nat × Nat × Nat)) (cut : Option Nat) (s : State) :
    Host.Outcome State Fault Refusal :=
  s.act dt fun c d =>
    if !d.powered || decide (c.t < d.pwr.pollT + d.nat 0x8000_11 * 400000) then d
    else
      let xs := d.pwr.poll ++ pollList.filter fun x => d.nat (railK x.1 0x0A) ≠ 0 && !(d.rail x.1).noPoll
      let n := if d.flag 0x8400_01 && d.pwr.st ≠ .standby then cut.getD xs.length else xs.length
      ((xs.take n).foldl (fun d x => d.pollOne c readings x) d).modPwr fun p => { p with poll := xs.drop n, pollT := c.t }

/-- PMBUS_ALERT (R812): per rail its number, STATUS_WORD and failed tries. -/
def execPmbusAlert (dt : Nat) (readings : List (Nat × Nat × Nat)) (s : State) : Host.Outcome State Fault Refusal :=
  s.act dt fun c d =>
    if !d.powered then d
    else
      let d := (upTo 16).foldl (fun d r =>
        if d.nat (railK r 0x0A) = 0 then d
        else
          let x := (readings.find? fun x => x.1 = r).getD (r, 0, 2)
          let d := d.pmbusRead c r .statusWord x.2.2
          if 2 ≤ x.2.2 then d else d.setN (railK r 0x12) (x.2.1 % 65536)) d
      d.raise c 90 (bitmap 16 fun r => d.nat (railK r 0x0A) ≠ 0 &&
        readings.any fun x => x.1 = r && x.2.1 % 65536 ≠ 0 && x.2.2 < 2)

/-- R815: whether the AVS set is consistent. -/
def Dev.avsOk (d : Dev) : Bool :=
  let r := d.nat 0x8400_02
  let mv := d.nat (railK r 0x0C)
  d.nat (railK r 0x0E) = 1 && d.nat (railK r 0x0A) ≠ 0 && decide (750 ≤ mv) && decide (mv ≤ 860)

/-- R814, R815, R839: an AVS update. -/
def Dev.avsUpdate (d : Dev) (c : Ctx) (mv errs : Nat) : Dev :=
    let r := d.nat 0x8400_02
    if d.pwr.st = .standby || !d.flag 0x8400_01 then d
    else if !d.avsOk then
      (if d.pwr.avsHeld then d else d.held c (railK r 0x0A)).modPwr fun p => { p with avsHeld := true }
    else
      let d := if d.pwr.avsHeld then (d.unheld c (railK r 0x0A)).modPwr fun p => { p with avsHeld := false } else d
      if (d.rail r).noPoll then d
      else
        let t := (clampInt (d.int 0x8400_07) (d.int 0x8400_08) mv).toNat
        let d := d.setN 0x8400_05 t
        let d := if t ≠ mv && !d.pwr.avsClamped then d.raise c 91 0 else d
        let d := d.modPwr fun p => { p with avsClamped := t ≠ mv }
        let cur := if d.nat 0x8400_06 = 0 then d.nat (railK r 0x0C) else d.nat 0x8400_06
        let nxt := if t < cur then max t (cur - 5) else min t (cur + 5)
        let b := le 2 (d.linear16 c r nxt)
        let d := d.pmbus r .voutCommand b
        let d := (if errs = 0 then d else d.pmbus r .voutCommand b).pmbusErrs c r errs
        if 2 ≤ errs then d else d.setN 0x8400_06 nxt

/-- AVS_UPDATE (R814, R815, R839), every 1 ms: `mv`: the lowest voltage that keeps the margin at every speed monitor;
`errs`: failed tries of the VOUT_COMMAND; `rest`: what the rails answer in the rest of a poll that it cut (R833). -/
def execAvsUpdate (dt mv errs : Nat) (rest : List (Nat × Nat × Nat × Nat)) (s : State) : Host.Outcome State Fault Refusal :=
  s.act dt fun c d =>
    if !d.powered || decide (c.t < d.pwr.avsT + 400000) then d
    else ((d.avsUpdate c mv errs).pollRest c rest).modPwr fun p => { p with avsT := c.t }

/-! ## ADC (R816 to R818) -/

/-- An ADC channel. -/
def Dev.adcCh (d : Dev) (n : Nat) : Adc := (d.pwr.adc[n]?).getD {}

/-- Change an ADC channel. -/
def Dev.modAdc (d : Dev) (n : Nat) (f : Adc → Adc) : Dev := d.modPwr fun p => { p with adc := modifyAt f n p.adc }

/-- The FIX32 of a channel in a table of 16. -/
def Dev.adcPar (d : Dev) (sub n : Nat) : Int := signed 4 (fld (d.raw (0x8300_00 + sub)) (4 * n) 4)

/-- R818: one threshold after an update: a run beyond it raises it, its hysteresis clears it. -/
def Dev.adcJudge (d : Dev) (c : Ctx) (n : Nat) (high : Bool) : Dev :=
  let x := d.adcCh n
  let lim := d.adcPar (if high then 6 else 5) n
  let hy := d.adcPar 7 n
  let on := bit (d.nat 0x8300_08) (2 * n + b2n high)
  let beyond := if high then decide (lim < x.val) else decide (x.val < lim)
  let inside := if high then decide (x.val ≤ lim - hy) else decide (lim + hy ≤ x.val)
  let run := if on && beyond then (if high then x.hiRun else x.loRun) + 1 else 0
  let was := if high then x.hi else x.lo
  let now := if was then !(inside && !beyond) else on && decide (d.nat 0x8300_0C ≤ run)
  let det := n + b2n high * 16
  let d := d.modAdc n fun x => if high then { x with hiRun := run, hi := now } else { x with loRun := run, lo := now }
  if now && !was then d.raise c 86 det else if was && !now then d.raiseClr c 86 det else d

/-- R808: a seat's current on its channel: above the limit since when. -/
def Dev.seatCurrent (d : Dev) (c : Ctx) (n : Nat) : Dev :=
  (upTo 8).foldl (fun d s =>
    let x := d.seat s
    if (if x.en then x.set.chan else d.nat (seatK s 3)) = n then
      let v := (d.adcCh n).val
      let d := d.setI (seatK s 0x0B) v
      let high := x.en && !x.blank && decide (x.set.lim < v)
      d.modSeat s fun x => { x with overT := if high then some (x.overT.getD c.t) else none }
    else d) d

/-- R816: the channel converted next: the enabled ones in ascending order. -/
def Dev.adcNext (d : Dev) : Option Nat :=
  let on := (upTo 16).filter fun n => bit (d.nat 0x8300_01) n
  match d.pwr.adcAt with
  | some k => (on.find? fun n => decide (k < n)).orElse fun _ => on.head?
  | none => on.head?

/-- ADC_CONVERSION (R816 to R818): a conversion of channel `n`, 1 µs after the last, gives a 12-bit code. -/
def execAdcConversion (dt n code : Nat) (s : State) : Host.Outcome State Fault Refusal :=
  s.actOn (n < 16) dt fun c d =>
    if !d.powered || d.adcNext ≠ some n || decide (c.t < d.pwr.adcT + 400) then d
    else
      let d := d.modPwr fun p => { p with adcAt := some n, adcT := c.t }
      let code := code % 4096
      let a := 2 ^ d.nat 0x8300_02
      let x := d.adcCh n
      let acc := x.acc + code
      let d := d.modAdc n fun x => { x with raw := code, acc := acc, cnt := x.cnt + 1 }
      let raws := (upTo 16).flatMap fun i => le 2 (d.adcCh i).raw
      let d := d.setB 0x8300_09 raws
      if x.cnt + 1 < a then d
      else
        -- scale × (1.8 × mean / 4096) + offset, in Q16.16
        let v := fitI32 c 53 (roundDiv (d.adcPar 3 n * acc * 18) (10 * 4096 * a) + d.adcPar 4 n)
        let d := d.modAdc n fun x => { x with acc := 0, cnt := 0, val := v }
        let vals := (upTo 16).flatMap fun i => le 4 (toTwos 4 (d.adcCh i).val)
        let d := d.setB 0x8300_0A vals
        ((d.adcJudge c n false).adcJudge c n true).seatCurrent c n

/-! ## Supplies (R819, R820, R877) -/

/-- SUPPLY_OUT_OF_RANGE (R819, R820): supply `n` has been outside its window for 20 µs. -/
def execSupplyOutOfRange (dt n : Nat) (s : State) : Host.Outcome State Fault Refusal :=
  s.actOn (n < 7) dt fun c d =>
    let masked := d.videoDown && (n = 1 || n = 2 || n = 3)
    if !d.ticking || masked || bit d.pwr.supOut n then d
    else ((d.modPwr fun p => { p with supOut := setBit p.supOut n true }).raise c 5 n).detect c 0x05 n

/-- SUPPLY_BACK_IN_WINDOW (R946, R862). -/
def execSupplyBackInWindow (dt n : Nat) (s : State) : Host.Outcome State Fault Refusal :=
  s.actOn (n < 7) dt fun c d =>
    if bit d.pwr.supOut n then
      ((d.modPwr fun p => { p with supOut := setBit p.supOut n false }).endCond 0x05 n).raiseClr c 5 n
    else d

/-- BROWNOUT (R819, R877): VDD (0) or VDDIO18 (4) below its threshold for 5 µs: a cold reset; VAON (6): AON is lost. In
HIBERNATE only VAON is needed (R789). -/
def execBrownout (dt n : Nat) (s : State) : Host.Outcome State Fault Refusal :=
  s.actOn (n = 0 || n = 4 || n = 6) dt fun _ d =>
    let d := d.modPwr fun p => { p with absent := setBit p.absent n true }
    if n = 6 then { d.clocksOff with rst := { d.rst with stage := .off }, pwr := { d.pwr with st := .off } }
    else if d.pwr.st = .hibernate || d.rst.stage = .off then d
    else d.wantReset 3

/-! ## Thermal sensors (R821, R822, R829, R840) -/

/-- The median of a list of readings. -/
def median (l : List Int) : Int :=
  let s := l.insertionSort fun a b => a ≤ b
  let n := s.length
  if n % 2 = 1 then (s[n / 2]?).getD 0 else roundDiv ((s[n / 2 - 1]?).getD 0 + (s[n / 2]?).getD 0) 2

/-- R840: whether sensor `i` lies more than 10 °C from the median of the other sensors that are not excluded. -/
def Dev.outlier (d : Dev) (temps : List Int) (i : Nat) (v : Int) : Bool :=
  let others := (temps.zipIdx).filterMap fun p => if p.2 ≠ i && !bit d.pwr.excl p.2 then some p.1 else none
  !others.isEmpty && decide (40 < (v - median others).natAbs)

/-- R840: an outlier is read again; a second such reading excludes the sensor. -/
def Dev.thermalExclude (d : Dev) (c : Ctx) (temps again : List Int) : Dev × List Int :=
  (upTo 8).foldl (fun (r : Dev × List Int) i =>
    let d := r.1
    let v := (temps[i]?).getD 0
    if bit d.pwr.excl i || !d.outlier temps i v then r
    else
      let w := (again[i]?).getD v
      if d.outlier temps i w then
        let ex := setBit d.pwr.excl i true
        (((d.modPwr fun p => { p with excl := ex }).setN 0x8500_09 ex).raise c 87 (i + 256), r.2)
      else (d.transient, modifyAt (fun _ => w) i r.2)) (d, temps)

/-- R829: the thresholds in force. -/
def Dev.thermalSet (d : Dev) (c : Ctx) : Dev :=
  let x := (d.int 0x8500_01, d.int 0x8500_02, d.int 0x8500_03)
  if x.1 + x.2.2 ≤ x.2.1 then
    (if d.pwr.thHeld then d.unheld c 0x8500_01 else d).modPwr fun p => { p with thSet := x, thHeld := false }
  else (if d.pwr.thHeld then d else d.held c 0x8500_01).modPwr fun p => { p with thHeld := true }

/-- R822: a millisecond at or above a temperature counts in AON. -/
def Dev.thermalTime (d : Dev) (hot : Int) : Dev :=
  let ms := fun (lim : Int) (n : Nat) => if 4 * lim ≤ hot then n + 1 else n
  let a := ms 105 d.pwr.at105
  let b := ms 125 d.pwr.at125
  let d := if 1000 ≤ a then d.inc 0x8500_07 else d
  let d := if 1000 ≤ b then d.inc 0x8500_08 else d
  d.modPwr fun p => { p with at105 := a % 1000, at125 := b % 1000 }

/-- R821, R862: warning and critical. -/
def Dev.thermalJudge (d : Dev) (c : Ctx) (hot : Int) (at' : Nat) : Dev :=
  let (w, k, h) := d.pwr.thSet
  let d :=
    if !d.pwr.warnOn && decide (4 * w ≤ hot) then (d.modPwr fun p => { p with warnOn := true }).raise c 87 at'
    else if d.pwr.warnOn && decide (hot ≤ 4 * (w - h)) then (d.modPwr fun p => { p with warnOn := false }).raiseClr c 87 at'
    else d
  if !d.pwr.critOn && decide (4 * k ≤ hot) then
    ((d.modPwr fun p => { p with critOn := true }).raise c 88 at').detect c 0x15 at'
  else if d.pwr.critOn && decide (hot ≤ 4 * (k - h)) then
    let d := (d.modPwr fun p => { p with critOn := false }).raiseClr c 88 at'
    (upTo 8).foldl (fun d i => d.endCond 0x15 i) d
  else d

/-- THERMAL_READING (R821, R822, R840): the 8 readings, and those of a second read, in 0.25 °C. -/
def execThermalReading (dt : Nat) (temps again : List Int) (s : State) : Host.Outcome State Fault Refusal :=
  s.act dt fun c d =>
    if !d.powered || temps.length ≠ 8 || decide (c.t < d.pwr.thT + 400000) then d
    else
      let d := d.modPwr fun p => { p with thT := c.t }
      let (d, l) := (d.thermalSet c).thermalExclude c temps again
      let bs := l.flatMap fun v => le 2 (toTwos 2 v)
      let d := d.setB 0x8500_04 bs
      let ok := (l.zipIdx).filter fun p => !bit d.pwr.excl p.2
      match ok with
      | [] => d
      | p :: r =>
        let m := r.foldl (fun (a : Int × Nat) x => if a.1 < x.1 then x else a) p
        let d := (d.setI 0x8500_05 m.1).setI 0x8500_06 (max (d.int 0x8500_06) m.1)
        (d.thermalTime m.1).thermalJudge c m.1 m.2

/-! ## GPIO (R823 to R826) -/

/-- R824: the levels of all pins: outputs drive theirs. -/
def Dev.gpioLevels (d : Dev) : Nat :=
  bitmap 16 fun g => if bit (d.nat 0x8000_13) g then bit (d.nat 0x8000_14) g else bit d.pwr.gpioIn g

/-- GPIO_INPUT (R825): pin `g` has been at a new level for the debounce time. -/
def execGpioInput (dt g : Nat) (high : Bool) (s : State) : Host.Outcome State Fault Refusal :=
  s.actOn (g < 16) dt fun c d =>
    let was := bit d.pwr.gpioIn g
    let e := bits (d.nat 0x8000_16) (2 * g) 2
    let d := d.modPwr fun p => { p with gpioIn := setBit p.gpioIn g high }
    if d.powered && was ≠ high && !bit (d.nat 0x8000_13) g && bit e (b2n (!high)) then d.raise c 92 (g + b2n high * 256)
    else d

/-! ## Objects -/

/-- The refusals of a write in 0x8000 to 0x8500 beside the dictionary's. -/
def Dev.checkPower (d : Dev) (base sub : Nat) (v : Val) : List Nat :=
  let seq := d.pwr.seq ≠ .none
  if base = 0x8000 then
    if sub = 0x02 then d.checkRequest v
    else if sub = 0x0C then (if v = .num 1 || v = .num 2 then [] else [5]) ++ (if seq then [8] else [])
    else if sub = 0x04 then (if v.int < 2 ^ 13 then [] else [5])
    else []
  else if base = 0x8100 then
    if sub = 0x13 then (if v = .num 1 then [] else [5]) ++ (if seq then [8] else []) else []
  else []

/-- The effect of a write in 0x8000 to 0x8500 but for the power request. -/
def Dev.writePower (d : Dev) (c : Ctx) (base n sub : Nat) (v : Val) : Dev :=
  let k := key base n sub
  if base = 0x8000 then
    if sub = 0x0C then (if v = .num 1 then d.powerUp c 0 else d.powerDown c) else d.set k v
  else if base = 0x8100 then if sub = 0x13 then d.restartRail c n else d.set k v
  else if base = 0x8200 && sub = 0x01 then
    let was := d.flag k
    let d := d.set k v
    if v.int = 0 then (d.seatOff n 0).modSeat n fun x => { x with again := false }
    else if was then d
    else d.setN (seatK n 0x0A) 1
  else if base = 0x8300 && sub ≤ 0x02 then
    (d.set k v).modPwr fun p => { p with adc := p.adc.map fun x => { x with acc := 0, cnt := 0 } }
  else d.set k v

/-- The live reads of 0x8000. -/
def Dev.readPower (d : Dev) (base sub : Nat) : Option Val :=
  if base = 0x8000 && sub = 0x15 then some (.num d.gpioLevels) else none

end Sys2Proof.Machine
end

