-- ==== Sys2Proof/Machine/Store.lean ====
section
/-!
DEFINITION. The MRAM: configuration banks (Table 1.5, R57 to R59), the copy of the event log (Table 13.7, R770 to R773),
and the log as it is read (R763, R784).
-/
namespace Sys2Proof.Machine

/-! ## Sequences (R59) -/

/-- Whether sequence `a` is newer than `b`. -/
def newer (a b : Nat) : Bool :=
  let x := ((a : Int) - b) % (2 ^ 32 : Int)
  decide (1 ≤ x) && decide (x ≤ 0x7FFFFFFF)

/-- The sequence that follows. -/
def bankNext (s : Nat) : Nat := if s = 0xFFFF_FFFE || s = 0xFFFF_FFFF then 1 else s + 1

/-- The bitwise complement of a commit word. -/
def comp32 (s : Nat) : Nat := 0xFFFF_FFFF - s % 2 ^ 32

/-! ## Configuration banks -/

/-- Bytes 0x0000 to 0x000B of a bank (Table 1.5). -/
def Bank.head (b : Bank) : List Byte := le 4 b.magic ++ le 2 b.format ++ [byte b.variant, 0#8] ++ le 4 b.len

/-- R57: the CRC over the head and the payload. -/
def Bank.crcOf (b : Bank) : Nat := crc32c (b.head ++ b.payload)

/-- R59: whether a bank is valid. -/
def Bank.valid (b : Bank) : Bool :=
  b.magic = 0x5844_5349 && b.format = 1 && decide (b.len ≤ 229344) && b.payload.length = b.len
    && b.seq ≠ 0 && b.seq ≠ 0xFFFF_FFFF && b.comp = comp32 b.seq && b.crc = b.crcOf

/-- The bytes of a bank from its offset 0. -/
def Bank.bytes (b : Bank) : List Byte :=
  b.head ++ le 4 b.crc ++ le 4 b.seq ++ le 4 b.comp ++ zeros 8 ++ b.payload

/-- R59: the bank a start-up loads, as 0x1020.05 codes it, or 0. -/
def Dev.bankToLoad (d : Dev) (aOk bOk : Bool) : Nat :=
  let a := d.bankA.valid && aOk
  let b := d.bankB.valid && bOk
  if a && b then (if newer d.bankB.seq d.bankA.seq then 2 else 1) else if a then 1 else if b then 2 else 0

/-- The bank 0x1020.05 names. -/
def Dev.bank (d : Dev) (n : Nat) : Bank := if n = 2 then d.bankB else d.bankA

/-- The device with bank 1 (A) or 2 (B) replaced. -/
def Dev.setBank (d : Dev) (n : Nat) (b : Bank) : Dev := if n = 2 then { d with bankB := b } else { d with bankA := b }

/-- The value of a record: a number in its type's bytes, or the bytes of a STRING or DOMAIN. -/
def recordVal (ty : Ty) (v : Val) : List Byte :=
  match ty.size with
  | some n => le n (toTwos n v.int)
  | none => v.raw

/-- R58: one record of a payload. -/
def recordBytes (k : Nat) (ty : Ty) (v : Val) : List Byte :=
  let b := recordVal ty v
  le 2 (k / 256) ++ [byte k, byte ty.code] ++ le 2 b.length ++ b ++ zeros ((4 - (6 + b.length) % 4) % 4)

/-- The length of a record: 6 bytes and the value, filled up to a multiple of 4. -/
def recordLen (ty : Ty) (v : Val) : Nat :=
  (6 + (match ty.size with | some n => n | none => v.raw.length) + 3) / 4 * 4

/-! ## The log -/

/-- The bytes of a log record (Tables 13.5, 13.6), its CRC right or damaged. -/
def LogRec.bytes (r : LogRec) : List Byte :=
  let b := le 4 r.seq ++ [byte r.ev, byte r.flags] ++ le 2 r.epoch ++ le 8 r.t ++ r.body
  b ++ le 4 (if r.bad then crc32c b ^^^ 1 else crc32c b)

/-- R765: the committed records. -/
def Log.good (l : Log) : List LogRec := l.recs.filter fun r => !r.bad

/-- R784: damaged records are counted once, at the first read that finds them, and then hold no record. -/
def Dev.dropBad (d : Dev) : Dev :=
  let n := (d.log.recs.filter LogRec.bad).length
  if n = 0 then d else (d.addTo 0x9400_08 32 n) |> fun d => { d with log := { d.log with recs := d.log.good } }

/-- The live values of 0x9400. -/
def Dev.readLog (d : Dev) (sub : Nat) : Option Val :=
  let g := d.log.good
  match sub with
  | 0x01 => some (.bytes (g.map LogRec.bytes).flatten)
  | 0x02 => some (.num ((g.getLast?.map LogRec.seq).getD 0))
  | 0x03 => some (.num ((g.head?.map LogRec.seq).getD 0))
  | 0x04 => some (.num d.log.fifo.length)
  | _ => none

/-! ## The copy of the log (Table 13.7) -/

/-- Bytes 0x00 to 0x07 of a copy's header. -/
def CopySlot.head (x : CopySlot) : List Byte :=
  le 4 x.magic ++ le 2 x.format ++ [byte x.reason, byte x.count]

/-- Bytes 0x10 to 0x3B of a copy's header. -/
def CopySlot.tail (x : CopySlot) : List Byte := le 8 x.t ++ le 2 x.epoch ++ zeros 34

/-- The records' bytes. -/
def CopySlot.body (x : CopySlot) : List Byte := (x.recs.map LogRec.bytes).flatten

/-- The CRC of a copy. -/
def CopySlot.crcOf (x : CopySlot) : Nat := crc32c (x.head ++ x.tail ++ x.body)

/-- The bytes of a copy slot. -/
def CopySlot.bytes (x : CopySlot) : List Byte :=
  x.head ++ le 4 x.seq ++ le 4 x.comp ++ x.tail ++ le 4 x.crc ++ x.body

/-- R770: whether a copy slot is valid. -/
def CopySlot.valid (x : CopySlot) : Bool :=
  x.magic = 0x474F_4C45 && x.format = 1 && decide (1 ≤ x.count) && decide (x.count ≤ 128)
    && x.seq ≠ 0 && x.seq ≠ 0xFFFF_FFFF && x.comp = comp32 x.seq && x.crc = x.crcOf

/-- The newest valid copy slot. -/
def Dev.newestCopy (d : Dev) : Option (Bool × CopySlot) :=
  if d.slot0.valid && d.slot1.valid then
    if newer d.slot1.seq d.slot0.seq then some (true, d.slot1) else some (false, d.slot0)
  else if d.slot0.valid then some (false, d.slot0)
  else if d.slot1.valid then some (true, d.slot1)
  else none

/-- 0x9400.09: the newest valid slot, header and records. -/
def Dev.savedCopy (d : Dev) : List Byte :=
  match d.newestCopy with
  | some (_, x) => x.bytes
  | none => []

/-- R771 to R773: a copy of the log for a reason, in which `bad` verifications mismatch (2: it fails). -/
def Dev.copyLog (d : Dev) (c : Ctx) (reason bad : Nat) : Dev :=
  let d := d.dropBad
  let g := d.log.good
  if g.isEmpty then (d.setN 0x9400_07 2).raise c 93 0
  else
    let recs := g.drop (g.length - 128)
    let prev := d.newestCopy
    let seq := match prev with | some (_, x) => bankNext x.seq | none => 1
    let toOne := match prev with | some (one, _) => !one | none => false
    let x : CopySlot :=
      { magic := 0x474F_4C45, format := 1, reason := reason, count := recs.length, seq := seq, comp := comp32 seq
        t := c.t, epoch := d.epoch, recs := recs }
    let x := { x with crc := x.crcOf }
    let x := if 2 ≤ bad then { x with seq := 0, comp := 0 } else x
    let d := if toOne then { d with slot1 := x } else { d with slot0 := x }
    let d := if bad = 1 then d.transient else d
    let fail := decide (2 ≤ bad)
    (d.setN 0x9400_07 (if fail then 3 else 2)).raise c 93 (b2n fail + seq % 2 ^ 24 * 256)

/-- COPY's effect: 0x01 to 0x9400.07, `bad` verifications mismatching (R771). -/
def Dev.copyCommand (d : Dev) (c : Ctx) (bad : Nat) : Dev := d.copyLog c 2 bad

/-- R766: whether the writer takes a record: the FIFO's oldest once its tick has passed, or a summary. -/
def Dev.writerTakes (d : Dev) (c : Ctx) : Bool :=
  match d.log.fifo with
  | m :: _ => m.t ≠ c.t || m.epoch ≠ d.epoch || !d.ticking
  | [] => true

/-- LOG_RECORD_COMMIT (R766): the writer takes a record. -/
def execLogRecordCommit (dt : Nat) (s : State) : Host.Outcome State Fault Refusal :=
  s.act dt fun c d => if d.writerTakes c then d.logWrite1 else d

/-- R781: the log is emptied; what is pending is kept and the sequence continues. -/
def Dev.clearLog (d : Dev) : Dev := { d with log := { d.log with recs := [] } }

end Sys2Proof.Machine
end

