-- ==== Sys2Proof/Machine/Watchdog.lean ====
section
/-!
DEFINITION. The watchdogs and the event controller (ch 13). A count is the microseconds since the last accepted service
or the start, on local time.
-/
namespace Sys2Proof.Machine

/-! ## State of a watchdog -/

/-- Watchdog `n`: 0 WD0, 1 WD1. -/
def Dev.wd (d : Dev) (n : Nat) : Wdg := if n = 0 then d.wd0 else d.wd1

/-- Change watchdog `n`. -/
def Dev.modWd (d : Dev) (n : Nat) (f : Wdg → Wdg) : Dev :=
  if n = 0 then { d with wd0 := f d.wd0 } else { d with wd1 := f d.wd1 }

/-- A key of 0x9100 + n. -/
def wdK (n sub : Nat) : Nat := key 0x9100 n sub

/-- R742: the count in µs. -/
def Wdg.count (w : Wdg) (t : Nat) : Nat :=
  if !w.run then 0 else match w.frozen with | some n => n | none => (t - w.t0) / 400

/-- R743: the count at which the window opens. -/
def WSet.opens (x : WSet) : Nat := x.w * x.t / 8

/-- R743: the early warning point. -/
def WSet.warnAt (x : WSet) : Nat := x.e * x.t / 8

/-- R743, R751: whether a set is consistent. -/
def WSet.ok (x : WSet) (n : Nat) : Bool :=
  decide (100 ≤ x.t) && decide (x.t ≤ 10000000) && decide (x.w ≤ 7) && (x.e = 0 || (decide (x.w < x.e) && decide (x.e ≤ 7)))
    && (n = 1 || (decide (x.opens + 10 ≤ x.p) && decide (x.p + 10 ≤ x.t)))

/-- The set the objects hold. -/
def Dev.wdSet (d : Dev) (n : Nat) : WSet :=
  ⟨d.nat (wdK n 2), d.nat (wdK n 3), d.nat (wdK n 4), if n = 0 then d.nat (wdK 0 5) else 250000⟩

/-- R751: the set is judged at a start or an accepted service. -/
def Dev.wdJudge (d : Dev) (c : Ctx) (n : Nat) : Dev :=
  let x := d.wdSet n
  let w := d.wd n
  if x.ok n then
    let d := if w.held then d.unheld c (wdK n 2) else d
    d.modWd n fun w => { w with set := x, held := false }
  else (if w.held then d else d.held c (wdK n 2)).modWd n fun w => { w with held := true }

/-- The count restarts at 0. -/
def Dev.wdZero (d : Dev) (c : Ctx) (n : Nat) : Dev :=
  d.modWd n fun w =>
    { w with t0 := c.t, last := c.t, lastEpoch := d.epoch, warned := false, key1 := false, grace := false
             frozen := w.frozen.map fun _ => 0 }

/-- R744: a start; a loaded lock takes hold (R752). -/
def Dev.wdStart (d : Dev) (c : Ctx) (n : Nat) : Dev :=
  if (d.wd n).run then d
  else
    let d := d.modWd n fun w => { w with run := true, lock := w.lock || d.flag (wdK n 6), frozen := if d.core.halted then some 0 else none }
    (d.wdZero c n).wdJudge c n

/-! ## Expiry -/

/-- Table 13.2: the evidence of an expiry, the program counter and privilege of the lead core observed. -/
def Dev.evidence (d : Dev) (c : Ctx) (n reason pc priv : Nat) : List Byte :=
  let w := d.wd n
  le 4 pc ++ [byte priv, byte reason] ++ zeros 2 ++ le 8 w.last ++ le 2 w.lastEpoch ++ zeros 2 ++ le 8 c.t ++ le 2 d.epoch
    ++ zeros 2

/-- R747, R750, R755: an expiry for a reason. -/
def Dev.wdExpire (d : Dev) (c : Ctx) (n reason pc priv : Nat) : Dev :=
  let d := d.setB (wdK n 0x0C) (d.evidence c n reason pc priv)
  let d := (d.inc (wdK n 0x0B)).raise c 12 (n + reason * 256)
  if n = 0 then d.detect c 0x0C 0
  else
    -- R892: in STANDBY the expiry wakes the device first
    let d := if d.pwr.st = .standby then d.standbyWake c 0 (pllTime c) else d
    let again := match d.wd1.restartT with | some t => decide (c.t ≤ t + 4000000000) | none => false
    let d := (d.detect c 0x0D 0).wantReset 9
    { (d.modWd 1 fun w => { w with run := false }) with core := { d.core with noStart := d.core.noStart || again } }

/-- The program counter and privilege as the core stands: known while the hart is halted, else free. -/
def Dev.pcNow (d : Dev) (c : Ctx) (n : Nat) : Nat × Nat :=
  if d.core.halted then (d.core.pc, d.core.priv)
  else if n = 1 && d.core.waiting then (d.core.userPc, 3)
  else (Config.free c.seed 2101 % 2 ^ 32, if Config.free c.seed 2102 % 2 = 0 then 0 else 3)

/-- The count a watchdog expires at: T, and in the first period after a control reset at least 20,000 (R754). -/
def Wdg.limit (w : Wdg) : Nat := if w.grace then max w.set.t 20000 else w.set.t

/-- R746, R747, R776: a key written to WDG_nSVC; past the microsecond in which the count reaches T the watchdog has
expired (R748). -/
def Dev.wdKey (d : Dev) (c : Ctx) (n v : Nat) : Dev :=
  let w := d.wd n
  if !w.run then (if n = 1 then d.wdStart c 1 else d)
  else
    let bad := fun (r : Nat) => let p := d.pcNow c n; d.wdExpire c n r p.1 p.2
    if w.frozen.isNone && decide (w.limit < w.count c.t) then bad 1
    else if !w.key1 then (if v = 0x3C5A then d.modWd n fun w => { w with key1 := true } else bad 3)
    else if v ≠ 0xC3A5 then bad 3
    else if w.count c.t < w.set.opens then bad 2
    else ((d.wdZero c n).inc (wdK n 9)).wdJudge c n

/-- R748: whether a watchdog's count has reached its limit. -/
def Dev.wdDue (d : Dev) (c : Ctx) (n : Nat) : Bool :=
  let w := d.wd n
  w.run && w.frozen.isNone && decide (w.limit ≤ w.count c.t)

/-- R748, R750, R777, R892: a count reaches T; where both have, both are recorded. `pc` and `priv` are the lead core's. -/
def execWatchdogExpired (dt pc priv : Nat) (s : State) : Host.Outcome State Fault Refusal :=
  s.act dt fun c d =>
    let p1 := if priv = 0 then pc else d.core.userPc
    let one := d.wdDue c 1
    let d := if d.wdDue c 0 then d.wdExpire c 0 1 (pc % 2 ^ 32) priv else d
    if one then d.wdExpire c 1 1 (p1 % 2 ^ 32) priv else d

/-- R749: the early warning point is reached. -/
def execEarlyWarning (dt n : Nat) (s : State) : Host.Outcome State Fault Refusal :=
  s.actOn (decide (n < 2)) dt fun c d =>
    let w := d.wd n
    let k := w.count c.t
    if w.run && w.frozen.isNone && w.set.e ≠ 0 && !w.warned && decide (w.set.warnAt ≤ k) then
      let d := (d.modWd n fun w => { w with warned := true }).inc (wdK n 0x0A)
      d.raise c (10 + n) k
    else d

/-- R751: the agent services WD0. -/
def execWd0Service (dt : Nat) (s : State) : Host.Outcome State Fault Refusal :=
  s.act dt fun c d =>
    if d.listening && d.wd0.run && d.wd0.frozen.isNone && decide (d.wd0.set.p ≤ d.wd0.count c.t + 5) then
      let d := if d.wd0.key1 then d else d.wdKey c 0 0x3C5A
      d.wdKey c 0 0xC3A5
    else d

/-- R725, R778: the watchdogs freeze at a halt (WD0 not while the safety-lock fuse is blown); one whose count has reached
T expires. -/
def Dev.wdFreeze (d : Dev) (c : Ctx) : Dev :=
  let fr := fun (w : Wdg) => if w.run && w.frozen.isNone && decide (w.count c.t < w.limit) then { w with frozen := some (w.count c.t) } else w
  let d := if d.rst.fuses.lock then d else d.modWd 0 fr
  d.modWd 1 fr

/-- The watchdogs count again from where they froze. -/
def Dev.wdThaw (d : Dev) (c : Ctx) : Dev :=
  let th := fun (w : Wdg) => match w.frozen with | some n => { w with frozen := none, t0 := c.t - n * 400 } | none => w
  (d.modWd 0 th).modWd 1 th

/-- R754: a control reset's release: WD0's count restarts, with no expiry before 20,000. -/
def Dev.wdGrace (d : Dev) (c : Ctx) : Dev :=
  if d.wd0.run then (d.wdZero c 0).modWd 0 fun w => { w with grace := true, frozen := none } else d

/-- R753: the WD0 hardware start at boot step 1. -/
def Dev.wdHard (d : Dev) (c : Ctx) : Dev :=
  if d.rst.fuses.wd0 then
    (d.modWd 0 fun w => { w with run := true, set := { t := 100000, w := 0, e := 0, p := 250000 } }).wdZero c 0
  else d

/-- R753: boot step 5 applies the loaded values: a start, or the count restarts and the set is judged; where it is not
consistent and none has been in force, the defaults act (R751). -/
def Dev.wdBoot (d : Dev) (c : Ctx) : Dev :=
  let d := if d.flag (wdK 0 6) && (d.wd0.run || d.flag (wdK 0 1)) then d.modWd 0 fun w => { w with lock := true } else d
  if d.wd0.run then ((d.modWd 0 fun w => { w with set := {} }).wdZero c 0).wdJudge c 0
  else if d.flag (wdK 0 1) then d.wdStart c 0
  else d

/-! ## Objects 0x9100 -/

/-- The refusals of a write to 0x9100 + n: locked fields (R752), stopping WD0 (R753), a command code. -/
def Dev.checkWdg (d : Dev) (n sub : Nat) (v : Val) : List Nat :=
  (if (d.wd n).lock && 2 ≤ sub && sub ≤ 6 then [7] else [])
    ++ (if n = 0 && sub = 1 && v.int = 0 && d.wd0.run then [3] else [])
    ++ (if (n = 1 && sub = 1 || sub = 0x0D) && v.int ≠ 1 then [5] else [])

/-- The effect of a write to 0x9100 + n (R744, R750, R752). -/
def Dev.writeWdg (d : Dev) (c : Ctx) (n sub : Nat) (v : Val) : Dev :=
  if sub = 1 then (if v.int = 1 then (if n = 0 then d.setN (wdK 0 1) 1 else d).wdStart c n else d.set (wdK n 1) v)
  else if sub = 6 then (d.set (wdK n 6) v).modWd n fun w => { w with lock := w.lock || v.int = 1 }
  else if sub = 0x0D then d.setB (wdK n 0x0C) (zeros 32)
  else d.set (wdK n sub) v

/-- The live values of 0x9100 + n. -/
def Dev.readWdg (d : Dev) (c : Ctx) (n sub : Nat) : Option Val :=
  let w := d.wd n
  match sub with
  | 0x07 => some (.num (if !w.run then 0 else if w.frozen.isSome then 2 else 1))
  | 0x08 => some (.num (w.count c.t))
  | _ => none

/-! ## Registers WDG_ and EVC_ -/

/-- The answer of a register write: none, or the error reason of BMX_ERRINFO (R695): 0 unmapped, 1 privilege, 3
read-only. R947's errors name no reason: free. -/
def Dev.wdgRegWrite (d : Dev) (c : Ctx) (n r v : Nat) : Dev × Option Nat :=
  let lock := (d.wd n).lock
  let bad : Dev × Option Nat := (d, some (Config.free c.seed 40 % 4))
  let go := fun (d : Dev) => ((if n = 1 then d.wdStart c 1 else d), (none : Option Nat))
  match r with
  | 0x00 =>
    let w := bits v 2 3
    let e := bits v 5 3
    let lk := bit v 1
    let same := decide (w = d.nat (wdK n 3)) && decide (e = d.nat (wdK n 4)) && lk = d.flag (wdK n 6)
    if 256 ≤ v || !(e = 0 || w < e) then bad
    else if lock && !same then (d, some 3)
    else
      let d := ((d.setN (wdK n 3) w).setN (wdK n 4) e).setN (wdK n 6) (b2n lk)
      let d := if lk then d.modWd n fun w => { w with lock := true } else d
      if n = 1 then go d
      else if bit v 0 then ((d.setN (wdK 0 1) 1).wdStart c 0, none)
      else (d, none)
  | 0x04 =>
    if lock then (d, some 3)
    else if v < 100 || 10000000 < v then bad
    else go (d.setN (wdK n 2) v)
  | 0x08 => (d.wdKey c n v, none)
  | 0x14 =>
    if n = 1 then (d, some 0)
    else if lock then (d, some 3)
    else go (d.setN (wdK 0 5) (v % 2 ^ 32))
  | _ => if r = 0x0C || r = 0x10 || (0x20 ≤ r && r ≤ 0x3C) then (d, some 3) else (d, some 0)

/-- A read of a WDG_ register; none: no such register. A write-only register reads a free value. -/
def Dev.wdgRegRead (d : Dev) (c : Ctx) (n r : Nat) : Option Nat :=
  let w := d.wd n
  let e := if d.rst.stage = .up then d.nat (wdK n 4) else 0
  match r with
  | 0x00 => some (b2n w.run + b2n (d.flag (wdK n 6)) * 2 + d.nat (wdK n 3) * 4 + e * 32)
  | 0x04 => some (d.nat (wdK n 2))
  | 0x08 => some (Config.free c.seed 41 % 2 ^ 32)
  | 0x0C => some (w.count c.t % 2 ^ 24)
  | 0x10 => some (wdgStat w (w.count c.t))
  | 0x14 => if n = 0 then some (d.nat (wdK 0 5)) else none
  | _ => if 0x20 ≤ r && r ≤ 0x3C then some (fld (d.raw (wdK n 0x0C)) (r - 0x20) 4) else none

/-- A write to an EVC_ register (R758, R759). EVC_SWRAISE1 is judged as a release request elsewhere (R860). -/
def Dev.evcRegWrite (d : Dev) (c : Ctx) (r v : Nat) : Dev × Option Nat :=
  if r = 0x10 || r = 0x14 || r = 0x18 then
    let m := v % 2 ^ 32 * 2 ^ (32 * ((r - 0x10) / 4))
    ({ d with evc := { d.evc with pend := d.evc.pend - (d.evc.pend &&& m) } }, none)
  else if r = 0x20 then ({ d with evc := { d.evc with mask := v % 16 } }, none)
  else if r = 0x28 then (d.raise c 94 (v % 2 ^ 32), none)
  else if r = 0x2C then (d.raise c 95 (v % 2 ^ 32), none)
  else if r = 0x24 || r ≤ 8 && r % 4 = 0 || (0x100 ≤ r && r < 0x280) then (d, some 3)
  else (d, some 0)

/-- EVC_CLAIM (Table 13.9). -/
def Dev.claimWord (d : Dev) : Nat := match d.irqClaim with | some (l, e) => e + l * 256 | none => 0xFF

/-- A read of an EVC_ register. -/
def Dev.evcRegRead (d : Dev) (c : Ctx) (r : Nat) : Option Nat :=
  if r = 0 || r = 4 || r = 8 then some (bits d.evc.pend (8 * r) 32)
  else if r = 0x10 || r = 0x14 || r = 0x18 || r = 0x28 || r = 0x2C then some (Config.free c.seed 41 % 2 ^ 32)
  else if r = 0x20 then some d.evc.mask
  else if r = 0x24 then some d.claimWord
  else if 0x100 ≤ r && r < 0x280 && r % 4 = 0 then some ((d.evc.details[(r - 0x100) / 4]?).getD 0)
  else none

/-! ## Objects 0x9200 -/

/-- Refusals of a write to 0x9200: a reserved bit of a routing byte, the software event number, the command code. -/
def checkEvents (sub : Nat) (v : Val) : List Nat :=
  if sub = 1 && v.raw.any (fun b => decide (64 ≤ b.toNat)) then [5]
  else if sub = 6 && !(v.int = 0 || v.int = 1) then [5] else if sub = 7 && v.int ≠ 1 then [5] else []

/-- R762: software event `n` with detail 0. -/
def Dev.softRaise (d : Dev) (c : Ctx) (n : Nat) : Dev := d.raise c (94 + n) 0

/-- Table 13.11: clear the raise and message counters. -/
def Dev.clearEvents (d : Dev) : Dev :=
  (d.clear [0x9200_04, 0x9200_05]) |> fun d => { d with evc := { d.evc with raises := List.replicate 96 0 } }

/-- The effect of a write to 0x9200 (R757, R762, R774). -/
def Dev.writeEvents (d : Dev) (c : Ctx) (sub : Nat) (v : Val) : Dev :=
  if sub = 1 then
    -- bit 5 and the reserved bits of a routing byte are read-only
    let b := v.raw.map fun x => byte (x.toNat % 32)
    { (d.setB 0x9200_01 b) with evc := { d.evc with routes := b } }
  else if sub = 6 then d.softRaise c v.int.toNat
  else if sub = 7 then d.clearEvents
  else d.set (0x9200_00 + sub) v

/-- Whether a source is marked (S) in Table 13.3. -/
def evSafety (e : Nat) : Bool :=
  (2 ≤ e && e ≤ 9) || e = 12 || e = 38 || e = 48 || e = 49 || (55 ≤ e && e ≤ 57) || e = 88

/-- The live values of 0x9200: the routes with their fixed bit (Table 13.4), the raises. -/
def Dev.readEvents (d : Dev) (sub : Nat) : Option Val :=
  match sub with
  | 0x01 => some (.bytes (((d.raw 0x9200_01).zipIdx).map fun p => byte (p.1.toNat + b2n (evSafety p.2) * 32)))
  | 0x02 => some (.bytes ((d.evc.raises.map (le 4)).flatten))
  | _ => none

end Sys2Proof.Machine
end

