-- ==== Sys2Proof/Machine/Collector.lean ====
section
/-!
DEFINITION. The safety collector's own commands (ch 15): SAFE_REQ_N, the release, the self-tests, the scans and the
read-backs.
-/
namespace Sys2Proof.Machine

/-- R863: an accepted release. -/
def Dev.doRelease (d : Dev) (c : Ctx) : Dev :=
  let d := (d.setN 0x9000_01 1).setN 0x9000_0A 1
  let fs := d.formes.map fun x => { x with eReset := true }
  let d := { d with saf := { d.saf with latchA := false, latchB := false, entered := false }, formes := fs }
  d.raise c 1 0

/-- R860, R861, R869: a release request; `code` is the value written to 0x9000.02, or 1. -/
def Dev.release1 (d : Dev) (c : Ctx) (code : Nat) : Dev :=
  if code ≠ 1 then d.setN 0x9000_0A 4
  else if d.safety = 1 then d.setN 0x9000_0A 5
  else if d.nat 0x9000_06 ≠ 0 || d.saf.detT = some c.t then d.setN 0x9000_0A 2
  else if d.nat 0x9000_07 % 256 ≠ 1 || d.nat 0x9000_08 % 256 = 2 then d.setN 0x9000_0A 3
  else d.doRelease c

/-- R854: SAFE_REQ_N is low: a detection while its enable (0x9010.03) is set, once per condition (R946). -/
def Dev.judgeSafeReq (d : Dev) (c : Ctx) : Dev :=
  if d.saf.reqLow && d.flag 0x9010_03 && !d.saf.conds.contains (0x0B, 0) then (d.raise c 9 0).detect c 0x0B 0 else d

/-- R862, R946: condition 0x0B ends. -/
def Dev.endSafeReq (d : Dev) (c : Ctx) : Dev :=
  if d.saf.conds.contains (0x0B, 0) then (d.endCond 0x0B 0).raiseClr c 9 0 else d

/-- EXTERNAL_SAFE_REQUEST (R854, 0x0B). -/
def execExternalSafeRequest (dt : Nat) (s : State) : Host.Outcome State Fault Refusal :=
  s.act dt fun c d => if d.ticking then ({ d with saf := { d.saf with reqLow := true } }).judgeSafeReq c else d

/-- SAFE_REQ_N_HIGH (R946, R862). -/
def execSafeReqNHigh (dt : Nat) (s : State) : Host.Outcome State Fault Refusal :=
  s.act dt fun c d => if d.ticking then ({ d with saf := { d.saf with reqLow := false } }).endSafeReq c else d

/-- R864: a self-test item fails: detection 0x09 with the item. -/
def Dev.testFail (d : Dev) (c : Ctx) (item : Nat) : Dev := (d.raise c 8 (causeWord 0x09 item)).detect c 0x09 item

/-- The items of Table 15.6 among those reported. -/
def testItems (failed : List Nat) : List Nat := (upTo 10).filter fun i => decide (1 ≤ i) && failed.contains i

/-- The self-test word of 0x9000.07 and .08: passed, or failed with the first item. -/
def testWord (failed : List Nat) : Nat :=
  match testItems failed with
  | [] => 1
  | i :: _ => 2 + i * 256

/-- PERIODIC_SELF_TEST (R864): the items that failed. -/
def execPeriodicSelfTest (dt : Nat) (failed : List Nat) (s : State) : Host.Outcome State Fault Refusal :=
  s.act dt fun c d =>
    if d.rst.stage = .up && d.ticking && decide (d.nat 0x9000_09 + d.nat 0x9010_02 * 400000000 ≤ c.t) then
      let d := (((d.setN 0x9000_08 (testWord failed)).setN 0x9000_09 c.t)).inc 0x9300_09
      (testItems failed).foldl (fun d i => d.testFail c i) d
    else d

/-- SHADOW_SCAN (R854, 0x08): one scan of the active configuration, finding a corrupted word or none. -/
def execShadowScan (dt : Nat) (bad : Bool) (s : State) : Host.Outcome State Fault Refusal :=
  s.act dt fun c d =>
    if !d.ticking then d
    else if bad then (d.raise c 7 0).detect c 0x08 0
    else d.inc 0x9300_08

/-- PATROL_SCRUB (R854): a pass of `ms` ms: errors corrected in frame memory and in the core's memories, uncorrectable
reads whose retry succeeded (R25), whether one of each memory stayed uncorrectable, the sequences of log records found
damaged, and the watchdogs whose stored evidence is (R784). -/
def execPatrolScrub (dt ms fmFixed coreFixed again : Nat) (fmBad coreBad : Bool) (logBad evBad : List Nat) (s : State) :
    Host.Outcome State Fault Refusal :=
  s.act dt fun c d =>
    if !d.ticking then d
    else
      let d := ((d.addTo 0x9300_05 32 fmFixed).addTo 0xA000_0E 32 coreFixed).addTo 0x9300_04 32 again
      let d := (d.inc 0x9300_06).setN 0x9300_07 (max ms (d.nat 0x9300_07))
      let recs := d.log.recs.map fun r => if logBad.contains r.seq then { r with bad := true } else r
      let d := { d with log := { d.log with recs := recs } }
      let d := evBad.foldl (fun d n => if n < 2 then d.setB (wdK n 0x0C) (zeros 32) else d) d
      let d := if fmBad then (d.raise c 6 0).detect c 0x06 0 else d
      if coreBad then ((d.inc 0xA000_0F).raise c 6 0).detect c 0x07 0 else d

/-- SAFE_N_READBACK (R932, 0x0A). -/
def execSafeNReadback (dt : Nat) (s : State) : Host.Outcome State Fault Refusal :=
  s.act dt fun c d => if d.ticking then (d.raise c 8 (causeWord 0x0A 0)).detect c 0x0A 0 else d

/-- COLLECTOR_DISAGREEMENT (R846, 0x19): one channel has changed against the other for 1 µs. -/
def execCollectorDisagreement (dt : Nat) (s : State) : Host.Outcome State Fault Refusal :=
  s.act dt fun c d => if d.ticking then (d.raise c 8 (causeWord 0x19 0)).detect c 0x19 0 else d

/-- R762, R860: a write to EVC_SWRAISE0 or EVC_SWRAISE1; the value 0x5AFE_0001 to the latter requests a release. While
the hart is halted the application cannot (R871). -/
def Dev.swRaise (d : Dev) (c : Ctx) (n v : Nat) : Dev :=
  let d := d.raise c (94 + n) (v % 2 ^ 32)
  if n = 1 && v % 2 ^ 32 = 0x5AFE_0001 && !d.core.halted then d.release1 c 1 else d

/-- Whether the core can access a register: it runs, out of reset and out of STANDBY. -/
def Dev.coreOn (d : Dev) : Bool :=
  (d.rst.stage = .up || d.rst.stage = .released) && (d.pwr.st = .run || d.pwr.st = .doze)

/-- EVC_SWRAISE0 (R762). -/
def execEvcSwraise0 (dt v : Nat) (s : State) : Host.Outcome State Fault Refusal :=
  s.act dt fun c d => if d.coreOn then d.swRaise c 0 v else d

/-- EVC_SWRAISE1 (R762, R860). -/
def execEvcSwraise1 (dt v : Nat) (s : State) : Host.Outcome State Fault Refusal :=
  s.act dt fun c d => if d.coreOn then d.swRaise c 1 v else d

/-- EVC_ACK (R758): a write to EVC_ACK0 to 2, number `k`. -/
def execEvcAck (dt k v : Nat) (s : State) : Host.Outcome State Fault Refusal :=
  s.actOn (decide (k < 3)) dt fun c d => if d.coreOn then (d.evcRegWrite c (0x10 + 4 * k) v).1 else d

/-- FAULT_COUNTERS_CLEAR's effect (Table 15.13). -/
def Dev.clearFaults (d : Dev) : Dev := d.clear ((upTo 9).map fun i => 0x9300_01 + i)

/-- Refusals of a write to 0x9300.0A. -/
def checkFaults (sub : Nat) (v : Val) : List Nat := if sub = 0x0A && v.int ≠ 1 then [5] else []

/-- The effect of a write to 0x9000, 0x9010 or 0x9300 (R860, Table 15.12, Table 15.13). -/
def Dev.writeSafety (d : Dev) (c : Ctx) (base sub : Nat) (v : Val) : Dev :=
  if base = 0x9000 then (if sub = 2 then d.release1 c v.int.toNat else d)
  else if base = 0x9300 then d.clearFaults
  else
    let d := d.set (0x9010_00 + sub) v
    if sub = 3 then (if v.int = 0 then d.endSafeReq c else d.judgeSafeReq c) else d

/-- The read value of 0x9000.02 (Table 15.11). -/
def Dev.readSafety (d : Dev) (base sub : Nat) : Option Val :=
  if base = 0x9000 && sub = 2 then some (d.get 0x9000_0A)
  else if base = 0x9300 && sub = 1 then some (.bytes (let b := d.raw 0x9300_01; if b.isEmpty then zeros 128 else b))
  else none

end Sys2Proof.Machine
end

