-- ==== Sys2Proof/Machine/Memory.lean ====
section
/-!
DEFINITION. The control core's address space (ch 12): the memory map, its memories, the core-local registers of Table
12.10, aperture sets, the trace object commands, the default error target.
-/
namespace Sys2Proof.Machine

/-! ## Memories -/

/-- The byte a memory list gives an address; an unlisted byte is 0. -/
def memGet (m : List (Nat × Byte)) (a : Nat) : Byte :=
  match m with
  | [] => 0#8
  | (b, v) :: r => if b = a then v else memGet r a

/-- The memory with a byte that is not 0 at an address, addresses rising. -/
def memIns (m : List (Nat × Byte)) (a : Nat) (v : Byte) : List (Nat × Byte) :=
  match m with
  | [] => [(a, v)]
  | (b, w) :: r => if b = a then (a, v) :: r else if a < b then (a, v) :: (b, w) :: r else (b, w) :: memIns r a v

/-- The memory with a byte at an address: a 0 is not listed (the canonical form). -/
def memPut (m : List (Nat × Byte)) (a : Nat) (v : Byte) : List (Nat × Byte) :=
  if v = 0#8 then m.filter fun p => p.1 ≠ a else memIns m a v

/-- The canonical form: addresses above `lo`, strictly rising, no entry 0. -/
def memWfFrom : Nat → List (Nat × Byte) → Bool
  | _, [] => true
  | lo, (a, v) :: r => decide (lo ≤ a) && v ≠ 0#8 && memWfFrom (a + 1) r

/-- Whether a memory list is in canonical form. -/
def Memory.wf (m : List (Nat × Byte)) : Bool := memWfFrom 0 m

/-- `n` bytes from an address. -/
def memRead (m : List (Nat × Byte)) (a n : Nat) : List Byte := (upTo n).map fun i => memGet m (a + i)

/-- Bytes stored from an address on. -/
def memWrite (m : List (Nat × Byte)) (a : Nat) : List Byte → List (Nat × Byte)
  | [] => m
  | b :: r => memWrite (memPut m a b) (a + 1) r

/-- The memory without the bytes of [lo, hi). -/
def memClear (m : List (Nat × Byte)) (lo hi : Nat) : List (Nat × Byte) := m.filter fun p => p.1 < lo || hi ≤ p.1

/-! ## Memory map (Table 12.2) -/

/-- What a request goes to; `err` is the default error target with BMX_ERRINFO's reason (Table 12.10). -/
inductive Tgt where
  | mem | rom | mram | trc | regs
  | xip (slot : Nat)
  | ap
  | err (reason : Nat)
  deriving DecidableEq, Repr

/-- A range of Table 12.2: first address, size, target, whether fetched from, whether reached in user mode. -/
structure Region where
  base : Nat
  size : Nat
  tgt : Tgt
  fetch : Bool
  user : Bool

/-- Table 12.2 without the boot alias. -/
def regions : List Region := [
  ⟨0x0800_0000, 0x8000, .mem, true, false⟩, ⟨0x0800_8000, 0x8000, .mem, true, true⟩,
  ⟨0x0801_0000, 0x8000, .mem, false, false⟩, ⟨0x0801_8000, 0x8000, .mem, false, true⟩,
  ⟨0x1000_0000, 0xE0000, .mem, true, true⟩, ⟨0x100E_0000, 0x20000, .mem, true, false⟩,
  ⟨0x1FFF_0000, 0x10000, .rom, true, false⟩, ⟨0x2000_0000, 0x80000, .mram, false, false⟩,
  ⟨0x2100_0000, 0x8000, .mem, false, false⟩, ⟨0x2200_0000, 0x10000, .trc, false, false⟩,
  ⟨0x4000_0000, 0x6000, .regs, false, true⟩, ⟨0x6000_0000, 0x1000_0000, .xip 0, true, true⟩,
  ⟨0x7000_0000, 0x1000_0000, .xip 1, true, true⟩, ⟨0x8000_0000, 0x4000_0000, .ap, false, true⟩]

/-- The boot alias (Table 12.2): the boot ROM, or with BMX_REMAP[0] the whole ITCM. -/
def aliasRegions (remap : Bool) : List Region :=
  if remap then [⟨0, 0x8000, .mem, true, false⟩, ⟨0x8000, 0x8000, .mem, true, true⟩] else [⟨0, 0x10000, .rom, true, false⟩]

/-- The ranges a burst touches, one for each of its ends. -/
def regionOf (remap : Bool) (a : Nat) : Option Region :=
  (aliasRegions remap ++ regions).find? fun r => decide (r.base ≤ a) && decide (a < r.base + r.size)

/-- R689, Table 12.4: whether a master (0 fetch, 1 data, 2 DMA, 3 debug) reaches a target at an address. -/
def reaches (master : Nat) (t : Tgt) (a : Nat) : Bool :=
  match master with
  | 0 => match t with
    | .mem => decide (a < 0x0801_0000) || (decide (0x1000_0000 ≤ a) && decide (a < 0x1010_0000))
    | .rom | .xip _ => true
    | _ => false
  | 2 => match t with
    | .mem => decide (0x0800_0000 ≤ a) && decide (a < 0x1010_0000)
    | .xip _ | .ap => true
    | _ => false
  | _ => true

/-- Whether a target is read-only (Table 12.2). -/
def readOnly (t : Tgt) : Bool := t = .rom || t = .mram || t = .trc

/-- Where a request goes (R687, R689, R695). A burst must lie within ranges of one kind. -/
def busRoute (r : BusReq) : Tgt :=
  match regionOf r.remap r.addr, regionOf r.remap (r.addr + (r.len - 1)) with
  | some g, some h =>
    if g.tgt ≠ h.tgt || r.len = 0 then .err 0
    else if !reaches r.master g.tgt r.addr || (r.fetch && !(g.fetch && h.fetch)) then .err 2
    else if r.user && !(g.user && h.user) then .err 1
    else if r.wdata.isSome && readOnly g.tgt then .err 3
    else g.tgt
  | _, _ => .err 0

/-- The targets of Table 12.2, numbered: 0 the default error target, 1 ITCM and its alias, 2 DTCM, 3 SRAM, 4 boot ROM, 5
MRAM, 6 AON area, 7 trace buffer, 8 core-local registers, 9 and 10 the XIP windows, 11 the aperture region. -/
def tgtNo (r : BusReq) : Nat :=
  match busRoute r with
  | .err _ => 0
  | .mem => if r.addr < 0x0801_0000 then 1 else if r.addr < 0x0802_0000 then 2 else if r.addr < 0x1010_0000 then 3 else 6
  | .rom => 4
  | .mram => 5
  | .trc => 7
  | .regs => 8
  | .xip s => 9 + s
  | .ap => 11

/-- The address of a byte in the core's memory list: the alias stands for ITCM. -/
def memAddr (a : Nat) : Nat := if a < 0x1_0000 then 0x0800_0000 + a else a

/-! ## The default error target (R695) -/

/-- R695: an access the default error target answers. -/
def Dev.busError (d : Dev) (c : Ctx) (master id addr : Nat) (write : Bool) (reason : Nat) : Dev :=
  let k := d.core
  let k := if bit k.errInfo 8 then k else { k with errAddr := addr, errInfo := errInfo master id write reason }
  ({ d with core := { k with errCnt := min (2 ^ 32 - 1) (k.errCnt + 1) } }).raise c 14 0

/-! ## Read-only contents -/

/-- The byte of the MRAM at an offset (Tables 1.4, 1.5, 13.7), where the device has written one. -/
def Dev.mramByte (d : Dev) (o : Nat) : Option Byte :=
  if o < 0x3_8000 then d.bankA.bytes[o]?
  else if o < 0x7_0000 then d.bankB.bytes[o - 0x3_8000]?
  else if o < 0x7_2000 then d.slot0.bytes[o - 0x7_0000]?
  else d.slot1.bytes[o - 0x7_2000]?

/-- The byte of the trace buffer at an offset: the last one written there, 0 where none is. -/
def Trace.at1 (t : Trace) (o : Nat) : Byte :=
  let back := (t.wptr + 65536 - 1 - o) % 65536
  if back < t.buf.length then (t.buf[t.buf.length - 1 - back]?).getD 0#8 else 0#8

/-! ## Aperture windows (R698 to R701) -/

/-- A key of 0xA100 + a. -/
def apK (a sub : Nat) : Nat := key 0xA100 a sub

/-- Aperture window `a`'s set in force. -/
def Dev.ap (d : Dev) (a : Nat) : Apw := (d.core.apw[a]?).getD {}

/-- Change a window's set. -/
def Dev.modAp (d : Dev) (a : Nat) (f : Apw → Apw) : Dev :=
  { d with core := { d.core with apw := modifyAt f a d.core.apw } }

/-- R698: whether a shadow set is consistent; a window that is not enabled is. -/
def apOk (k base off : Nat) : Bool :=
  decide (12 ≤ k) && decide (k ≤ 28) && decide (0x8000_0000 ≤ base) && decide (base + 2 ^ k ≤ 0xC000_0000)
    && base % 2 ^ k = 0 && off % 2 ^ k = 0

/-- R699: the whole shadow set is validated; a consistent one applies, another is held. -/
def Dev.apApply (d : Dev) (c : Ctx) (a : Nat) : Dev :=
  let en := d.flag (apK a 1)
  let k := d.nat (apK a 3)
  let base := d.nat (apK a 2)
  let off := d.nat (apK a 4)
  let was := (d.ap a).held
  if !en || apOk k base off then
    let d := if was then d.unheld c (apK a 1) else d
    d.modAp a fun _ => { act := en, wr := d.flag (apK a 5), k := k, base := base, off := off, held := false }
  else (if was then d else d.held c (apK a 1)).modAp a fun x => { x with held := true }

/-- R701: the lowest-numbered active window an address falls in. -/
def apFind (aps : List Apw) (addr : Nat) : Option (Nat × Apw) :=
  ((aps.zipIdx).find? fun p => p.1.act && decide (p.1.base ≤ addr) && decide (addr < p.1.base + 2 ^ p.1.k)).map fun p => (p.2, p.1)

/-- 0xA100 + a: the live state. -/
def Dev.readAp (d : Dev) (a sub : Nat) : Option Val :=
  if sub = 6 then some (.num (if (d.ap a).held then 2 else b2n (d.ap a).act)) else none

/-! ## Trace objects -/

/-- 0xA200.01 and TRC_CTL[0]: trace is switched on or off. -/
def Dev.setTrace (d : Dev) (c : Ctx) (on : Bool) : Dev :=
  let was := d.flag 0xA200_01
  let d := d.setN 0xA200_01 (b2n on)
  if on && !was then d.trcStart c 0 else d

/-- R718, Table 12.16: the trace buffer is emptied, and START is written if trace is on. -/
def Dev.clearTrace (d : Dev) (c : Ctx) : Dev :=
  let t := d.trace
  ({ d with trace := { sleeping := t.sleeping, halted := t.halted, lastAddr := t.lastAddr } }).trc ([0xB0#8] ++ d.stampBytes c)

/-- R718: where the packets of the first SYNC on begin, walking packet by packet; `fuel` is at least the bytes. -/
def fromSync : Nat → List Byte → List Byte
  | 0, b => b
  | _, [] => []
  | f + 1, h :: r => if h.toNat / 16 = 1 then h :: r else fromSync f ((h :: r).drop (packetLen h.toNat))

/-- The live values of 0xA200. The walk of R718 starts at the first whole packet. -/
def Dev.readTrace (d : Dev) (sub : Nat) : Option Val :=
  match sub with
  | 0x05 => some (.num d.trace.wptr)
  | 0x06 => some (.num (trcStat d.trace))
  | 0x07 => some (.bytes (fromSync 65537 (d.trace.buf.drop d.trace.skip)))
  | _ => none

/-! ## DMA channel registers -/

/-- DMA channel `n`. -/
def Dev.dmaCh (d : Dev) (n : Nat) : Dma := (d.core.dma[n]?).getD {}

/-- Change a DMA channel. -/
def Dev.modDma (d : Dev) (n : Nat) (f : Dma → Dma) : Dev :=
  { d with core := { d.core with dma := modifyAt f n d.core.dma } }

/-- R703, R705: a write to BMX_DCHn_CTL: setting the enable starts the chain, clearing it lets the burst in progress
complete. -/
def Dma.control (x : Dma) (v : Nat) : Dma :=
  let x := { x with ctl := v % 64 }
  if bit v 0 then
    if x.st = 1 then x
    else if x.st = 2 then { x with st := 1 }
    else { x with st := 1, reason := 0, loaded := false, remain := 0 }
  else if x.st = 1 then { x with st := 2 }
  else if x.st = 3 then x
  else { x with st := (if x.st = 2 then 2 else 0) }

/-! ## Core-local registers (Table 12.10) -/

/-- Whether a core-local register is reached in user mode (Tables 12.10, 13.9). -/
def regUser (o : Nat) : Bool :=
  let r := o % 0x1000
  match o / 0x1000 with
  | 0 => decide (0x40 ≤ r)
  | 2 => !(r = 0x08 || r = 0x0C)
  | 4 => !(r = 0x00 || r = 0x08 || r = 0x0C || r = 0x10)
  | _ => true

/-- R726: a write to a register of TMR_. -/
def Dev.tmrWrite (d : Dev) (r v : Nat) : Dev × Option Nat :=
  let k := d.core
  let v := v % 2 ^ 32
  let lo := fun (w : Nat) => w / 2 ^ 32 * 2 ^ 32 + v
  let hi := fun (w : Nat) => w % 2 ^ 32 + v * 2 ^ 32
  if r = 0 || r = 4 then (d, none)
  else if r = 0x08 then ({ d with core := { k with mtimecmp := lo k.mtimecmp } }, none)
  else if r = 0x0C then ({ d with core := { k with mtimecmp := hi k.mtimecmp } }, none)
  else if 0x10 ≤ r && r < 0x30 && r % 4 = 0 then
    let n := (r - 0x10) / 8
    if r % 8 = 0 then ({ d with core := { k with cmp := modifyAt lo n k.cmp } }, none)
    else ({ d with core := { k with cmp := modifyAt hi n k.cmp, armed := modifyAt (fun _ => true) n k.armed } }, none)
  else if r = 0x30 then (d, some 3)
  else (d, some 0)

/-- R713, R726: a write to a register of TRC_. -/
def Dev.trcWrite (d : Dev) (c : Ctx) (r v : Nat) : Dev × Option Nat :=
  if r = 0 then ((d.setN 0xA200_02 (b2n (bit v 1))).setTrace c (bit v 0), none)
  else if r = 4 then ((if bit (d.nat 0xA200_03) 3 then d.trc ([0x60#8] ++ le 4 v) else d), none)
  else if r = 8 || r = 0x0C then (d, some 3)
  else (d, some 0)

/-- R694, R726: a write to a register of BMX_. -/
def Dev.bmxWrite (d : Dev) (r v : Nat) : Dev × Option Nat :=
  let k := d.core
  if r = 0 then ({ d with core := { k with remap := bit v 0 } }, none)
  else if r = 4 then ((if bit v 0 then { d with core := { k with icache := [], fetchBuf := none } } else d), none)
  else if r = 8 || r = 0x10 then (d, some 3)
  else if r = 0x0C then ((if bit v 8 then { d with core := { k with errInfo := setBit k.errInfo 8 false } } else d), none)
  else if 0x100 ≤ r && r < 0x180 && r % 4 = 0 then
    let n := (r - 0x100) / 16
    match r % 16 with
    | 0 => (d.modDma n fun x => x.control v, none)
    | 4 => (d.modDma n fun x => { x with desc := v % 2 ^ 32 }, none)
    | _ => (d, some 3)
  else (d, some 0)

/-- R699: a write to a register of APW_. -/
def Dev.apwWrite (d : Dev) (c : Ctx) (r v : Nat) : Dev × Option Nat :=
  let a := r / 16
  if 8 ≤ a || r % 4 ≠ 0 then (d, some 0)
  else match r % 16 with
    | 0 => ((((d.setN (apK a 1) (bits v 0 1)).setN (apK a 5) (bits v 1 1)).setN (apK a 3) (bits v 8 5)).apApply c a, none)
    | 4 => (d.setN (apK a 2) (v % 2 ^ 32), none)
    | 8 => (d.setN (apK a 4) (v % 2 ^ 32), none)
    | _ => (d, some 3)

/-- A write of 32 bits to the core-local register at offset `o` from 0x4000_0000, in user mode or not; with the reason
of an error response. -/
def Dev.regWrite (d : Dev) (c : Ctx) (user : Bool) (o v : Nat) : Dev × Option Nat :=
  let r := o % 0x1000
  if user && !regUser o then (d, some 1)
  else match o / 0x1000 with
    | 0 => if r < 0x80 then d.wdgRegWrite c (r / 0x40) (r % 0x40) v else (d, some 0)
    | 1 =>
      if r = 0x2C then (d.swRaise c 1 v, none)
      else d.evcRegWrite c r v
    | 2 => d.tmrWrite r v
    | 3 => d.trcWrite c r v
    | 4 => d.bmxWrite r v
    | 5 => d.apwWrite c r v
    | _ => (d, some 0)

/-- R726: what a register of TMR_ reads; reading the low word latches the high word and the epoch. -/
def Dev.tmrRead (d : Dev) (c : Ctx) (r : Nat) : Dev × Option Nat :=
  let k := d.core
  if r = 0 then
    ({ d with core := { k with latchHi := c.t / 2 ^ 32 % 2 ^ 32, latchEpoch := d.epoch } }, some (c.t % 2 ^ 32))
  else if r = 4 then (d, some k.latchHi)
  else if r = 0x08 then (d, some (k.mtimecmp % 2 ^ 32))
  else if r = 0x0C then (d, some (k.mtimecmp / 2 ^ 32 % 2 ^ 32))
  else if 0x10 ≤ r && r < 0x30 && r % 4 = 0 then
    let w := (k.cmp[(r - 0x10) / 8]?).getD 0
    (d, some (if r % 8 = 0 then w % 2 ^ 32 else w / 2 ^ 32 % 2 ^ 32))
  else if r = 0x30 then (d, some k.latchEpoch)
  else (d, none)

/-- What a register of BMX_ reads. -/
def Dev.bmxRead (d : Dev) (r : Nat) : Option Nat :=
  let k := d.core
  if r = 0 then some (b2n k.remap)
  else if r = 4 then some 0
  else if r = 8 then some k.errAddr
  else if r = 0x0C then some k.errInfo
  else if r = 0x10 then some k.errCnt
  else if 0x100 ≤ r && r < 0x180 && r % 4 = 0 then
    let x := d.dmaCh ((r - 0x100) / 16)
    match r % 16 with
    | 0 => some x.ctl
    | 4 => some x.desc
    | 8 => some (x.st + x.reason * 16)
    | _ => some x.remain
  else none

/-- What a register of APW_ reads. -/
def Dev.apwRead (d : Dev) (r : Nat) : Option Nat :=
  let a := r / 16
  if 8 ≤ a || r % 4 ≠ 0 then none
  else match r % 16 with
    | 0 => some (d.nat (apK a 1) + d.nat (apK a 5) * 2 + d.nat (apK a 3) * 256)
    | 4 => some (d.nat (apK a 2))
    | 8 => some (d.nat (apK a 4))
    | _ => some (b2n (d.ap a).act + b2n (d.ap a).held * 2 + d.nat (apK a 8) % 2 ^ 16 * 2 ^ 16)

/-- What a register of TRC_ reads; TRC_MARK is write-only (free). -/
def Dev.trcRead (d : Dev) (c : Ctx) (r : Nat) : Option Nat :=
  if r = 0 then some (d.nat 0xA200_01 + d.nat 0xA200_02 * 2)
  else if r = 4 then some (Config.free c.seed 41 % 2 ^ 32)
  else if r = 8 then some d.trace.wptr
  else if r = 0x0C then some (trcStat d.trace)
  else none

/-- A read of the core-local register at offset `o`: the word, or the reason of an error response. -/
def Dev.regRead (d : Dev) (c : Ctx) (user : Bool) (o : Nat) : Dev × (Nat ⊕ Nat) :=
  let r := o % 0x1000
  let ans := fun (x : Option Nat) => (d, (match x with | some w => .inl w | none => .inr 0 : Nat ⊕ Nat))
  if user && !regUser o then (d, .inr 1)
  else match o / 0x1000 with
    | 0 => if r < 0x80 then ans (d.wdgRegRead c (r / 0x40) (r % 0x40)) else (d, .inr 0)
    | 1 => ans (d.evcRegRead c r)
    | 2 => let p := d.tmrRead c r; (p.1, match p.2 with | some w => .inl w | none => .inr 0)
    | 3 => ans (d.trcRead c r)
    | 4 => ans (d.bmxRead r)
    | 5 => ans (d.apwRead r)
    | _ => (d, .inr 0)

/-- A register write by the core's data port, with its error response (R695). -/
def Dev.coreWrite (d : Dev) (c : Ctx) (user : Bool) (o v : Nat) : Dev :=
  if !d.coreOn then d
  else
    let p := d.regWrite c user o v
    match p.2 with
    | none => p.1
    | some e => ((p.1.busError c 1 0 (0x4000_0000 + o) true e).emit (.bus 1 0 true []))

end Sys2Proof.Machine
end

