-- ==== Sys2Proof/Machine/Bus.lean ====
section
/-!
DEFINITION. The bus matrix, the instruction cache, the DMA channels, and the commands on core-local registers, timers and
trace (ch 12).
-/
namespace Sys2Proof.Machine

/-! ## Issuing (R692) -/

/-- Whether two requests touch a common 64-byte line. -/
def sameLine (a b : BusReq) : Bool :=
  decide (a.addr / 64 ≤ (b.addr + (b.len - 1)) / 64) && decide (b.addr / 64 ≤ (a.addr + (a.len - 1)) / 64)

/-- Table 12.4: a master's outstanding requests at most; DMA's are per channel. -/
def outstandingMax (master : Nat) : Nat := if master = 0 then 2 else if master = 1 then 4 else if master = 2 then 4 else 1

/-- Table 12.4: a master's IDs. -/
def idsOf (master : Nat) : Nat := if master = 0 then 2 else if master = 1 then 4 else if master = 2 then 8 else 1

/-- R692: whether the matrix holds a request back. -/
def Dev.holdsBack (d : Dev) (r : BusReq) : Bool :=
  let tgt := tgtNo r
  let same := d.core.issued.filter fun x => x.master = r.master && (r.master ≠ 2 || x.id = r.id)
  (d.core.issued.any fun x => x.master = r.master && x.id = r.id && tgtNo x ≠ tgt)
    || decide (outstandingMax r.master ≤ same.length)
    || (d.core.issued.any fun x => x.master = r.master && sameLine x r && (x.wdata.isSome || r.wdata.isSome))

/-- A request is issued, or held; earlier held requests of its master and ID keep their order (R691). -/
def Dev.offer (d : Dev) (r : BusReq) : Dev :=
  let r := { r with remap := d.core.remap, aps := d.core.apw }
  let before := d.core.heldReqs.any fun x => x.master = r.master && x.id = r.id
  if before || d.holdsBack r then { d with core := { d.core with heldReqs := d.core.heldReqs ++ [r] } }
  else { d with core := { d.core with issued := d.core.issued ++ [r] } }

/-- Held requests are offered again, oldest first. -/
def Dev.release2 (d : Dev) : Dev :=
  let waiting := d.core.heldReqs
  waiting.foldl (fun d r => d.offer r) { d with core := { d.core with heldReqs := [] } }

/-! ## Completing -/

/-- The stored line of a cached fetch (R681): the bytes, where one line holds them all. -/
def Dev.cached (d : Dev) (a n : Nat) : Option (List Byte) :=
  match d.core.icache.find? fun l => l.1 = a / 64 with
  | some l => if a % 64 + n ≤ 64 then some ((l.2.drop (a % 64)).take n) else none
  | none => none

/-- The bytes the 16-byte fetch buffer holds. -/
def Dev.buffered (d : Dev) (a n : Nat) : Option (List Byte) :=
  match d.core.fetchBuf with
  | some (b, l) => if b ≤ a && a + n ≤ b + l.length then some ((l.drop (a - b)).take n) else none
  | none => none

/-- R681: a line enters the 4-way cache of 64 sets; which way of a full set goes is free. -/
def Dev.cacheLine (d : Dev) (c : Ctx) (ln : Nat) (b : List Byte) : Dev :=
  let others := d.core.icache.filter fun l => l.1 ≠ ln
  let set := others.filter fun l => l.1 % 64 = ln % 64
  let gone := if set.length < 4 then none else (set[Config.free c.seed 2104 % 4]?).map Prod.fst
  { d with core := { d.core with icache := (others.filter fun l => some l.1 ≠ gone) ++ [(ln, b)] } }

/-- The fetch buffer takes the aligned 16 bytes that a fetch ends in, of those it brought. -/
def Dev.bufferFetch (d : Dev) (a : Nat) (b : List Byte) : Dev :=
  let lo := max a ((a + (b.length - 1)) / 16 * 16)
  { d with core := { d.core with fetchBuf := some (lo, b.drop (lo - a)) } }

/-- One part of an aperture access that lies in one 64-byte line (R697, R698, R700): the bytes read, or none for an
error response. `vacant`: every byte written lies in galley area that no slot occupies. -/
def Dev.apPart (d : Dev) (aps : List Apw) (addr n : Nat) (w : Option (List Byte)) (ext : List Byte) (bad vacant : Bool) :
    Dev × Option (List Byte) :=
  match apFind aps addr with
  | none => (d, none)
  | some (a, x) =>
    let off := x.off + (addr - x.base)
    let d := d.inc (apK a 7)
    let refuse := (d.inc (apK a 8), (none : Option (List Byte)))
    match w with
    | some b => if x.wr && vacant && !bad then ({ d with core := { d.core with fmem := b.zipIdx.foldl (fun m p => put1 m (off + p.2) p.1) d.core.fmem } }, some []) else refuse
    | none =>
      if bad then refuse
      else (d, some ((upTo n).map fun i => match get1 d.core.fmem (off + i) with | some b => b | none => (ext[i]?).getD 0#8))
where
  /-- The byte written at an offset of frame memory. -/
  get1 (m : List (Nat × Byte)) (a : Nat) : Option Byte := (m.find? fun p => p.1 = a).map Prod.snd
  /-- Frame memory bytes with one more written. -/
  put1 (m : List (Nat × Byte)) (a : Nat) (v : Byte) : List (Nat × Byte) :=
    (m.filter fun p => p.1 < a) ++ (a, v) :: m.filter fun p => a < p.1

/-- Where the parts of an aperture burst begin: at each 64-byte boundary and at the end of each window (R697). -/
def apCuts (aps : List Apw) (addr n : Nat) : List (Nat × Nat) :=
  let win := fun (i : Nat) => (apFind aps (addr + i)).map Prod.fst
  let starts := (upTo n).filter fun i => i = 0 || (addr + i) % 64 = 0 || win i ≠ win (i - 1)
  starts.map fun i => (i, ((starts.find? fun j => decide (i < j)).getD n) - i)

/-- R697: an aperture burst, part by part; an error makes the whole an error, parts written before it stay. -/
def Dev.apBurst (d : Dev) (c : Ctx) (r : BusReq) (ext : List Byte) (bad vacant : Bool) : Dev × Option (List Byte) :=
  (apCuts r.aps r.addr r.len).foldl (fun (p : Dev × Option (List Byte)) (q : Nat × Nat) =>
    match p.2 with
    | none => p
    | some got =>
      let miss := (apFind r.aps (r.addr + q.1)).isNone
      let e := p.1.apPart r.aps (r.addr + q.1) q.2 (r.wdata.map fun b => (b.drop q.1).take q.2) (ext.drop q.1) bad vacant
      let d := if miss then e.1.busError c r.master r.id (r.addr + q.1) r.wdata.isSome 0 else e.1
      (d, e.2.map fun b => got ++ b)) (d, some [])

/-- R695 to R698, R734: a target completes a request: the device, and the bytes read or none for an error response.
`ext` are the bytes where the spec does not give the target's contents, `mem` how the target's access turns out: 0 good, 1
a read good at its retry, 2 an error (a read uncorrectable after its retry, a refused window access), 3 a read
corrected. -/
def Dev.complete (d : Dev) (c : Ctx) (r : BusReq) (ext : List Byte) (mem : Nat) (vacant : Bool) : Dev × Option (List Byte) :=
  let bad : Bool := mem = 2
  let miss := fun (i : Nat) => (ext[i]?).getD 0#8
  match busRoute r with
  | .err e => (d.busError c r.master r.id r.addr r.wdata.isSome e, none)
  | .mem =>
    match r.wdata with
    | some b => ({ d with core := { d.core with mem := memWrite d.core.mem (memAddr r.addr) (b.take r.len) } }, some [])
    | none =>
      if bad then (((d.inc 0xA000_0F).raise c 6 0).detect c 0x07 0, none)
      else (if mem = 1 then d.transient else if mem = 3 then d.inc 0xA000_0E else d, some (memRead d.core.mem (memAddr r.addr) r.len))
  | .rom => (d, some ((upTo r.len).map miss))
  | .mram => if bad then (d, none) else (d, some ((upTo r.len).map fun i => (d.mramByte (r.addr - 0x2000_0000 + i)).getD (miss i)))
  | .trc => (d, some ((upTo r.len).map fun i => d.trace.at1 (r.addr - 0x2200_0000 + i)))
  | .regs =>
    let o := r.addr - 0x4000_0000
    match r.wdata with
    | some b =>
      let p := if r.len = 4 && o % 4 = 0 then d.regWrite c r.user o (unle (b.take 4)) else (d, some 0)
      match p.2 with
      | none => (p.1, some [])
      | some e => (p.1.busError c r.master r.id r.addr true e, none)
    | none =>
      let w := o / 4 * 4
      let p := if o + r.len ≤ w + 4 then d.regRead c r.user w else (d, .inr 0)
      match p.2 with
      | .inl v => (p.1, some (((le 4 v).drop (o - w)).take r.len))
      | .inr e => (p.1.busError c r.master r.id r.addr false e, none)
  | .xip _ => if bad then (d, none) else (d, some (if r.wdata.isSome then [] else (upTo r.len).map miss))
  | .ap =>
    let d := if r.wdata.isNone then d.checkRead c mem else d
    d.apBurst c r ext bad vacant

/-- R688: an AMO, LR or SC outside the TCMs and SRAM raises a store/AMO access fault: an error response. -/
def amoOk (r : BusReq) : Bool :=
  busRoute r = .mem && !aonAddr r.addr

/-- BUS_REQUEST (R692): a master's request is issued or held; a fetch the fetch buffer or the cache holds is answered
from there (R694), unless the line's parity is bad, which invalidates it (R735); the core reaches the TCMs without the
matrix (R681), `mem` saying how that access turns out. -/
def execBusRequest (dt : Nat) (master id addr len : Nat) (wdata : Option (List Byte)) (user amo parity : Bool) (mem : Nat)
    (s : State) : Host.Outcome State Fault Refusal :=
  s.act dt fun c d =>
    let w := if master = 0 then none else wdata
    let bad := parity && decide (master = 0) && (d.core.icache.any fun l => l.1 = addr % 2 ^ 32 / 64)
    let r : BusReq := ⟨master, id, addr % 2 ^ 32, len, w, master = 0, user && decide (master ≤ 1), d.core.remap, [], bad⟩
    if !d.coreOn || 4 ≤ master || idsOf master ≤ id || len = 0 then d
    else if amo && !amoOk r && tgtNo r ≠ 0 then d.emit (.bus master id true [])
    else
      let d := if bad then
          { d with core := { d.core with icache := d.core.icache.filter fun l => l.1 ≠ r.addr / 64 } } else d
      let hit := if master ≠ 0 then none else match d.buffered r.addr len with
        | some b => some b
        | none => match busRoute r with
          | .xip _ => d.cached r.addr len
          | _ => none
      match hit with
      | some b => (d.bufferFetch r.addr b).emit (.bus master id false b)
      | none =>
        if master ≤ 1 && (tgtNo r = 1 || tgtNo r = 2) then
          let p := d.complete c r [] mem true
          let d := p.1.emit (.bus master id p.2.isNone (p.2.getD []))
          match p.2, r.fetch with
          | some b, true => d.bufferFetch r.addr b
          | _, _ => d
        else d.offer r

/-- R693: the master whose request a target serves next: in round robin after the one served last. -/
def Dev.turnOf (d : Dev) (t : Nat) : Option Nat :=
  let last := match d.core.turns.find? fun p => p.1 = t with
    | some p => p.2
    | none => 3
  ((upTo 4).map fun i => (last + 1 + i) % 4).find? fun m => d.core.issued.any fun x => x.master = m && tgtNo x = t

/-- The request a BUS_RESPONSE of a master's ID completes: the oldest (R691), if its target serves that master now. -/
def Dev.answers (d : Dev) (master id : Nat) : Option BusReq :=
  (d.core.issued.find? fun x => x.master = master && x.id = id).filter fun r => d.turnOf (tgtNo r) = some master

/-- BUS_RESPONSE (R691): a target completes the oldest request of a master's ID, when that master's turn has come
(R693). -/
def execBusResponse (dt : Nat) (master id : Nat) (ext : List Byte) (mem : Nat) (vacant : Bool) (s : State) :
    Host.Outcome State Fault Refusal :=
  s.act dt fun c d =>
    match d.answers master id with
    | none => d
    | some r =>
      let p := d.complete c r ext mem vacant
      let k := p.1.core
      let turns := (tgtNo r, master) :: k.turns.filter fun q => q.1 ≠ tgtNo r
      let d := { p.1 with core := { k with issued := k.issued.erase r, turns := turns } }
      -- R735: a refetch after a parity error that succeeds
      let d := if r.refetch && p.2.isSome then d.transient else d
      let d := d.emit (.bus master id p.2.isNone (p.2.getD []))
      let d := match p.2, r.fetch with
        | some b, true =>
          let d := match busRoute r with
            | .xip _ => if r.addr % 64 = 0 && r.len = 64 then d.cacheLine c (r.addr / 64) b else d
            | _ => d
          d.bufferFetch r.addr b
        | _, _ => d
      d.release2

/-! ## DMA (R703 to R706) -/

/-- R725: whether a channel is ready for a burst. -/
def Dev.dmaReady (d : Dev) (n : Nat) : Bool :=
  let x := d.dmaCh n
  (x.st = 1 || x.st = 2) && !(bit x.ctl 5 && d.core.halted)

/-- R704: the channel served: of the highest priority, in round robin. -/
def Dev.dmaPick (d : Dev) : Option Nat :=
  let ready := (upTo 8).filter d.dmaReady
  let top := ready.foldl (fun m n => max m (bits (d.dmaCh n).ctl 1 2)) 0
  let order := (upTo 8).map fun i => (d.core.dmaRr + 1 + i) % 8
  order.find? fun n => d.dmaReady n && bits (d.dmaCh n).ctl 1 2 = top

/-- R706: an error stops the channel. -/
def Dev.dmaError (d : Dev) (c : Ctx) (n reason : Nat) : Dev :=
  (d.modDma n fun x => { x with st := 3, reason := reason }).raise c 16 n

/-- R703: a descriptor at an address must be 16-byte aligned and lie in SRAM or DTCM. -/
def descOk (a : Nat) : Bool :=
  a % 16 = 0 && ((decide (0x0801_0000 ≤ a) && decide (a < 0x0802_0000)) || (decide (0x1000_0000 ≤ a) && decide (a < 0x1010_0000)))

/-- Table 12.6: the descriptor at the channel's address; none: it is invalid. -/
def Dev.dmaLoad (d : Dev) (x : Dma) : Option Dma :=
  let b := memRead d.core.mem x.desc 16
  let fl := fld b 8 4
  if fl % 2 ^ 24 = 0 || 2 ^ 27 ≤ fl then none
  else some { x with src := fld b 0 4, dst := fld b 4 4, remain := fl % 2 ^ 24, flags := fl / 2 ^ 24, next := fld b 12 4, loaded := true }

/-- R704: the size of a burst. -/
def Dma.burst (x : Dma) : Nat := match bits x.ctl 3 2 with | 0 => 16 | 1 => 64 | _ => 256

/-- A burst's request to its source or destination. A fixed address is accessed beat by beat. -/
def Dev.dmaReq (d : Dev) (n a len : Nat) (w : Option (List Byte)) : BusReq :=
  ⟨2, n, a, len, w, false, false, d.core.remap, d.core.apw, false⟩

/-- R705: a burst has moved `m` bytes: the end of a descriptor, of the chain, or of a channel told to stop. -/
def Dev.dmaAdvance (d : Dev) (c : Ctx) (n m : Nat) : Dev :=
  let x := d.dmaCh n
  let y := { x with src := (if bit x.flags 0 then x.src else x.src + m), dst := (if bit x.flags 1 then x.dst else x.dst + m), remain := x.remain - m }
  let d := d.modDma n fun _ => y
  let stopped := x.st = 2
  if y.remain = 0 then
    let d := if bit y.flags 2 then d.raise c 15 n else d
    if y.next = 0 || stopped then d.modDma n fun z => { z with st := 0, loaded := false, desc := (if y.next = 0 then z.desc else y.next) }
    else d.modDma n fun z => { z with loaded := false, desc := y.next }
  else if stopped then d.modDma n fun z => { z with st := 0 }
  else d

/-- DMA_BURST (R704): one burst of the channel served. `ext` are source bytes the spec gives no contents for, `err` 1 to 3
an error response at the source, the destination or the descriptor, 4 a source read good at its retry (R25), `beat` the bytes of an access to a fixed address. -/
def execDmaBurst (dt : Nat) (ext : List Byte) (err beat : Nat) (vacant : Bool) (s : State) : Host.Outcome State Fault Refusal :=
  s.act dt fun c d =>
    if !d.coreOn then d
    else match d.dmaPick with
    | none => d
    | some n =>
      let d := { d with core := { d.core with dmaRr := n } }
      let x := d.dmaCh n
      let ld := if x.loaded then some x else if descOk x.desc then d.dmaLoad x else none
      if !x.loaded && err = 3 && descOk x.desc then d.dmaError c n 3
      else match ld with
      | none => d.dmaError c n 4
      | some x =>
        let d := d.modDma n fun _ => x
        let m := min x.burst x.remain
        let beat := max 1 (min beat m)
        let srcLen := if bit x.flags 0 then beat else m
        let rd := d.complete c (d.dmaReq n x.src srcLen none) ext (if err = 1 then 2 else if err = 4 then 1 else 0) true
        match rd.2 with
        | none => rd.1.dmaError c n 1
        | some got =>
          let got := (upTo m).map fun i => (got[i % srcLen]?).getD 0#8
          let put := if bit x.flags 1 then got.drop ((m - 1) / beat * beat) else got
          let wr := rd.1.complete c (d.dmaReq n x.dst put.length (some put)) [] (if err = 2 then 2 else 0) vacant
          match wr.2, decide (err = 2) with
          | some _, false => wr.1.dmaAdvance c n m
          | _, _ => wr.1.dmaError c n 2

/-- DMA_ENABLE (R703): a write to BMX_DCHn_CTL with the enable set; `v` gives the other fields. -/
def execDmaEnable (dt n v : Nat) (user : Bool) (s : State) : Host.Outcome State Fault Refusal :=
  s.actOn (decide (n < 8)) dt fun c d => d.coreWrite c user (0x4100 + 16 * n) (setBit (v % 2 ^ 32) 0 true)

/-- DMA_DISABLE (R705): a write to BMX_DCHn_CTL with the enable clear. -/
def execDmaDisable (dt n v : Nat) (user : Bool) (s : State) : Host.Outcome State Fault Refusal :=
  s.actOn (decide (n < 8)) dt fun c d => d.coreWrite c user (0x4100 + 16 * n) (setBit (v % 2 ^ 32) 0 false)

/-! ## Register commands -/

/-- BMX_ICCTL (R694). -/
def execBmxIcctl (dt v : Nat) (user : Bool) (s : State) : Host.Outcome State Fault Refusal :=
  s.act dt fun c d => d.coreWrite c user 0x4004 v

/-- BMX_REMAP (R729). -/
def execBmxRemap (dt v : Nat) (user : Bool) (s : State) : Host.Outcome State Fault Refusal :=
  s.act dt fun c d => d.coreWrite c user 0x4000 v

/-- BMX_ERRINFO (R695). -/
def execBmxErrinfo (dt v : Nat) (user : Bool) (s : State) : Host.Outcome State Fault Refusal :=
  s.act dt fun c d => d.coreWrite c user 0x400C v

/-- TMR_CMPHI (R726): a write of TMR_CMPnHI. -/
def execTmrCmphi (dt n v : Nat) (user : Bool) (s : State) : Host.Outcome State Fault Refusal :=
  s.actOn (decide (n < 4)) dt fun c d => d.coreWrite c user (0x2014 + 8 * n) v

/-- TIMER (R726): local time has reached an armed compare. -/
def execTimer (dt n : Nat) (s : State) : Host.Outcome State Fault Refusal :=
  s.actOn (decide (n < 4)) dt fun c d =>
    if d.ticking && (d.core.armed[n]?).getD false && decide ((d.core.cmp[n]?).getD 0 ≤ c.t) then
      ({ d with core := { d.core with armed := modifyAt (fun _ => false) n d.core.armed } }).raise c (20 + n) n
    else d

/-- TMR_MTIMELO (R726): a read of the low word. -/
def execTmrMtimelo (dt : Nat) (s : State) : Host.Outcome State Fault Refusal :=
  s.act dt fun c d =>
    if d.coreOn then let p := d.tmrRead c 0; p.1.emit (.bus 1 0 false (le 4 (c.t % 2 ^ 32))) else d

/-- TRC_MARK (R713). -/
def execTrcMark (dt v : Nat) (s : State) : Host.Outcome State Fault Refusal :=
  s.act dt fun c d => d.coreWrite c true 0x3004 v

/-- REGISTER_WRITE (R726): a write to the core-local register at an offset from 0x4000_0000. -/
def execRegisterWrite (dt o v : Nat) (user : Bool) (s : State) : Host.Outcome State Fault Refusal :=
  s.act dt fun c d => if o % 4 = 0 && o < 0x6000 then d.coreWrite c user o (v % 2 ^ 32) else d

/-- WDG_CTL (R947): a write to WDG_nCTL, WDG_nTIMEOUT or WDG_nPERIOD (`r` 0, 4 or 0x14). -/
def execWdgCtl (dt n r v : Nat) (user : Bool) (s : State) : Host.Outcome State Fault Refusal :=
  s.actOn (decide (n < 2) && (r = 0 || r = 4 || r = 0x14)) dt fun c d => d.coreWrite c user (0x40 * n + r) (v % 2 ^ 32)

/-- WDG_SVC (R746): a key written to WDG_nSVC. -/
def execWdgSvc (dt n v : Nat) (user : Bool) (s : State) : Host.Outcome State Fault Refusal :=
  s.actOn (decide (n < 2)) dt fun c d => d.coreWrite c user (0x40 * n + 8) (v % 2 ^ 32)

/-! ## Trace -/

/-- R714, R715: one step of the flow enters the encoder. -/
def Dev.trcFlow (d : Dev) (f : Flow) : Dev :=
  if !d.tracing then d
  else match f with
  | .branch b =>
    let stop := d.nat 0xA200_02 = 1
    let t := { d.trace with branches := d.trace.branches ++ [b] }
    { d with trace := if 15 ≤ t.branches.length then t.flush stop else t }
  | .target a =>
    let l := d.trace.lastAddr
    let k := if a / 2 ^ 8 = l / 2 ^ 8 then 1 else if a / 2 ^ 16 = l / 2 ^ 16 then 2 else if a / 2 ^ 24 = l / 2 ^ 24 then 3 else 4
    let d := d.trc ([byte (0x30 + k)] ++ le k a)
    { d with trace := { d.trace with lastAddr := a } }

/-- Whether the flow of the core's present mode is traced (0xA200.03). -/
def Dev.flowOn (d : Dev) : Bool := bit (d.nat 0xA200_03) (if d.core.priv = 0 then 1 else 0)

/-- TRACE_SYNC_INTERVAL (R715): the flow since the last command, and a SYNC once the bytes since the last one have
reached 0xA200.04; `pc` is the lead core's. -/
def execTraceSyncInterval (dt : Nat) (flow : List Flow) (pc : Nat) (s : State) : Host.Outcome State Fault Refusal :=
  s.act dt fun c d =>
    let d := if d.flowOn then flow.foldl (fun d f => d.trcFlow f) d else d
    if d.tracing && decide (d.nat 0xA200_04 ≤ d.trace.since) then
      (({ d with core := { d.core with pc := pc % 2 ^ 32 } }).trcSync c 0)
    else d

/-- TRACE_OVERFLOW (R717): `n` packets were dropped and space has returned. -/
def execTraceOverflow (dt n pc : Nat) (s : State) : Host.Outcome State Fault Refusal :=
  s.act dt fun c d =>
    if d.tracing && n ≠ 0 then
      let d := d.trc ([0x90#8] ++ le 2 (min 65535 n))
      let d := { d with trace := { d.trace with ovf := d.trace.ovf + n } }
      ({ d with core := { d.core with pc := pc % 2 ^ 32 } }).trcSync c 3
    else d

end Sys2Proof.Machine
end

