-- ==== Sys2Proof/Machine/App.lean ====
section
/-!
DEFINITION. The application (R683 to R688, R710 to R712, R737, R738), the core's faults, the debug module and the JTAG TAP
(R721 to R725, R915). Instructions the core executes are not commands of the block: a command carries what they left
(program counter, registers) where a rule needs it.
-/
namespace Sys2Proof.Machine

/-! ## ECALL services (Table 12.1) -/

/-- R682: an ECALL from user mode at `pc` traps to the agent; the user resumes behind it. -/
def Dev.ecall (d : Dev) (pc : Nat) : Dev :=
  let d := d.trcTrap false 8 (pc % 2 ^ 32)
  let next := (pc + 4) % 2 ^ 32
  { d with core := { d.core with pc := next, userPc := next, priv := 0 } }

/-- Whether the application executes: it runs and does not wait. -/
def Dev.appActs (d : Dev) : Bool := d.appRuns && !d.core.waiting

/-- Set a register of the user context. -/
def Dev.setX (d : Dev) (r v : Nat) : Dev := { d with core := { d.core with x := modifyAt (fun _ => v % 2 ^ 32) r d.core.x } }

/-- RETURN_FROM_INTERRUPT (R683, R684): the interrupted user context returns; outside a handler nothing else happens. -/
def execReturnFromInterrupt (dt pc : Nat) (s : State) : Host.Outcome State Fault Refusal :=
  s.act dt fun _ d =>
    if !d.appActs then d
    else
      let d := d.ecall pc
      match d.core.ctxs with
      | [] => d
      | u :: r => { d with core := { d.core with ctxs := r, pc := u.pc, userPc := u.pc, x := u.x } }

/-- WAIT_FOR_INTERRUPT (R683): the application waits until an interrupt is pending at an enabled level. -/
def execWaitForInterrupt (dt pc : Nat) (s : State) : Host.Outcome State Fault Refusal :=
  s.act dt fun _ d =>
    if !d.appActs then d else let d := d.ecall pc; { d with core := { d.core with waiting := true } }

/-- UNSUPPORTED_SERVICE (R683): any other a7 returns 0x000D. -/
def execUnsupportedService (dt a7 pc : Nat) (s : State) : Host.Outcome State Fault Refusal :=
  s.act dt fun _ d =>
    if !d.appActs || a7 = 0x4D42 || a7 = 0x4D43 || a7 = 0x4D44 then d
    else ((d.ecall pc).setX 10 0x0D).emit (.ret 0x0D)

/-! ## Exceptions and lockstep -/

/-- R686, R737: a user-mode exception: its record, and a control reset; the second within 10 s of a restart it caused
leaves the application held. -/
def Dev.appException (d : Dev) (c : Ctx) (cause epc tval : Nat) : Dev :=
  let d := d.trcTrap false cause (epc % 2 ^ 32)
  let d := (d.setB 0xA000_07 (le 4 cause ++ le 4 epc ++ le 4 tval ++ le 4 c.t)).inc 0xA000_08
  let again := d.core.appCause && decide (c.t ≤ d.core.appStart + 4000000000)
  let d := { d with core := { d.core with noStart := d.core.noStart || again } }
  (d.raise c 17 (cause % 2 ^ 32)).wantReset 0x0B

/-- APPLICATION_EXCEPTION (R686): `epc` is the user instruction's address. -/
def execApplicationException (dt cause epc tval : Nat) (s : State) : Host.Outcome State Fault Refusal :=
  s.act dt fun c d => if d.appActs then d.appException c cause epc tval else d

/-- AGENT_EXCEPTION (R736, code 0x0E). -/
def execAgentException (dt : Nat) (s : State) : Host.Outcome State Fault Refusal :=
  s.act dt fun c d => if d.coreOn && !d.core.halted then d.detect c 0x0E 0 else d

/-- LOCKSTEP_MISMATCH (R679, code 0x01). -/
def execLockstepMismatch (dt : Nat) (s : State) : Host.Outcome State Fault Refusal :=
  s.act dt fun c d => if d.coreOn then (d.raise c 2 0).detect c 0x01 0 else d

/-! ## The image (R710, R711) -/

/-- A header's fields (Table 12.8). -/
structure Image where
  flags : Nat
  len : Nat
  load : Nat
  entry : Nat
  handler : Nat
  stack : Nat
  body : List Byte
  deriving DecidableEq, Repr

/-- R711: the image in the bytes read, or the reason of 0xA000.0D: 2 header, 3 body CRC, 4 load range. -/
def parseImage (src : Nat) (b : List Byte) : Image ⊕ Nat :=
  let x : Image := ⟨fld b 6 2, fld b 8 4, fld b 12 4, fld b 16 4, fld b 20 4, fld b 24 4, (b.drop 64).take (fld b 8 4)⟩
  let xip := src = 1 || src = 2
  let reserved := (b.drop 0x20).take 28
  let inside := fun (lo hi : Nat) => decide (lo ≤ x.load) && decide (x.load + x.len ≤ hi)
  if b.length < 64 || fld b 0x3C 4 ≠ crc32c (b.take 60) || fld b 0 4 ≠ 0x4150_5031 || fld b 4 2 ≠ 1
      || x.flags ≠ b2n xip || reserved.any (fun y => y ≠ 0#8) || x.len ≤ x.entry then .inr 2
  else if x.body.length ≠ x.len || fld b 0x1C 4 ≠ crc32c x.body then .inr 3
  else if !xip && !(inside 0x0800_8000 0x0801_0000 || inside 0x8000 0x1_0000 || inside 0x1000_0000 0x100E_0000) then .inr 4
  else .inl x

/-- R708, R711: the application parts are cleared, the body copied, and the entry point entered in user mode. -/
def Dev.enterImage (d : Dev) (c : Ctx) (src : Nat) (x : Image) : Dev :=
  let xip := src = 1 || src = 2
  let m := memClear (memClear (memClear d.core.mem 0x0800_8000 0x0801_0000) 0x0801_8000 0x0802_0000) 0x1000_0000 0x100E_0000
  let base := if xip then 0x6000_0000 + (src - 1) * 0x1000_0000 + d.nat 0xA000_03 + 64 else x.load
  let m := if xip then m else memWrite m (memAddr x.load) x.body
  let regs := modifyAt (fun _ => x.stack) 2 (modifyAt (fun _ => src) 10 (List.replicate 32 0))
  let k := d.core
  let k := { k with mem := m, pc := base + x.entry, userPc := base + x.entry, priv := 0, x := regs }
  let k := { k with remap := !xip && decide (x.load < 0x1_0000), waiting := false, ctxs := [] }
  let k := { k with handler := (if x.handler = 0 then 0 else base + x.handler), appStart := c.t }
  { (d.setN 0xA000_05 2) with core := k }

/-- R738: the application does not boot. -/
def Dev.bootFailed (d : Dev) (c : Ctx) (reason : Nat) : Dev :=
  ((d.setN 0xA000_05 4).setN 0xA000_0D reason).raise c 19 reason

/-- R711, R738: the application is loaded and started from its source; `img` and `img2` are what the first read of the
cartridge brings and what the second does, none for a read that failed. -/
def Dev.startApp (d : Dev) (c : Ctx) (img img2 : Option (List Byte)) : Dev :=
  let src := d.nat 0xA000_01
  let slot := if src % 2 = 1 then 0 else 1
  let try1 := fun (b : Option (List Byte)) =>
    match if src = 5 then some (d.raw 0xA000_06) else b with
    | some b => parseImage src b
    | none => (.inr 5 : Image ⊕ Nat)
  if src = 0 then d
  else if src ≠ 5 && d.slotSt slot ≠ 2 then d.bootFailed c 1
  else match try1 img with
    | .inl x => (d.setN 0xA000_0D 0).enterImage c src x
    | .inr _ => match try1 img2 with
      | .inl x => ((d.transient).setN 0xA000_0D 0).enterImage c src x
      | .inr r => d.bootFailed c r

/-- Refusals of a write to 0xA000 (Table 12.14): an image address that is no multiple of 64; the command's code, a start
while running or without a source. -/
def Dev.checkApp (d : Dev) (sub : Nat) (v : Val) : List Nat :=
  match sub with
  | 0x03 => if v.int.toNat % 64 = 0 then [] else [5]
  | 0x04 =>
    if v.int = 1 then (if d.nat 0xA000_05 = 1 || d.nat 0xA000_05 = 2 then [8] else []) ++ (if d.nat 0xA000_01 = 0 then [6] else [])
    else if v.int = 2 then [] else [5]
  | _ => []

/-- APPLICATION_STOP's effect (Table 12.14): no further dispatch, and every DMA channel disabled under R705. -/
def Dev.stopApp (d : Dev) : Dev :=
  let d := if d.nat 0xA000_05 = 1 || d.nat 0xA000_05 = 2 then d.setN 0xA000_05 3 else d
  { d with core := { d.core with waiting := false, dma := d.core.dma.map fun x => x.control (setBit x.ctl 0 false) } }

/-- A start command's effect: the hold of R737 and R755 ends. -/
def Dev.startAppCmd (d : Dev) (c : Ctx) (img img2 : Option (List Byte)) : Dev :=
  let d := { d with core := { d.core with noStart := false, appCause := false } }
  ({ d with wd1 := { d.wd1 with restartT := none } }).startApp c img img2

/-- The live values of 0xA000. The agent's load is a measured value (free). -/
def Dev.readApp (d : Dev) (c : Ctx) (sub : Nat) : Option Val :=
  match sub with
  | 0x04 => some (d.get 0xA000_05)
  | 0x07 => some (.bytes (let b := d.raw 0xA000_07; if b.isEmpty then zeros 16 else b))
  | 0x09 => some (.num (b2n d.core.remap))
  | 0x0C => some (.num (Config.free c.seed 2107 % 101 : Nat))
  | 0x0A => some (.num d.core.errCnt)
  | 0x0B => some (.bytes (le 4 d.core.errAddr ++ le 4 d.core.errInfo))
  | _ => none

/-! ## The debug module (R722 to R725) -/

/-- R724: whether the debug module can be reached. -/
def Dev.debugOn (d : Dev) : Bool := !d.rst.fuses.noDebug && d.coreOn && !d.core.dbg.extest

/-- Change the debug module. -/
def Dev.modDbg (d : Dev) (f : Dbg → Dbg) : Dev := { d with core := { d.core with dbg := f d.core.dbg } }

/-- R723, R725: the hart halts for a cause of dcsr, with the program counter, privilege and registers it stands at. -/
def Dev.halt (d : Dev) (c : Ctx) (cause pc priv : Nat) (x : List Nat) : Dev :=
  let d := d.trc ([0xA0#8] ++ d.stampBytes c)
  let d := { d with trace := { d.trace with halted := true } }
  let d := d.wdFreeze c
  let d := d.modDbg fun g => { g with dpc := pc % 2 ^ 32, dcsr := setBits (setBits g.dcsr 6 3 cause) 0 2 priv }
  { d with core := { d.core with halted := true, pc := pc % 2 ^ 32, priv := priv, x := x.take 32 ++ List.replicate (32 - x.length) 0 } }

/-- R725: the hart runs again. -/
def Dev.unhalt (d : Dev) (c : Ctx) : Dev :=
  let pc := d.core.dbg.dpc
  let d := { d with core := { d.core with halted := false, pc := pc, priv := bits d.core.dbg.dcsr 0 2 } }
  let d := { (d.wdThaw c) with trace := { d.trace with halted := false } }
  (d.trc ([0xA1#8] ++ d.stampBytes c)).trcSync c 4

/-- HALTREQ (R723). -/
def execHaltreq (dt pc priv : Nat) (x : List Nat) (s : State) : Host.Outcome State Fault Refusal :=
  s.act dt fun c d => if d.debugOn && !d.core.halted then d.halt c 3 pc priv x else d

/-- RESUME (R725). -/
def execResume (dt : Nat) (s : State) : Host.Outcome State Fault Refusal :=
  s.act dt fun c d => if d.debugOn && d.core.halted then d.unhalt c else d

/-- NDMRESET (R723): a control reset of cause 0x0C. -/
def execNdmreset (dt : Nat) (s : State) : Host.Outcome State Fault Refusal :=
  s.act dt fun _ d => if d.debugOn then d.wantReset 0x0C else d

/-- A CSR as the debugger reads it: the debug CSRs, mhartid, else the value last written. -/
def Dev.csrGet (d : Dev) (n : Nat) : Nat :=
  let g := d.core.dbg
  if n = 0x7B0 then setBits g.dcsr 28 4 4
  else if n = 0x7B1 then g.dpc
  else if n = 0x7A0 then g.tselect
  else if n = 0x7A1 then ((g.trigs[g.tselect]?).getD {}).tdata1
  else if n = 0x7A2 then ((g.trigs[g.tselect]?).getD {}).tdata2
  else if n = 0xF14 then 0
  else ((d.core.csr.find? fun p => p.1 = n).map Prod.snd).getD 0

/-- A CSR written by the debugger; the triggers are of type 2. -/
def Dev.csrSet (d : Dev) (n v : Nat) : Dev :=
  let v := v % 2 ^ 32
  let trig := fun (f : Trig → Trig) => d.modDbg fun g => { g with trigs := modifyAt f g.tselect g.trigs }
  if n = 0x7B0 then d.modDbg fun g => { g with dcsr := v }
  else if n = 0x7B1 then d.modDbg fun g => { g with dpc := v }
  else if n = 0x7A0 then (if v < 4 then d.modDbg fun g => { g with tselect := v } else d)
  else if n = 0x7A1 then trig fun t => { t with tdata1 := setBits v 28 4 2 }
  else if n = 0x7A2 then trig fun t => { t with tdata2 := v }
  else if n = 0xF14 then d
  else { d with core := { d.core with csr := (n, v) :: d.core.csr.filter fun p => p.1 ≠ n } }

/-- The debug module's command status: cmderr becomes `e` unless one stands. -/
def Dev.cmdErr (d : Dev) (e : Nat) : Dev := d.modDbg fun g => { g with cmderr := if g.cmderr = 0 then e else g.cmderr }

/-- R722: an abstract Access Register command word: 32-bit GPRs and CSRs of the halted hart. `after` is what running the
program buffer leaves in the registers, none where it ends in an exception. -/
def Dev.abstractCmd (d : Dev) (w : Nat) (after : Option (List Nat)) : Dev :=
  let regno := bits w 0 16
  let g := d.core.dbg
  if g.cmderr ≠ 0 then d
  else
    let d := d.modDbg fun g => { g with command := w % 2 ^ 32 }
    if w / 2 ^ 24 % 256 ≠ 0 then d.cmdErr 2
    else if !d.core.halted then d.cmdErr 4
    else if bit w 17 && bits w 20 3 ≠ 2 then d.cmdErr 2
    else if bit w 17 && !(regno < 0x1000 || (0x1000 ≤ regno && regno < 0x1020)) then d.cmdErr 2
    else
      let r := regno - 0x1000
      let d :=
        if !bit w 17 then d
        else if bit w 16 then
          (if regno < 0x1000 then d.csrSet regno g.data0 else if r = 0 then d else d.setX r g.data0)
        else
          let v := if regno < 0x1000 then d.csrGet regno else if r = 0 then 0 else (d.core.x[r]?).getD 0
          d.modDbg fun g => { g with data0 := v }
      if !bit w 18 then d
      else match after with
        | some x => { d with core := { d.core with x := x.take 32 ++ List.replicate (32 - x.length) 0 } }
        | none => d.cmdErr 3

/-- ABSTRACT_COMMAND (R722). -/
def execAbstractCommand (dt w : Nat) (after : Option (List Nat)) (s : State) : Host.Outcome State Fault Refusal :=
  s.act dt fun _ d => if d.debugOn then d.abstractCmd w after else d

/-- R722: the debug system bus master's access of 1, 2 or 4 bytes. -/
def Dev.sbAccess (d : Dev) (c : Ctx) (write : Bool) (size addr data : Nat) (ext : List Byte) (mem : Nat) (vacant : Bool) : Dev :=
  let err := fun (d : Dev) (e : Nat) => d.modDbg fun g => { g with sbcs := setBits g.sbcs 12 3 e }
  if !(size = 1 || size = 2 || size = 4) then err d 4
  else if addr % size ≠ 0 then err d 3
  else
    let r : BusReq := ⟨3, 0, addr % 2 ^ 32, size, if write then some (le size data) else none, false, false, d.core.remap, d.core.apw, false⟩
    let p := d.complete c r ext mem vacant
    match p.2 with
    | none => (err p.1 2).emit (.bus 3 0 true [])
    | some b =>
      let d := if write then p.1 else p.1.modDbg fun g => { g with sbdata := unle b }
      d.emit (.bus 3 0 false b)

/-- SYSTEM_BUS_ACCESS (R722). -/
def execSystemBusAccess (dt : Nat) (write : Bool) (size addr data : Nat) (ext : List Byte) (mem : Nat) (vacant : Bool) (s : State) :
    Host.Outcome State Fault Refusal :=
  s.act dt fun c d => if d.debugOn then d.sbAccess c write size addr data ext mem vacant else d

/-- R722: whether trigger `n` matches an access of a kind (0 execute, 1 load, 2 store): type 2, the kind and the
privilege selected, address or data equal. -/
def Dev.trigMatch (d : Dev) (n kind addr data priv : Nat) : Bool :=
  match d.core.dbg.trigs[n]? with
  | none => false
  | some t =>
    let k := t.tdata1
    bits k 28 4 = 2 && bit k (if kind = 0 then 2 else if kind = 1 then 0 else 1) && bit k (if priv = 0 then 3 else 6)
      && t.tdata2 = (if bit k 19 then data else addr)

/-- TRIGGER (R722): an access of the running hart is compared with trigger `n`: action 1 halts it, action 0 raises a
breakpoint exception, which in user mode is R686's. -/
def execTrigger (dt n kind addr data pc priv : Nat) (x : List Nat) (s : State) : Host.Outcome State Fault Refusal :=
  s.act dt fun c d =>
    if d.coreOn && !d.core.halted && d.trigMatch n kind addr data priv then
      let act := bits (((d.core.dbg.trigs[n]?).getD {}).tdata1) 12 4
      let d := d.modDbg fun g => { g with trigs := modifyAt (fun t => { t with tdata1 := setBit t.tdata1 20 true }) n g.trigs }
      if act = 1 then (if d.debugOn then d.halt c 2 pc priv x else d)
      else if act = 0 && priv = 0 && d.appActs then d.appException c 3 pc addr
      else d
    else d

/-- SINGLE_STEP (R722): the halted hart executes one instruction, which leaves `pc`, `priv` and `x`, and halts again. -/
def execSingleStep (dt pc priv : Nat) (x : List Nat) (s : State) : Host.Outcome State Fault Refusal :=
  s.act dt fun c d => if d.debugOn && d.core.halted then (d.unhalt c).halt c 4 pc priv x else d

/-! ## JTAG (R721, R724, R915) -/

/-- Whether the TAP works: it has power. -/
def Dev.tapOn (d : Dev) : Bool := d.rst.stage ≠ .off && d.pwr.st ≠ .off && d.pwr.st ≠ .hibernate

/-- R915: another instruction than EXTEST: the cold reset it held ends, and the boot follows. -/
def Dev.setIr (d : Dev) (ir : Nat) : Dev :=
  let was := d.core.dbg.extest
  let d := d.modDbg fun g => { g with ir := ir, extest := false }
  if was && d.rst.stage = .inReset then { d with rst := { d.rst with stage := .released } } else d

/-- R721: the identification register. -/
def idcode (s12 : Bool) : Nat := Config.dieStepping * 2 ^ 28 + (if s12 then 0x2412 else 0x2424) * 2 ^ 12 + 0x9C3

/-- IDCODE (R721). -/
def execIdcode (dt : Nat) (s : State) : Host.Outcome State Fault Refusal :=
  s.act dt fun c d => if d.tapOn then (d.setIr 1).emit (.jtag (idcode c.s12)) else d

/-- A scan register as a number, its first cell lowest. -/
def cells (l : List Bool) : Nat := (l.zipIdx).foldl (fun n p => n + b2n p.1 * 2 ^ p.2) 0

/-- SAMPLE_PRELOAD (R915): the levels captured shift out, the cells load. -/
def execSamplePreload (dt : Nat) (cap load : List Bool) (s : State) : Host.Outcome State Fault Refusal :=
  s.act dt fun _ d =>
    if d.tapOn then ((d.setIr 2).modDbg fun g => { g with scan := load }).emit (.jtag (cells cap)) else d

/-- EXTEST (R915): the device is held in cold reset and the covered pins follow their cells. -/
def execExtest (dt : Nat) (load : List Bool) (s : State) : Host.Outcome State Fault Refusal :=
  s.act dt fun _ d =>
    if !d.tapOn then d
    else
      let d := if d.core.dbg.extest then d else
        let f := ((d.fullReset true true false).bumpEpoch).restoreConds
        { f with rst := { f.rst with stage := .inReset, scope := 1 } }
      d.modDbg fun g => { g with ir := 3, extest := true, scan := load }

/-- DTMCS (R724): version 0.13, 7 address bits; 0 with the debug-disable fuse blown. A write of bit [16] clears the DMI
status. -/
def execDtmcs (dt w : Nat) (s : State) : Host.Outcome State Fault Refusal :=
  s.act dt fun c d =>
    if !d.tapOn then d
    else
      let d := d.setIr 0x10
      let idle := Config.free 0 2105 % 8
      let v := if d.rst.fuses.noDebug then 0 else 1 + 7 * 16 + d.core.dbg.dmiStat * 2 ^ 10 + idle * 2 ^ 12
      let d := if bit w 16 && !d.rst.fuses.noDebug then d.modDbg fun g => { g with dmiStat := 0 } else d
      let _ := c
      d.emit (.jtag v)

/-- What a debug module register reads (0.13.2). -/
def Dev.dmRead (d : Dev) (a : Nat) : Nat :=
  let g := d.core.dbg
  let h := d.core.halted
  if a = 0x04 then g.data0
  else if a = 0x05 then g.data1
  else if a = 0x10 then g.dmcontrol
  else if a = 0x11 then 2 + 2 ^ 7 + b2n h * (2 ^ 8 + 2 ^ 9) + b2n (!h) * (2 ^ 10 + 2 ^ 11)
  else if a = 0x16 then 2 + g.cmderr * 2 ^ 8 + 8 * 2 ^ 24
  else if a = 0x17 then 0
  else if 0x20 ≤ a && a < 0x28 then (g.progbuf[a - 0x20]?).getD 0
  else if a = 0x38 then setBits g.sbcs 0 12 (7 + 32 * 2 ^ 5) + 2 ^ 29
  else if a = 0x39 then g.sbaddr
  else if a = 0x3C then g.sbdata
  else 0

/-- A write to a debug module register that no other command carries out: a new command word, program buffer, data,
system bus settings, and dmcontrol's reset and request bits with what the hart stands at. -/
def Dev.dmWrite (d : Dev) (c : Ctx) (a v pc priv : Nat) (x : List Nat) (ext : List Byte) (after : Option (List Nat)) : Dev :=
  let g := d.core.dbg
  if a = 0x04 then d.modDbg fun g => { g with data0 := v }
  else if a = 0x05 then d.modDbg fun g => { g with data1 := v }
  else if a = 0x10 then
    let d := d.modDbg fun g => { g with dmcontrol := bits v 0 2 }
    let d := if bit v 31 && !d.core.halted then d.halt c 3 pc priv x
      else if bit v 30 && !bit v 31 && d.core.halted then d.unhalt c else d
    if bit v 1 && !bit g.dmcontrol 1 then d.wantReset 0x0C else d
  else if a = 0x16 then d.modDbg fun g => { g with cmderr := g.cmderr - (g.cmderr &&& bits v 8 3) }
  else if a = 0x17 then d.abstractCmd v after
  else if 0x20 ≤ a && a < 0x28 then d.modDbg fun g => { g with progbuf := modifyAt (fun _ => v) (a - 0x20) g.progbuf }
  else if a = 0x38 then d.modDbg fun g => { g with sbcs := setBits v 12 3 (bits g.sbcs 12 3 - (bits g.sbcs 12 3 &&& bits v 12 3)) }
  else if a = 0x39 then
    let d := d.modDbg fun g => { g with sbaddr := v }
    if bit g.sbcs 20 then d.sbAccess c false (2 ^ bits g.sbcs 17 3) v 0 ext 0 false else d
  else if a = 0x3C then
    let d := (d.modDbg fun g => { g with sbdata := v }).sbAccess c true (2 ^ bits g.sbcs 17 3) g.sbaddr v ext 0 false
    if bit g.sbcs 16 then d.modDbg fun g => { g with sbaddr := (g.sbaddr + 2 ^ bits g.sbcs 17 3) % 2 ^ 32 } else d
  else d

/-- DMI (R722, R724): an access of the debug module: 7 address bits, 32 data bits, operation 1 read or 2 write. The
operands behind are what the hart stands at, bytes of targets without given contents, and what a program buffer
leaves. -/
def execDmi (dt op a v pc priv : Nat) (x : List Nat) (ext : List Byte) (after : Option (List Nat)) (s : State) :
    Host.Outcome State Fault Refusal :=
  s.act dt fun c d =>
    if !d.tapOn then d
    else
      let d := d.setIr 0x11
      if !d.debugOn then d.emit (.jtag 0)
      else if op = 1 then d.emit (.jtag (d.dmRead (a % 128) * 4))
      else if op = 2 then (d.dmWrite c (a % 128) (v % 2 ^ 32) pc priv x ext after).emit (.jtag 0)
      else d.emit (.jtag 0)

/-- BYPASS (R721): also any other code. -/
def execBypass (dt ir : Nat) (s : State) : Host.Outcome State Fault Refusal :=
  s.act dt fun _ d =>
    let k := ir % 32
    if d.tapOn && !(k = 1 || k = 2 || k = 3 || k = 0x10 || k = 0x11) then (d.setIr k).emit (.jtag 0) else d

/-- TRST_N (R900): the TAP is reset. -/
def execTrstN (dt : Nat) (s : State) : Host.Outcome State Fault Refusal :=
  s.act dt fun _ d => if d.tapOn then d.setIr 1 else d

end Sys2Proof.Machine
end

