-- ==== Sys2Proof/Machine/HostPort.lean ====
section
/-!
DEFINITION. The host port (ch 10): the transaction header, framed and stream mode, the response queue and the status
word. The bytes a command carries are those clocked in whole words after the header; 0x7010.04 is `HostPort.op`: 0 idle,
2 receiving, 3 turnaround of a READ, 4 sending frames, 5 ignoring, 6 turnaround of a STATUS, 7 sending the word, 8
ignoring after an idle timeout (R582).
-/
namespace Sys2Proof.Machine

/-- R578: the length on the pins of a frame whose message length is `m`. -/
def hostPadded (m : Nat) : Nat := 4 * ((12 + m + 3) / 4)

/-- R99, R578: a message as a host frame with its pad. -/
def Dev.hostFrameBytes (d : Dev) (m : Msg) : List Byte :=
  let b := d.itpFrame m
  let b := b ++ le 4 (crc32c b)
  b ++ zeros (hostPadded m.data.length - b.length)

/-- Change the host port. -/
def Dev.modHost (d : Dev) (f : HostPort → HostPort) : Dev := { d with host := f d.host }

/-- R580, R581: the start of a stretch is kept and counted. -/
def Dev.hostStretch (d : Dev) (c : Ctx) : Dev :=
  if d.hostFull && d.host.lowT.isNone then (d.modHost fun h => { h with lowT := some c.t }).inc 0x7010_0B else d

/-- R581: the end of a stretch, with the longest in 0x7010.0C (µs). -/
def Dev.hostUnstretch (d : Dev) (c : Ctx) : Dev :=
  match d.host.lowT with
  | some t0 =>
    if d.hostFull then d
    else
      let us := min 65535 (ceilDiv (c.t - t0) 400)
      (d.modHost fun h => { h with lowT := none, edgeT := c.t }).setN 0x7010_0C (max us (d.nat 0x7010_0C))
  | none => d

/-- A whole frame: to a receive buffer (R581); discarded and counted in .0D while the agent is in reset (R610), and in
.07 while the hart is halted and no buffer is free (Table 12.12). -/
def Dev.hostTake (d : Dev) (b : List Byte) : Dev :=
  if d.rst.stage ≠ .up then d.inc 0x7010_0D
  else if 4 ≤ d.host.frames.length then d.inc 0x7010_07
  else (d.modHost fun h => { h with frames := h.frames ++ [b] }).inc 0x7010_05

/-- Whether the port takes part in transactions: it runs and its path is enabled (R598, R801). -/
def Dev.hostOn (d : Dev) : Bool := d.hostRuns && bit (d.nat 0x1010_07) 2

/-- R576, R577: a header word. -/
def execHostHeader (dt : Nat) (hdr : List Byte) (s : State) : Host.Outcome State Fault Refusal :=
  s.act dt fun c d =>
    if !d.hostOn || d.host.op ≠ 0 then d
    else
      let op := fld hdr 0 1
      let good := hdr.length = 4 && fld hdr 1 1 = 255 - op && fld hdr 2 2 = 0
      let go := fun (n : Nat) (d : Dev) => d.modHost fun h => { h with op := n, sentOne := false, pos := 0, edgeT := c.t }
      if good && op = 0xA1 then ((go 2 d).modHost fun h => { h with buf := if h.mode = 0 then [] else h.buf }).hostStretch c
      else if good && op = 0xA2 then go 3 d
      else if good && op = 0xA3 then go 6 d
      else (go 5 d).inc 0x7010_09

/-- R589: frames are cut by their length fields, idle words between them skipped. `fuel` is at least the words held. -/
def cutFrames : Nat → List Byte → List (List Byte) × List Byte
  | 0, b => ([], b)
  | fuel + 1, b =>
    if b.length < 4 then ([], b)
    else if fld b 0 4 = 0 then cutFrames fuel (b.drop 4)
    else if b.length < 8 then ([], b)
    else
      let l := hostPadded (fld b 4 2)
      if b.length < l then ([], b)
      else
        let r := cutFrames fuel (b.drop l)
        (b.take l :: r.1, r.2)

/-- R581: what the port accepts of words to come: none while it stretches. -/
def Dev.hostRoom (d : Dev) : Bool := d.host.lowT.isNone

/-- R587, R589: words of a WRITE transaction. -/
def execWrite (dt : Nat) (bytes : List Byte) (s : State) : Host.Outcome State Fault Refusal :=
  s.act dt fun c d =>
    if !d.hostOn || d.host.op ≠ 2 || !d.hostRoom then d
    else
      let b := d.host.buf ++ bytes.take (4 * (bytes.length / 4))
      if d.host.mode = 0 then d.modHost fun h => { h with buf := b, edgeT := c.t, wordT := c.t }
      else
        let r := cutFrames b.length b
        let d := d.modHost fun h => { h with buf := r.2, edgeT := c.t, wordT := c.t }
        (r.1.foldl (fun d f => d.hostTake f) d).hostStretch c

/-- R588, R592: one word of a READ transaction. -/
def Dev.hostWord (d : Dev) : Dev × List Byte :=
  if d.rst.stage ≠ .up || (d.host.mode = 0 && d.host.sentOne) then (d, zeros 4)
  else
    let d := match d.host.cur, d.itp.hostQ with
      | none, m :: q => { d with itp := { d.itp with hostQ := q }, host := { d.host with cur := some m, pos := 0 } }
      | _, _ => d
    match d.host.cur with
    | none => (d.modHost fun h => { h with sentOne := true }, zeros 4)
    | some m =>
      let f := d.hostFrameBytes m.msg
      let w := (f.drop (4 * d.host.pos)).take 4
      if f.length ≤ 4 * d.host.pos + 4 then
        ((d.modHost fun h => { h with cur := none, pos := 0, sentOne := true }).inc 0x7010_06, w)
      else (d.modHost fun h => { h with pos := h.pos + 1 }, w)

/-- R588, R592, R594: `n` words clocked out in a READ transaction. -/
def execRead (dt n : Nat) (s : State) : Host.Outcome State Fault Refusal :=
  s.act dt fun c d =>
    if !d.hostOn || !(d.host.op = 3 || d.host.op = 4) then d
    else
      let d := d.modHost fun h => { h with op := 4, edgeT := c.t }
      let r := (upTo n).foldl (fun (p : Dev × List Byte) _ => let q := p.1.hostWord; (q.1, p.2 ++ q.2)) (d, [])
      r.1.emit (.host r.2)

/-- Table 10.4: the status word. -/
def Dev.hostStatus (d : Dev) : Nat :=
  let all := d.host.cur.toList ++ d.itp.hostQ
  d.hostDepth + b2n (all.any HostMsg.urgent) * 2 ^ 6 + b2n (all.any fun x => x.kept && !x.urgent) * 2 ^ 7
    + (4 - d.host.frames.length) * 2 ^ 8 + b2n (d.host.mode = 1 && !d.host.buf.isEmpty) * 2 ^ 11
    + b2n (d.rst.stage = .up && d.hbState = 2) * 2 ^ 12

/-- R593: the status word. -/
def execStatus (dt : Nat) (s : State) : Host.Outcome State Fault Refusal :=
  s.act dt fun c d =>
    if !d.hostOn || d.host.op ≠ 6 then d
    else (d.modHost fun h => { h with op := 7, edgeT := c.t }).emit (.host (le 4 d.hostStatus))

/-- R587, R588, R590: HPSEL_N has risen, or the transaction ends as if it had, `n` bits into a word; `op` follows. -/
def Dev.hostEnd (d : Dev) (c : Ctx) (n op : Nat) : Dev :=
  let h := d.host
  let d := d.modHost fun h => { h with op := op, pos := 0, sentOne := false }
  let d :=
    if h.op ≠ 2 then d
    else if h.mode = 0 then
      let b := h.buf
      let d := d.modHost fun h => { h with buf := [] }
      if n = 0 && 8 ≤ b.length && b.length = hostPadded (fld b 4 2) then d.hostTake b
      else if d.rst.stage ≠ .up then d.inc 0x7010_0D
      else (d.inc 0x7010_07).inc 0x1010_0B
    else if n = 0 then d
    else (d.modHost fun h => { h with buf := [] }).inc 0x7010_08
  d.hostUnstretch c

/-- R590: HPSEL_N rises, `bits` bits into a word. -/
def execHpselNRise (dt bits : Nat) (s : State) : Host.Outcome State Fault Refusal :=
  s.act dt fun c d => if !d.hostRuns || d.host.op = 0 then d else d.hostEnd c bits 0

/-- R582: whether the idle timeout has passed in a transaction, HPRDY high. -/
def Dev.hostIdle (d : Dev) (c : Ctx) : Bool :=
  d.hostOn && d.host.op ≠ 0 && d.host.op ≠ 8 && d.host.lowT.isNone && decide (d.host.edgeT + d.nat 0x7010_03 * 400 ≤ c.t)

/-- R582: the idle timeout passes with HPSEL_N low, `bits` bits into a word. HPCK is then ignored until HPSEL_N
rises. -/
def execHostPortTimeout (dt bits : Nat) (s : State) : Host.Outcome State Fault Refusal :=
  s.act dt fun c d => if d.hostIdle c then ((d.hostEnd c bits 8).inc 0x7010_0A).raise c 76 0 else d

/-- R591: a kept partial frame is discarded. -/
def execPartialFrameTimeout (dt : Nat) (s : State) : Host.Outcome State Fault Refusal :=
  s.act dt fun c d =>
    if !d.hostOn || d.host.mode = 0 || d.host.buf.isEmpty || c.t < d.host.wordT + d.nat 0x7010_03 * 400 then d
    else (d.modHost fun h => { h with buf := [] }).inc 0x7010_07

/-- 0x7010.04: the state as Table 10.9 codes it. -/
def HostPort.shown (h : HostPort) : Nat := if h.op = 6 then 3 else if h.op = 7 then 4 else if h.op = 8 then 5 else h.op

/-- The live values of 0x7010. -/
def Dev.readHostPort (d : Dev) (sub : Nat) : Option Val :=
  if sub = 0x04 then some (.num d.host.shown) else if sub = 0x0E then some (.num d.hostDepth) else none

/-- Table 10.9: the clear counters command. -/
def Dev.clearHostPort (d : Dev) : Dev := d.clear ((upTo 9).map fun i => 0x7010_05 + i)

end Sys2Proof.Machine
end

