-- ==== Sys2Proof/Machine/Startup.lean ====
section
/-!
DEFINITION. Resets and start-up (ch 16): power-on, RESET_N, power-good, the boot of Table 12.7 with the configuration
load (R59, R120 to R123, R941), the held restart, the fuses, and the objects of 0x1040 and 0x1041.
-/
namespace Sys2Proof.Machine

/-! ## Releases -/

/-- POWER_ON (R877, R879): power-good with AON lost. What MRAM and the fuses hold stays; everything else is as
`State.reset` has it, and local time starts at 0. -/
def execPowerOn (_dt : Nat) (s : State) : Host.Outcome State Fault Refusal :=
  let d := s.dev
  .next { State.reset with
    pending := s.pending, seed := s.seed + 1, fuses := s.fuses
    dev := { State.reset.dev with bankA := d.bankA, bankB := d.bankB, slot0 := d.slot0, slot1 := d.slot1 } }

/-- RESET_N (R878): low for `ns`; AON counts `slow` slow ticks from the reset's hold to the release (R163). Between 1 µs
and 10 µs the pulse may reset or not. It ends HIBERNATE too (R799). -/
def execResetN (dt ns slow : Nat) (s : State) : Host.Outcome State Fault Refusal :=
  s.act dt fun c d =>
    let takes := decide (10000 ≤ ns) || (decide (1000 ≤ ns) && Config.resetPulseTakes c.seed)
    if !takes || d.rst.stage = .off || d.rst.stage = .inReset then d
    else
      let d := d.wantReset 2
      { d with rst := { d.rst with skip := 11851 * slow } }

/-- POWER_GOOD (R877): the supplies are back after a brownout, AON retained; the cold reset is released. -/
def execPowerGood (dt slow : Nat) (s : State) : Host.Outcome State Fault Refusal :=
  s.act dt fun _ d =>
    if d.rst.stage = .inReset && !d.core.dbg.extest then
      { d with rst := { d.rst with stage := .released, skip := 11851 * slow }, pwr := { d.pwr with absent := 0 } }
    else d

/-! ## The configuration load (R58, R59, R120 to R123) -/

/-- Whether a value lies in the object's own range where the dictionary's spans do not say it all: limits of the S2412,
reserved bits, and the contents of tables. -/
def Dev.ownRange (d : Dev) (c : Ctx) (base n sub : Nat) (v : Val) : Bool :=
  let x := v.int
  let low := fun (m : Int) => !c.s12 || x < m || x = 255
  match base, sub with
  | 0x1030, 0x02 => x.toNat &&& (if c.s12 then 0x7FFF_F000 else 0x7F00_0000) = 0
  | 0x1050, 0x08 => low 16
  | 0x2100, 0x0C => low 12
  | 0x2210, 0x02 => segTableOk v.raw
  | 0x3000, 0x03 => low 24
  | 0x3100, 0x09 => dfeOk v.raw
  | 0x3200, 0x01 => low 24
  | 0x3300, 0x01 => low 16
  | 0x4000, 0x02 => low 16
  | 0x5000, 0x02 => low 16
  | 0x5100, 0x02 => low 12
  | 0x5100, 0x03 => low 12
  | 0x6100, _ => (d.checkAudio c base n sub v).isEmpty
  | 0x6300, _ => (d.checkAudio c base n sub v).isEmpty
  | 0x7000, 0x18 => true
  | 0x7000, 0x20 => true
  | 0x7000, _ => (d.checkTitle sub v).isEmpty
  | 0x7100, 0x02 => x % 64 = 0
  | 0x7200, 0x05 => !c.s12 || x < 65536
  | 0x7200, 0x1A => !c.s12 || x < 65536
  | 0x8000, 0x04 => x < 8192
  | 0x9200, 0x01 => (checkEvents 1 v).isEmpty
  | 0xA000, 0x03 => x % 64 = 0
  | _, _ => true

/-- R58, R122: the records of a payload as key, type code and value; whether the reading ended at a record that runs past
the end. `fuel` is at least the bytes. -/
def readRecords : Nat → List Byte → List (Nat × Nat × List Byte) × Bool
  | 0, _ => ([], false)
  | _, [] => ([], false)
  | f + 1, b =>
    let n := fld b 4 2
    if b.length < 6 + n then ([], true)
    else
      let r := readRecords f (b.drop ((6 + n + 3) / 4 * 4))
      ((fld b 0 2 * 256 + fld b 2 1, fld b 3 1, (b.drop 6).take n) :: r.1, r.2)

/-- R122: a record's value, where it is not skipped. -/
def Dev.recordVal (d : Dev) (c : Ctx) (r : Nat × Nat × List Byte) : Option Val :=
  match lookup c.s12 r.1 with
  | .row base n o =>
    if o.sub ≠ 0 && o.pers && r.2.1 = o.ty.code then
      match decodeVal o.ty r.2.2 with
      | some v => if o.inRange v && d.ownRange c base n o.sub v then some v else none
      | none => none
    else none
  | _ => none

/-- R122: the records of a payload become the active values; skipped ones are counted. -/
def Dev.takeRecords (d : Dev) (c : Ctx) (payload : List Byte) : Dev :=
  let r := readRecords payload.length payload
  let p := r.1.foldl (fun (x : Dev × Nat) e => match x.1.recordVal c e with
    | some v => (x.1.set e.1 v, x.2)
    | none => (x.1, x.2 + 1)) (d, 0)
  p.1.setN 0x1020_06 (min 65535 (p.2 + b2n r.2))

/-- R59, R120, R121: the load; `fa` and `fb`: how often the reads of the banks failed. -/
def Dev.loadBank (d : Dev) (c : Ctx) (fa fb : Nat) : Dev :=
  let d := if fa = 1 then d.transient else d
  let d := if fb = 1 then d.transient else d
  let n := d.bankToLoad (decide (fa < 2)) (decide (fb < 2))
  if n = 0 then d.raise c 28 0
  else
    let b := d.bank n
    ((d.takeRecords c b.payload).setN 0x1020_04 b.seq).setN 0x1020_05 n

/-- R54, R941: the node settings take effect; data rates below the arbitration rate leave the default rates acting. -/
def Dev.nodeLoad (d : Dev) (c : Ctx) : Dev :=
  let arb := d.nat 0x1010_03
  let rate := d.nat 0x1010_04
  let ok := decide (arb ≤ rate)
  let d := { d with itp := { d.itp with
    node := d.nat 0x1010_01, mode := d.nat 0x1010_02, arb := if ok then arb else 500000, rate := if ok then rate else 2000000
    ratesHeld := !ok } }
  if ok then d else d.held c 0x1010_03

/-- The routing bytes the agent applies (R786). -/
def Dev.routesLoad (d : Dev) : Dev := { d with evc := { d.evc with routes := d.raw 0x9200_01 } }

/-! ## Boot (Table 12.7) -/

/-- R165, R894, R895: the device stays in reset with SAFE_N low; AON records code 0x0E. -/
def Dev.deadBoot (d : Dev) (c : Ctx) : Dev :=
  { d with rst := { d.rst with stage := .dead, hist := (⟨0x0E, d.rst.scope, false, d.epoch, c.t⟩ :: d.rst.hist).take 8 }
           saf := { d.saf with latchA := true, latchB := true } }

/-- R769: "device started" at the release. -/
def Dev.started (d : Dev) (c : Ctx) : Dev := d.raise c 13 (d.nat 0x1040_03)

/-- R864: the power-on self-test with the failed items. -/
def Dev.powerOnTest (d : Dev) (c : Ctx) (failed : List Nat) : Dev :=
  let d := (d.setN 0x9000_07 (testWord failed)).setN 0x9000_09 c.t
  match testItems failed with
  | [] =>
    let ends := fun (d : Dev) (code : Nat) => (d.saf.conds.filter fun p => p.1 = code).foldl (fun d p => d.endCond code p.2) d
    ends (ends (ends d 0x09) 0x0A) 0x19
  | l => l.foldl (fun d i => d.testFail c i) d

/-- Step 4: the configuration, and what starts from it. -/
def Dev.bootLoad (d : Dev) (c : Ctx) (fa fb : Nat) : Dev :=
  let d := ((d.loadBank c fa fb).nodeLoad c).routesLoad
  let d := d.modHost fun h => { h with lanes := d.nat 0x7010_01, mode := d.nat 0x7010_02 }
  let d := (((d.judgeLoaded c).timeLoad c).powerBoot c).videoStart c
  let d := (d.slotsFollow c).showRecords c
  let auto := d.flag 0x1010_06 && d.nat 0x1020_05 ≠ 0 && !d.flag 0x1040_0A
  { d with rst := { d.rst with autorun := auto } }

/-- Step 5: the agent serves, with its first HEARTBEAT (R126): state 0x02, or, where it serves before the load is complete
(`early`), 0x01 with 0x02 following at once. `info`: what START reports. -/
def Dev.bootServe (d : Dev) (c : Ctx) (info : Nat) (early : Bool) : Dev :=
  let d := { d with rst := { d.rst with stage := .up }, trace := { d.trace with sleeping := false, halted := false } }
  let d := (upTo 8).foldl (fun d a => d.apApply c a) d
  let d := if d.flag 0xA200_01 then d.trcStart c info else d
  (if early then d.heartbeat c 1 else d).heartbeat c 2

/-- Step 6: the application starts (R737, R755, R898). -/
def Dev.bootApp (d : Dev) (c : Ctx) (img img2 : Option (List Byte)) : Dev :=
  let cause := d.nat 0x1040_01
  let wanted := d.flag 0xA000_02 && d.nat 0xA000_01 ≠ 0 && !d.flag 0x1040_0A && !d.rst.noApp
  let d := { d with rst := { d.rst with noApp := false } }
  if d.core.noStart then (d.setN 0xA000_05 5).raise c 18 0
  else if wanted then
    let d := { d with core := { d.core with appCause := decide (cause = 0x0B) } }
    let d := if cause = 9 then { d with wd1 := { d.wd1 with restartT := some c.t } } else d
    d.startApp c img img2
  else d

/-- Local time goes on by `n` ticks beside those the command itself counts. -/
def Dev.skipping (d : Dev) (n : Nat) : Dev := { d with rst := { d.rst with skip := n } }

/-- The µs from the release to the end of boot step `i + 1` (a step that did not run ends with the one before it). -/
def bootEnd (o : BootObs) (i : Nat) : Nat := (o.us.take (i + 1)).foldl max 0

/-- R708, R709: the boot after a cold or system reset. The command's instant is the end of step 6. Where nothing counts
local time before the root PLL's lock, it resumes there, at the end of step 1 (R163, Table 2.7), with the slow ticks
counted up to it. -/
def Dev.bootFull (d : Dev) (c : Ctx) (o : BootObs) : Dev :=
  let idle := !d.ticking
  let lock := c.t + (if idle then d.resumeTicks o.slow else 0)
  let last := if idle then lock + 400 * (bootEnd o 5 - bootEnd o 0) else c.t
  let at' : Nat → Ctx := fun i => { c with t :=
    if idle then lock + 400 * (bootEnd o i - bootEnd o 0) else max c.t0 (c.t - 400 * (bootEnd o 5 - bootEnd o i)) }
  let rel : Ctx := { c with t := if idle then c.t else max c.t0 (c.t - 400 * bootEnd o 5) }
  let fin : Ctx := { c with t := last }
  let d := ({ d with rst := { d.rst with fuses := c.cells } }.skipping (last - c.t)).started rel
  if 2 ≤ o.fuse then (d.deadBoot rel).skipping 0
  else
    let d := (if o.fuse = 1 then d.transient else d).wdHard (at' 0)
    let d := if d.nat 0x2000_01 = 2 then d else d.rootLocked c o.pllUs
    if 2 ≤ o.rom then (d.deadBoot (at' 1)).skipping ((at' 1).t - c.t)
    else
      let d := if o.rom = 1 then d.transient else d
      let c3 := at' 2
      let off := decide (2 ≤ o.train)
      let d := if o.train = 1 then d.transient else if off then (d.raise c3 6 0).detect c3 0x06 0 else d
      let d := { d with rst := { d.rst with fmOff := off } }
      let d := d.powerOnTest c3 (if off then 4 :: o.failed else o.failed)
      let d := if d.rst.scope = 2 then d.copyLog c3 3 o.copyBad else d
      let d := d.bootLoad (at' 3) o.readA o.readB
      let c5 := at' 4
      let d := (d.bootServe c5 (if d.rst.scope = 2 then 2 else 3) (decide ((o.us[4]?).getD 0 < (o.us[3]?).getD 0))).wdBoot c5
      let d := d.saf.late.foldl (fun d e => d.emergency c5 e.1 e.2.1 e.2.2) d
      let d := { d with saf := { d.saf with late := [] } }
      let d := { d with rst := { d.rst with lastSys := d.rst.lastSys.map fun (x : Nat × Option Nat) => (x.1, some c5.t) } }
      let d := o.title.foldl (fun d b => d.txnEnd fin b 0) d
      let times := (upTo 6).flatMap fun i => le 4 ((o.us[i]?).getD 0)
      ((d.setB 0x1040_0B times).bootApp fin o.img o.img2).settle fin

/-- R709, R124: the boot after a control reset: steps 1, 2, 5 and 6, with the active configuration (R37). -/
def Dev.bootControl (d : Dev) (c : Ctx) (o : BootObs) : Dev :=
  let at' : Nat → Ctx := fun i => { c with t := max c.t0 (c.t - 400 * (bootEnd o 5 - bootEnd o i)) }
  let rel : Ctx := { c with t := max c.t0 (c.t - 400 * bootEnd o 5) }
  let d := (d.started rel).wdGrace rel
  if 2 ≤ o.rom then d.deadBoot (at' 1)
  else
    let d := if o.rom = 1 then d.transient else d
    let d := if d.pwr.st = .doze then (d.setN 0x8000_01 0).modPwr fun p => { p with st := .run } else d
    let d := (d.routesLoad.setN 0xA000_05 0).bootServe (at' 4) 1 false
    let times := (upTo 6).flatMap fun i => le 4 (if i = 2 || i = 3 then 0 else (o.us[i]?).getD 0)
    (d.setB 0x1040_0B times).bootApp c o.img o.img2

/-- BOOT (R709). -/
def execBoot (dt : Nat) (o : BootObs) (s : State) : Host.Outcome State Fault Refusal :=
  s.act dt fun c d =>
    if d.rst.stage ≠ .released then d
    else if d.rst.scope = 3 then d.bootControl c o
    else d.bootFull c o

/-! ## Objects 0x1040 and 0x1041 -/

/-- The bytes of a history record (Table 16.10). -/
def Hist.bytes (h : Hist) : List Byte :=
  [byte h.cause, byte h.scope, byte (b2n h.held), 0#8] ++ le 2 h.epoch ++ zeros 2 ++ le 8 h.t

/-- R887: the refusals of a fuse program request. -/
def Dev.checkFuse (d : Dev) (c : Ctx) (b : List Byte) : List Nat :=
  let f := fld b 2 1
  let id := fld b 4 8
  let form := fld b 0 2 = 0xF05E && 1 ≤ f && f ≤ 4 && fld b 3 1 = 0 && (if f = 4 then id ≠ 0 && id ≠ 2 ^ 64 - 1 else id = 0)
  (if form then [] else [5])
    ++ (if d.safety = 1 || d.nat 0xA000_05 = 2 then [6] else [])
    ++ (if d.flag 0x1060_01 then [7] else [])
    ++ (if f = 4 && 8 ≤ c.cells.allow.length && !c.cells.allow.contains id then [0xB] else [])

/-- R887, R888: one fuse is programmed, `bad` readbacks failing (2: lasting; the fuse then reads blown or not). -/
def Dev.programFuse (d : Dev) (c : Ctx) (b : List Byte) (bad : Nat) : Dev :=
  let f := fld b 2 1
  let id := fld b 4 8
  let one : Fuses := { lock := f = 1, wd0 := f = 2, noDebug := f = 3, allow := if f = 4 then [id] else [] }
  let done := (f = 1 && c.cells.lock) || (f = 2 && c.cells.wd0) || (f = 3 && c.cells.noDebug) || (f = 4 && c.cells.allow.contains id)
  if done then d.setN 0x1041_04 2
  else if bad < 2 then
    let d := (if bad = 1 then d.transient else d).setN 0x1041_04 2
    { d with rst := { d.rst with burn := some one } }
  else
    let d := d.setN 0x1041_04 3
    if Config.failedFuseBlown c.seed then { d with rst := { d.rst with burn := some one } } else d

/-- R898: a held restart ends: auto-run and the application as steps 5 and 6 would have done. -/
def Dev.endHold (d : Dev) (c : Ctx) (img img2 : Option (List Byte)) : Dev :=
  let d := (d.setN 0x1040_0A 0).setN 0x1040_03 (d.nat 0x1040_03 % 128)
  let d := if d.flag 0x1010_06 && d.nat 0x1020_05 ≠ 0 then { d with rst := { d.rst with autorun := true } } else d
  if d.flag 0xA000_02 && d.nat 0xA000_01 ≠ 0 && d.nat 0xA000_05 ≠ 1 && d.nat 0xA000_05 ≠ 2 then d.startApp c img img2 else d

/-- The refusals of a write in 0x1040 and 0x1041 beside the dictionary's. -/
def Dev.checkReset (d : Dev) (c : Ctx) (base sub : Nat) (v : Val) : List Nat :=
  if base = 0x1040 then (if sub = 0x0C && v ≠ .num 1 then [5] else [])
  else match sub with
    | 0x01 => (if v = .num 0x7C3A || v = .num 0x7C3B then [] else [5]) ++ (if d.saving then [8] else [])
    | 0x02 => (if v = .num 0x7C3C then [] else [5]) ++ (if d.flag 0x1040_0A then [] else [6])
    | 0x03 => d.checkFuse c v.raw
    | _ => []

/-- R893: a control reset is asked for; it takes hold after the response. -/
def Dev.softReset (d : Dev) (v : Val) : Dev :=
  let d := d.wantReset 0x0A
  { d with rst := { d.rst with noApp := v = .num 0x7C3B } }

/-- CLEAR_COUNTS (R882). -/
def Dev.clearCounts (d : Dev) : Dev := { d with rst := { d.rst with counts := List.replicate 16 0 } }

/-- The live values of 0x1040 and 0x1041. -/
def Dev.readReset (d : Dev) (base sub : Nat) : Option Val :=
  if base = 0x1040 then
    match sub with
    | 0x06 => some (.bytes (d.rst.counts.flatMap fun n => le 4 n))
    | 0x07 => some (.bytes (d.rst.hist.flatMap Hist.bytes))
    | 0x08 => some (.num (fuseWord d.rst.fuses))
    | 0x09 => some (.bytes (d.rst.fuses.allow.flatMap fun n => le 8 n))
    | 0x0B => some (.bytes (let b := d.raw 0x1040_0B; if b.isEmpty then zeros 24 else b))
    | _ => none
  else if sub = 0x01 then some (.num (b2n (d.rst.want.contains 0x0A)))
  else none

end Sys2Proof.Machine
end

