-- ==== Sys2Proof/Machine/Access.lean ====
section
/-!
DEFINITION. Access to the objects (ch 1): the value a read answers (R30, R39, R945), the refusals of a read and of a
write in the codes of Table 1.20 (R33 to R36, R64, R73, R106, R112), and the write of each owning chapter.
-/
namespace Sys2Proof.Machine

/-! ## Reading -/

/-- Table 1.14: the objects of 0x1000. -/
def Dev.readColophon (d : Dev) (c : Ctx) (sub : Nat) : Option Val :=
  match sub with
  | 0x02 => some (.bytes (if c.s12 then [0x53#8, 0x32#8, 0x34#8, 0x31#8, 0x32#8] else [0x53#8, 0x32#8, 0x34#8, 0x32#8, 0x34#8]))
  | 0x03 => some (.num (if c.s12 then 12 else 24))
  | 0x04 => some (.num Config.dieStepping)
  | 0x05 => some (.num Config.agentVersion)
  | 0x06 => some (.num Config.serial)
  | 0x07 => some (.num (fuseSummary d.rst.fuses))
  | 0x08 => some (.num Config.dictionaryVersion)
  | _ => none

/-- R945: the CMD objects whose table gives no read value: whether an action of theirs is in progress. -/
def Dev.inProgress (d : Dev) (base n sub : Nat) : Option Bool :=
  match base, sub with
  | 0x2110, 0x13 => some d.dpll.asked
  | 0x2210, 0x04 => some (d.nat (profK n 0x07) = 1 || d.nat (profK n 0x07) = 3)
  | 0x7000, 0x20 => some ([0, 1].any fun s => d.slotSt s = 1 && (d.tslot s).identCmd)
  | 0x8000, 0x02 => some (d.pwr.seq = .standby || d.pwr.seq = .hibernate)
  | 0x8100, 0x13 => some (d.pwr.restarting = some n)
  | _, _ => none

/-- The live value of an object, where it is not the stored one. -/
def Dev.readLive (d : Dev) (c : Ctx) (base n sub : Nat) : Option Val :=
  match d.inProgress base n sub with
  | some b => some (.num (b2n b))
  | none => match base with
    | 0x1000 => d.readColophon c sub
    | 0x1020 => if sub ≤ 2 then some (.num (d.nat 0x1020_03 / 2 ^ 28)) else none
    | 0x1030 =>
      if sub = 1 then some (.num (d.nat 0x1030_04 / 2 ^ 28))
      else if sub = 5 then some (.num d.itp.staged.length) else none
    | 0x1040 => d.readReset 0x1040 sub
    | 0x1041 => d.readReset 0x1041 sub
    | 0x1050 => d.readTimebase c sub
    | 0x2100 => d.readGenlock c base n sub
    | 0x2110 => d.readGenlock c base n sub
    | 0x2200 => d.readSynth c base n sub
    | 0x2210 => d.readSynth c base n sub
    | 0x3000 => d.readLanes c base n sub
    | 0x3100 => d.readLanes c base n sub
    | 0x3400 => d.readLink n sub
    | 0x4000 => d.readCapture n sub
    | 0x5000 => d.readForme base n sub
    | 0x5400 => d.readForme base n sub
    | 0x6100 => d.readAudio base n sub
    | 0x7000 => d.readTitle sub
    | 0x7010 => d.readHostPort sub
    | 0x7100 => d.readStreams c base n sub
    | 0x7200 => d.readStreams c base n sub
    | 0x7300 => d.readStreams c base n sub
    | 0x8000 => d.readPower base sub
    | 0x9000 => d.readSafety base sub
    | 0x9300 => d.readSafety base sub
    | 0x9100 => d.readWdg c n sub
    | 0x9200 => d.readEvents sub
    | 0x9400 => d.readLog sub
    | 0xA000 => d.readApp c sub
    | 0xA100 => d.readAp n sub
    | 0xA200 => d.readTrace sub
    | _ => none

/-- Whether an object holds a setting (R940). -/
def Obj.setting (o : Obj) : Bool := o.acc = .rw || o.acc = .rws || o.acc = .rwd

/-- The value a read answers: of a staged object the staged one if asked for (R39), of a loaded set held aside the
loaded one (R941). -/
def Dev.value (d : Dev) (c : Ctx) (k base n : Nat) (o : Obj) (staged : Bool) : Val :=
  let act := match (if o.setting then d.asideVal k else none) with
    | some v => v
    | none => (d.readLive c base n o.sub).getD (d.get k)
  if staged && o.acc = .rws then (entOf d.itp.staged k).getD act else act

/-- R940: whether the block that owns an object is unpowered: of the blocks that Table 14.2 powers down and that have
objects, the lanes and their ports, from the core's resumption to their own at a STANDBY exit (R797). -/
def Dev.unpowered (d : Dev) (base : Nat) : Bool :=
  d.pwr.waking && (base = 0x3000 || base = 0x3100 || base = 0x3200 || base = 0x3300 || base = 0x3400)

/-- A read of an object: its refusals, or its type code and bytes. -/
def Dev.readObj (d : Dev) (c : Ctx) (k ty : Nat) (staged : Bool) : List Nat ⊕ (Nat × List Byte) :=
  match lookup c.s12 k with
  | .noIndex => .inl [0x0001]
  | .noSub => .inl [0x0002]
  | .subs h => if ty = 0 || ty = Ty.code .u8 then .inr (Ty.code .u8, [byte h]) else .inl [0x0004]
  | .row base n o =>
    match (if o.acc = .wo then [0x0003] else []) ++ (if ty = 0 || ty = o.ty.code then [] else [0x0004])
        ++ (if d.unpowered base && !o.setting then [0x000F] else []) with
    | [] => .inr (o.ty.code, encodeVal o.ty (d.value c k base n o staged))
    | l => .inl l

/-- R784: a read of the log first finds its damaged records. -/
def Dev.beforeRead (d : Dev) (k : Nat) : Dev := if k = 0x9400_01 then d.dropBad else d

/-! ## Writing -/

/-- R36: the safety objects. -/
def safetyKey (k : Nat) : Bool :=
  let i := k / 256
  i = 0x9000 || i = 0x9010 || i = 0x9300 || (decide (0x5000 ≤ i) && decide (i < 0x5018) && k % 256 = 0x0B)

/-- R34: whether the owning block of an RWD object is enabled. -/
def Dev.blockOn (d : Dev) (base n : Nat) : Bool :=
  match base with
  | 0x2100 => d.flag (key 0x2100 n 1)
  | 0x2200 => d.flag (synK n 1)
  | 0x3000 => d.flag (portK n 1)
  | 0x4000 => d.flag (chanK n 1)
  | 0x6200 => d.flag (tdmK n 1)
  | 0x7000 => d.nat (titleK 1) ≠ 0
  | 0x7100 => d.flag (cacheK 1)
  | 0x7200 => d.streamSt n ≠ 0
  | 0x8100 => d.nat 0x8000_0C ≠ 0 && d.nat 0x8000_0C ≠ 4
  | _ => false

/-- R47: whether the quoin time is given in master time. -/
def Dev.quoinMaster (d : Dev) : Bool := decide (2 ^ 63 ≤ d.nat 0x1030_03)

/-- R48, R158: the quoin time in local ticks, a master time by the offset from before a step of this tick. -/
def Dev.quoinLocal (d : Dev) (c : Ctx) : Nat :=
  let q := d.nat 0x1030_03
  if d.quoinMaster then ((q - 2 ^ 63 : Nat) - d.offsetBefore c : Int).toNat else q

/-- R42, R51: whether a quoin validates or is armed. -/
def Dev.quoinBusy (d : Dev) : Bool := d.itp.quoin.st ≠ .none

/-- The P objects that the variant has, keys rising: key, base, instance and row. -/
def savedObjs (c : Ctx) : List (Nat × Nat × Nat × Obj) :=
  dictionary.flatMap fun f => (upTo (if c.s12 then f.n12 else f.n24)).flatMap fun n =>
    if f.base + n = 0x2103 then []
    else f.tbl.filterMap fun o => match f.row n o.sub with
      | some r => if r.pers then some (key f.base n o.sub, f.base, n, r) else none
      | none => none

/-- R57, R58: the payload of a save: the active value of every P object, the loaded one for a set held aside (R941). -/
def Dev.payload (d : Dev) (c : Ctx) : List Byte :=
  (savedObjs c).flatMap fun e => recordBytes e.1 e.2.2.2.ty ((d.asideVal e.1).getD (d.get e.1))

/-- The length of a save's payload (`payload_length`). -/
def Dev.payloadLen (d : Dev) (c : Ctx) : Nat :=
  ((savedObjs c).map fun e => recordLen e.2.2.2.ty ((d.asideVal e.1).getD (d.get e.1))).sum

/-- Table 1.8: what a restore does not touch: safety objects while the safety-lock fuse is blown, and what a watchdog
lock makes read-only. -/
def Dev.spared (d : Dev) (e : Nat × Nat × Nat × Obj) : Bool :=
  (d.rst.fuses.lock && safetyKey e.1)
    || (e.2.1 = 0x9100 && (d.wd e.2.2.1).lock && decide (2 ≤ e.2.2.2.sub) && decide (e.2.2.2.sub ≤ 6))

/-- R944: the defaults a restore stages. -/
def Dev.restoreEnts (d : Dev) (c : Ctx) : List (Nat × Val) :=
  ((savedObjs c).filter fun e => e.2.2.2.acc = .rws && !d.spared e).map fun e => (e.1, dflt e.1)

/-- R944, R106: whether the staged set can hold them beside what is staged already. -/
def Dev.restoreFits (d : Dev) (c : Ctx) : Bool :=
  let es := d.restoreEnts c
  let others := d.itp.staged.filter fun x => !es.any fun e => e.1 = x.key
  decide (es.length + others.length ≤ 2048)

/-- The refusals of a write in 0x1010 to 0x1060 beside the dictionary's (R48, R51, R55, R60, R63, R64, R110, R116; R151: a
commit timed in master time needs a source that has given a sample). -/
def Dev.checkConfig (d : Dev) (c : Ctx) (base sub : Nat) (v : Val) : List Nat :=
  match base, sub with
  | 0x1010, 0x03 => if v.int ≤ d.int 0x1010_04 then [] else [0x0005]
  | 0x1010, 0x04 => if d.int 0x1010_03 ≤ v.int then [] else [0x0005]
  | 0x1020, 0x01 =>
    if v ≠ .num 1 then [0x0005]
    else (if d.saving then [0x0008] else []) ++ (if 229344 < d.payloadLen c then [0x000B] else [])
  | 0x1020, 0x02 =>
    (if v = .num 1 || v = .num 2 then [] else [0x0005])
      ++ (if d.flag 0x1060_01 then [0x0007] else [])
      ++ (if d.quoinBusy || d.saving then [0x0008] else [])
      ++ (if v = .num 2 && d.rst.fuses.lock then [0x0007] else [])
      ++ (if v = .num 1 && !d.restoreFits c then [0x000B] else [])
  | 0x1030, 0x01 =>
    if v = .num 1 then
      (if d.quoinBusy || (d.quoinMaster && decide (d.nat 0x1050_0B < 2)) then [0x0008] else [])
        ++ (if c.t + 10 * 400000000 < d.quoinLocal c then [0x0005] else [])
    else if v = .num 2 then []
    else if v = .num 3 then (if d.quoinBusy then [0x0008] else [])
    else [0x0005]
  | 0x1060, 0x01 => if v = .num 0x6F7A then [] else [0x0005]
  | _, _ => []

/-- The refusals of the owning chapter for a direct write or a command. -/
def Dev.chapterCodes (d : Dev) (c : Ctx) (base n sub : Nat) (v : Val) : List Nat :=
  match base with
  | 0x1010 => d.checkConfig c base sub v
  | 0x1020 => d.checkConfig c base sub v
  | 0x1030 => d.checkConfig c base sub v
  | 0x1060 => d.checkConfig c base sub v
  | 0x1040 => d.checkReset c base sub v
  | 0x1041 => d.checkReset c base sub v
  | 0x2100 => d.checkGenlock base n sub v
  | 0x2110 => d.checkGenlock base n sub v
  | 0x2120 => d.checkGenlock base n sub v
  | 0x2200 => d.checkSynth base n sub v
  | 0x2210 => d.checkSynth base n sub v
  | 0x3000 =>
    -- R641: an enable is admitted where the reservation fits
    d.checkLanes c base n sub v ++ (if sub = 1 && v = .num 1 && !d.portOn n && !d.active.admits c n then [0x000C] else [])
  | 0x3200 => d.checkLanes c base n sub v
  | 0x3300 => d.checkLanes c base n sub v
  | 0x3400 => checkLink sub v
  | 0x4000 =>
    -- R896: with frame memory off, captures are not enabled
    d.checkCapture c n sub v ++ (if sub = 1 && v = .num 1 && d.rst.fmOff then [0x0006] else [])
  | 0x6200 => d.checkAudio c base n sub v
  | 0x6300 => d.checkAudio c base n sub v
  | 0x7000 => d.checkTitle sub v
  | 0x7010 => if sub = 0x0F && v ≠ .num 1 then [0x0005] else []
  | 0x7100 => d.checkStreams c base n sub v ++ (if sub = 1 && v = .num 1 && d.rst.fmOff then [0x0006] else [])
  | 0x7200 => d.checkStreams c base n sub v
  | 0x7400 => checkSampling sub v
  | 0x8000 => d.checkPower base sub v
  | 0x8100 => d.checkPower base sub v
  | 0x9100 => d.checkWdg n sub v
  | 0x9200 => checkEvents sub v
  | 0x9300 => checkFaults sub v
  | 0x9400 => if (sub = 0x07 || sub = 0x0A) && v ≠ .num 1 then [0x0005] else []
  | 0xA000 => d.checkApp sub v
  | 0xA200 => if sub = 0x08 && v ≠ .num 1 then [0x0005] else []
  | _ => []

/-- The refusals of a write that do not depend on the value: access class, safety lock, freeze, type code, an open
segmented write to the object, but for the one that now completes (R34, R36, R64, R82, R112). -/
def Dev.accessCodes (d : Dev) (k base n : Nat) (o : Obj) (ty : Nat) (mine : Bool) : List Nat :=
  (if o.acc = .ro || (o.acc = .rwd && d.blockOn base n) then [0x0003] else [])
    ++ (if d.rst.fuses.lock && safetyKey k then [0x0007] else [])
    ++ (if d.flag 0x1060_01 && o.pers then [0x0007] else [])
    ++ (if ty = o.ty.code then [] else [0x0004])
    ++ (if d.unpowered base then [0x000F] else [])
    ++ (if !mine && d.itp.segs.any fun s => s.write && s.key = k then [0x0008] else [])

/-- The refusals of a write of a value (R33, R106 and the owning chapter's). -/
def Dev.valueCodes (d : Dev) (c : Ctx) (k base n : Nat) (o : Obj) (v : Val) : List Nat :=
  (match v with
    | .num _ => if o.inRange v then [] else [0x0005]
    | .bytes b => (if inSpans o.rng b.length then [] else [0x0004]) ++ (if o.ty = .str && !utf8 b.length b then [0x0005] else []))
    ++ (if d.ownRange c base n o.sub v then [] else [0x0005])
    ++ if o.acc = .rws then
        (if decide (2048 ≤ d.itp.staged.length) && !d.itp.staged.any (fun e => e.key = k) then [0x000B] else [])
      else d.chapterCodes c base n o.sub v

/-- All refusals of a write of bytes to a key. -/
def Dev.writeCodes (d : Dev) (c : Ctx) (k ty : Nat) (b : List Byte) (mine : Bool) : List Nat :=
  match lookup c.s12 k with
  | .noIndex => [0x0001]
  | .noSub => [0x0002]
  | .subs _ => [0x0003]
  | .row base n o =>
    d.accessCodes k base n o ty mine ++ match decodeVal o.ty b with
      | some v => d.valueCodes c k base n o v
      | none => [0x0004]

/-- R82: the refusals at the init of a segmented write. -/
def Dev.initCodes (d : Dev) (c : Ctx) (k ty : Nat) : List Nat :=
  match lookup c.s12 k with
  | .noIndex => [0x0001]
  | .noSub => [0x0002]
  | .subs _ => [0x0003]
  | .row base n o => d.accessCodes k base n o ty false

/-! ## The effect of a write -/

/-- R118: 0x1010.07 with a lost channel's bit cleared and set again. -/
def Dev.pathsWritten (d : Dev) (c : Ctx) : Dev :=
  let v := d.nat 0x1010_07
  let one := fun (x : CanCh) (ch : Nat) =>
    if !bit v ch then ({ x with cleared := true }, false)
    else if x.lost && x.cleared then (({} : CanCh), true)
    else ({ x with cleared := false }, false)
  let a := one d.itp.can0 0
  let b := one d.itp.can1 1
  let d := { d with itp := { d.itp with can0 := a.1, can1 := b.1 } }
  let d := if a.2 then d.raiseClr c 29 0 else d
  if b.2 then d.raiseClr c 29 1 else d

/-- Commands of the log objects (Table 13.12): COPY and clear. -/
def Dev.writeLog (d : Dev) (c : Ctx) (sub : Nat) (v : Val) (bad : Nat) : Dev :=
  if sub = 0x07 then d.copyCommand c bad else if sub = 0x0A then d.clearLog else d.set (0x9400_00 + sub) v

/-- The commands and settings of 0xA000 (Table 12.14). -/
def Dev.writeApp (d : Dev) (c : Ctx) (sub : Nat) (v : Val) (o : Obs) : Dev :=
  if sub = 0x04 then (if v = .num 1 then d.startAppCmd c o.img o.img2 else d.stopApp) else d.set (0xA000_00 + sub) v

/-- The settings and the command of 0xA200 (Table 12.16). -/
def Dev.writeTrace (d : Dev) (c : Ctx) (sub : Nat) (v : Val) : Dev :=
  if sub = 0x01 then d.setTrace c (v.int ≠ 0) else if sub = 0x08 then d.clearTrace c else d.set (0xA200_00 + sub) v

/-- The commands of 0x1040 and 0x1041. -/
def Dev.writeReset (d : Dev) (c : Ctx) (base sub : Nat) (v : Val) (o : Obs) : Dev :=
  if base = 0x1040 then (if sub = 0x0C then d.clearCounts else d)
  else match sub with
    | 0x01 => d.softReset v
    | 0x02 => d.endHold c o.img o.img2
    | 0x03 => d.programFuse c v.raw o.bad
    | _ => d

/-- The effect of a direct write or a command in the chapters after the first. -/
def Dev.writeChapter (d : Dev) (c : Ctx) (base n sub : Nat) (v : Val) (o : Obs) : Dev :=
  match base with
  | 0x1040 => d.writeReset c base sub v o
  | 0x1041 => d.writeReset c base sub v o
  | 0x1050 => (d.writeTimebase c sub v).judgeServe c
  | 0x2100 => d.writeGenlock c base n sub v
  | 0x2110 => d.writeGenlock c base n sub v
  | 0x2120 => d.writeGenlock c base n sub v
  | 0x2200 => d.writeSynth c base n sub v
  | 0x2210 => d.writeSynth c base n sub v
  | 0x3000 => let d := d.writeLanes c base n sub v; if sub = 2 then d.judgeServe c else d
  | 0x3300 =>
    let stopped := if sub = 0x04 && v = .num 2 then d.test else none
    let d := d.writeLanes c base n sub v
    match stopped with
    | some t => d.testResult c t o.rx
    | none => d
  | 0x3100 => d.writeLanes c base n sub v
  | 0x3200 => d.writeLanes c base n sub v
  | 0x3400 => d.writeLink c n sub v
  | 0x4000 => d.writeCapture n sub v
  | 0x6000 => d.writeAudio base n sub v
  | 0x6200 => d.writeAudio base n sub v
  | 0x6300 => d.writeAudio base n sub v
  | 0x7000 => d.writeTitle c sub v
  | 0x7010 => if sub = 0x0F then d.clearHostPort else d.set (0x7010_00 + sub) v
  | 0x7100 => d.writeStreams c base n sub v
  | 0x7200 => d.writeStreams c base n sub v
  | 0x7400 => d.writeSampling sub v
  | 0x8000 => if sub = 0x02 then d.standby c (v = .num 2) o.lost else d.writePower c base n sub v
  | 0x8100 => d.writePower c base n sub v
  | 0x8200 => d.writePower c base n sub v
  | 0x8300 => d.writePower c base n sub v
  | 0x9000 => d.writeSafety c base sub v
  | 0x9010 => d.writeSafety c base sub v
  | 0x9300 => d.writeSafety c base sub v
  | 0x9100 => d.writeWdg c n sub v
  | 0x9200 => d.writeEvents c sub v
  | 0x9400 => d.writeLog c sub v o.bad
  | 0xA000 => d.writeApp c sub v o
  | 0xA100 => (d.set (apK n sub) v).apApply c n
  | 0xA200 => d.writeTrace c sub v
  | _ => d.set (key base n sub) v

end Sys2Proof.Machine
end

