-- ==== Sys2Proof/Machine/Save.lean ====
section
/-!
DEFINITION. Save, restore and freeze of the configuration (R60 to R66, R110, R114 to R116, R119, R944), and the effect
of any accepted write.
-/
namespace Sys2Proof.Machine

/-- A command's surroundings that answer every try. -/
def Obs.quiet : Obs := ⟨false, 0, [], 0, none, none, [], []⟩

/-! ## Save (Tables 1.6 and 1.7) -/

/-- The bank a save writes: the one not active, A if neither is valid. -/
def Dev.saveTarget (d : Dev) : Nat := if d.nat 0x1020_05 = 1 then 2 else 1

/-- R57: the bank with a payload, its commit words 0. -/
def newBank (c : Ctx) (p : List Byte) : Bank :=
  let b : Bank := { magic := 0x5844_5349, format := 1, variant := if c.s12 then 12 else 24, len := p.length, payload := p }
  { b with crc := b.crcOf }

/-- A save's steps. A second fault fails it and leaves the target invalid (R119); a save cut off in a step leaves the
target as Table 1.7 has it, and one in its snapshot may be restarted by a quoin (R114). -/
def Dev.saveRun (d : Dev) (c : Ctx) (o : Obs) : Dev :=
  let snap := if o.cut = 1 then some (d.itp.saveSnap.getD 0) else none
  let d := { d with itp := { d.itp with saveWait := false, saveSnap := snap } }
  let p := d.payload c
  let t := d.saveTarget
  let b := newBank c p
  let seq := if d.nat 0x1020_05 = 0 then 1 else bankNext (d.nat 0x1020_04)
  if o.cut = 1 then d.setN 0x1020_03 (saveWord 1 0 0)
  else if 229344 < d.payloadLen c then d.saveFailed c 5 0
  else if o.cut = 2 then (d.setBank t { d.bank t with seq := 0, comp := 0 }).setN 0x1020_03 (saveWord 2 0 0)
  else if o.cut = 3 || o.cut = 4 then (d.setBank t b).setN 0x1020_03 (saveWord o.cut 0 p.length)
  else match o.faults with
    | _ :: f :: _ => (d.setBank t b).saveFailed c (if f = 2 then 2 else 4) p.length
    | l =>
      let d := if l.isEmpty then d else d.transient
      if o.cut = 5 then (d.setBank t { b with seq := seq }).setN 0x1020_03 (saveWord 5 0 p.length)
      else
        let d := ((d.setBank t { b with seq := seq, comp := comp32 seq }).setN 0x1020_04 seq).setN 0x1020_05 t
        (d.setN 0x1020_03 (saveWord 6 1 p.length)).copyLog c 1 o.bad

/-- R60, R114: the save command: it waits for an armed quoin. -/
def Dev.saveCommand (d : Dev) (c : Ctx) (o : Obs) : Dev :=
  if d.itp.quoin.st = .armed then
    { (d.setN 0x1020_03 (saveWord 8 0 0)) with itp := { d.itp with saveWait := true } }
  else d.saveRun c o

/-- R114: a waiting save runs once the quoin has applied, and one in its snapshot, restarted or not, goes on. -/
def Dev.saveAfter (d : Dev) (c : Ctx) (o : Obs) : Dev :=
  if (d.itp.saveWait && d.itp.quoin.st ≠ .armed) || d.itp.saveSnap.isSome then d.saveRun c o else d

/-! ## Restore, invalidate, freeze -/

/-- A write to a staged object (R38): a new entry, or the old one's place. -/
def Dev.stage (d : Dev) (k : Nat) (v : Val) : Dev :=
  let s := d.itp.serial + 1
  let l := d.itp.staged.filter fun e => e.key ≠ k
  { d with itp := { d.itp with staged := l ++ [⟨k, v, s⟩], serial := s } }

/-- R944, steps 1 and 2. -/
def Dev.restore (d : Dev) (c : Ctx) : Dev :=
  let d := (d.restoreEnts c).foldl (fun d e => d.stage e.1 e.2) d
  let scope := if c.s12 then 0x8000_0FFF else 0x80FF_FFFF
  ((d.commit scope 0 true).setN 0x1020_03 (saveWord 9 0 0)).setN 0x1020_07 0

/-- Table 1.8: both banks become invalid, the one with the lower sequence first, the order of R59 deciding which that is
(log entry 160); `cut`: a reset lands between the two. -/
def Dev.invalidateBanks (d : Dev) (cut : Bool) : Dev :=
  let z := fun (b : Bank) => { b with seq := 0, comp := 0 }
  let low := if newer d.bankA.seq d.bankB.seq then 2 else 1
  let d := d.setBank low (z (d.bank low))
  let d := if cut then d else d.setBank (3 - low) (z (d.bank (3 - low)))
  (d.setN 0x1020_04 0).setN 0x1020_05 0

/-- Whether a key is a P object's. -/
def persKey (c : Ctx) (k : Nat) : Bool :=
  match lookup c.s12 k with
  | .row _ _ o => o.pers
  | _ => false

/-- R64, R115: the first freeze; staged P entries are discarded. -/
def Dev.freeze (d : Dev) (c : Ctx) : Dev :=
  if d.flag 0x1060_01 then d
  else
    let d := { d with itp := { d.itp with staged := d.itp.staged.filter fun e => !persKey c e.key } }
    (d.setN 0x1060_01 1).setN 0x1060_02 c.t

/-! ## The effect of an accepted write -/

/-- Table 1.3: a quoin command. -/
def Dev.quoinCommand (d : Dev) (c : Ctx) (v : Val) : Dev :=
  let scope := d.nat 0x1030_02
  if v = .num 1 then d.commit scope (d.quoinLocal c) false
  else if v = .num 2 then d.discard scope
  else d.validateOnly c scope

/-- R941, R53: loaded data rates that were held take effect with the write that makes them consistent (log entry 162). -/
def Dev.ratesTaken (d : Dev) (c : Ctx) : Dev :=
  let arb := d.nat 0x1010_03
  let rate := d.nat 0x1010_04
  if d.itp.ratesHeld && decide (arb ≤ rate) then
    { d with itp := { d.itp with ratesHeld := false, arb := arb, rate := rate } }.unheld c 0x1010_03
  else d

/-- The effect of a direct write or a command. -/
def Dev.writeObj (d : Dev) (c : Ctx) (base n sub : Nat) (v : Val) (o : Obs) : Dev :=
  match base with
  | 0x1010 =>
    let d := d.set (0x1010_00 + sub) v
    if sub = 0x07 then d.pathsWritten c else if sub = 0x03 || sub = 0x04 then d.ratesTaken c else d
  | 0x1020 => if sub = 1 then d.saveCommand c o else if v = .num 1 then d.restore c else d.invalidateBanks (o.cut ≠ 0)
  | 0x1030 => if sub = 1 then d.quoinCommand c v else d.set (0x1030_00 + sub) v
  | 0x1060 => d.freeze c
  | _ => d.writeChapter c base n sub v o

/-- The effect of an accepted write: a staged entry (R38), or the owning block's, after which sets held aside may have
become consistent (R941). -/
def Dev.applyWrite (d : Dev) (c : Ctx) (base n : Nat) (r : Obj) (v : Val) (o : Obs) : Dev :=
  let k := key base n r.sub
  if r.acc = .rws then d.stage k v
  else
    let d := d.writeObj c base n r.sub v o
    (if r.setting then d.dropAside k else d).retryAside c

/-- The effect of accepted bytes on the object a key names. -/
def Dev.acceptBytes (d : Dev) (c : Ctx) (k : Nat) (b : List Byte) (o : Obs) : Dev :=
  match lookup c.s12 k with
  | .row base n r => match decodeVal r.ty b with
    | some v => d.applyWrite c base n r v o
    | none => d
  | _ => d

/-- R944, steps 3 and 4, at the boundary where the global entries of a restore apply. -/
def Dev.finishRestore (d : Dev) (c : Ctx) : Dev :=
  if d.itp.restoring.isEmpty then d
  else
    let d := { d with itp := { d.itp with restoring := [] } }
    let differs := fun (d : Dev) (k : Nat) => ((d.asideVal k).getD (d.get k)) ≠ dflt k
    let rw := (savedObjs c).filter fun e => e.2.2.2.acc = .rw && !d.spared e
    let d := rw.foldl (fun d e =>
      if differs d e.1 then (d.writeObj c e.2.1 e.2.2.1 e.2.2.2.sub (dflt e.1) Obs.quiet).dropAside e.1 else d) d
    let rwd := (savedObjs c).filter fun e => e.2.2.2.acc = .rwd && !d.spared e
    let d := rwd.foldl (fun d e =>
      if !d.blockOn e.2.1 e.2.2.1 && (d.chapterCodes c e.2.1 e.2.2.1 e.2.2.2.sub (dflt e.1)).isEmpty then
        if differs d e.1 then (d.writeObj c e.2.1 e.2.2.1 e.2.2.2.sub (dflt e.1) Obs.quiet).dropAside e.1 else d
      else d.setN 0x1020_07 (min 65535 (d.nat 0x1020_07 + 1))) d
    d.retryAside c

/-! ## Events -/

/-- QUOIN_VALIDATION_END (R44, R45). -/
def execQuoinValidationEnd (dt : Nat) (s : State) : Host.Outcome State Fault Refusal :=
  s.act dt fun c d => d.validated c

/-- QUOIN_TIME_REACHED (R42): with no anchor, the global entries apply. -/
def execQuoinTimeReached (dt : Nat) (s : State) : Host.Outcome State Fault Refusal :=
  s.act dt fun c d => ((d.quoinTime c).finishRestore c).retryAside c

/-- FORME_FRAME_START (R450, R451, R471): the frame boundary of forme `n` once its time has come, where a quoin may
apply. -/
def execFormeFrameStart (dt n : Nat) (s : State) : Host.Outcome State Fault Refusal :=
  s.actOn (n < s.count 24 12) dt fun c d =>
    match d.formeFrameAt c n with
    | some t => ((d.formeFrame c n t).finishRestore c).retryAside c
    | none => d

/-- SAVE_AFTER_QUOIN (R114). -/
def execSaveAfterQuoin (dt : Nat) (o : Obs) (s : State) : Host.Outcome State Fault Refusal :=
  s.act dt fun c d => d.saveAfter c o

end Sys2Proof.Machine
end

