-- ==== Sys2Proof/Machine/Service.lean ====
section
/-!
DEFINITION. The Isainadex transfer protocol (ch 1): requests and responses (R69 to R75, R90), segmented transfers (R76 to
R84), IDENTIFY, HEARTBEAT, the carriage on the host port, VC1 and the mailbox (R99 to R105), and a CAN FD channel's
bus-off (R118).
-/
namespace Sys2Proof.Machine

/-! ## Answers -/

/-- The refusals of a header: reserved bits, and fewer bytes than a header has (R10, R71). DESIGN CHOICE (log entry 152): the
spec gives no answer to a request of fewer than 8 data bytes; it is refused with 0x0004. -/
def headerCodes (data : List Byte) : List Nat :=
  (if fld data 0 1 < 2 && fld data 6 2 = 0 then [] else [0x0005]) ++ (if data.length < 8 then [0x0004] else [])

/-- R72: a request is refused. -/
def Dev.refuse (d : Dev) (c : Ctx) (o : Org) (id : Nat) (data : List Byte) (code : Nat) : Dev :=
  d.answer c o id data (reply o 0x05 (abortBytes (parseHdr data) code))

/-! ## Expedited access -/

/-- READ_REQ (R39, R70, R71, R75). -/
def Dev.readReq (d : Dev) (c : Ctx) (o : Org) (id : Nat) (data : List Byte) : Dev :=
  let h := parseHdr data
  let d := d.beforeRead h.key
  let staged := bit h.flags 0
  match d.readObj c h.key h.ty staged with
  | .inl l => d.refuse c o id data ((firstCode (headerCodes data ++ l)).getD 0)
  | .inr (ty, b) =>
    match firstCode (headerCodes data ++ if 56 < b.length then [0x0004] else []) with
    | some code => d.refuse c o id data code
    | none =>
      let r : Hdr := ⟨b2n staged, ty, h.idx, h.sub, b.length⟩
      d.answer c o id data (reply o 0x02 (r.bytes ++ b))

/-- WRITE_REQ (R33 to R36, R71, R75): the answer, then the effect (R56). -/
def Dev.writeReq (d : Dev) (c : Ctx) (o : Org) (id : Nat) (data : List Byte) (x : Obs) : Dev :=
  let h := parseHdr data
  let b := (data.drop 8).take h.len
  let short := decide (56 < h.len) || decide (data.length < 8 + h.len)
  match firstCode (headerCodes data ++ (if short then [0x0004] else []) ++ d.writeCodes c h.key h.ty b false) with
  | some code => d.refuse c o id data code
  | none =>
    let r : Hdr := ⟨0, h.ty, h.idx, h.sub, 0⟩
    (d.answer c o id data (reply o 0x04 r.bytes)).acceptBytes c h.key b x

/-! ## Segmented transfers -/

/-- Change the open transfers. -/
def Dev.modSegs (d : Dev) (f : List Seg → List Seg) : Dev := { d with itp := { d.itp with segs := f d.itp.segs } }

/-- Whether a transfer is that of a frame's path, source and tag (R84). -/
def Seg.is (s : Seg) (o : Org) : Bool := s.org.path = o.path && s.org.src = o.src && s.org.tag = o.tag

/-- A transfer's header, as its init gave it (R72). -/
def Seg.hdr (s : Seg) : Hdr := ⟨s.flags, s.ity, s.key / 256, s.key % 256, 0⟩

/-- A frame of a transfer to its other side (R70, Table 1.9). -/
def Dev.segSend (d : Dev) (c : Ctx) (s : Seg) (cls : Nat) (data : List Byte) : Dev := d.sendTo c s.org.path (reply s.org cls data)

/-- A transfer is dropped. -/
def Dev.segDrop (d : Dev) (s : Seg) : Dev := d.modSegs fun l => l.filter fun x => !x.is s.org

/-- A transfer ends with an ABORT of the S2424, with the header of its init (R72). -/
def Dev.segAbort (d : Dev) (c : Ctx) (s : Seg) (code : Nat) : Dev := (d.segDrop s).segSend c s 0x05 (abortBytes s.hdr code)

/-- Replace a transfer's state; R81: from now on its next frame is waited for. -/
def Dev.segSet (d : Dev) (c : Ctx) (s : Seg) : Dev := d.modSegs fun l => l.map fun x => if x.is s.org then { s with t := c.t } else x

/-- R76: SEG_INIT_RSP: the header, the total length, a window of 16. -/
def Dev.segOpen (d : Dev) (c : Ctx) (o : Org) (id : Nat) (data : List Byte) (s : Seg) : Dev :=
  let d := d.modSegs fun l => (l.filter fun x => !x.is o) ++ [s]
  let h : Hdr := ⟨0, s.ty, s.key / 256, s.key % 256, 0⟩
  d.answer c o id data (reply o 0x08 (h.bytes ++ le 4 s.total ++ [16#8]))

/-- R107: no fifth transfer. -/
def Dev.segsFull (d : Dev) : List Nat := if 4 ≤ d.itp.segs.length then [0x000B] else []

/-- SEG_READ_INIT (R76, R82, R83): the snapshot of the whole active value: read staged is a flag of READ_REQ only (R71). -/
def Dev.segReadInit (d : Dev) (c : Ctx) (o : Org) (id : Nat) (data : List Byte) : Dev :=
  let h := parseHdr data
  let d := d.beforeRead h.key
  match d.readObj c h.key h.ty false with
  | .inl l => d.refuse c o id data ((firstCode (headerCodes data ++ l ++ d.segsFull)).getD 0)
  | .inr (ty, b) =>
    match firstCode (headerCodes data ++ d.segsFull) with
    | some code => d.refuse c o id data code
    | none =>
      d.segOpen c o id data
        { org := o, write := false, key := h.key, ty := ty, flags := h.flags, ity := h.ty, t := c.t, total := b.length, data := b }

/-- SEG_WRITE_INIT (R76, R82). DESIGN CHOICE (log entry 153): a total length above 65,536, which no object holds, is refused
here with 0x0004; the spec names neither the code nor the instant. -/
def Dev.segWriteInit (d : Dev) (c : Ctx) (o : Org) (id : Nat) (data : List Byte) : Dev :=
  let h := parseHdr data
  let total := fld data 8 4
  let bad := decide (data.length < 12) || h.len ≠ 0 || decide (65536 < total)
  match firstCode (headerCodes data ++ (if bad then [0x0004] else []) ++ d.initCodes c h.key h.ty ++ d.segsFull) with
  | some code => d.refuse c o id data code
  | none =>
    d.segOpen c o id data
      { org := o, write := true, key := h.key, ty := h.ty, flags := h.flags, ity := h.ty, t := c.t, total := total, data := [] }

/-- SEG_DATA frame `i` of a value (R77). -/
def segFrame (b : List Byte) (total i : Nat) : List Byte :=
  let v := (b.drop (62 * i)).take 62
  [byte i, byte (b2n (decide (total ≤ 62 * (i + 1))))] ++ v ++ zeros (62 - v.length)

/-- How many frames a value takes. -/
def segFrames (total : Nat) : Nat := max 1 (ceilDiv total 62)

/-- The master's SEG_ACK in a read (R78, R79): the block from the frame it names; the end once it names none. DESIGN CHOICE
(log entry 154): one with a status above 2, which R78 does not have, is ignored. -/
def Dev.segAckIn (d : Dev) (c : Ctx) (s : Seg) (n status : Nat) : Dev :=
  let start := s.base + (n + 256 - s.base % 256) % 256
  if status = 2 || (status ≤ 1 && segFrames s.total ≤ start) then d.segDrop s
  else if 2 < status then d
  else
    let d := d.segSet c { s with base := start }
    (upTo (min 16 (segFrames s.total - start))).foldl (fun d i => d.segSend c s 0x09 (segFrame s.data s.total (start + i))) d

/-- The end of a segmented write (R82): all bytes came, and the whole write is judged. DESIGN CHOICE (log entry 155): access
is judged again here, so that a freeze, a lock or an enable since the init refuses the write; R82 puts access at the init
and does not say what such a change means. -/
def Dev.segEnd (d : Dev) (c : Ctx) (s : Seg) (x : Obs) : Dev :=
  let b := s.data.take s.total
  if s.data.length < s.total then d.segAbort c s 0x0004
  else match firstCode (d.writeCodes c s.key s.ty b true) with
    | some code => d.segAbort c s code
    | none => ((d.segDrop s).segSend c s 0x0A [byte s.next, 2#8]).acceptBytes c s.key b x

/-- SEG_DATA in a write (R77, R78, R80): frames up to the 16th of the block or the last; after a sequence error the rest of
the block is passed over and a resend is asked for, once. -/
def Dev.segDataIn (d : Dev) (c : Ctx) (s : Seg) (data : List Byte) (x : Obs) : Dev :=
  let seq := fld data 0 1
  let last := bit (fld data 1 1) 0
  let ok := !s.err && seq = s.next % 256
  let b := (data.drop 2).take 62
  let s := { s with count := s.count + 1 }
  let s := if ok then { s with data := (s.data ++ b ++ zeros (62 - b.length)).take 65598, next := s.next + 1 } else s
  let fresh := !ok && !s.err
  let s := if fresh then { s with errs := s.errs + 1, err := true } else s
  if fresh && decide (2 ≤ s.errs) then d.segAbort c s 0x0009
  else if s.count < 16 && !last && !(s.err && (seq + 256 - s.base % 256) % 256 = 15) then d.segSet c s
  else
    let s := { s with count := 0, base := s.next }
    if s.err then (d.segSet c { s with err := false }).segSend c s 0x0A [byte s.next, 1#8]
    else if last then d.segEnd c s x
    else (d.segSet c { s with errs := 0 }).segSend c s 0x0A [byte s.next, 0#8]

/-- A frame of an open transfer: SEG_DATA, SEG_ACK or ABORT; one that matches none, or has the wrong direction, is
ignored. -/
def Dev.segIn (d : Dev) (c : Ctx) (o : Org) (cls : Nat) (data : List Byte) (x : Obs) : Dev :=
  match d.itp.segs.find? fun s => s.is o with
  | none => d
  | some s =>
    if cls = 0x05 then d.segDrop s
    else if s.write && cls = 0x09 then d.segDataIn c s data x
    else if !s.write && cls = 0x0A then d.segAckIn c s (fld data 0 1) (fld data 1 1)
    else d

/-! ## The mailbox (R104) -/

/-- Whether the application's bytes at an address lie in one memory that user mode reaches (R702, Table 12.2). -/
def Dev.userBytes (d : Dev) (a n : Nat) : Bool :=
  n = 0 || match regionOf d.core.remap a with
    | some r => r.tgt = .mem && r.user && decide (a + n ≤ r.base + r.size)
    | none => false

/-- A mailbox call returns. -/
def Dev.mailReturn (d : Dev) (code : Nat) : Dev := (d.setX 10 code).emit (.ret code)

/-- Bytes stored into the core's memory. -/
def Dev.store (d : Dev) (a : Nat) (b : List Byte) : Dev :=
  { d with core := { d.core with mem := memWrite d.core.mem (memAddr a) b } }

/-- The request block at `a` (Table 1.12), a read, for which DESIGN CHOICE (log entry 157): a length field above 65,536 is
answered 0x0004, as in a write; no rule names the code. It gives the value into the buffer, or its length where it does not fit. -/
def Dev.mailRead (d : Dev) (c : Ctx) (a : Nat) (b : List Byte) : Dev :=
  let k := fld b 4 2 * 256 + fld b 3 1
  let size := fld b 8 4
  let buf := fld b 12 4
  let d := d.beforeRead k
  let head := (if fld b 1 1 < 2 && fld b 6 2 = 0 then [] else [0x0005]) ++ if 65536 < size then [0x0004] else []
  match d.readObj c k (fld b 2 1) (bit (fld b 1 1) 0) with
  | .inl l => d.mailReturn ((firstCode (head ++ l)).getD 0)
  | .inr (_, v) =>
    let long := decide (size < v.length)
    let bad := !long && !d.userBytes buf v.length
    let d1 := if head.isEmpty && !bad then d.store (a + 8) (le 4 v.length) else d
    match firstCode (head ++ (if long then [0x0004] else []) ++ if bad then [0x0005] else []) with
    | some code => d1.mailReturn code
    | none => (d1.store buf v).mailReturn 0

/-- The request block, a write. -/
def Dev.mailWrite (d : Dev) (c : Ctx) (b : List Byte) (x : Obs) : Dev :=
  let k := fld b 4 2 * 256 + fld b 3 1
  let n := fld b 8 4
  let buf := fld b 12 4
  let head := (if fld b 1 1 < 2 && fld b 6 2 = 0 then [] else [0x0005]) ++ if 65536 < n then [0x0004] else []
  let bad := !d.userBytes buf (min n 65536)
  let v := if bad || 65536 < n then [] else memRead d.core.mem (memAddr buf) n
  match firstCode (head ++ if bad || 65536 < n then (if bad then [0x0005] else []) else d.writeCodes c k (fld b 2 1) v false) with
  | some code => d.mailReturn code
  | none => (d.mailReturn 0).acceptBytes c k v x

/-- A mailbox write of bytes to an object. -/
def Dev.mailPut (d : Dev) (c : Ctx) (k ty : Nat) (b : List Byte) (x : Obs) : Dev :=
  match firstCode (d.writeCodes c k ty b false) with
  | some code => d.mailReturn code
  | none => (d.mailReturn 0).acceptBytes c k b x

/-- The mailbox call whose request block lies at `a`. -/
def Dev.mailCall (d : Dev) (c : Ctx) (a : Nat) (x : Obs) : Dev :=
  if !d.userBytes a 16 then d.mailReturn 0x0005
  else
    let b := memRead d.core.mem (memAddr a) 16
    let cls := fld b 0 1
    if cls = 0x01 then d.mailRead c a b
    else if cls = 0x03 then d.mailWrite c b x
    else d.mailReturn 0x000D

/-! ## Serving a message -/

/-- The service classes that the S2424 sends, and TIME: no requests (R69). -/
def notRequest (cls : Nat) : Bool :=
  cls = 0x02 || cls = 0x04 || cls = 0x08 || cls = 0x10 || cls = 0x11 || cls = 0x12 || cls = 0x13 || cls = 0x14 || cls = 0x15

/-- A request is served, or answered again (R69, R90). -/
def Dev.serveFrame (d : Dev) (c : Ctx) (o : Org) (cls id : Nat) (data : List Byte) (x : Obs) : Dev :=
  match d.stored c o id data with
  | some r => d.again c r
  | none => match cls with
    | 0x01 => d.readReq c o id data
    | 0x03 => d.writeReq c o id data x
    | 0x06 => d.segReadInit c o id data
    | 0x07 => d.segWriteInit c o id data
    | _ => d.refuse c o id data 0x000D

/-! ### Waiting requests (R108, R109) -/

/-- The paths in the order of R109. -/
def pathTurn : Path → Nat
  | .fd0 => 0
  | .fd1 => 1
  | .host => 2
  | .vc1 _ => 3
  | .mailbox => 4

/-- An expedited request is served, unless the agent no longer serves or a reset takes hold (R793, R800, R893). -/
def Dev.serveJob (d : Dev) (c : Ctx) (w : Wait) : Dev :=
  if !d.listening || !d.rst.want.isEmpty then d
  else match w.job with
    | .frame cls id data => d.serveFrame c w.org cls id data w.x
    | .write k ty b => d.mailPut c k ty b w.x
    | .call a => d.mailCall c a w.x

/-- R109: a path has had its turn. -/
def Dev.turnFrom (d : Dev) (p : Path) : Dev := { d with itp := { d.itp with turn := (pathTurn p + 1) % 5 } }

/-- R109: the request whose turn it is: the oldest of the first path, from the turn on, that has one waiting. -/
def Dev.nextWait (d : Dev) : Option Wait :=
  (upTo 5).findSome? fun i => d.itp.waiting.find? fun w => pathTurn w.org.path = (d.itp.turn + i) % 5

/-- R109: waiting requests are served, one per turn; `n` is at least how many wait. -/
def Dev.drain (d : Dev) (c : Ctx) : Nat → Dev
  | 0 => d
  | n + 1 => match d.nextWait with
    | none => d
    | some w => Dev.drain (({ d with itp := { d.itp with waiting := d.itp.waiting.erase w } }.turnFrom w.org.path).serveJob c w) c n

/-- R108: an expedited request finds 32 of its path waiting. -/
def Dev.refuseWait (d : Dev) (c : Ctx) (w : Wait) : Dev :=
  match w.job with
  | .frame _ id data => d.refuse c w.org id data 0x0008
  | _ => d.mailReturn 0x0008

/-- R108, R109: an expedited request arrives: it waits while the agent is busy, and else the agent serves what waits and
then nothing is left. -/
def Dev.arrive (d : Dev) (c : Ctx) (w : Wait) : Dev :=
  if d.itp.waiting.isEmpty && !w.x.busy then (d.turnFrom w.org.path).serveJob c w
  else if 32 ≤ (d.itp.waiting.filter fun v => pathTurn v.org.path = pathTurn w.org.path).length then d.refuseWait c w
  else
    let d := { d with itp := { d.itp with waiting := d.itp.waiting ++ [w] } }
    if w.x.busy then d else d.drain c d.itp.waiting.length

/-- A message to this node: a frame of a transfer, an expedited request in its turn, or another request at once (R69). -/
def Dev.serve (d : Dev) (c : Ctx) (o : Org) (cls id : Nat) (data : List Byte) (x : Obs) : Dev :=
  if cls = 0x05 || cls = 0x09 || cls = 0x0A then d.segIn c o cls data x
  else if notRequest cls then d
  else if cls = 0x01 || cls = 0x03 then d.arrive c ⟨o, .frame cls id data, x⟩
  else d.serveFrame c o cls id data x

/-- R97: IDENTIFY_RSP. -/
def Dev.identify (d : Dev) (c : Ctx) (o : Org) (id : Nat) (data : List Byte) : Dev :=
  match d.stored c o id data with
  | some r => d.again c r
  | none =>
    d.answer c o id data (reply o 0x15
      ([byte (if c.s12 then 12 else 24), byte d.itp.node] ++ le 2 Config.dictionaryVersion ++ le 8 Config.serial ++ le 4 Config.agentVersion))

/-- A frame on a CAN FD channel, to this node or to all (R67, R68, R98). -/
def Dev.canFrame (d : Dev) (c : Ctx) (cls : Nat) (f : Req) (x : Obs) : Dev :=
  let id := canId f.prio cls f.dest f.src f.tag
  if f.dest = 255 then
    if !f.fdExt || !d.chanOn f.ch || !d.listening then d
    else
      let r := (d.leaveDoze c).dedupe c f id
      if r.2 && cls = 0x14 then r.1.identify c (r.1.orgOf f) id f.data else r.1
  else
    let r := d.canIn c cls f
    if r.2 then r.1.serve c (r.1.orgOf f) cls id f.data x else r.1

/-- Whether the bytes are a host frame without its CRC (R99, R100). -/
def frameOk (b : List Byte) : Bool :=
  decide (fld b 0 4 < 2 ^ 29) && decide (fld b 4 2 ≤ 64) && fld b 6 2 = 0 && decide (8 + fld b 4 2 ≤ b.length)

/-- The message of a host frame (R98). -/
def Dev.carried (d : Dev) (c : Ctx) (p : Path) (b : List Byte) (x : Obs) : Dev :=
  let id := fld b 0 4
  let data := (b.drop 8).take (fld b 4 2)
  let dest := bits id 13 8
  let cls := bits id 21 5
  let o : Org := ⟨p, bits id 26 3, bits id 5 8, bits id 0 5⟩
  let d := d.leaveDoze c
  if dest = d.itp.node then d.serve c o cls id data x
  else if dest = 255 then (if cls = 0x14 then d.identify c o id data else d)
  else d

/-! ## CAN FD -/

/-- READ_REQ. -/
def execReadReq (dt : Nat) (f : Req) (x : Obs) (s : State) : Host.Outcome State Fault Refusal :=
  s.act dt fun c d => d.canFrame c 0x01 f x

/-- WRITE_REQ; `x`: what the surroundings do while the write takes effect. -/
def execWriteReq (dt : Nat) (f : Req) (x : Obs) (s : State) : Host.Outcome State Fault Refusal :=
  s.act dt fun c d => d.canFrame c 0x03 f x

/-- SEG_READ_INIT (R83). -/
def execSegReadInit (dt : Nat) (f : Req) (s : State) : Host.Outcome State Fault Refusal :=
  s.act dt fun c d => d.canFrame c 0x06 f Obs.quiet

/-- SEG_WRITE_INIT (R76). -/
def execSegWriteInit (dt : Nat) (f : Req) (s : State) : Host.Outcome State Fault Refusal :=
  s.act dt fun c d => d.canFrame c 0x07 f Obs.quiet

/-- SEG_DATA (R80). -/
def execSegData (dt : Nat) (f : Req) (x : Obs) (s : State) : Host.Outcome State Fault Refusal :=
  s.act dt fun c d => d.canFrame c 0x09 f x

/-- SEG_ACK (R78). -/
def execSegAck (dt : Nat) (f : Req) (s : State) : Host.Outcome State Fault Refusal :=
  s.act dt fun c d => d.canFrame c 0x0A f Obs.quiet

/-- ABORT from the peer (R72, Table 1.20). -/
def execAbort (dt : Nat) (f : Req) (s : State) : Host.Outcome State Fault Refusal :=
  s.act dt fun c d => d.canFrame c 0x05 f Obs.quiet

/-- IDENTIFY_REQ (R97). -/
def execIdentifyReq (dt : Nat) (f : Req) (s : State) : Host.Outcome State Fault Refusal :=
  s.act dt fun c d => d.canFrame c 0x14 f Obs.quiet

/-- UNKNOWN_SERVICE_CLASS (R69): a frame of class `cls`. -/
def execUnknownServiceClass (dt cls : Nat) (f : Req) (s : State) : Host.Outcome State Fault Refusal :=
  s.act dt fun c d => d.canFrame c cls f Obs.quiet

/-- SEG_TRANSFER_TIMEOUT (R81): the `n`-th open transfer, oldest first, 100 ms after its last frame. -/
def execSegTransferTimeout (dt n : Nat) (s : State) : Host.Outcome State Fault Refusal :=
  s.act dt fun c d =>
    match d.itp.segs[n]? with
    | some x => if d.listening && decide (x.t + 40000000 ≤ c.t) then d.segAbort c x 0x000A else d
    | none => d

/-- HEARTBEAT (R93): 0x1010.05 ms after the last one. -/
def execHeartbeat (dt : Nat) (s : State) : Host.Outcome State Fault Refusal :=
  s.act dt fun c d =>
    let ms := d.nat 0x1010_05
    if d.listening && ms ≠ 0 && decide (d.itp.hbT + ms * 400000 ≤ c.t) then d.heartbeat c d.hbState else d

/-- CAN_FD_BUS_OFF (R118, R25): the recovery, or, within 1 s of the last one's end, the loss of the channel. -/
def execCanFdBusOff (dt ch : Nat) (s : State) : Host.Outcome State Fault Refusal :=
  s.actOn (ch < 2) dt fun c d =>
    let x := if ch = 0 then d.itp.can0 else d.itp.can1
    let put := fun (d : Dev) (y : CanCh) =>
      if ch = 0 then { d with itp := { d.itp with can0 := y } } else { d with itp := { d.itp with can1 := y } }
    let soon : Bool := match x.lastOff with
      | some t => decide (c.t ≤ t + 400000000)
      | none => false
    if !d.chanOn ch || !d.ticking then d
    else if soon then (put d { x with lost := true, cleared := false }).raise c 29 ch
    else (put d { x with lastOff := some c.t }).transient

/-! ## Host port, VC1, mailbox -/

/-- HOST_FRAME (R100): the oldest frame in the receive buffers is checked and served. -/
def execHostFrame (dt : Nat) (x : Obs) (s : State) : Host.Outcome State Fault Refusal :=
  s.act dt fun c d =>
    match d.host.frames with
    | [] => d
    | b :: r =>
      if !d.listening || !d.hostOn then d
      else
        let d := (d.modHost fun h => { h with frames := r }).hostUnstretch c
        let n := fld b 4 2
        let crcOk := decide (12 + n ≤ b.length) && fld b (8 + n) 4 = crc32c (b.take (8 + n))
        if frameOk b && crcOk then d.carried c .host b x else d.inc 0x1010_0B

/-- MANAGEMENT_ITP (R102, R103, R356): a MANAGEMENT packet of subtype 0x0001 on port `p`. -/
def execManagementItp (dt p : Nat) (k : Pkt) (x : Obs) (s : State) : Host.Outcome State Fault Refusal :=
  s.actOn (p < s.portCount) dt fun c d =>
    let r := d.rxPacket p 6 1 { k with fieldA := 1 }
    let d := r.1
    let dest := bits (fld k.payload 0 4) 13 8
    if !r.2 || !d.listening || !bit (d.nat 0x1010_07) 3 then d
    else if !frameOk k.payload || (dest ≠ d.itp.node && dest ≠ 255) then d.inc 0x1010_0C
    else d.carried c (.vc1 p) k.payload x

/-- MAILBOX (R104, R105): the application's ECALL at `pc` with a0 the address of the request block. -/
def execMailbox (dt a0 pc : Nat) (x : Obs) (s : State) : Host.Outcome State Fault Refusal :=
  s.act dt fun c d =>
    if !d.appActs then d else (d.ecall pc).arrive c ⟨⟨.mailbox, 0, 0, 0⟩, .call (a0 % 2 ^ 32), x⟩

/-! ## Write requests that the table names one by one -/

/-- Whether a request of an origin reaches the agent: it serves, and the path is enabled. -/
def Dev.hears (d : Dev) (o : Org) : Bool :=
  d.listening && match o.path with
    | .fd0 => d.chanOn 0 || (d.itp.mode = 0 && d.chanOn 1)
    | .fd1 => d.itp.mode ≠ 0 && d.chanOn 1
    | .host => d.hostOn
    | .vc1 p => bit (d.nat 0x1010_07) 3 && d.takes p
    | .mailbox => d.appActs

/-- A write of a value to an object, from an origin: a WRITE_REQ, or a segmented write that completes where the value is
longer than 56 bytes, or the application's mailbox call; the checks, the answer, the effect. -/
def Dev.request (d : Dev) (c : Ctx) (o : Org) (k : Nat) (v : Val) (x : Obs) : Dev :=
  if !d.hears o then d
  else
    let d := d.leaveDoze c
    match lookup false k with
    | .row _ _ r =>
      let b := encodeVal r.ty v
      let h : Hdr := ⟨0, r.ty.code, k / 256, k % 256, if 56 < b.length then 0 else b.length⟩
      if o.path = .mailbox then
        d.arrive c ⟨o, .write k r.ty.code b, x⟩
      else if 56 < b.length then
        match firstCode (d.writeCodes c k r.ty.code b false) with
        | some code => d.sendTo c o.path (reply o 0x05 (abortBytes h code))
        | none => (d.sendTo c o.path (reply o 0x0A [byte (segFrames b.length), 2#8])).acceptBytes c k b x
      else
        let data := h.bytes ++ b
        d.serve c o 0x03 (canId o.prio 0x03 d.itp.node o.src o.tag) data x
    | _ => d

/-- The object `k` of instance `n`, of the `m` the S2424 has of it (Table 0.1); 0, which names no object, beyond them. -/
def keyAt (m n k : Nat) : Nat := if n < m then k else 0

/-- The frame of a command that is a write of a number to an object. -/
def State.req (s : State) (dt : Nat) (o : Org) (k : Nat) (v : Int) (x : Obs) : Host.Outcome State Fault Refusal :=
  s.act dt fun c d => d.request c o k (.num v) x

end Sys2Proof.Machine
end

