-- ==== Sys2Proof/Machine/Commands.lean ====
section
/-!
DEFINITION. The commands that are writes of one object, each the write request the spec gives it: refused by the checks
of ch 1 and of the owning chapter, answered to its origin, and then taking effect (`Dev.request`).
-/
namespace Sys2Proof.Machine

/-- COMMIT (R43). -/
def execCommit (dt : Nat) (o : Org) (s : State) : Host.Outcome State Fault Refusal :=
  s.req dt o 0x1030_01 1 Obs.quiet

/-- DISCARD (R51). -/
def execDiscard (dt : Nat) (o : Org) (s : State) : Host.Outcome State Fault Refusal :=
  s.req dt o 0x1030_01 2 Obs.quiet

/-- VALIDATE_ONLY (R43). -/
def execValidateOnly (dt : Nat) (o : Org) (s : State) : Host.Outcome State Fault Refusal :=
  s.req dt o 0x1030_01 3 Obs.quiet

/-- SAVE (R60). -/
def execSave (dt : Nat) (o : Org) (x : Obs) (s : State) : Host.Outcome State Fault Refusal :=
  s.req dt o 0x1020_01 1 x

/-- RESTORE (R944). -/
def execRestore (dt : Nat) (o : Org) (s : State) : Host.Outcome State Fault Refusal :=
  s.req dt o 0x1020_02 1 Obs.quiet

/-- INVALIDATE_BANKS (R63); `x`: whether a reset lands between the two banks. -/
def execInvalidateBanks (dt : Nat) (o : Org) (x : Obs) (s : State) : Host.Outcome State Fault Refusal :=
  s.req dt o 0x1020_02 2 x

/-- FREEZE (R64): the value written. -/
def execFreeze (dt : Nat) (o : Org) (v : Nat) (s : State) : Host.Outcome State Fault Refusal :=
  s.req dt o 0x1060_01 v Obs.quiet

/-- TIME_SOURCE_CHANGE (R141): the source, 0x1050.06, or the trunk port, 0x1050.08. -/
def execTimeSourceChange (dt : Nat) (o : Org) (port : Bool) (v : Nat) (s : State) : Host.Outcome State Fault Refusal :=
  s.req dt o (if port then 0x1050_08 else 0x1050_06) v Obs.quiet

/-- REF_ENABLE (R208). -/
def execRefEnable (dt : Nat) (o : Org) (r v : Nat) (s : State) : Host.Outcome State Fault Refusal :=
  s.req dt o (keyAt 8 r (key 0x2100 r 0x01)) v Obs.quiet

/-- END_WAIT (R185). -/
def execEndWait (dt : Nat) (o : Org) (r : Nat) (s : State) : Host.Outcome State Fault Refusal :=
  s.req dt o (keyAt 8 r (key 0x2100 r 0x12)) 1 Obs.quiet

/-- REALIGN (R216). -/
def execRealign (dt : Nat) (o : Org) (s : State) : Host.Outcome State Fault Refusal :=
  s.req dt o 0x2110_13 1 Obs.quiet

/-- SYN_ENABLE (R232). -/
def execSynEnable (dt : Nat) (o : Org) (y v : Nat) (s : State) : Host.Outcome State Fault Refusal :=
  s.req dt o (keyAt 4 y (synK y 0x01)) v Obs.quiet

/-- APPLY (R240). -/
def execApply (dt : Nat) (o : Org) (y : Nat) (s : State) : Host.Outcome State Fault Refusal :=
  s.req dt o (keyAt 4 y (synK y 0x09)) 1 Obs.quiet

/-- APPLY_WITH_RELOCK (R242). -/
def execApplyWithRelock (dt : Nat) (o : Org) (y : Nat) (s : State) : Host.Outcome State Fault Refusal :=
  s.req dt o (keyAt 4 y (synK y 0x09)) 2 Obs.quiet

/-- RESYNC (R244). -/
def execResync (dt : Nat) (o : Org) (y : Nat) (s : State) : Host.Outcome State Fault Refusal :=
  s.req dt o (keyAt 4 y (synK y 0x18)) 1 Obs.quiet

/-- OUTPUT_ENABLE (R238): output A, or B. -/
def execOutputEnable (dt : Nat) (o : Org) (y : Nat) (b : Bool) (v : Nat) (s : State) : Host.Outcome State Fault Refusal :=
  s.req dt o (keyAt 4 y (synK y (if b then 0x0B else 0x0A))) v Obs.quiet

/-- PROFILE_START (R247). -/
def execProfileStart (dt : Nat) (o : Org) (y : Nat) (s : State) : Host.Outcome State Fault Refusal :=
  s.req dt o (keyAt 4 y (profK y 0x04)) 1 Obs.quiet

/-- PROFILE_STOP (R249). -/
def execProfileStop (dt : Nat) (o : Org) (y : Nat) (s : State) : Host.Outcome State Fault Refusal :=
  s.req dt o (keyAt 4 y (profK y 0x04)) 2 Obs.quiet

/-- GENERATE_DOWN_SPREAD (R250). -/
def execGenerateDownSpread (dt : Nat) (o : Org) (y : Nat) (s : State) : Host.Outcome State Fault Refusal :=
  s.req dt o (keyAt 4 y (profK y 0x04)) 3 Obs.quiet

/-- PORT_ENABLE (R272). -/
def execPortEnable (dt : Nat) (o : Org) (p : Nat) (s : State) : Host.Outcome State Fault Refusal :=
  s.req dt o (keyAt 32 p (portK p 0x01)) 1 Obs.quiet

/-- PORT_DISABLE (R325). -/
def execPortDisable (dt : Nat) (o : Org) (p : Nat) (s : State) : Host.Outcome State Fault Refusal :=
  s.req dt o (keyAt 32 p (portK p 0x01)) 0 Obs.quiet

/-- SLEEP (R304). -/
def execSleep (dt : Nat) (o : Org) (p : Nat) (s : State) : Host.Outcome State Fault Refusal :=
  s.req dt o (keyAt 32 p (portK p 0x08)) 1 Obs.quiet

/-- WAKE (R307). -/
def execWake (dt : Nat) (o : Org) (p : Nat) (s : State) : Host.Outcome State Fault Refusal :=
  s.req dt o (keyAt 32 p (portK p 0x08)) 2 Obs.quiet

/-- ADAPT_FREEZE (R301). -/
def execAdaptFreeze (dt : Nat) (o : Org) (lane v : Nat) (s : State) : Host.Outcome State Fault Refusal :=
  s.req dt o (keyAt 48 lane (key 0x3100 lane 0x06)) v Obs.quiet

/-- EYE_SCAN_START (R312). -/
def execEyeScanStart (dt : Nat) (o : Org) (s : State) : Host.Outcome State Fault Refusal :=
  s.req dt o 0x3200_07 1 Obs.quiet

/-- EYE_SCAN_ABORT (R321). -/
def execEyeScanAbort (dt : Nat) (o : Org) (s : State) : Host.Outcome State Fault Refusal :=
  s.req dt o 0x3200_07 2 Obs.quiet

/-- TEST_START (R309). -/
def execTestStart (dt : Nat) (o : Org) (s : State) : Host.Outcome State Fault Refusal :=
  s.req dt o 0x3300_04 1 Obs.quiet

/-- TEST_STOP (R309): with what the checker found. -/
def execTestStop (dt : Nat) (o : Org) (x : Obs) (s : State) : Host.Outcome State Fault Refusal :=
  s.req dt o 0x3300_04 2 x

/-- LINK_CLEAR_COUNTERS (R392). -/
def execLinkClearCounters (dt : Nat) (o : Org) (p : Nat) (s : State) : Host.Outcome State Fault Refusal :=
  s.req dt o (keyAt 32 p (linkK p 0x17)) 1 Obs.quiet

/-- CLEAR_PEAKS (R644). -/
def execClearPeaks (dt : Nat) (o : Org) (s : State) : Host.Outcome State Fault Refusal :=
  s.req dt o 0x7400_07 1 Obs.quiet

/-- CAPTURE_ENABLE (R394). -/
def execCaptureEnable (dt : Nat) (o : Org) (n : Nat) (s : State) : Host.Outcome State Fault Refusal :=
  s.req dt o (keyAt 24 n (chanK n 0x01)) 1 Obs.quiet

/-- CAPTURE_DISABLE (R433). -/
def execCaptureDisable (dt : Nat) (o : Org) (n : Nat) (s : State) : Host.Outcome State Fault Refusal :=
  s.req dt o (keyAt 24 n (chanK n 0x01)) 0 Obs.quiet

/-- CAPTURE_CLEAR_COUNTERS (R447). -/
def execCaptureClearCounters (dt : Nat) (o : Org) (n : Nat) (s : State) : Host.Outcome State Fault Refusal :=
  s.req dt o (keyAt 24 n (chanK n 0x24)) 1 Obs.quiet

/-- SLOT_ENABLE (R570): the port's enable, 0x7000.01, or its slots, 0x7000.02. -/
def execSlotEnable (dt : Nat) (o : Org) (slots : Bool) (v : Nat) (s : State) : Host.Outcome State Fault Refusal :=
  s.req dt o (if slots then titleK 0x02 else titleK 0x01) v Obs.quiet

/-- IDENTIFY (R601). -/
def execIdentify (dt : Nat) (o : Org) (v : Nat) (s : State) : Host.Outcome State Fault Refusal :=
  s.req dt o (titleK 0x20) v Obs.quiet

/-- FLUSH (R567). -/
def execFlush (dt : Nat) (o : Org) (v : Nat) (s : State) : Host.Outcome State Fault Refusal :=
  s.req dt o (titleK 0x16) v Obs.quiet

/-- RAW_EXECUTE (R597). -/
def execRawExecute (dt : Nat) (o : Org) (s : State) : Host.Outcome State Fault Refusal :=
  s.req dt o (titleK 0x18) 1 Obs.quiet

/-- CLEAR_INTERRUPTED (R609). -/
def execClearInterrupted (dt : Nat) (o : Org) (s : State) : Host.Outcome State Fault Refusal :=
  s.req dt o (titleK 0x1B) 1 Obs.quiet

/-- HOST_PORT_CLEAR_COUNTERS (R610). -/
def execHostPortClearCounters (dt : Nat) (o : Org) (s : State) : Host.Outcome State Fault Refusal :=
  s.req dt o 0x7010_0F 1 Obs.quiet

/-- CACHE_ENABLE (R652). -/
def execCacheEnable (dt : Nat) (o : Org) (v : Nat) (s : State) : Host.Outcome State Fault Refusal :=
  s.req dt o (cacheK 0x01) v Obs.quiet

/-- INVALIDATE (R665). -/
def execInvalidate (dt : Nat) (o : Org) (v : Nat) (s : State) : Host.Outcome State Fault Refusal :=
  s.req dt o (cacheK 0x0D) v Obs.quiet

/-- STREAM_START (R646). -/
def execStreamStart (dt : Nat) (o : Org) (n : Nat) (s : State) : Host.Outcome State Fault Refusal :=
  s.req dt o (keyAt 32 n (strK n 0x01)) 1 Obs.quiet

/-- STREAM_STOP (R648). -/
def execStreamStop (dt : Nat) (o : Org) (n : Nat) (s : State) : Host.Outcome State Fault Refusal :=
  s.req dt o (keyAt 32 n (strK n 0x01)) 2 Obs.quiet

/-- DESTINATIONS_WRITE (R655). -/
def execDestinationsWrite (dt : Nat) (o : Org) (n v : Nat) (s : State) : Host.Outcome State Fault Refusal :=
  s.req dt o (keyAt 32 n (strK n 0x05)) v Obs.quiet

/-- REJOIN (R656). -/
def execRejoin (dt : Nat) (o : Org) (n v : Nat) (s : State) : Host.Outcome State Fault Refusal :=
  s.req dt o (keyAt 32 n (strK n 0x1A)) v Obs.quiet

/-- TRACE_CLEAR (R718). -/
def execTraceClear (dt : Nat) (o : Org) (s : State) : Host.Outcome State Fault Refusal :=
  s.req dt o 0xA200_08 1 Obs.quiet

/-- APPLICATION_START (R711). -/
def execApplicationStart (dt : Nat) (o : Org) (x : Obs) (s : State) : Host.Outcome State Fault Refusal :=
  s.req dt o 0xA000_04 1 x

/-- APPLICATION_STOP (R705). -/
def execApplicationStop (dt : Nat) (o : Org) (s : State) : Host.Outcome State Fault Refusal :=
  s.req dt o 0xA000_04 2 Obs.quiet

/-- WD0_START (R744). -/
def execWd0Start (dt : Nat) (o : Org) (s : State) : Host.Outcome State Fault Refusal :=
  s.req dt o (wdK 0 0x01) 1 Obs.quiet

/-- WD1_START (R744). -/
def execWd1Start (dt : Nat) (o : Org) (s : State) : Host.Outcome State Fault Refusal :=
  s.req dt o (wdK 1 0x01) 1 Obs.quiet

/-- CLEAR_EVIDENCE (R750). -/
def execClearEvidence (dt : Nat) (o : Org) (n : Nat) (s : State) : Host.Outcome State Fault Refusal :=
  s.req dt o (keyAt 2 n (wdK n 0x0D)) 1 Obs.quiet

/-- SOFTWARE_RAISE (R762). -/
def execSoftwareRaise (dt : Nat) (o : Org) (v : Nat) (s : State) : Host.Outcome State Fault Refusal :=
  s.req dt o 0x9200_06 v Obs.quiet

/-- EVENT_CLEAR_COUNTERS (R758). -/
def execEventClearCounters (dt : Nat) (o : Org) (s : State) : Host.Outcome State Fault Refusal :=
  s.req dt o 0x9200_07 1 Obs.quiet

/-- COPY (R772). -/
def execCopy (dt : Nat) (o : Org) (x : Obs) (s : State) : Host.Outcome State Fault Refusal :=
  s.req dt o 0x9400_07 1 x

/-- LOG_CLEAR (R781). -/
def execLogClear (dt : Nat) (o : Org) (s : State) : Host.Outcome State Fault Refusal :=
  s.req dt o 0x9400_0A 1 Obs.quiet

/-- STANDBY (R794). -/
def execStandby (dt : Nat) (o : Org) (x : Obs) (s : State) : Host.Outcome State Fault Refusal :=
  s.req dt o 0x8000_02 1 x

/-- HIBERNATE (R795). -/
def execHibernate (dt : Nat) (o : Org) (x : Obs) (s : State) : Host.Outcome State Fault Refusal :=
  s.req dt o 0x8000_02 2 x

/-- POWER_UP (R803). -/
def execPowerUp (dt : Nat) (o : Org) (s : State) : Host.Outcome State Fault Refusal :=
  s.req dt o 0x8000_0C 1 Obs.quiet

/-- POWER_DOWN (R804). -/
def execPowerDown (dt : Nat) (o : Org) (s : State) : Host.Outcome State Fault Refusal :=
  s.req dt o 0x8000_0C 2 Obs.quiet

/-- RESTART (R837). -/
def execRestart (dt : Nat) (o : Org) (r : Nat) (s : State) : Host.Outcome State Fault Refusal :=
  s.req dt o (keyAt 16 r (railK r 0x13)) 1 Obs.quiet

/-- GPIO_OUTPUT_WRITE (R823): the direction, 0x8000.13, or the output, 0x8000.14. -/
def execGpioOutputWrite (dt : Nat) (o : Org) (out : Bool) (v : Nat) (s : State) : Host.Outcome State Fault Refusal :=
  s.req dt o (if out then 0x8000_14 else 0x8000_13) v Obs.quiet

/-- RELEASE (R861): the value written to 0x9000.02. -/
def execRelease (dt : Nat) (o : Org) (v : Nat) (s : State) : Host.Outcome State Fault Refusal :=
  s.req dt o 0x9000_02 v Obs.quiet

/-- FAULT_COUNTERS_CLEAR (R854). -/
def execFaultCountersClear (dt : Nat) (o : Org) (s : State) : Host.Outcome State Fault Refusal :=
  s.req dt o 0x9300_0A 1 Obs.quiet

/-- CONTROL_RESET (R893). -/
def execControlReset (dt : Nat) (o : Org) (s : State) : Host.Outcome State Fault Refusal :=
  s.req dt o 0x1041_01 0x7C3A Obs.quiet

/-- CONTROL_RESET_WITHOUT_APPLICATION (R893). -/
def execControlResetWithoutApplication (dt : Nat) (o : Org) (s : State) : Host.Outcome State Fault Refusal :=
  s.req dt o 0x1041_01 0x7C3B Obs.quiet

/-- END_HOLD (R898). -/
def execEndHold (dt : Nat) (o : Org) (x : Obs) (s : State) : Host.Outcome State Fault Refusal :=
  s.req dt o 0x1041_02 0x7C3C x

/-- CLEAR_COUNTS (R882). -/
def execClearCounts (dt : Nat) (o : Org) (s : State) : Host.Outcome State Fault Refusal :=
  s.req dt o 0x1040_0C 1 Obs.quiet

/-- IMAGE (R710): the bytes written to 0xA000.06. -/
def execImage (dt : Nat) (o : Org) (b : List Byte) (s : State) : Host.Outcome State Fault Refusal :=
  s.act dt fun c d => d.request c o 0xA000_06 (.bytes b) Obs.quiet

/-- FUSE_PROGRAM (R887): the request of Table 16.4. -/
def execFuseProgram (dt : Nat) (o : Org) (b : List Byte) (x : Obs) (s : State) : Host.Outcome State Fault Refusal :=
  s.act dt fun c d => d.request c o 0x1041_03 (.bytes b) x

/-- APW_CTL (R699): a write to object `sub` of aperture window `a` from an origin, or, without one, of the core to the
window's register at offset `sub`. -/
def execApwCtl (dt : Nat) (o : Option Org) (a sub v : Nat) (user : Bool) (s : State) : Host.Outcome State Fault Refusal :=
  s.actOn (a < 8) dt fun c d => match o with
    | some o => d.request c o (keyAt 16 sub (apK a sub)) (.num v) Obs.quiet
    | none => d.coreWrite c user (0x5000 + 0x10 * a + sub) v

end Sys2Proof.Machine
end

