-- ==== Sys2Proof/Machine/Dispatch.lean ====
section
/-!
DEFINITION. The meaning of each command, one arm per constructor.
-/
namespace Sys2Proof.Machine

def exec (i : Instr) (s : State) : Host.Outcome State Fault Refusal :=
  match i with
  | .readReq dt f x => Sys2Proof.Machine.execReadReq dt f x s
  | .writeReq dt f x => Sys2Proof.Machine.execWriteReq dt f x s
  | .segReadInit dt f => Sys2Proof.Machine.execSegReadInit dt f s
  | .segWriteInit dt f => Sys2Proof.Machine.execSegWriteInit dt f s
  | .segData dt f x => Sys2Proof.Machine.execSegData dt f x s
  | .segAck dt f => Sys2Proof.Machine.execSegAck dt f s
  | .segTransferTimeout dt n => Sys2Proof.Machine.execSegTransferTimeout dt n s
  | .abort dt f => Sys2Proof.Machine.execAbort dt f s
  | .identifyReq dt f => Sys2Proof.Machine.execIdentifyReq dt f s
  | .time dt f age canError => Sys2Proof.Machine.execTime dt f age canError s
  | .heartbeat dt => Sys2Proof.Machine.execHeartbeat dt s
  | .canFdBusOff dt ch => Sys2Proof.Machine.execCanFdBusOff dt ch s
  | .hostFrame dt x => Sys2Proof.Machine.execHostFrame dt x s
  | .managementItp dt p k x => Sys2Proof.Machine.execManagementItp dt p k x s
  | .mailbox dt a0 pc x => Sys2Proof.Machine.execMailbox dt a0 pc x s
  | .commit dt o => Sys2Proof.Machine.execCommit dt o s
  | .discard dt o => Sys2Proof.Machine.execDiscard dt o s
  | .validateOnly dt o => Sys2Proof.Machine.execValidateOnly dt o s
  | .quoinValidationEnd dt => Sys2Proof.Machine.execQuoinValidationEnd dt s
  | .quoinTimeReached dt => Sys2Proof.Machine.execQuoinTimeReached dt s
  | .save dt o x => Sys2Proof.Machine.execSave dt o x s
  | .saveAfterQuoin dt o => Sys2Proof.Machine.execSaveAfterQuoin dt o s
  | .restore dt o => Sys2Proof.Machine.execRestore dt o s
  | .invalidateBanks dt o x => Sys2Proof.Machine.execInvalidateBanks dt o x s
  | .freeze dt o v => Sys2Proof.Machine.execFreeze dt o v s
  | .cmonGateEnd dt counts imoHz => Sys2Proof.Machine.execCmonGateEnd dt counts imoHz s
  | .monitorOscillatorLost dt => Sys2Proof.Machine.execMonitorOscillatorLost dt s
  | .rootPllLock dt us slow => Sys2Proof.Machine.execRootPllLock dt us slow s
  | .rootPllLockFailure dt => Sys2Proof.Machine.execRootPllLockFailure dt s
  | .slewStep dt => Sys2Proof.Machine.execSlewStep dt s
  | .masterTimeLost dt => Sys2Proof.Machine.execMasterTimeLost dt s
  | .timeSourceChange dt o port v => Sys2Proof.Machine.execTimeSourceChange dt o port v s
  | .refEnable dt o r v => Sys2Proof.Machine.execRefEnable dt o r v s
  | .referenceEdge dt r wide => Sys2Proof.Machine.execReferenceEdge dt r wide s
  | .missingEdge dt r => Sys2Proof.Machine.execMissingEdge dt r s
  | .frequencyGateEnd dt r ppb => Sys2Proof.Machine.execFrequencyGateEnd dt r ppb s
  | .waitToRestoreEnd dt r => Sys2Proof.Machine.execWaitToRestoreEnd dt r s
  | .endWait dt o r => Sys2Proof.Machine.execEndWait dt o r s
  | .genlockLocked dt => Sys2Proof.Machine.execGenlockLocked dt s
  | .genlockFrameStart dt => Sys2Proof.Machine.execGenlockFrameStart dt s
  | .realign dt o => Sys2Proof.Machine.execRealign dt o s
  | .markPulse dt m => Sys2Proof.Machine.execMarkPulse dt m s
  | .synEnable dt o y v => Sys2Proof.Machine.execSynEnable dt o y v s
  | .bandSearchDone dt s1 band => Sys2Proof.Machine.execBandSearchDone dt s1 band s
  | .synthesizerLocked dt s1 => Sys2Proof.Machine.execSynthesizerLocked dt s1 s
  | .lockingTimeout dt s1 => Sys2Proof.Machine.execLockingTimeout dt s1 s
  | .synthesizerLockLost dt s1 => Sys2Proof.Machine.execSynthesizerLockLost dt s1 s
  | .synthesizerReferenceLost dt s1 => Sys2Proof.Machine.execSynthesizerReferenceLost dt s1 s
  | .gatedTimeout dt s1 => Sys2Proof.Machine.execGatedTimeout dt s1 s
  | .apply dt o y => Sys2Proof.Machine.execApply dt o y s
  | .applyWithRelock dt o y => Sys2Proof.Machine.execApplyWithRelock dt o y s
  | .glideEnd dt s1 => Sys2Proof.Machine.execGlideEnd dt s1 s
  | .resync dt o y => Sys2Proof.Machine.execResync dt o y s
  | .outputEnable dt o y b v => Sys2Proof.Machine.execOutputEnable dt o y b v s
  | .profileStart dt o y => Sys2Proof.Machine.execProfileStart dt o y s
  | .profileStop dt o y => Sys2Proof.Machine.execProfileStop dt o y s
  | .generateDownSpread dt o y => Sys2Proof.Machine.execGenerateDownSpread dt o y s
  | .profileUpdate dt s1 => Sys2Proof.Machine.execProfileUpdate dt s1 s
  | .portEnable dt o p => Sys2Proof.Machine.execPortEnable dt o p s
  | .portDisable dt o p => Sys2Proof.Machine.execPortDisable dt o p s
  | .quadPllLock dt q bias again => Sys2Proof.Machine.execQuadPllLock dt q bias again s
  | .signalDetect dt p => Sys2Proof.Machine.execSignalDetect dt p s
  | .cdrLock dt p ppm eq => Sys2Proof.Machine.execCdrLock dt p ppm eq s
  | .laneMarker dt l line skew => Sys2Proof.Machine.execLaneMarker dt l line skew s
  | .dfeConvergence dt p eq => Sys2Proof.Machine.execDfeConvergence dt p eq s
  | .trainingAttemptTimeout dt p => Sys2Proof.Machine.execTrainingAttemptTimeout dt p s
  | .signalLost dt l => Sys2Proof.Machine.execSignalLost dt l s
  | .retrainTimeout dt p => Sys2Proof.Machine.execRetrainTimeout dt p s
  | .quadPllUnlock dt q relockOk bias again => Sys2Proof.Machine.execQuadPllUnlock dt q relockOk bias again s
  | .failedPortReturn dt p => Sys2Proof.Machine.execFailedPortReturn dt p s
  | .sleep dt o p => Sys2Proof.Machine.execSleep dt o p s
  | .wake dt o p => Sys2Proof.Machine.execWake dt o p s
  | .adaptationUpdate dt l ctle vga dfe => Sys2Proof.Machine.execAdaptationUpdate dt l ctle vga dfe s
  | .adaptFreeze dt o lane v => Sys2Proof.Machine.execAdaptFreeze dt o lane v s
  | .eyeScanStart dt o => Sys2Proof.Machine.execEyeScanStart dt o s
  | .eyeScanAbort dt o => Sys2Proof.Machine.execEyeScanAbort dt o s
  | .eyeScanPointEnd dt bitsRun errs => Sys2Proof.Machine.execEyeScanPointEnd dt bitsRun errs s
  | .testStart dt o => Sys2Proof.Machine.execTestStart dt o s
  | .testStop dt o x => Sys2Proof.Machine.execTestStop dt o x s
  | .blockPointer dt p => Sys2Proof.Machine.execBlockPointer dt p s
  | .framingError dt p hdr => Sys2Proof.Machine.execFramingError dt p hdr s
  | .packetRejected dt p ty vc k => Sys2Proof.Machine.execPacketRejected dt p ty vc k s
  | .folio dt p k => Sys2Proof.Machine.execFolio dt p k s
  | .videoLine dt p k => Sys2Proof.Machine.execVideoLine dt p k s
  | .captureInputLost dt ch => Sys2Proof.Machine.execCaptureInputLost dt ch s
  | .captureEnable dt o n => Sys2Proof.Machine.execCaptureEnable dt o n s
  | .captureDisable dt o n => Sys2Proof.Machine.execCaptureDisable dt o n s
  | .formeFrameStart dt n => Sys2Proof.Machine.execFormeFrameStart dt n s
  | .rowFetch dt n y bad again => Sys2Proof.Machine.execRowFetch dt n y bad again s
  | .rowLaunch dt n y missing => Sys2Proof.Machine.execRowLaunch dt n y missing s
  | .holdTimeEnd dt w => Sys2Proof.Machine.execHoldTimeEnd dt w s
  | .echo dt p k => Sys2Proof.Machine.execEcho dt p k s
  | .audioBlock dt p k ppb => Sys2Proof.Machine.execAudioBlock dt p k ppb s
  | .asrcLock dt a => Sys2Proof.Machine.execAsrcLock dt a s
  | .audioInputLost dt a => Sys2Proof.Machine.execAudioInputLost dt a s
  | .deviceAudioTick dt tdmIn bad again => Sys2Proof.Machine.execDeviceAudioTick dt tdmIn bad again s
  | .audioBlockSend dt n => Sys2Proof.Machine.execAudioBlockSend dt n s
  | .tdmFrameSync dt t n same words => Sys2Proof.Machine.execTdmFrameSync dt t n same words s
  | .audioTdmClockLost dt t => Sys2Proof.Machine.execAudioTdmClockLost dt t s
  | .slotEnable dt o slots v => Sys2Proof.Machine.execSlotEnable dt o slots v s
  | .identify dt o v => Sys2Proof.Machine.execIdentify dt o v s
  | .titleTransactionEnd dt data stalls => Sys2Proof.Machine.execTitleTransactionEnd dt data stalls s
  | .windowRead dt slot off len m id => Sys2Proof.Machine.execWindowRead dt slot off len m id s
  | .windowWrite dt slot off data m id => Sys2Proof.Machine.execWindowWrite dt slot off data m id s
  | .coalesceTimeEnd dt slot => Sys2Proof.Machine.execCoalesceTimeEnd dt slot s
  | .flush dt o v => Sys2Proof.Machine.execFlush dt o v s
  | .statusPoll dt slot status => Sys2Proof.Machine.execStatusPoll dt slot status s
  | .tprdyTimeout dt => Sys2Proof.Machine.execTprdyTimeout dt s
  | .strobeTimeout dt => Sys2Proof.Machine.execStrobeTimeout dt s
  | .rawExecute dt o => Sys2Proof.Machine.execRawExecute dt o s
  | .clearInterrupted dt o => Sys2Proof.Machine.execClearInterrupted dt o s
  | .hostHeader dt hdr => Sys2Proof.Machine.execHostHeader dt hdr s
  | .write dt bytes => Sys2Proof.Machine.execWrite dt bytes s
  | .read dt n => Sys2Proof.Machine.execRead dt n s
  | .status dt => Sys2Proof.Machine.execStatus dt s
  | .hpselNRise dt bits => Sys2Proof.Machine.execHpselNRise dt bits s
  | .hostPortTimeout dt bits => Sys2Proof.Machine.execHostPortTimeout dt bits s
  | .partialFrameTimeout dt => Sys2Proof.Machine.execPartialFrameTimeout dt s
  | .cacheCycle dt bad again => Sys2Proof.Machine.execCacheCycle dt bad again s
  | .fillComplete dt slot page num mem => Sys2Proof.Machine.execFillComplete dt slot page num mem s
  | .streamStart dt o n => Sys2Proof.Machine.execStreamStart dt o n s
  | .headerCheck dt s1 => Sys2Proof.Machine.execHeaderCheck dt s1 s
  | .streamEnqueue dt s1 mem => Sys2Proof.Machine.execStreamEnqueue dt s1 mem s
  | .streamStop dt o n => Sys2Proof.Machine.execStreamStop dt o n s
  | .titleStreamStopped dt s1 => Sys2Proof.Machine.execTitleStreamStopped dt s1 s
  | .repairRequest dt p k bad again => Sys2Proof.Machine.execRepairRequest dt p k bad again s
  | .rejoin dt o n v => Sys2Proof.Machine.execRejoin dt o n v s
  | .destinationsWrite dt o n v => Sys2Proof.Machine.execDestinationsWrite dt o n v s
  | .cacheEnable dt o v => Sys2Proof.Machine.execCacheEnable dt o v s
  | .invalidate dt o v => Sys2Proof.Machine.execInvalidate dt o v s
  | .packetEnd dt p => Sys2Proof.Machine.execPacketEnd dt p s
  | .queueSample dt => Sys2Proof.Machine.execQueueSample dt s
  | .clearPeaks dt o => Sys2Proof.Machine.execClearPeaks dt o s
  | .flow dt p k => Sys2Proof.Machine.execFlow dt p k s
  | .flowPeriodic dt p => Sys2Proof.Machine.execFlowPeriodic dt p s
  | .creditTimeout dt p vc => Sys2Proof.Machine.execCreditTimeout dt p vc s
  | .ackTimeout dt p vc => Sys2Proof.Machine.execAckTimeout dt p vc s
  | .timeSyncPeriod dt p => Sys2Proof.Machine.execTimeSyncPeriod dt p s
  | .timeSync dt p k => Sys2Proof.Machine.execTimeSync dt p k s
  | .timeFollow dt p k => Sys2Proof.Machine.execTimeFollow dt p k s
  | .timeDreq dt p k => Sys2Proof.Machine.execTimeDreq dt p k s
  | .timeDrsp dt p k => Sys2Proof.Machine.execTimeDrsp dt p k s
  | .safeNotice dt p k => Sys2Proof.Machine.execSafeNotice dt p k s
  | .linkClearCounters dt o p => Sys2Proof.Machine.execLinkClearCounters dt o p s
  | .captureClearCounters dt o n => Sys2Proof.Machine.execCaptureClearCounters dt o n s
  | .hostPortClearCounters dt o => Sys2Proof.Machine.execHostPortClearCounters dt o s
  | .busRequest dt master id addr len wdata user amo parity mem => Sys2Proof.Machine.execBusRequest dt master id addr len wdata user amo parity mem s
  | .busResponse dt master id ext mem vacant => Sys2Proof.Machine.execBusResponse dt master id ext mem vacant s
  | .dmaEnable dt n v user => Sys2Proof.Machine.execDmaEnable dt n v user s
  | .dmaDisable dt n v user => Sys2Proof.Machine.execDmaDisable dt n v user s
  | .dmaBurst dt ext err beat vacant => Sys2Proof.Machine.execDmaBurst dt ext err beat vacant s
  | .bmxIcctl dt v user => Sys2Proof.Machine.execBmxIcctl dt v user s
  | .bmxRemap dt v user => Sys2Proof.Machine.execBmxRemap dt v user s
  | .bmxErrinfo dt v user => Sys2Proof.Machine.execBmxErrinfo dt v user s
  | .apwCtl dt o a sub v user => Sys2Proof.Machine.execApwCtl dt o a sub v user s
  | .tmrCmphi dt n v user => Sys2Proof.Machine.execTmrCmphi dt n v user s
  | .timer dt n => Sys2Proof.Machine.execTimer dt n s
  | .tmrMtimelo dt => Sys2Proof.Machine.execTmrMtimelo dt s
  | .trcMark dt v => Sys2Proof.Machine.execTrcMark dt v s
  | .registerWrite dt o v user => Sys2Proof.Machine.execRegisterWrite dt o v user s
  | .traceSyncInterval dt flow pc => Sys2Proof.Machine.execTraceSyncInterval dt flow pc s
  | .traceOverflow dt n pc => Sys2Proof.Machine.execTraceOverflow dt n pc s
  | .traceClear dt o => Sys2Proof.Machine.execTraceClear dt o s
  | .lockstepMismatch dt => Sys2Proof.Machine.execLockstepMismatch dt s
  | .applicationException dt cause epc tval => Sys2Proof.Machine.execApplicationException dt cause epc tval s
  | .agentException dt => Sys2Proof.Machine.execAgentException dt s
  | .returnFromInterrupt dt pc => Sys2Proof.Machine.execReturnFromInterrupt dt pc s
  | .waitForInterrupt dt pc => Sys2Proof.Machine.execWaitForInterrupt dt pc s
  | .unsupportedService dt a7 pc => Sys2Proof.Machine.execUnsupportedService dt a7 pc s
  | .applicationStart dt o x => Sys2Proof.Machine.execApplicationStart dt o x s
  | .applicationStop dt o => Sys2Proof.Machine.execApplicationStop dt o s
  | .image dt o b => Sys2Proof.Machine.execImage dt o b s
  | .haltreq dt pc priv x => Sys2Proof.Machine.execHaltreq dt pc priv x s
  | .resume dt => Sys2Proof.Machine.execResume dt s
  | .ndmreset dt => Sys2Proof.Machine.execNdmreset dt s
  | .abstractCommand dt w after => Sys2Proof.Machine.execAbstractCommand dt w after s
  | .systemBusAccess dt write size addr data ext mem vacant => Sys2Proof.Machine.execSystemBusAccess dt write size addr data ext mem vacant s
  | .trigger dt n kind addr data pc priv x => Sys2Proof.Machine.execTrigger dt n kind addr data pc priv x s
  | .singleStep dt pc priv x => Sys2Proof.Machine.execSingleStep dt pc priv x s
  | .idcode dt => Sys2Proof.Machine.execIdcode dt s
  | .samplePreload dt cap load => Sys2Proof.Machine.execSamplePreload dt cap load s
  | .extest dt load => Sys2Proof.Machine.execExtest dt load s
  | .dtmcs dt w => Sys2Proof.Machine.execDtmcs dt w s
  | .dmi dt op a v pc priv x ext after => Sys2Proof.Machine.execDmi dt op a v pc priv x ext after s
  | .bypass dt ir => Sys2Proof.Machine.execBypass dt ir s
  | .trstN dt => Sys2Proof.Machine.execTrstN dt s
  | .wdgSvc dt n v user => Sys2Proof.Machine.execWdgSvc dt n v user s
  | .wdgCtl dt n r v user => Sys2Proof.Machine.execWdgCtl dt n r v user s
  | .wd0Start dt o => Sys2Proof.Machine.execWd0Start dt o s
  | .wd1Start dt o => Sys2Proof.Machine.execWd1Start dt o s
  | .wd0Service dt => Sys2Proof.Machine.execWd0Service dt s
  | .earlyWarning dt n => Sys2Proof.Machine.execEarlyWarning dt n s
  | .watchdogExpired dt pc priv => Sys2Proof.Machine.execWatchdogExpired dt pc priv s
  | .clearEvidence dt o n => Sys2Proof.Machine.execClearEvidence dt o n s
  | .evcAck dt k v => Sys2Proof.Machine.execEvcAck dt k v s
  | .evcSwraise0 dt v => Sys2Proof.Machine.execEvcSwraise0 dt v s
  | .evcSwraise1 dt v => Sys2Proof.Machine.execEvcSwraise1 dt v s
  | .softwareRaise dt o v => Sys2Proof.Machine.execSoftwareRaise dt o v s
  | .eventClearCounters dt o => Sys2Proof.Machine.execEventClearCounters dt o s
  | .logRecordCommit dt => Sys2Proof.Machine.execLogRecordCommit dt s
  | .copy dt o x => Sys2Proof.Machine.execCopy dt o x s
  | .logClear dt o => Sys2Proof.Machine.execLogClear dt o s
  | .dozeEntry dt => Sys2Proof.Machine.execDozeEntry dt s
  | .dozeExit dt => Sys2Proof.Machine.execDozeExit dt s
  | .standby dt o x => Sys2Proof.Machine.execStandby dt o x s
  | .hibernate dt o x => Sys2Proof.Machine.execHibernate dt o x s
  | .standbyWake dt src us => Sys2Proof.Machine.execStandbyWake dt src us s
  | .hibernateWake dt src slow => Sys2Proof.Machine.execHibernateWake dt src slow s
  | .wakeTimer dt slow => Sys2Proof.Machine.execWakeTimer dt slow s
  | .powerUp dt o => Sys2Proof.Machine.execPowerUp dt o s
  | .powerDown dt o => Sys2Proof.Machine.execPowerDown dt o s
  | .pgGood dt r => Sys2Proof.Machine.execPgGood dt r s
  | .onDelayEnd dt => Sys2Proof.Machine.execOnDelayEnd dt s
  | .offDelayEnd dt => Sys2Proof.Machine.execOffDelayEnd dt s
  | .pgTimeout dt => Sys2Proof.Machine.execPgTimeout dt s
  | .railFault dt r => Sys2Proof.Machine.execRailFault dt r s
  | .restart dt o r => Sys2Proof.Machine.execRestart dt o r s
  | .seatenRise dt n => Sys2Proof.Machine.execSeatenRise dt n s
  | .inrushBlankingEnd dt n => Sys2Proof.Machine.execInrushBlankingEnd dt n s
  | .seatFault dt n => Sys2Proof.Machine.execSeatFault dt n s
  | .retryDelayEnd dt n => Sys2Proof.Machine.execRetryDelayEnd dt n s
  | .pmbusPoll dt readings cut => Sys2Proof.Machine.execPmbusPoll dt readings cut s
  | .pmbusAlert dt readings => Sys2Proof.Machine.execPmbusAlert dt readings s
  | .avsUpdate dt mv errs rest => Sys2Proof.Machine.execAvsUpdate dt mv errs rest s
  | .adcConversion dt n code => Sys2Proof.Machine.execAdcConversion dt n code s
  | .supplyOutOfRange dt n => Sys2Proof.Machine.execSupplyOutOfRange dt n s
  | .brownout dt n => Sys2Proof.Machine.execBrownout dt n s
  | .thermalReading dt temps again => Sys2Proof.Machine.execThermalReading dt temps again s
  | .gpioOutputWrite dt o out v => Sys2Proof.Machine.execGpioOutputWrite dt o out v s
  | .gpioInput dt g high => Sys2Proof.Machine.execGpioInput dt g high s
  | .externalSafeRequest dt => Sys2Proof.Machine.execExternalSafeRequest dt s
  | .release dt o v => Sys2Proof.Machine.execRelease dt o v s
  | .periodicSelfTest dt failed => Sys2Proof.Machine.execPeriodicSelfTest dt failed s
  | .shadowScan dt bad => Sys2Proof.Machine.execShadowScan dt bad s
  | .patrolScrub dt ms fmFixed coreFixed again fmBad coreBad logBad evBad => Sys2Proof.Machine.execPatrolScrub dt ms fmFixed coreFixed again fmBad coreBad logBad evBad s
  | .safeNReadback dt => Sys2Proof.Machine.execSafeNReadback dt s
  | .collectorDisagreement dt => Sys2Proof.Machine.execCollectorDisagreement dt s
  | .faultCountersClear dt o => Sys2Proof.Machine.execFaultCountersClear dt o s
  | .powerOn dt => Sys2Proof.Machine.execPowerOn dt s
  | .resetN dt ns slow => Sys2Proof.Machine.execResetN dt ns slow s
  | .controlReset dt o => Sys2Proof.Machine.execControlReset dt o s
  | .controlResetWithoutApplication dt o => Sys2Proof.Machine.execControlResetWithoutApplication dt o s
  | .boot dt o => Sys2Proof.Machine.execBoot dt o s
  | .endHold dt o x => Sys2Proof.Machine.execEndHold dt o x s
  | .fuseProgram dt o b x => Sys2Proof.Machine.execFuseProgram dt o b x s
  | .clearCounts dt o => Sys2Proof.Machine.execClearCounts dt o s
  | .unknownServiceClass dt cls f => Sys2Proof.Machine.execUnknownServiceClass dt cls f s
  | .safeReqNHigh dt => Sys2Proof.Machine.execSafeReqNHigh dt s
  | .supplyBackInWindow dt n => Sys2Proof.Machine.execSupplyBackInWindow dt n s
  | .powerGood dt slow => Sys2Proof.Machine.execPowerGood dt slow s

end Sys2Proof.Machine
end

