-- ==== Sys2Proof/Safety.lean ====
section
/-!
DEFINITION. The terms the statements use: what a command finds, what a completed command is, when a write request is
accepted, and what counts as a safe machine.
-/
namespace Sys2Proof.Machine

/-! ## A command that completes -/

/-- No reset waits to be taken, no loaded set of values is held aside (R941), and no request waits for service (R108). -/
abbrev Quiet (s : State) : Prop := s.dev.rst.want = [] ∧ s.dev.rst.aside = [] ∧ s.dev.itp.waiting = []

/-- The device as a command finds it: what the last command sent is gone. -/
def State.entry (s : State) : Dev := { s.dev with out := [] }

/-- A command answers a next state, of which `P` holds. -/
def Completes (i : Instr) (s : State) (P : State → Prop) : Prop := ∃ t, exec i s = .next t ∧ P t

/-- The device as the service of a request of class `cls` in a CAN FD frame to this node finds it, and whether it comes to
that (R67, R68, R86): awake (R792), an expedited request's path having had its turn (R109). -/
def State.taken (s : State) (dt cls : Nat) (f : Req) : Dev × Bool :=
  let r := s.entry.canIn (s.ctx dt) cls f
  (if cls = 0x01 || cls = 0x03 then r.1.turnFrom (r.1.canPath f.ch) else r.1, r.2)

/-- The device as the service of an expedited request in the oldest host frame finds it; `r`: the frames behind it. -/
def State.hosted (s : State) (dt : Nat) (r : List (List Byte)) : Dev :=
  (((s.entry.modHost fun h => { h with frames := r }).hostUnstretch (s.ctx dt)).leaveDoze (s.ctx dt)).turnFrom .host

/-- The device as the service of the application's mailbox call from `pc` finds it (R104). -/
def State.called (s : State) (pc : Nat) : Dev := (s.entry.ecall pc).turnFrom .mailbox

/-! ## A write request that is accepted -/

/-- The message of an expedited write request of bytes `b` to an object of type code `ty` (Table 1.9). -/
def reqData (k ty : Nat) (b : List Byte) : List Byte := Hdr.bytes ⟨0, ty, k / 256, k % 256, b.length⟩ ++ b

/-- The identifier of a write request from an origin to this node (R67). -/
def Dev.reqId (d : Dev) (o : Org) : Nat := canId o.prio 0x03 d.itp.node o.src o.tag

/-- The device as the service of a write request of `n` value bytes finds it: awake (R792), an expedited request's path
having had its turn (R109). -/
def State.heard (s : State) (dt : Nat) (o : Org) (n : Nat) : Dev :=
  let d := s.entry.leaveDoze (s.ctx dt)
  if o.path = .mailbox || n ≤ 56 then d.turnFrom o.path else d

/-- The device as the effect of an accepted write of the number `v` to the object `k` finds it: awake (R792), the request
answered (R56). -/
def State.found (s : State) (dt : Nat) (o : Org) (k : Nat) (v : Int) : Dev :=
  let c := s.ctx dt
  let d := s.heard dt o 8
  match lookup c.s12 k with
  | .row _ _ r =>
    let data := reqData k r.ty.code (encodeVal r.ty (.num v))
    if o.path = .mailbox then d.mailReturn 0
    else d.answer c o (d.reqId o) data (reply o 0x04 (Hdr.bytes ⟨0, r.ty.code, k / 256, k % 256, 0⟩))
  | _ => d

/-- A write of the value `v` to the object `k` from the origin `o` is heard and accepted: the agent serves and the path is
on, the object exists on the variant, the value is one of its type, no rule of ch 1 or of the owning chapter refuses it,
and it is not a request already answered (R90; a value longer than 56 bytes goes as a segmented write, R76). -/
def State.accepts (s : State) (dt : Nat) (o : Org) (k : Nat) (v : Val) : Bool :=
  s.entry.hears o &&
  match lookup (s.ctx dt).s12 k with
  | .row _ _ r =>
    let b := encodeVal r.ty v
    let d := s.heard dt o b.length
    decide (decodeVal r.ty b = some v) && (d.writeCodes (s.ctx dt) k r.ty.code b false).isEmpty &&
      (decide (o.path = .mailbox) || decide (56 < b.length)
        || (d.stored (s.ctx dt) o (d.reqId o) (reqData k r.ty.code b)).isNone)
  | _ => false

/-- `State.accepts` of a number. -/
abbrev Accepts (s : State) (dt : Nat) (o : Org) (k : Nat) (v : Int) : Prop := s.accepts dt o k (.num v) = true

/-- `State.accepts` of bytes. -/
abbrev AcceptsB (s : State) (dt : Nat) (o : Org) (k : Nat) (b : List Byte) : Prop := s.accepts dt o k (.bytes b) = true

/-! ## A safe machine -/

/-- What every command leaves: nothing of it is still to be done, and the pins follow from the state. -/
structure Dev.Settled (d : Dev) : Prop where
  noReset : d.rst.want = []
  noBurn : d.rst.burn = none
  noSkip : d.rst.skip = 0
  noEntry : d.saf.entered = false
  pins : d.pins = d.settlePins.pins

/-- SAFE_N is high only in NORMAL, with neither latch channel set and CMON not driving it (R844, R846). -/
def Dev.SafeOutputs (d : Dev) : Prop :=
  d.pins.safeN = true → d.safety = 1 ∧ d.saf.latchA = false ∧ d.saf.latchB = false ∧ d.saf.cmonLow = false

/-- The gated synthesizer outputs do not toggle while the device is in the safe state (R236, Table 15.5). -/
def Dev.GatedOutputs (d : Dev) : Prop :=
  ∀ i, i < 8 → d.isSafe = true → bit (d.nat 0x9010_04) i = true → bit d.pins.syn i = false

/-- Every fuse of `a` is blown in `b`. -/
def Fuses.le (a b : Fuses) : Prop :=
  (a.lock = true → b.lock = true) ∧ (a.wd0 = true → b.wd0 = true) ∧ (a.noDebug = true → b.noDebug = true)
    ∧ a.s2412 = b.s2412 ∧ ∀ x ∈ a.allow, x ∈ b.allow

/-- The object store is in canonical form: keys rising, no default listed. -/
def objWfFrom : Nat → List (Nat × Val) → Bool
  | _, [] => true
  | lo, (k, v) :: r => decide (lo ≤ k) && decide (v ≠ dflt k) && objWfFrom (k + 1) r

/-! ## Frames: what a command may change -/

/-- The parts of the state a frame speaks of. Not among them, since they may change at the end of any command: the
registers of the hart and the trace (an application's interrupt is entered, R759), the event controller with its
messages and records and their counters, what is sent and kept to be sent again, the pins, the seats switched off in
the safe state (R812), and the state of the audio clocks (R551). -/
inductive Part where
  | banks | copies | config | bus | timebase | genlock | synths | lanes | links | capture | formes
  | audio | title | host | streams | memory | app | watchdogs | collector | power | record
  deriving DecidableEq, Repr

/-- The part the objects of an index belong to. -/
def partOf (h : Nat) : Option Part :=
  match h / 256 with
  | 0x10 =>
    match h with
    | 0x1010 => some .bus
    | 0x1020 | 0x1030 | 0x1060 => some .config
    | 0x1040 | 0x1041 => some .record
    | 0x1050 => some .timebase
    | _ => none
  | 0x20 => some .timebase
  | 0x21 => some .genlock
  | 0x22 => some .synths
  | 0x30 | 0x31 | 0x32 | 0x33 => some .lanes
  | 0x34 | 0x74 => some .links
  | 0x40 => some .capture
  | 0x50 | 0x51 | 0x52 | 0x53 | 0x54 => some .formes
  | 0x60 | 0x61 | 0x62 | 0x63 => some .audio
  | 0x70 => if h = 0x7010 then some .host else some .title
  | 0x71 | 0x72 | 0x73 => some .streams
  | 0x80 | 0x81 | 0x83 | 0x84 | 0x85 => some .power
  | 0x90 | 0x93 => some .collector
  | 0x91 => some .watchdogs
  | 0xA0 | 0xA1 | 0xA2 => some .app
  | _ => none

/-- The part of an object; the states of the audio clock and of the TDM ports have none. -/
def partOfKey (k : Nat) : Option Part :=
  if k = 0x6300_06 || (k / 65536 = 0x62 && k % 256 = 0x0E) then none else partOf (k / 256)

/-- The fields of a part are as they were. -/
def SameFields (p : Part) (d e : Dev) : Prop :=
  match p with
  | .banks => d.bankA = e.bankA ∧ d.bankB = e.bankB
  | .copies => d.slot0 = e.slot0 ∧ d.slot1 = e.slot1
  | .config => d.itp.staged = e.itp.staged ∧ d.itp.quoin = e.itp.quoin ∧ d.itp.saveWait = e.itp.saveWait
      ∧ d.itp.saveSnap = e.itp.saveSnap ∧ d.itp.restoring = e.itp.restoring
  | .bus => d.itp.segs = e.itp.segs ∧ d.itp.can0 = e.itp.can0 ∧ d.itp.can1 = e.itp.can1 ∧ d.itp.node = e.itp.node
      ∧ d.itp.mode = e.itp.mode ∧ d.itp.arb = e.itp.arb ∧ d.itp.rate = e.itp.rate ∧ d.itp.hbCount = e.itp.hbCount
      ∧ d.itp.serial = e.itp.serial ∧ d.itp.ratesHeld = e.itp.ratesHeld ∧ d.itp.hbT = e.itp.hbT
  | .timebase => d.clk = e.clk
  | .genlock => d.refs = e.refs ∧ d.dpll = e.dpll ∧ d.marks = e.marks
  | .synths => d.syns = e.syns
  | .lanes => d.quads = e.quads ∧ d.lanes = e.lanes ∧ d.scan = e.scan ∧ d.test = e.test
  | .links => d.ports = e.ports
  | .capture => d.chans = e.chans
  | .formes => d.formes = e.formes ∧ d.wins = e.wins
  | .audio => d.audio = e.audio
  | .title => d.title = e.title
  | .host => d.host = e.host
  | .streams => d.cache = e.cache ∧ d.streams = e.streams
  | .memory => d.core.mem = e.core.mem ∧ d.core.fmem = e.core.fmem
  | .app => True
  | .watchdogs => d.wd0 = e.wd0 ∧ d.wd1 = e.wd1
  | .collector => d.saf = e.saf
  | .power => { d.pwr with seats := [] } = { e.pwr with seats := [] }
  | .record => d.rst.hist = e.rst.hist ∧ d.rst.counts = e.rst.counts ∧ d.rst.fuses = e.rst.fuses

/-- A part is as it was: its fields and its objects. -/
def Same (p : Part) (d e : Dev) : Prop := SameFields p d e ∧ ∀ k, partOfKey k = some p → e.get k = d.get k

/-- The objects of instance `n` of the tables at `bases` are as they were. -/
def SameObjs (bases : List Nat) (n : Nat) (d e : Dev) : Prop :=
  ∀ b ∈ bases, ∀ sub, sub < 256 → e.get (key b n sub) = d.get (key b n sub)

/-- A command that runs on a device that is up, and leaves it up. -/
def RunsUp (i : Instr) (s t : State) : Prop :=
  Quiet s ∧ s.dev.saf.entered = false ∧ s.dev.rst.stage = .up ∧ exec i s = .next t ∧ t.dev.rst.stage = .up

/-- The families of commands, by the chapter whose rule a command rests on. -/
inductive Family where
  | access | timebase | links | genlock | synthesis | lanes | video | audio | ports | streams | core | events | power
  deriving DecidableEq, Repr

/-- The family of a command. -/
def familyOf : Instr → Family
  | .readReq .. | .writeReq .. | .segReadInit .. | .segWriteInit .. | .segData .. | .segAck ..
  | .segTransferTimeout .. | .abort .. | .identifyReq .. | .heartbeat .. | .canFdBusOff .. | .hostFrame ..
  | .mailbox .. | .commit .. | .discard .. | .validateOnly .. | .quoinValidationEnd .. | .quoinTimeReached ..
  | .save .. | .saveAfterQuoin .. | .restore .. | .invalidateBanks .. | .freeze .. | .unknownServiceClass .. => .access
  | .time .. | .cmonGateEnd .. | .monitorOscillatorLost .. | .rootPllLock .. | .rootPllLockFailure .. | .slewStep ..
  | .masterTimeLost .. | .timeSourceChange .. => .timebase
  | .managementItp .. | .blockPointer .. | .framingError .. | .packetRejected .. | .flow .. | .flowPeriodic ..
  | .creditTimeout .. | .ackTimeout .. | .timeSyncPeriod .. | .timeSync .. | .timeFollow .. | .timeDreq ..
  | .timeDrsp .. | .safeNotice .. | .linkClearCounters .. => .links
  | .refEnable .. | .referenceEdge .. | .missingEdge .. | .frequencyGateEnd .. | .waitToRestoreEnd .. | .endWait ..
  | .genlockLocked .. | .genlockFrameStart .. | .realign .. | .markPulse .. => .genlock
  | .synEnable .. | .bandSearchDone .. | .synthesizerLocked .. | .lockingTimeout .. | .synthesizerLockLost ..
  | .synthesizerReferenceLost .. | .gatedTimeout .. | .apply .. | .applyWithRelock .. | .glideEnd .. | .resync ..
  | .outputEnable .. | .profileStart .. | .profileStop .. | .generateDownSpread .. | .profileUpdate .. => .synthesis
  | .portEnable .. | .portDisable .. | .quadPllLock .. | .signalDetect .. | .cdrLock .. | .laneMarker ..
  | .dfeConvergence .. | .trainingAttemptTimeout .. | .signalLost .. | .retrainTimeout .. | .quadPllUnlock ..
  | .failedPortReturn .. | .sleep .. | .wake .. | .adaptationUpdate .. | .adaptFreeze .. | .eyeScanStart ..
  | .eyeScanAbort .. | .eyeScanPointEnd .. | .testStart .. | .testStop .. => .lanes
  | .folio .. | .videoLine .. | .captureInputLost .. | .captureEnable .. | .captureDisable .. | .formeFrameStart ..
  | .rowFetch .. | .rowLaunch .. | .holdTimeEnd .. | .echo .. | .captureClearCounters .. => .video
  | .audioBlock .. | .asrcLock .. | .audioInputLost .. | .deviceAudioTick .. | .audioBlockSend .. | .tdmFrameSync ..
  | .audioTdmClockLost .. => .audio
  | .slotEnable .. | .identify .. | .titleTransactionEnd .. | .windowRead .. | .windowWrite .. | .coalesceTimeEnd ..
  | .flush .. | .statusPoll .. | .tprdyTimeout .. | .strobeTimeout .. | .rawExecute .. | .clearInterrupted ..
  | .hostHeader .. | .write .. | .read .. | .status .. | .hpselNRise .. | .hostPortTimeout ..
  | .partialFrameTimeout .. | .hostPortClearCounters .. => .ports
  | .cacheCycle .. | .fillComplete .. | .streamStart .. | .headerCheck .. | .streamEnqueue .. | .streamStop ..
  | .titleStreamStopped .. | .repairRequest .. | .rejoin .. | .destinationsWrite .. | .cacheEnable ..
  | .invalidate .. | .packetEnd .. | .queueSample .. | .clearPeaks .. => .streams
  | .busRequest .. | .busResponse .. | .dmaEnable .. | .dmaDisable .. | .dmaBurst .. | .bmxIcctl .. | .bmxRemap ..
  | .bmxErrinfo .. | .apwCtl .. | .tmrCmphi .. | .timer .. | .tmrMtimelo .. | .trcMark .. | .registerWrite ..
  | .traceSyncInterval .. | .traceOverflow .. | .traceClear .. | .lockstepMismatch .. | .applicationException ..
  | .agentException .. | .returnFromInterrupt .. | .waitForInterrupt .. | .unsupportedService ..
  | .applicationStart .. | .applicationStop .. | .image .. | .haltreq .. | .resume .. | .ndmreset ..
  | .abstractCommand .. | .systemBusAccess .. | .trigger .. | .singleStep .. | .idcode .. | .samplePreload ..
  | .extest .. | .dtmcs .. | .dmi .. | .bypass .. | .trstN .. | .boot .. => .core
  | .wdgSvc .. | .wdgCtl .. | .wd0Start .. | .wd1Start .. | .wd0Service .. | .earlyWarning .. | .watchdogExpired ..
  | .clearEvidence .. | .evcAck .. | .evcSwraise0 .. | .evcSwraise1 .. | .softwareRaise .. | .eventClearCounters ..
  | .logRecordCommit .. | .copy .. | .logClear .. | .safeReqNHigh .. | .supplyBackInWindow .. => .events
  | .dozeEntry .. | .dozeExit .. | .standby .. | .hibernate .. | .standbyWake .. | .hibernateWake .. | .wakeTimer ..
  | .powerUp .. | .powerDown .. | .pgGood .. | .onDelayEnd .. | .offDelayEnd .. | .pgTimeout .. | .railFault ..
  | .restart .. | .seatenRise .. | .inrushBlankingEnd .. | .seatFault .. | .retryDelayEnd .. | .pmbusPoll ..
  | .pmbusAlert .. | .avsUpdate .. | .adcConversion .. | .supplyOutOfRange .. | .brownout .. | .thermalReading ..
  | .gpioOutputWrite .. | .gpioInput .. | .externalSafeRequest .. | .release .. | .periodicSelfTest ..
  | .shadowScan .. | .patrolScrub .. | .safeNReadback .. | .collectorDisagreement .. | .faultCountersClear ..
  | .powerOn .. | .resetN .. | .controlReset .. | .controlResetWithoutApplication .. | .endHold .. | .fuseProgram ..
  | .clearCounts .. | .powerGood .. => .power

/-- All parts. -/
def Part.all : List Part :=
  [.banks, .copies, .config, .bus, .timebase, .genlock,
   .synths, .lanes, .links, .capture, .formes, .audio, .title, .host, .streams, .memory,
   .app, .watchdogs, .collector, .power, .record]

/-- The parts a command may change; the parts of `Part` that are not in the list stay as they are, where the command
neither asks for a reset nor finds one. A command that may apply a quoin, write any object, reset or restart the device,
or take it through its supplies may change every part. -/
def partsOf : Instr → List Part
  | .readReq .. | .segReadInit .. | .segWriteInit .. | .segAck .. | .abort .. | .identifyReq .. => [.bus, .power]
  | .writeReq .. | .segData .. | .hostFrame .. | .managementItp .. | .mailbox .. | .quoinTimeReached ..
  | .restore .. | .formeFrameStart .. | .lockstepMismatch .. | .ndmreset .. | .extest ..
  | .watchdogExpired .. | .standby .. | .hibernate .. | .standbyWake .. | .hibernateWake .. | .wakeTimer ..
  | .brownout .. | .powerOn .. | .resetN .. | .controlReset .. | .controlResetWithoutApplication ..
  | .boot .. | .unknownServiceClass .. | .powerGood .. => Part.all
  | .segTransferTimeout .. => [.bus, .links]
  | .time .. => [.bus, .timebase, .power]
  | .heartbeat .. => [.bus]
  | .canFdBusOff .. => [.bus, .links, .formes, .collector]
  | .commit .. | .discard .. | .validateOnly .. | .freeze .. => [.config, .links, .power]
  | .quoinValidationEnd .. => [.config, .bus]
  | .save .. => [.banks, .copies, .config, .bus, .links, .formes, .collector, .power]
  | .saveAfterQuoin .. => [.banks, .copies, .config, .links, .formes, .collector]
  | .invalidateBanks .. => [.banks, .config, .links, .power]
  | .cmonGateEnd .. => [.timebase, .synths, .links, .formes, .collector]
  | .monitorOscillatorLost .. | .rootPllLock .. | .rootPllLockFailure .. => [.timebase, .links, .formes, .collector]
  | .slewStep .. | .masterTimeLost .. => [.timebase]
  | .timeSourceChange .. => [.timebase, .links, .power]
  | .refEnable .. | .endWait .. | .realign .. => [.genlock, .links, .power]
  | .referenceEdge .. | .genlockLocked .. => [.genlock, .links, .formes, .collector]
  | .missingEdge .. | .frequencyGateEnd .. | .waitToRestoreEnd .. | .markPulse .. => [.genlock]
  | .genlockFrameStart .. => [.timebase, .genlock, .synths, .links, .capture, .formes, .audio, .collector]
  | .synEnable .. | .apply .. | .applyWithRelock .. | .resync .. | .outputEnable .. | .profileStart ..
  | .profileStop .. | .generateDownSpread .. => [.synths, .links, .power]
  | .bandSearchDone .. | .synthesizerLocked .. | .glideEnd .. | .profileUpdate .. => [.synths]
  | .lockingTimeout .. | .synthesizerLockLost .. | .synthesizerReferenceLost .. | .gatedTimeout .. =>
    [.synths, .links, .formes, .collector]
  | .portEnable .. | .portDisable .. | .sleep .. | .wake .. | .adaptFreeze .. | .eyeScanStart ..
  | .eyeScanAbort .. | .testStart .. | .testStop .. => [.timebase, .lanes, .links, .streams, .power]
  | .quadPllLock .. | .laneMarker .. | .quadPllUnlock .. => [.lanes, .links, .formes, .streams, .collector]
  | .signalDetect .. | .cdrLock .. | .failedPortReturn .. | .adaptationUpdate .. => [.lanes, .links]
  | .dfeConvergence .. => [.lanes, .links, .formes, .collector]
  | .trainingAttemptTimeout .. | .signalLost .. | .retrainTimeout .. | .packetEnd .. | .flow ..
  | .creditTimeout .. | .ackTimeout .. => [.lanes, .links, .streams]
  | .eyeScanPointEnd .. | .samplePreload .. => [.lanes]
  | .blockPointer .. | .framingError .. | .packetRejected .. | .queueSample .. | .flowPeriodic ..
  | .timeSyncPeriod .. | .timeSync .. | .timeDreq .. | .timeDrsp .. | .safeNotice .. => [.links]
  | .folio .. => [.genlock, .links, .capture, .formes, .collector]
  | .videoLine .. => [.links, .capture]
  | .captureInputLost .. => [.capture]
  | .captureEnable .. | .captureDisable .. | .captureClearCounters .. => [.links, .capture, .memory, .power]
  | .rowFetch .. => [.links, .capture, .formes, .collector]
  | .rowLaunch .. | .echo .. | .agentException .. | .evcSwraise0 .. | .evcSwraise1 ..
  | .externalSafeRequest .. | .periodicSelfTest .. | .shadowScan .. | .safeNReadback ..
  | .collectorDisagreement .. | .safeReqNHigh .. => [.links, .formes, .collector]
  | .holdTimeEnd .. => [.formes]
  | .audioBlock .. => [.links, .audio]
  | .asrcLock .. | .audioInputLost .. | .tdmFrameSync .. | .audioTdmClockLost .. => [.audio]
  | .deviceAudioTick .. => [.timebase, .links, .audio, .collector]
  | .audioBlockSend .. => [.links, .capture, .audio]
  | .slotEnable .. | .identify .. | .flush .. | .rawExecute .. | .clearInterrupted .. => [.links, .title, .power]
  | .titleTransactionEnd .. => [.genlock, .links, .formes, .title, .streams, .collector]
  | .windowRead .. | .windowWrite .. | .coalesceTimeEnd .. => [.title]
  | .statusPoll .. | .headerCheck .. => [.links, .formes, .title, .streams, .collector]
  | .tprdyTimeout .. | .strobeTimeout .. => [.title, .streams]
  | .hostHeader .. | .write .. | .read .. | .status .. | .partialFrameTimeout .. => [.host]
  | .hpselNRise .. | .hostPortTimeout .. => [.bus, .host]
  | .cacheCycle .. | .fillComplete .. => [.genlock, .lanes, .links, .formes, .title, .streams, .collector]
  | .streamStart .. | .streamStop .. | .rejoin .. | .destinationsWrite .. | .cacheEnable .. | .invalidate .. =>
    [.genlock, .links, .title, .streams, .power]
  | .streamEnqueue .. | .repairRequest .. => [.links, .streams, .collector]
  | .titleStreamStopped .. => [.streams]
  | .clearPeaks .. | .linkClearCounters .. | .softwareRaise .. | .eventClearCounters .. | .gpioOutputWrite .. =>
    [.links, .power]
  | .timeFollow .. => [.timebase, .links]
  | .hostPortClearCounters .. => [.links, .host, .power]
  | .busRequest .. => [.links, .memory, .app, .collector]
  | .busResponse .. | .dmaBurst .. | .systemBusAccess .. | .dmi .. =>
    [.timebase, .genlock, .synths, .lanes, .links, .capture, .formes, .audio, .title, .memory, .app, .watchdogs,
      .collector, .power]
  | .dmaEnable .. | .dmaDisable .. | .bmxIcctl .. | .bmxRemap .. | .bmxErrinfo .. | .apwCtl .. | .tmrCmphi ..
  | .trcMark .. | .registerWrite .. | .wdgSvc .. | .wdgCtl .. =>
    [.timebase, .genlock, .synths, .lanes, .links, .capture, .formes, .audio, .title, .app, .watchdogs, .collector,
      .power]
  | .timer .. | .tmrMtimelo .. | .traceSyncInterval .. | .traceOverflow .. | .returnFromInterrupt ..
  | .waitForInterrupt .. | .unsupportedService .. | .abstractCommand .. | .idcode .. | .dtmcs .. | .bypass ..
  | .trstN .. | .evcAck .. => []
  | .traceClear .. => [.links, .app, .power]
  | .applicationException .. => [.app]
  | .applicationStart .. => [.links, .formes, .memory, .app, .watchdogs, .collector, .power]
  | .applicationStop .. | .image .. => [.links, .formes, .app, .watchdogs, .collector, .power]
  | .haltreq .. | .resume .. | .singleStep .. | .earlyWarning .. => [.watchdogs]
  | .trigger .. => [.app, .watchdogs]
  | .wd0Start .. | .wd1Start .. | .clearEvidence .. => [.links, .watchdogs, .power]
  | .wd0Service .. =>
    [.timebase, .genlock, .synths, .lanes, .links, .capture, .formes, .audio, .title, .watchdogs, .collector,
      .power]
  | .logRecordCommit .. => [.config]
  | .copy .. | .logClear .. => [.copies, .links, .formes, .collector, .power]
  | .dozeEntry .. => [.title, .power]
  | .dozeExit .. | .seatenRise .. | .seatFault .. | .retryDelayEnd .. | .adcConversion .. | .gpioInput .. => [.power]
  | .powerUp .. | .powerDown .. | .onDelayEnd .. | .offDelayEnd .. | .pgTimeout .. | .railFault ..
  | .restart .. =>
    [.timebase, .genlock, .synths, .lanes, .links, .capture, .formes, .audio, .title, .collector, .power]
  | .pgGood .. | .inrushBlankingEnd .. | .pmbusPoll .. | .pmbusAlert .. | .avsUpdate ..
  | .supplyOutOfRange .. | .thermalReading .. | .release .. | .faultCountersClear .. | .supplyBackInWindow .. =>
    [.links, .formes, .collector, .power]
  | .patrolScrub .. => [.links, .formes, .app, .watchdogs, .collector]
  | .endHold .. => [.links, .formes, .memory, .app, .watchdogs, .collector, .power, .record]
  | .fuseProgram .. | .clearCounts .. => [.links, .formes, .app, .watchdogs, .collector, .power, .record]

/-- The frame of a family: a command of it that runs on a device that is up, and leaves it up, changes no part but those
`partsOf` lists for it. -/
def FrameOf (g : Family) : Prop :=
  ∀ (i : Instr) (s t : State), familyOf i = g → RunsUp i s t → ∀ p : Part, p ∉ partsOf i → Same p s.dev t.dev

end Sys2Proof.Machine
end

