-- ==== Sys2Proof/WellFormed.lean ====
section
/-!
DEFINITION. Which commands are well formed: operands within the widths the spec gives the fields they stand for, and
instances that the S2424 has (Table 0.1; the S2412 lacks some, R2).
-/
namespace Sys2Proof

/-- Whether an origin's fields fit the identifier of R67 and the ports of the variant. -/
def Org.wf (o : Org) : Bool :=
  decide (o.prio < 8) && decide (o.src < 256) && decide (o.tag < 32) && match o.path with
    | .vc1 p => decide (p < 32)
    | _ => true

/-- Whether a frame's fields fit the identifier of R67, with at most 64 data bytes on one of two channels. -/
def Req.wf (f : Req) : Bool :=
  decide (f.ch < 2) && decide (f.prio < 8) && decide (f.dest < 256) && decide (f.src < 256) && decide (f.tag < 32)
    && decide (f.data.length ≤ 64)

/-- Whether a packet's fields fit the header of Table 6.1. -/
def Pkt.wf (k : Pkt) : Bool :=
  decide (k.seq < 4096) && decide (k.fieldA < 65536) && decide (k.fieldB < 256) && decide (k.payload.length ≤ 1024)

/-- Whether what meets a write can occur: steps of Table 1.6, result codes of R119, slots. -/
def Obs.wf (x : Obs) : Bool :=
  decide (x.cut ≤ 5) && (x.faults.all fun f => f = 2 || f = 4) && (x.lost.all fun s => decide (s < 2)) && decide (x.rx.length ≤ 4)

/-- Whether what a boot meets can occur: items of Table 15.6, six step times in rising order (R709). -/
def BootObs.wf (o : BootObs) : Bool :=
  (o.failed.all fun i => decide (1 ≤ i) && decide (i < 10)) && decide (o.us.length = 6)
    && ((o.us.zip o.us.tail).all fun p => decide (p.1 ≤ p.2))

/-- A PMBus answer: a rail and one of the three reads of a poll. -/
def pmbusOk (r : Nat × Nat × Nat × Nat) : Bool := decide (r.1 < 16) && decide (r.2.1 < 3)

/-- Whether a command's operands lie within what can occur. -/
def Instr.wf : Instr → Bool
  | .readReq dt f x => decide (dt < 2 ^ 63) && f.wf && x.wf
  | .writeReq dt f x => decide (dt < 2 ^ 63) && f.wf && x.wf
  | .segReadInit dt f => decide (dt < 2 ^ 63) && f.wf
  | .segWriteInit dt f => decide (dt < 2 ^ 63) && f.wf
  | .segData dt f x => decide (dt < 2 ^ 63) && f.wf && x.wf
  | .segAck dt f => decide (dt < 2 ^ 63) && f.wf
  | .segTransferTimeout dt n => decide (dt < 2 ^ 63) && decide (n < 4)
  | .abort dt f => decide (dt < 2 ^ 63) && f.wf
  | .identifyReq dt f => decide (dt < 2 ^ 63) && f.wf
  | .time dt f age _ => decide (dt < 2 ^ 63) && f.wf && decide (age < 2 ^ 32)
  | .heartbeat dt => decide (dt < 2 ^ 63)
  | .canFdBusOff dt ch => decide (dt < 2 ^ 63) && decide (ch < 2)
  | .hostFrame dt x => decide (dt < 2 ^ 63) && x.wf
  | .managementItp dt p k x => decide (dt < 2 ^ 63) && decide (p < 32) && k.wf && x.wf
  | .mailbox dt a0 pc x => decide (dt < 2 ^ 63) && decide (a0 < 2 ^ 32) && decide (pc < 2 ^ 32) && x.wf
  | .commit dt o => decide (dt < 2 ^ 63) && o.wf
  | .discard dt o => decide (dt < 2 ^ 63) && o.wf
  | .validateOnly dt o => decide (dt < 2 ^ 63) && o.wf
  | .quoinValidationEnd dt => decide (dt < 2 ^ 63)
  | .quoinTimeReached dt => decide (dt < 2 ^ 63)
  | .save dt o x => decide (dt < 2 ^ 63) && o.wf && x.wf
  | .saveAfterQuoin dt o => decide (dt < 2 ^ 63) && o.wf
  | .restore dt o => decide (dt < 2 ^ 63) && o.wf
  | .invalidateBanks dt o x => decide (dt < 2 ^ 63) && o.wf && x.wf
  | .freeze dt o v => decide (dt < 2 ^ 63) && o.wf && decide (v < 2 ^ 16)
  | .cmonGateEnd dt counts imoHz => decide (dt < 2 ^ 63) && decide (counts.length = 8) && decide (imoHz < 2 ^ 32)
  | .monitorOscillatorLost dt => decide (dt < 2 ^ 63)
  | .rootPllLock dt us slow => decide (dt < 2 ^ 63) && decide (us < 2 ^ 32) && decide (slow < 2 ^ 32)
  | .rootPllLockFailure dt => decide (dt < 2 ^ 63)
  | .slewStep dt => decide (dt < 2 ^ 63)
  | .masterTimeLost dt => decide (dt < 2 ^ 63)
  | .timeSourceChange dt o _ v => decide (dt < 2 ^ 63) && o.wf && decide (v < 256)
  | .refEnable dt o r v => decide (dt < 2 ^ 63) && o.wf && decide (r < 8) && decide (v < 256)
  | .referenceEdge dt r _ => decide (dt < 2 ^ 63) && decide (r < 8) && decide (r ≠ 3)
  | .missingEdge dt r => decide (dt < 2 ^ 63) && decide (r < 8) && decide (r ≠ 3)
  | .frequencyGateEnd dt r ppb => decide (dt < 2 ^ 63) && decide (r < 8) && decide (r ≠ 3) && decide (-2 ^ 31 ≤ ppb) && decide (ppb < 2 ^ 31)
  | .waitToRestoreEnd dt r => decide (dt < 2 ^ 63) && decide (r < 8) && decide (r ≠ 3)
  | .endWait dt o r => decide (dt < 2 ^ 63) && o.wf && decide (r < 8)
  | .genlockLocked dt => decide (dt < 2 ^ 63)
  | .genlockFrameStart dt => decide (dt < 2 ^ 63)
  | .realign dt o => decide (dt < 2 ^ 63) && o.wf
  | .markPulse dt m => decide (dt < 2 ^ 63) && decide (m < 4)
  | .synEnable dt o y v => decide (dt < 2 ^ 63) && o.wf && decide (y < 4) && decide (v < 256)
  | .bandSearchDone dt s band => decide (dt < 2 ^ 63) && decide (s < 4) && decide (band < 256)
  | .synthesizerLocked dt s => decide (dt < 2 ^ 63) && decide (s < 4)
  | .lockingTimeout dt s => decide (dt < 2 ^ 63) && decide (s < 4)
  | .synthesizerLockLost dt s => decide (dt < 2 ^ 63) && decide (s < 4)
  | .synthesizerReferenceLost dt s => decide (dt < 2 ^ 63) && decide (s < 4)
  | .gatedTimeout dt s => decide (dt < 2 ^ 63) && decide (s < 4)
  | .apply dt o y => decide (dt < 2 ^ 63) && o.wf && decide (y < 4)
  | .applyWithRelock dt o y => decide (dt < 2 ^ 63) && o.wf && decide (y < 4)
  | .glideEnd dt s => decide (dt < 2 ^ 63) && decide (s < 4)
  | .resync dt o y => decide (dt < 2 ^ 63) && o.wf && decide (y < 4)
  | .outputEnable dt o y _ v => decide (dt < 2 ^ 63) && o.wf && decide (y < 4) && decide (v < 256)
  | .profileStart dt o y => decide (dt < 2 ^ 63) && o.wf && decide (y < 4)
  | .profileStop dt o y => decide (dt < 2 ^ 63) && o.wf && decide (y < 4)
  | .generateDownSpread dt o y => decide (dt < 2 ^ 63) && o.wf && decide (y < 4)
  | .profileUpdate dt s => decide (dt < 2 ^ 63) && decide (s < 4)
  | .portEnable dt o p => decide (dt < 2 ^ 63) && o.wf && decide (p < 32)
  | .portDisable dt o p => decide (dt < 2 ^ 63) && o.wf && decide (p < 32)
  | .quadPllLock dt q _ _ => decide (dt < 2 ^ 63) && decide (q < 12)
  | .signalDetect dt p => decide (dt < 2 ^ 63) && decide (p < 32)
  | .cdrLock dt p ppm eq => decide (dt < 2 ^ 63) && decide (p < 32) && decide (-2 ^ 15 ≤ ppm) && decide (ppm < 2 ^ 15)
    && eq.all fun x => decide (x.1 < 16) && decide (x.2 < 32)
  | .laneMarker dt l _ _ => decide (dt < 2 ^ 63) && decide (l < 48)
  | .dfeConvergence dt p eq => decide (dt < 2 ^ 63) && decide (p < 32)
    && eq.all fun x => decide (x.1 < 16) && decide (x.2.1 < 32) && decide (x.2.2.length = 12)
  | .trainingAttemptTimeout dt p => decide (dt < 2 ^ 63) && decide (p < 32)
  | .signalLost dt l => decide (dt < 2 ^ 63) && decide (l < 48)
  | .retrainTimeout dt p => decide (dt < 2 ^ 63) && decide (p < 32)
  | .quadPllUnlock dt q _ _ _ => decide (dt < 2 ^ 63) && decide (q < 12)
  | .failedPortReturn dt p => decide (dt < 2 ^ 63) && decide (p < 32)
  | .sleep dt o p => decide (dt < 2 ^ 63) && o.wf && decide (p < 32)
  | .wake dt o p => decide (dt < 2 ^ 63) && o.wf && decide (p < 32)
  | .adaptationUpdate dt l ctle vga dfe => decide (dt < 2 ^ 63) && decide (l < 48) && decide (ctle < 256) && decide (vga < 256) && decide (dfe.length ≤ 64)
  | .adaptFreeze dt o lane v => decide (dt < 2 ^ 63) && o.wf && decide (lane < 48) && decide (v < 256)
  | .eyeScanStart dt o => decide (dt < 2 ^ 63) && o.wf
  | .eyeScanAbort dt o => decide (dt < 2 ^ 63) && o.wf
  | .eyeScanPointEnd dt _ _ => decide (dt < 2 ^ 63)
  | .testStart dt o => decide (dt < 2 ^ 63) && o.wf
  | .testStop dt o x => decide (dt < 2 ^ 63) && o.wf && x.wf
  | .blockPointer dt p => decide (dt < 2 ^ 63) && decide (p < 32)
  | .framingError dt p hdr => decide (dt < 2 ^ 63) && decide (p < 32) && decide (hdr < 2 ^ 64)
  | .packetRejected dt p ty vc k => decide (dt < 2 ^ 63) && decide (p < 32) && decide (ty < 16) && decide (vc < 4) && k.wf
  | .folio dt p k => decide (dt < 2 ^ 63) && decide (p < 32) && k.wf
  | .videoLine dt p k => decide (dt < 2 ^ 63) && decide (p < 32) && k.wf
  | .captureInputLost dt ch => decide (dt < 2 ^ 63) && decide (ch < 24)
  | .captureEnable dt o n => decide (dt < 2 ^ 63) && o.wf && decide (n < 24)
  | .captureDisable dt o n => decide (dt < 2 ^ 63) && o.wf && decide (n < 24)
  | .formeFrameStart dt n => decide (dt < 2 ^ 63) && decide (n < 24)
  | .rowFetch dt n y bad again => decide (dt < 2 ^ 63) && decide (n < 24) && decide (y < 65536) && (bad.all fun w => decide (w < 64)) && (again.all fun w => decide (w < 64))
  | .rowLaunch dt n y missing => decide (dt < 2 ^ 63) && decide (n < 24) && decide (y < 65536) && (missing.all fun w => decide (w < 64))
  | .holdTimeEnd dt w => decide (dt < 2 ^ 63) && decide (w < 64)
  | .echo dt p k => decide (dt < 2 ^ 63) && decide (p < 32) && k.wf
  | .audioBlock dt p k ppb => decide (dt < 2 ^ 63) && decide (p < 32) && k.wf && decide (-2 ^ 31 ≤ ppb) && decide (ppb < 2 ^ 31)
  | .asrcLock dt a => decide (dt < 2 ^ 63) && decide (a < 100)
  | .audioInputLost dt a => decide (dt < 2 ^ 63) && decide (a < 96)
  | .deviceAudioTick dt tdmIn bad again =>
    decide (dt < 2 ^ 63) && decide (tdmIn.length ≤ 64) && (bad.all fun o => decide (o < 448)) && (again.all fun o => decide (o < 448))
  | .audioBlockSend dt n => decide (dt < 2 ^ 63) && decide (n < 24)
  | .tdmFrameSync dt t _ _ words => decide (dt < 2 ^ 63) && decide (t < 4) && decide (words.length ≤ 16)
  | .audioTdmClockLost dt t => decide (dt < 2 ^ 63) && decide (t < 4)
  | .slotEnable dt o _ v => decide (dt < 2 ^ 63) && o.wf && decide (v < 256)
  | .identify dt o v => decide (dt < 2 ^ 63) && o.wf && decide (v < 256)
  | .titleTransactionEnd dt data _ => decide (dt < 2 ^ 63) && decide (data.length ≤ 65536)
  | .windowRead dt slot off _ m id => decide (dt < 2 ^ 63) && decide (slot < 2) && decide (off < 0x1000_0000) && decide (m < 4) && decide (id < 8)
  | .windowWrite dt slot off data m id => decide (dt < 2 ^ 63) && decide (slot < 2) && decide (off < 0x1000_0000) && decide (data.length ≤ 256) && decide (m < 4) && decide (id < 8)
  | .coalesceTimeEnd dt slot => decide (dt < 2 ^ 63) && decide (slot < 2)
  | .flush dt o v => decide (dt < 2 ^ 63) && o.wf && decide (v < 256)
  | .statusPoll dt slot fl => decide (dt < 2 ^ 63) && decide (slot < 2) && decide (fl < 65536)
  | .tprdyTimeout dt => decide (dt < 2 ^ 63)
  | .strobeTimeout dt => decide (dt < 2 ^ 63)
  | .rawExecute dt o => decide (dt < 2 ^ 63) && o.wf
  | .clearInterrupted dt o => decide (dt < 2 ^ 63) && o.wf
  | .hostHeader dt hdr => decide (dt < 2 ^ 63) && decide (hdr.length ≤ 4)
  | .write dt bytes => decide (dt < 2 ^ 63) && decide (bytes.length ≤ 65536)
  | .read dt _ => decide (dt < 2 ^ 63)
  | .status dt => decide (dt < 2 ^ 63)
  | .hpselNRise dt bits => decide (dt < 2 ^ 63) && decide (bits < 32)
  | .hostPortTimeout dt bits => decide (dt < 2 ^ 63) && decide (bits < 32)
  | .partialFrameTimeout dt => decide (dt < 2 ^ 63)
  | .cacheCycle dt _ _ => decide (dt < 2 ^ 63)
  | .fillComplete dt slot _ num mem => decide (dt < 2 ^ 63) && decide (slot < 2) && decide (num < 2 ^ 32) && decide (mem < 4)
  | .streamStart dt o n => decide (dt < 2 ^ 63) && o.wf && decide (n < 32)
  | .headerCheck dt s => decide (dt < 2 ^ 63) && decide (s < 32)
  | .streamEnqueue dt s mem => decide (dt < 2 ^ 63) && decide (s < 32) && decide (mem < 4)
  | .streamStop dt o n => decide (dt < 2 ^ 63) && o.wf && decide (n < 32)
  | .titleStreamStopped dt s => decide (dt < 2 ^ 63) && decide (s < 32)
  | .repairRequest dt p k _ _ => decide (dt < 2 ^ 63) && decide (p < 32) && k.wf
  | .rejoin dt o n v => decide (dt < 2 ^ 63) && o.wf && decide (n < 32) && decide (v < 2 ^ 32)
  | .destinationsWrite dt o n v => decide (dt < 2 ^ 63) && o.wf && decide (n < 32) && decide (v < 2 ^ 32)
  | .cacheEnable dt o v => decide (dt < 2 ^ 63) && o.wf && decide (v < 256)
  | .invalidate dt o v => decide (dt < 2 ^ 63) && o.wf && decide (v < 256)
  | .packetEnd dt p => decide (dt < 2 ^ 63) && decide (p < 32)
  | .queueSample dt => decide (dt < 2 ^ 63)
  | .clearPeaks dt o => decide (dt < 2 ^ 63) && o.wf
  | .flow dt p k => decide (dt < 2 ^ 63) && decide (p < 32) && k.wf
  | .flowPeriodic dt p => decide (dt < 2 ^ 63) && decide (p < 32)
  | .creditTimeout dt p vc => decide (dt < 2 ^ 63) && decide (p < 32) && decide (vc < 4)
  | .ackTimeout dt p vc => decide (dt < 2 ^ 63) && decide (p < 32) && decide (vc < 4)
  | .timeSyncPeriod dt p => decide (dt < 2 ^ 63) && decide (p < 32)
  | .timeSync dt p k => decide (dt < 2 ^ 63) && decide (p < 32) && k.wf
  | .timeFollow dt p k => decide (dt < 2 ^ 63) && decide (p < 32) && k.wf
  | .timeDreq dt p k => decide (dt < 2 ^ 63) && decide (p < 32) && k.wf
  | .timeDrsp dt p k => decide (dt < 2 ^ 63) && decide (p < 32) && k.wf
  | .safeNotice dt p k => decide (dt < 2 ^ 63) && decide (p < 32) && k.wf
  | .linkClearCounters dt o p => decide (dt < 2 ^ 63) && o.wf && decide (p < 32)
  | .captureClearCounters dt o n => decide (dt < 2 ^ 63) && o.wf && decide (n < 24)
  | .hostPortClearCounters dt o => decide (dt < 2 ^ 63) && o.wf
  | .busRequest dt master id addr len _ _ _ _ mem => decide (mem < 4) && decide (dt < 2 ^ 63) && decide (master < 4) && decide (id < 8) && decide (addr < 2 ^ 32) && decide (1 ≤ len) && decide (len ≤ 64)
  | .busResponse dt master id ext mem _ => decide (mem < 4) && decide (dt < 2 ^ 63) && decide (master < 4) && decide (id < 8) && decide (ext.length ≤ 64)
  | .dmaEnable dt n v _ => decide (dt < 2 ^ 63) && decide (n < 8) && decide (v < 2 ^ 32)
  | .dmaDisable dt n v _ => decide (dt < 2 ^ 63) && decide (n < 8) && decide (v < 2 ^ 32)
  | .dmaBurst dt ext err _ _ => decide (dt < 2 ^ 63) && decide (ext.length ≤ 64) && decide (err < 5)
  | .bmxIcctl dt v _ => decide (dt < 2 ^ 63) && decide (v < 2 ^ 32)
  | .bmxRemap dt v _ => decide (dt < 2 ^ 63) && decide (v < 2 ^ 32)
  | .bmxErrinfo dt v _ => decide (dt < 2 ^ 63) && decide (v < 2 ^ 32)
  | .apwCtl dt o a sub v _ => decide (dt < 2 ^ 63) && (match o with | some o => o.wf | none => true) && decide (a < 8) && decide (sub < 16) && decide (v < 2 ^ 32)
  | .tmrCmphi dt n v _ => decide (dt < 2 ^ 63) && decide (n < 4) && decide (v < 2 ^ 32)
  | .timer dt n => decide (dt < 2 ^ 63) && decide (n < 4)
  | .tmrMtimelo dt => decide (dt < 2 ^ 63)
  | .trcMark dt v => decide (dt < 2 ^ 63) && decide (v < 2 ^ 32)
  | .registerWrite dt o v _ => decide (dt < 2 ^ 63) && decide (o < 0x6000) && decide (v < 2 ^ 32)
  | .traceSyncInterval dt _ pc => decide (dt < 2 ^ 63) && decide (pc < 2 ^ 32)
  | .traceOverflow dt _ pc => decide (dt < 2 ^ 63) && decide (pc < 2 ^ 32)
  | .traceClear dt o => decide (dt < 2 ^ 63) && o.wf
  | .lockstepMismatch dt => decide (dt < 2 ^ 63)
  | .applicationException dt cause epc tval => decide (dt < 2 ^ 63) && decide (cause < 32) && decide (epc < 2 ^ 32) && decide (tval < 2 ^ 32)
  | .agentException dt => decide (dt < 2 ^ 63)
  | .returnFromInterrupt dt pc => decide (dt < 2 ^ 63) && decide (pc < 2 ^ 32)
  | .waitForInterrupt dt pc => decide (dt < 2 ^ 63) && decide (pc < 2 ^ 32)
  | .unsupportedService dt a7 pc => decide (dt < 2 ^ 63) && decide (a7 < 2 ^ 32) && decide (pc < 2 ^ 32)
  | .applicationStart dt o x => decide (dt < 2 ^ 63) && o.wf && x.wf
  | .applicationStop dt o => decide (dt < 2 ^ 63) && o.wf
  | .image dt o b => decide (dt < 2 ^ 63) && o.wf && decide (b.length ≤ 65536)
  | .haltreq dt pc priv x => decide (dt < 2 ^ 63) && decide (pc < 2 ^ 32) && decide (priv < 4) && decide (x.length = 32)
  | .resume dt => decide (dt < 2 ^ 63)
  | .ndmreset dt => decide (dt < 2 ^ 63)
  | .abstractCommand dt w _ => decide (dt < 2 ^ 63) && decide (w < 2 ^ 32)
  | .systemBusAccess dt _ _ addr data ext mem _ => decide (mem < 4) && decide (dt < 2 ^ 63) && decide (addr < 2 ^ 32) && decide (data < 2 ^ 32) && decide (ext.length ≤ 4)
  | .trigger dt n kind addr data pc priv x => decide (dt < 2 ^ 63) && decide (n < 4) && decide (kind < 3) && decide (addr < 2 ^ 32) && decide (data < 2 ^ 32) && decide (pc < 2 ^ 32) && decide (priv < 4) && decide (x.length = 32)
  | .singleStep dt pc priv x => decide (dt < 2 ^ 63) && decide (pc < 2 ^ 32) && decide (priv < 4) && decide (x.length = 32)
  | .idcode dt => decide (dt < 2 ^ 63)
  | .samplePreload dt _ _ => decide (dt < 2 ^ 63)
  | .extest dt _ => decide (dt < 2 ^ 63)
  | .dtmcs dt w => decide (dt < 2 ^ 63) && decide (w < 2 ^ 32)
  | .dmi dt op a v pc priv x ext _ => decide (dt < 2 ^ 63) && decide (op < 4) && decide (a < 128) && decide (v < 2 ^ 32) && decide (pc < 2 ^ 32) && decide (priv < 4) && decide (x.length = 32) && decide (ext.length ≤ 4)
  | .bypass dt ir => decide (dt < 2 ^ 63) && decide (ir < 32)
  | .trstN dt => decide (dt < 2 ^ 63)
  | .wdgSvc dt n v _ => decide (dt < 2 ^ 63) && decide (n < 2) && decide (v < 2 ^ 32)
  | .wdgCtl dt n r v _ => decide (dt < 2 ^ 63) && decide (n < 2) && (r = 0 || r = 4 || r = 0x14) && decide (v < 2 ^ 32)
  | .wd0Start dt o => decide (dt < 2 ^ 63) && o.wf
  | .wd1Start dt o => decide (dt < 2 ^ 63) && o.wf
  | .wd0Service dt => decide (dt < 2 ^ 63)
  | .earlyWarning dt n => decide (dt < 2 ^ 63) && decide (n < 2)
  | .watchdogExpired dt pc priv => decide (dt < 2 ^ 63) && decide (pc < 2 ^ 32) && decide (priv < 4)
  | .clearEvidence dt o n => decide (dt < 2 ^ 63) && o.wf && decide (n < 2)
  | .evcAck dt k v => decide (dt < 2 ^ 63) && decide (k < 3) && decide (v < 2 ^ 32)
  | .evcSwraise0 dt v => decide (dt < 2 ^ 63) && decide (v < 2 ^ 32)
  | .evcSwraise1 dt v => decide (dt < 2 ^ 63) && decide (v < 2 ^ 32)
  | .softwareRaise dt o v => decide (dt < 2 ^ 63) && o.wf && decide (v < 256)
  | .eventClearCounters dt o => decide (dt < 2 ^ 63) && o.wf
  | .logRecordCommit dt => decide (dt < 2 ^ 63)
  | .copy dt o x => decide (dt < 2 ^ 63) && o.wf && x.wf
  | .logClear dt o => decide (dt < 2 ^ 63) && o.wf
  | .dozeEntry dt => decide (dt < 2 ^ 63)
  | .dozeExit dt => decide (dt < 2 ^ 63)
  | .standby dt o x => decide (dt < 2 ^ 63) && o.wf && x.wf
  | .hibernate dt o x => decide (dt < 2 ^ 63) && o.wf && x.wf
  | .standbyWake dt src _ => decide (dt < 2 ^ 63) && decide (src < 2 ^ 13)
  | .hibernateWake dt src _ => decide (dt < 2 ^ 63) && decide (src < 2 ^ 13)
  | .wakeTimer dt _ => decide (dt < 2 ^ 63)
  | .powerUp dt o => decide (dt < 2 ^ 63) && o.wf
  | .powerDown dt o => decide (dt < 2 ^ 63) && o.wf
  | .pgGood dt r => decide (dt < 2 ^ 63) && decide (r < 16)
  | .onDelayEnd dt => decide (dt < 2 ^ 63)
  | .offDelayEnd dt => decide (dt < 2 ^ 63)
  | .pgTimeout dt => decide (dt < 2 ^ 63)
  | .railFault dt r => decide (dt < 2 ^ 63) && decide (r < 16)
  | .restart dt o r => decide (dt < 2 ^ 63) && o.wf && decide (r < 16)
  | .seatenRise dt n => decide (dt < 2 ^ 63) && decide (n < 8)
  | .inrushBlankingEnd dt n => decide (dt < 2 ^ 63) && decide (n < 8)
  | .seatFault dt n => decide (dt < 2 ^ 63) && decide (n < 8)
  | .retryDelayEnd dt n => decide (dt < 2 ^ 63) && decide (n < 8)
  | .pmbusPoll dt readings _ => decide (dt < 2 ^ 63) && readings.all pmbusOk
  | .pmbusAlert dt readings => decide (dt < 2 ^ 63) && (readings.all fun r => decide (r.1 < 16))
  | .avsUpdate dt mv _ rest => decide (dt < 2 ^ 63) && decide (mv < 65536) && rest.all pmbusOk
  | .adcConversion dt n code => decide (dt < 2 ^ 63) && decide (n < 16) && decide (code < 4096)
  | .supplyOutOfRange dt n => decide (dt < 2 ^ 63) && decide (n < 7)
  | .brownout dt n => decide (dt < 2 ^ 63) && (decide (n = 0) || decide (n = 4) || decide (n = 6))
  | .thermalReading dt temps _ => decide (dt < 2 ^ 63) && decide (temps.length = 8)
  | .gpioOutputWrite dt o _ v => decide (dt < 2 ^ 63) && o.wf && decide (v < 65536)
  | .gpioInput dt g _ => decide (dt < 2 ^ 63) && decide (g < 16)
  | .externalSafeRequest dt => decide (dt < 2 ^ 63)
  | .release dt o v => decide (dt < 2 ^ 63) && o.wf && decide (v < 256)
  | .periodicSelfTest dt _ => decide (dt < 2 ^ 63)
  | .shadowScan dt _ => decide (dt < 2 ^ 63)
  | .patrolScrub dt _ _ _ _ _ _ _ _ => decide (dt < 2 ^ 63)
  | .safeNReadback dt => decide (dt < 2 ^ 63)
  | .collectorDisagreement dt => decide (dt < 2 ^ 63)
  | .faultCountersClear dt o => decide (dt < 2 ^ 63) && o.wf
  | .powerOn dt => decide (dt < 2 ^ 63)
  | .resetN dt _ _ => decide (dt < 2 ^ 63)
  | .controlReset dt o => decide (dt < 2 ^ 63) && o.wf
  | .controlResetWithoutApplication dt o => decide (dt < 2 ^ 63) && o.wf
  | .boot dt o => decide (dt < 2 ^ 63) && o.wf
  | .endHold dt o x => decide (dt < 2 ^ 63) && o.wf && x.wf
  | .fuseProgram dt o b x => decide (dt < 2 ^ 63) && o.wf && decide (b.length ≤ 56) && x.wf
  | .clearCounts dt o => decide (dt < 2 ^ 63) && o.wf
  | .unknownServiceClass dt cls f => decide (dt < 2 ^ 63) && decide (cls < 32) && f.wf
  | .safeReqNHigh dt => decide (dt < 2 ^ 63)
  | .supplyBackInWindow dt n => decide (dt < 2 ^ 63) && decide (n < 7)
  | .powerGood dt _ => decide (dt < 2 ^ 63)

end Sys2Proof
end

