-- ==== Sys2Proof/Certificates/Slice0/Obligations.lean ====
section
/-!
DEFINITION. The statements for the provers (slice 0).
-/
open Sys2Proof Sys2Proof.Machine

/-- O1. The clock root and timebase commands complete with their own effect. -/
def Obligations.Clock_events_complete : Prop :=
  (∀ (s : State) (dt : Nat) (counts : List Nat) (imoHz : Nat),
    Quiet s →
    s.dev.cmonOn = true →
    imoGood imoHz = true →
    s.dev.cmonBad counts = 0 →
    Completes (.cmonGateEnd dt counts imoHz) s fun t => t.dev.nat 0x2000_06 = imoHz ∧ t.dev.nat 0x2000_03 = 0 ∧
      t.dev.clk.imoLost = false) ∧
  (∀ (s : State) (dt : Nat),
    Quiet s →
    s.dev.cmonOn = true →
    s.dev.clk.imoLost = false →
    Completes (.monitorOscillatorLost dt) s fun t => t.dev.clk.imoLost = true) ∧
  (∀ (s : State) (dt us slow : Nat),
    Quiet s →
    s.dev.pllStarting = true →
    Completes (.rootPllLock dt us slow) s fun t => t.dev.nat 0x2000_01 = 2 ∧ t.dev.nat 0x2000_02 = 0x3F ∧ t.dev.nat
      0x2000_07 = us ∧ t.dev.clk.tb = true) ∧
  (∀ (s : State) (dt : Nat),
    Quiet s →
    s.dev.clk.pllTries = 0 →
    s.dev.pllStarting = true →
    Completes (.rootPllLockFailure dt) s fun t => t.dev.nat 0x2000_01 = 1 ∧ t.dev.clk.pllTries = 1 ∧ t.dev.rst.stage
      = s.dev.rst.stage) ∧
  (∀ (s : State) (dt : Nat),
    Quiet s →
    s.dev.clk.pllTries ≠ 0 →
    s.dev.pllStarting = true →
    Completes (.rootPllLockFailure dt) s fun t => t.dev.rst.stage = .dead ∧ t.dev.pins.safeN = false ∧
      (t.dev.rst.hist.head?).map (fun h => h.cause) = some 0x0D) ∧
  (∀ (s : State) (dt : Nat) (g : Int),
    Quiet s →
    s.dev.clk.target = some g →
    s.dev.pwr.st ≠ .standby →
    s.dev.offset < g →
    s.dev.timePairBad = false →
    s.dev.clk.lastMove + s.dev.slewGap ≤ (s.ctx dt).t →
    Completes (.slewStep dt) s fun t => t.dev.offset = s.dev.offset + 1) ∧
  (∀ (s : State) (dt : Nat) (g : Int),
    Quiet s →
    s.dev.clk.target = some g →
    s.dev.pwr.st ≠ .standby →
    g < s.dev.offset →
    s.dev.timePairBad = false →
    s.dev.clk.lastMove + s.dev.slewGap ≤ (s.ctx dt).t →
    Completes (.slewStep dt) s fun t => t.dev.offset = s.dev.offset - 1) ∧
  (∀ (s : State) (dt : Nat),
    Quiet s →
    s.dev.nat 0x1050_06 ≠ 0 →
    s.dev.nat 0x1050_0B ≠ 4 →
    s.dev.clk.toStart + 400000 * s.dev.clk.toLen ≤ (s.ctx dt).t →
    Completes (.masterTimeLost dt) s fun t => t.dev.nat 0x1050_0B = 4 ∧ t.dev.clk.target = none) ∧
  (∀ (s : State) (dt : Nat) (f : Req) (age : Nat),
    Quiet s →
    f.fdExt = true →
    s.dev.chanOn f.ch = true →
    s.dev.listening = true →
    Completes (.time dt f age false) s fun t => (⟨f.ch, f.src, fld f.data 11 1, s.dev.edgeTime (s.ctx dt) age⟩ :
      Edge) ∈ t.dev.clk.edges) ∧
  (∀ (s : State) (dt : Nat) (o : Org) (port : Bool) (v : Nat),
    Quiet s →
    Accepts s dt o (if port then 0x1050_08 else 0x1050_06) v →
    Completes (.timeSourceChange dt o port v) s fun t => t.dev.nat (if port then 0x1050_08 else 0x1050_06) = v)

/-- O2. The genlock commands complete with their own effect. -/
def Obligations.Genlock_events_complete : Prop :=
  (∀ (s : State) (dt : Nat) (o : Org) (r v : Nat),
    Quiet s →
    r < 8 →
    Accepts s dt o (key 0x2100 r 0x01) v →
    Completes (.refEnable dt o r v) s fun t => t.dev.nat (key 0x2100 r 0x01) = v) ∧
  (∀ (s : State) (dt : Nat) (r : Nat) (wide : Bool),
    Quiet s →
    r < 8 →
    r ≠ 3 →
    s.dev.refSt r ≠ 0 →
    r < s.dev.refs.length →
    Completes (.referenceEdge dt r wide) s fun t => (t.dev.refOf r).last = some (s.dev.refTime (s.ctx dt) r)) ∧
  (∀ (s : State) (dt : Nat) (r : Nat),
    Quiet s →
    r < 8 →
    r ≠ 3 →
    s.dev.refSt r ≠ 0 →
    r < s.dev.refs.length →
    (s.dev.refOf r).badRun < 2 →
    s.dev.windowOver r (s.dev.refTime (s.ctx dt) r) = true →
    Completes (.missingEdge dt r) s fun t => (t.dev.refOf r).badRun = (s.dev.refOf r).badRun + 1 ∧ (t.dev.refOf
      r).goodRun = 0 ∧ t.dev.refSt r = s.dev.refSt r) ∧
  (∀ (s : State) (dt : Nat) (r : Nat) (ppb : Int),
    Quiet s →
    r < 8 →
    r ≠ 3 →
    2 ≤ s.dev.refSt r →
    (s.dev.refOf r).gateT + gateTicks ≤ (s.ctx dt).t →
    Completes (.frequencyGateEnd dt r ppb) s fun t => t.dev.int (key 0x2100 r 0x0E) = ppb) ∧
  (∀ (s : State) (dt : Nat) (r : Nat),
    Quiet s →
    r < 8 →
    r ≠ 3 →
    s.dev.refSt r = 3 →
    (s.dev.refOf r).waitT + s.dev.nat (key 0x2100 r 0x0B) * 400000000 ≤ (s.ctx dt).t →
    Completes (.waitToRestoreEnd dt r) s fun t => t.dev.refSt r = 4) ∧
  (∀ (s : State) (dt : Nat) (o : Org) (r : Nat),
    Quiet s →
    r < 8 →
    s.dev.refSt r = 3 →
    Accepts s dt o (key 0x2100 r 0x12) 1 →
    Completes (.endWait dt o r) s fun t => t.dev.refSt r = 4) ∧
  (∀ (s : State) (dt : Nat),
    Quiet s →
    s.dev.dpllSt = 1 →
    s.dev.settled (s.ctx dt) = true →
    Completes (.genlockLocked dt) s fun t => t.dev.dpllSt = 2 ∧ t.dev.dpll.trackT = (s.ctx dt).t) ∧
  (∀ (s : State) (dt : Nat),
    Quiet s →
    s.dev.rst.video = true →
    s.dev.pwr.st = .run →
    s.dev.frameDue (s.ctx dt) = true →
    s.dev.dpll.misBad = false →
    Completes (.genlockFrameStart dt) s fun t => t.dev.dpll.run = true ∧ t.dev.dpll.frameT = if s.dev.dpll.run then
      s.dev.frameEnd / subTick else (s.ctx dt).t) ∧
  (∀ (s : State) (dt : Nat) (o : Org),
    Quiet s →
    Accepts s dt o 0x2110_13 1 →
    Completes (.realign dt o) s fun t => t.dev.dpll.realign = true) ∧
  (∀ (s : State) (dt : Nat) (m : Nat) (x : Mark),
    Quiet s →
    m < 4 →
    s.dev.marks[m]? = some x →
    x.on = true →
    s.dev.flag (key 0x2120 m 0x01) = true →
    s.dev.dpll.run = true →
    (s.dev.markFrame x).2 % max 1 x.div = 0 →
    x.lastPulse = none →
    (s.dev.markFrame x).1 + x.off ≤ (s.ctx dt).t →
    Completes (.markPulse dt m) s fun t => t.dev.nat (key 0x2120 m 0x06) = (s.dev.nat (key 0x2120 m 0x06) + 1) % 2 ^
      32 ∧ .mark m ((s.dev.markFrame x).1 + x.off) x.width (x.pol = 0) ∈ t.dev.out)

/-- O3. The synthesizer commands complete with their own effect. -/
def Obligations.Synthesizer_commands_complete : Prop :=
  (∀ (s : State) (dt : Nat) (o : Org) (y v : Nat),
    Quiet s →
    y < 4 →
    v = 1 →
    s.dev.flag (synK y 0x01) = false →
    Accepts s dt o (synK y 0x01) v →
    Completes (.synEnable dt o y v) s fun t => t.dev.synSt y = 1) ∧
  (∀ (s : State) (dt : Nat) (o : Org) (y v : Nat),
    Quiet s →
    y < 4 →
    v = 0 →
    Accepts s dt o (synK y 0x01) v →
    Completes (.synEnable dt o y v) s fun t => t.dev.synSt y = 0) ∧
  (∀ (s : State) (dt : Nat) (y band : Nat),
    Quiet s →
    y < 4 →
    s.dev.synSt y = 1 →
    Completes (.bandSearchDone dt y band) s fun t => t.dev.synSt y = 2 ∧ t.dev.nat (synK y 0x1A) = band % 64) ∧
  (∀ (s : State) (dt : Nat) (y : Nat),
    Quiet s →
    y < 4 →
    s.dev.synSt y = 3 →
    (s.dev.syn y).lockT + s.dev.refTicks y (((s.dev.syn y).inForce[0]?).getD 0) ≤ (s.ctx dt).t →
    Completes (.synthesizerLocked dt y) s fun t => t.dev.synSt y = 4) ∧
  (∀ (s : State) (dt : Nat) (y : Nat),
    Quiet s →
    y < 4 →
    s.dev.synSt y = 3 →
    (s.dev.syn y).lockT + 800000 ≤ (s.ctx dt).t →
    Completes (.lockingTimeout dt y) s fun t => t.dev.synSt y = if (s.dev.syn y).relock then 7 else 1) ∧
  (∀ (s : State) (dt : Nat) (y : Nat),
    Quiet s →
    y < 4 →
    s.dev.synSt y = 5 →
    (s.dev.syn y).relockT = none →
    Completes (.synthesizerLockLost dt y) s fun t => t.dev.synSt y = 1) ∧
  (∀ (s : State) (dt : Nat) (y r : Nat),
    Quiet s →
    y < 4 →
    s.dev.synSt y = 5 →
    (s.dev.syn y).relockT = some r →
    (s.ctx dt).t ≤ r + 400000000 →
    Completes (.synthesizerLockLost dt y) s fun t => t.dev.synSt y = 7) ∧
  (∀ (s : State) (dt : Nat) (y : Nat),
    Quiet s →
    y < 4 →
    s.dev.synSt y = 5 →
    (s.dev.syn y).relockT = none →
    Completes (.synthesizerReferenceLost dt y) s fun t => t.dev.synSt y = 6) ∧
  (∀ (s : State) (dt : Nat) (y : Nat),
    Quiet s →
    y < 4 →
    s.dev.synSt y = 6 →
    (s.dev.syn y).gateT + 4000000 ≤ (s.ctx dt).t →
    Completes (.gatedTimeout dt y) s fun t => t.dev.synSt y = 7) ∧
  (∀ (s : State) (dt : Nat) (o : Org) (y : Nat),
    Quiet s →
    y < 4 →
    y < s.dev.syns.length →
    s.dev.synValid y (s.dev.shadowSet y) = true →
    Accepts s dt o (synK y 0x09) 1 →
    Completes (.apply dt o y) s fun t => (t.dev.syn y).armed = some (s.dev.shadowSet y, 1, (s.ctx dt).t + 4000) ∧
      t.dev.nat (synK y 0x09) = 1) ∧
  (∀ (s : State) (dt : Nat) (o : Org) (y : Nat),
    Quiet s →
    y < 4 →
    y < s.dev.syns.length →
    s.dev.synValid y (s.dev.shadowSet y) = true →
    Accepts s dt o (synK y 0x09) 2 →
    Completes (.applyWithRelock dt o y) s fun t => (t.dev.syn y).armed = some (s.dev.shadowSet y, 2, (s.ctx dt).t +
      4000) ∧ t.dev.nat (synK y 0x09) = 1) ∧
  (∀ (s : State) (dt : Nat) (y : Nat) (g : Glide),
    Quiet s →
    y < 4 →
    (s.dev.syn y).glide = some g →
    g.t0 + g.len ≤ (s.ctx dt).t →
    Completes (.glideEnd dt y) s fun t => (t.dev.syn y).glide = none ∧ t.dev.nat (synK y 0x09) = 5) ∧
  (∀ (s : State) (dt : Nat) (o : Org) (y : Nat),
    Quiet s →
    y < 4 →
    s.dev.synSt y = 5 →
    Accepts s dt o (synK y 0x18) 1 →
    Completes (.resync dt o y) s fun t => t.dev.synSt y = 2) ∧
  (∀ (s : State) (dt : Nat) (o : Org) (y : Nat) (b : Bool) (v : Nat),
    Quiet s →
    y < 4 →
    Accepts s dt o (synK y (if b then 0x0B else 0x0A)) v →
    Completes (.outputEnable dt o y b v) s fun t => t.dev.nat (synK y (if b then 0x0B else 0x0A)) = v) ∧
  (∀ (s : State) (dt : Nat) (o : Org) (y : Nat),
    Quiet s →
    y < 4 →
    Accepts s dt o (profK y 0x04) 1 →
    Completes (.profileStart dt o y) s fun t => t.dev.nat (profK y 0x07) = 1 ∧ t.dev.nat (profK y 0x08) = 0) ∧
  (∀ (s : State) (dt : Nat) (o : Org) (y : Nat),
    Quiet s →
    y < 4 →
    s.dev.nat (profK y 0x07) = 1 ∨ s.dev.nat (profK y 0x07) = 2 →
    Accepts s dt o (profK y 0x04) 2 →
    Completes (.profileStop dt o y) s fun t => t.dev.nat (profK y 0x07) = 3) ∧
  (∀ (s : State) (dt : Nat) (o : Org) (y : Nat),
    Quiet s →
    y < 4 →
    Accepts s dt o (profK y 0x04) 3 →
    Completes (.generateDownSpread dt o y) s fun t => t.dev.raw (profK y 0x02) = downSpread (s.dev.nat (profK y
      0x05)) (s.dev.nat (profK y 0x06)) ∧ t.dev.nat (profK y 0x03) = 1) ∧
  (∀ (s : State) (dt : Nat) (y : Nat),
    Quiet s →
    y < 4 →
    y < s.dev.syns.length →
    s.dev.nat (profK y 0x07) = 1 →
    (s.dev.syn y).profT + s.dev.refTicks y (16 * ((s.dev.syn y).upd + 1)) ≤ (s.ctx dt).t →
    Completes (.profileUpdate dt y) s fun t => (t.dev.syn y).upd = (s.dev.syn y).upd + 1)

/-- O4. The lane, port, eye scan and test commands complete with their own effect. -/
def Obligations.Lane_commands_complete : Prop :=
  (∀ (s : State) (dt : Nat) (o : Org) (p : Nat),
    Quiet s →
    p < 32 →
    s.dev.portOn p = false →
    0 < s.dev.width p →
    Accepts s dt o (portK p 0x01) 1 →
    s.dev.videoDown = false →
    Completes (.portEnable dt o p) s fun t => t.dev.nat (portK p 0x01) = 1 ∧ t.dev.portSt p = 1) ∧
  (∀ (s : State) (dt : Nat) (o : Org) (p : Nat),
    Quiet s →
    p < 32 →
    s.dev.portOn p = true →
    Accepts s dt o (portK p 0x01) 0 →
    Completes (.portDisable dt o p) s fun t => t.dev.nat (portK p 0x01) = 0 ∧ t.dev.portSt p = 0) ∧
  (∀ (s : State) (dt : Nat) (q r bias again : Nat),
    Quiet s →
    q < s.count 12 6 →
    s.dev.quads[q]? = some ⟨1, r⟩ →
    biasOk bias again = true →
    Completes (.quadPllLock dt q bias again) s fun t => t.dev.quads[q]? = some ⟨2, r⟩) ∧
  (∀ (s : State) (dt : Nat) (p : Nat),
    Quiet s →
    p < s.portCount →
    s.dev.portSt p = 5 →
    Completes (.signalDetect dt p) s fun t => t.dev.portSt p = 6) ∧
  (∀ (s : State) (dt : Nat) (p r : Nat),
    Quiet s →
    p < s.portCount →
    s.dev.portSt p = 1 →
    s.dev.quads[s.dev.quadOf p]? = some ⟨2, r⟩ →
    Completes (.signalDetect dt p) s fun t => t.dev.portSt p = 2) ∧
  (∀ (s : State) (dt : Nat) (p : Nat) (ppm : Int) (eq : List (Nat × Nat)),
    Quiet s →
    p < s.portCount →
    p < s.dev.ports.length →
    s.dev.portSt p = 2 ∨ s.dev.portSt p = 4 ∨ s.dev.portSt p = 6 →
    (s.dev.port p).step = 0 →
    Completes (.cdrLock dt p ppm eq) s fun t => (t.dev.port p).step = 1) ∧
  (∀ (s : State) (dt : Nat) (l p skew : Nat) (line : List Bool) (u : (Bool × Nat × Bool) × List Bool × Nat) (wd :
      Nat),
    Quiet s →
    l < s.laneCount →
    l < s.dev.lanes.length →
    s.dev.laneOwner (s.ctx dt) l = some p →
    s.dev.portSt p = 3 →
    s.dev.flag (laneK l 0x05) = false →
    u = unstuff (s.dev.lane l).runBit (s.dev.lane l).run (s.dev.lane l).drop line →
    s.dev.flag (laneK l 0x0B) = false ∨ u.2.1.length = 32832 →
    wd = unbits (u.2.1.drop (u.2.1.length - 64)) →
    markerGood wd = true →
    bit wd 36 = false →
    bit wd 37 = true →
    (∀ m ∈ s.dev.portLanes p, m ≠ l → (s.dev.lane m).seq = none) →
    Completes (.laneMarker dt l line skew) s fun t => (t.dev.lane l).seq = some (bits wd 40 16) ∧ (t.dev.lane l).rdy
      = true ∧ (t.dev.lane l).pm = bit wd 38 ∧ t.dev.portSt p = 3) ∧
  (∀ (s : State) (dt : Nat) (p : Nat) (eq : List (Nat × Nat × List Byte)),
    Quiet s →
    p < s.portCount →
    p < s.dev.ports.length →
    s.dev.portSt p = 2 ∨ s.dev.portSt p = 4 ∨ s.dev.portSt p = 6 →
    (s.dev.port p).step = 2 →
    Completes (.dfeConvergence dt p eq) s fun t => (t.dev.port p).rxReady = true ∧ (t.dev.port p).step = 3) ∧
  (∀ (s : State) (dt : Nat) (p : Nat),
    Quiet s →
    p < s.portCount →
    p < s.dev.ports.length →
    s.dev.portSt p = 2 →
    (s.dev.port p).attempt = 1 →
    (s.dev.port p).begT + 20000000 ≤ (s.ctx dt).t →
    Completes (.trainingAttemptTimeout dt p) s fun t => (t.dev.port p).attempt = 2 ∧ t.dev.portSt p = 2) ∧
  (∀ (s : State) (dt : Nat) (p : Nat),
    Quiet s →
    p < s.portCount →
    s.dev.portSt p = 2 →
    (s.dev.port p).attempt ≠ 1 →
    (s.dev.port p).begT + 20000000 ≤ (s.ctx dt).t →
    Completes (.trainingAttemptTimeout dt p) s fun t => t.dev.portSt p = 7 ∧ t.dev.nat (portK p 0x10) = 1) ∧
  (∀ (s : State) (dt : Nat) (l p : Nat),
    Quiet s →
    l < s.laneCount →
    s.dev.laneOwner (s.ctx dt) l = some p →
    s.dev.portSt p = 3 →
    (s.dev.port p).doneT = none →
    Completes (.signalLost dt l) s fun t => t.dev.portSt p = 4 ∧ t.dev.flag (laneK l 0x0A) = false) ∧
  (∀ (s : State) (dt : Nat) (p : Nat),
    Quiet s →
    p < s.portCount →
    s.dev.portSt p = 4 ∨ s.dev.portSt p = 6 →
    (s.dev.port p).begT + 800000 ≤ (s.ctx dt).t →
    Completes (.retrainTimeout dt p) s fun t => t.dev.portSt p = 7 ∧ t.dev.nat (portK p 0x10) = 1) ∧
  (∀ (s : State) (dt : Nat) (q r bias again : Nat),
    Quiet s →
    q < s.count 12 6 →
    s.dev.quads[q]? = some ⟨2, r⟩ →
    Completes (.quadPllUnlock dt q false bias again) s fun t => t.dev.quads[q]? = some ⟨3, 0xFF⟩) ∧
  (∀ (s : State) (dt : Nat) (q r bias again : Nat),
    Quiet s →
    q < s.count 12 6 →
    s.dev.quads[q]? = some ⟨2, r⟩ →
    biasOk bias bias = true →
    Completes (.quadPllUnlock dt q true bias again) s fun t => t.dev.quads[q]? = some ⟨2, r⟩ ∧ t.dev.nat 0x9300_04 =
      (s.dev.nat 0x9300_04 + 1) % 2 ^ 32) ∧
  (∀ (s : State) (dt : Nat) (p u : Nat),
    Quiet s →
    p < s.portCount →
    s.dev.portSt p = 7 →
    s.dev.signalNone p = true →
    0 < s.dev.width p →
    (s.dev.port p).quietT = some u →
    u + 40000000 ≤ (s.ctx dt).t →
    Completes (.failedPortReturn dt p) s fun t => t.dev.portSt p = 1) ∧
  (∀ (s : State) (dt : Nat) (o : Org) (p : Nat),
    Quiet s →
    p < 32 →
    Accepts s dt o (portK p 0x08) 1 →
    Completes (.sleep dt o p) s fun t => t.dev.portSt p = 5) ∧
  (∀ (s : State) (dt : Nat) (o : Org) (p : Nat),
    Quiet s →
    p < 32 →
    Accepts s dt o (portK p 0x08) 2 →
    Completes (.wake dt o p) s fun t => t.dev.portSt p = 6) ∧
  (∀ (s : State) (dt : Nat) (l p ctle vga : Nat) (dfe : List Byte),
    Quiet s →
    l < s.laneCount →
    s.dev.laneOwner (s.ctx dt) l = some p →
    s.dev.portSt p = 3 →
    s.dev.flag (laneK l 0x06) = false →
    s.dev.nat (portK p 0x06) ≠ 2 →
    Completes (.adaptationUpdate dt l ctle vga dfe) s fun t => t.dev.nat (laneK l 0x11) = ctle % 16 ∧ t.dev.nat
      (laneK l 0x12) = vga % 32 ∧ t.dev.raw (laneK l 0x13) = if s.dev.nat (portK p 0x06) = 1 then (dfe ++ zeros
      12).take 12 else s.dev.raw (laneK l 0x13)) ∧
  (∀ (s : State) (dt : Nat) (o : Org) (l v : Nat),
    Quiet s →
    l < 48 →
    Accepts s dt o (key 0x3100 l 0x06) v →
    Completes (.adaptFreeze dt o l v) s fun t => t.dev.nat (key 0x3100 l 0x06) = v) ∧
  (∀ (s : State) (dt : Nat) (o : Org),
    Quiet s →
    Accepts s dt o 0x3200_07 1 →
    Completes (.eyeScanStart dt o) s fun t => t.dev.nat 0x3200_07 = 1 ∧ t.dev.scan = some ⟨s.dev.nat 0x3200_01,
      scanPoints (s.dev.nat 0x3200_02), s.dev.nat 0x3200_05, s.dev.nat 0x3200_06⟩) ∧
  (∀ (s : State) (dt : Nat) (o : Org),
    Quiet s →
    s.dev.scan ≠ none →
    Accepts s dt o 0x3200_07 2 →
    Completes (.eyeScanAbort dt o) s fun t => t.dev.nat 0x3200_07 = 3 ∧ t.dev.nat 0x3200_0B = 1 ∧ t.dev.scan = none) ∧
  (∀ (s : State) (dt : Nat) (n e : Nat) (x : Scan),
    Quiet s →
    s.dev.scan = some x →
    (n = x.dwell ∧ e ≤ x.limit) ∨ (e = x.limit ∧ n ≤ x.dwell) →
    Completes (.eyeScanPointEnd dt n e) s fun t => t.dev.nat 0x3200_08 = s.dev.nat 0x3200_08 + 1 ∧ t.dev.nat
      0x3200_09 = min e 1048575 * 2 ^ 44 + n % 2 ^ 44) ∧
  (∀ (s : State) (dt : Nat) (o : Org),
    Quiet s →
    Accepts s dt o 0x3300_04 1 →
    Completes (.testStart dt o) s fun t => t.dev.nat 0x3300_04 = 1 ∧ (t.dev.test.map fun x => (x.port, x.mode,
      x.pattern, x.first, x.width)) = some (s.dev.nat 0x3300_01, s.dev.nat 0x3300_02, s.dev.nat 0x3300_03, s.dev.first
      (s.dev.nat 0x3300_01), s.dev.width (s.dev.nat 0x3300_01))) ∧
  (∀ (s : State) (dt : Nat) (o : Org) (x : Obs) (r : Test),
    Quiet s →
    s.dev.test = some r →
    Accepts s dt o 0x3300_04 2 →
    Completes (.testStop dt o x) s fun t => t.dev.nat 0x3300_04 = 0 ∧ t.dev.test = none ∧ (r.mode = 0 ∨ r.mode = 1 →
      t.dev.nat 0x3300_06 = ((List.range r.width).map fun k => (checkLine r.pattern k ((x.rx[k]?).getD [])).n).sum % 2
      ^ 64))

/-- O5. The packet and link commands complete with their own effect. -/
def Obligations.Link_commands_complete : Prop :=
  (∀ (s : State) (dt : Nat) (p : Nat) (b : List Nat),
    Quiet s →
    p < s.portCount →
    s.dev.takes p = true →
    p < s.dev.ports.length →
    s.dev.rxBlock p = some b →
    pointerGood (nthN b 0) = true →
    Completes (.blockPointer dt p) s fun t => (t.dev.port p).framed = true ∧ (t.dev.port p).resume = if (s.dev.port
      p).framed then (s.dev.port p).resume else some (1 + bits (nthN b 0) 0 16)) ∧
  (∀ (s : State) (dt : Nat) (p : Nat) (b : List Nat),
    Quiet s →
    p < s.portCount →
    s.dev.takes p = true →
    s.dev.rxBlock p = some b →
    pointerGood (nthN b 0) = false →
    Completes (.blockPointer dt p) s fun t => t.dev.nat (linkK p 0x01) = (s.dev.nat (linkK p 0x01) + 1) % 2 ^ 32) ∧
  (∀ (s : State) (dt : Nat) (p hdr : Nat),
    Quiet s →
    p < s.portCount →
    p < s.dev.ports.length →
    s.dev.takes p = true →
    (s.dev.port p).framed = true →
    hdrGood (hdr % 2 ^ 64) = false →
    Completes (.framingError dt p hdr) s fun t => (t.dev.port p).framed = false ∧ t.dev.nat (linkK p 0x01) =
      (s.dev.nat (linkK p 0x01) + 1) % 2 ^ 32) ∧
  (∀ (s : State) (dt : Nat) (p ty vc : Nat) (k : Pkt),
    Quiet s →
    p < s.portCount →
    s.dev.takes p = true →
    2 ≤ ty →
    ty < 16 →
    vc = 0 ∨ vc = 3 →
    accepts (s.dev.role p) ty vc k.fieldA = false →
    (s.dev.port p).inFrame k.place = true →
    pktSound ty vc k = true →
    Completes (.packetRejected dt p ty vc k) s fun t => t.dev.nat (linkK p 0x09) = (s.dev.nat (linkK p 0x09) + 1) %
      2 ^ 32) ∧
  (∀ (s : State) (dt : Nat) (p : Nat) (k : Pkt),
    Quiet s →
    p < s.portCount →
    p < s.dev.ports.length →
    s.dev.takes p = true →
    (s.dev.port p).flowSeen = false →
    (s.dev.port p).inFrame k.place = true →
    pktSound 1 0 { k with fieldA := 1 } = true →
    Completes (.flow dt p k) s fun t => t.dev.nat (linkK p 0x0C) = fld k.payload 12 2) ∧
  (∀ (s : State) (dt : Nat) (p : Nat),
    Quiet s →
    p < s.portCount →
    p < s.dev.ports.length →
    s.dev.portSt p = 3 →
    Completes (.flowPeriodic dt p) s fun t => Ctl.flow ∈ (t.dev.port p).ctl) ∧
  (∀ (s : State) (dt : Nat) (p vc : Nat),
    Quiet s →
    p < s.portCount →
    s.dev.portSt p = 3 →
    (s.dev.port p).blocked (vc % 4) = true →
    (s.dev.port p).doneT = none →
    (s.dev.port p).blockedT (vc % 4) + 25600 ≤ (s.ctx dt).t →
    Completes (.creditTimeout dt p vc) s fun t => t.dev.nat (linkK p 0x07) = (s.dev.nat (linkK p 0x07) + 1) % 2 ^ 32
      ∧ t.dev.portSt p = 4) ∧
  (∀ (s : State) (dt : Nat) (p vc : Nat) (h : TxEnt) (r : List TxEnt),
    Quiet s →
    p < s.portCount →
    p < s.dev.ports.length →
    s.dev.portSt p = 3 →
    vc = 1 ∨ vc = 2 →
    ((s.dev.port p).retry vc).unack = h :: r →
    h.sent = true →
    h.marked = false →
    h.t + 20000 ≤ (s.ctx dt).t →
    Completes (.ackTimeout dt p vc) s fun t => ((t.dev.port p).retry vc).unack = (h :: r).map fun e =>
      { e with due := true }) ∧
  (∀ (s : State) (dt : Nat) (p : Nat),
    Quiet s →
    p < s.portCount →
    p < s.dev.ports.length →
    s.dev.portSt p = 3 →
    s.dev.servesTime p = true →
    ((s.dev.port p).syncT.all fun u => decide (u + s.dev.nat (linkK p 0x15) * 400000 ≤ (s.ctx dt).t)) = true →
    Completes (.timeSyncPeriod dt p) s fun t => (t.dev.port p).ctl = (s.dev.port p).ctl ++ [.sync (s.dev.port
      p).syncSeq]) ∧
  (∀ (s : State) (dt : Nat) (p : Nat) (k : Pkt),
    Quiet s →
    p < s.portCount →
    p < s.dev.ports.length →
    s.dev.takes p = true →
    s.dev.takesTime p = true →
    (s.dev.port p).inFrame k.place = true →
    pktSound 1 0 { k with fieldA := 2 } = true →
    Completes (.timeSync dt p k) s fun t => (t.dev.port p).gotSync = some (fld k.payload 0 1, (s.ctx dt).t)) ∧
  (∀ (s : State) (dt : Nat) (p t2 : Nat) (k : Pkt),
    Quiet s →
    p < s.portCount →
    p < s.dev.ports.length →
    s.dev.takes p = true →
    s.dev.takesTime p = true →
    (s.dev.port p).gotSync = some (fld k.payload 10 1, t2) →
    (s.dev.port p).inFrame k.place = true →
    pktSound 1 0 { k with fieldA := 3 } = true →
    Completes (.timeFollow dt p k) s fun t => (t.dev.port p).gotSync = none ∧ (t.dev.port p).ctl = (s.dev.port
      p).ctl ++ [.dreq (s.dev.port p).dreqSeq]) ∧
  (∀ (s : State) (dt : Nat) (p : Nat) (k : Pkt),
    Quiet s →
    p < s.portCount →
    p < s.dev.ports.length →
    s.dev.takes p = true →
    s.dev.servesTime p = true →
    (s.dev.port p).inFrame k.place = true →
    pktSound 1 0 { k with fieldA := 4 } = true →
    Completes (.timeDreq dt p k) s fun t => (t.dev.port p).ctl = (s.dev.port p).ctl ++ [.drsp (fld k.payload 0 1)
      (s.dev.masterTime (s.ctx dt))]) ∧
  (∀ (s : State) (dt : Nat) (p t3 : Nat) (k : Pkt),
    Quiet s →
    p < s.portCount →
    p < s.dev.ports.length →
    s.dev.takes p = true →
    s.dev.takesTime p = true →
    (s.dev.port p).sentDreq = some (fld k.payload 10 1, t3) →
    (s.dev.port p).inFrame k.place = true →
    pktSound 1 0 { k with fieldA := 5 } = true →
    Completes (.timeDrsp dt p k) s fun t => (t.dev.port p).path = some (t3, fld k.payload 0 8) ∧ (t.dev.port
      p).sentDreq = none) ∧
  (∀ (s : State) (dt : Nat) (p : Nat) (k : Pkt),
    Quiet s →
    p < s.portCount →
    p < s.dev.ports.length →
    s.dev.takes p = true →
    s.dev.role p = 2 →
    (s.dev.port p).inFrame k.place = true →
    pktSound 8 3 k = true →
    Completes (.safeNotice dt p k) s fun t => (t.dev.port p).rx3 = some ((k.seq + 1) % 4096) ∧ t.dev.nat (linkK p
      0x09) = s.dev.nat (linkK p 0x09)) ∧
  (∀ (s : State) (dt : Nat) (o : Org) (p : Nat),
    Quiet s →
    p < 32 →
    Accepts s dt o (linkK p 0x17) 1 →
    Completes (.linkClearCounters dt o p) s fun t => t.dev.nat (linkK p 0x01) = 0 ∧ t.dev.nat (linkK p 0x08) = 0 ∧
      t.dev.nat (linkK p 0x13) = 0)

/-- O6. The transfer protocol commands complete with their own effect. -/
def Obligations.Protocol_frames_complete : Prop :=
  (∀ (s : State) (dt : Nat) (f : Req) (x : Obs) (ty : Nat) (b : List Byte),
    Quiet s →
    f.dest ≠ 255 →
    (s.taken dt 0x01 f).2 = true →
    (s.taken dt 0x01 f).1.stored (s.ctx dt) ((s.taken dt 0x01 f).1.orgOf f) (canId f.prio 0x01 f.dest f.src f.tag)
      f.data = none →
    headerCodes f.data = [] →
    (parseHdr f.data).key ≠ 0x9400_01 →
    (s.taken dt 0x01 f).1.readObj (s.ctx dt) (parseHdr f.data).key (parseHdr f.data).ty (bit (parseHdr f.data).flags
      0) = .inr (ty, b) →
    b.length ≤ 56 →
    x.busy = false →
    Completes (.readReq dt f x) s fun t => ∃ r ∈ t.dev.itp.resp, r.src = f.src ∧ r.tag = f.tag ∧ r.t = (s.ctx dt).t
      ∧ r.ans.cls = 0x02 ∧ r.ans.data.drop 8 = b) ∧
  (∀ (s : State) (dt : Nat) (f : Req) (x : Obs) (base n : Nat) (r : Obj) (v : Val),
    Quiet s →
    f.dest ≠ 255 →
    (s.taken dt 0x03 f).2 = true →
    (s.taken dt 0x03 f).1.stored (s.ctx dt) ((s.taken dt 0x03 f).1.orgOf f) (canId f.prio 0x03 f.dest f.src f.tag)
      f.data = none →
    headerCodes f.data = [] →
    (parseHdr f.data).len ≤ 56 →
    8 + (parseHdr f.data).len ≤ f.data.length →
    (s.taken dt 0x03 f).1.writeCodes (s.ctx dt) (parseHdr f.data).key (parseHdr f.data).ty ((f.data.drop 8).take
      (parseHdr f.data).len) false = [] →
    lookup (s.ctx dt).s12 (parseHdr f.data).key = .row base n r →
    r.acc = .rws →
    decodeVal r.ty ((f.data.drop 8).take (parseHdr f.data).len) = some v →
    x.busy = false →
    Completes (.writeReq dt f x) s fun t => (∃ e ∈ t.dev.itp.staged, e.key = key base n r.sub ∧ e.val = v) ∧ ∃ a ∈
      t.dev.itp.resp, a.src = f.src ∧ a.tag = f.tag ∧ a.ans.cls = 0x04) ∧
  (∀ (s : State) (dt : Nat) (f : Req) (ty : Nat) (b : List Byte),
    Quiet s →
    f.dest ≠ 255 →
    (s.taken dt 0x06 f).2 = true →
    (s.taken dt 0x06 f).1.stored (s.ctx dt) ((s.taken dt 0x06 f).1.orgOf f) (canId f.prio 0x06 f.dest f.src f.tag)
      f.data = none →
    headerCodes f.data = [] →
    (parseHdr f.data).key ≠ 0x9400_01 →
    (s.taken dt 0x06 f).1.itp.segs.length < 4 →
    (s.taken dt 0x06 f).1.readObj (s.ctx dt) (parseHdr f.data).key (parseHdr f.data).ty false = .inr (ty, b) →
    Completes (.segReadInit dt f) s fun t => ∃ x ∈ t.dev.itp.segs, x.org.src = f.src ∧ x.org.tag = f.tag ∧ x.write =
      false ∧ x.data = b) ∧
  (∀ (s : State) (dt : Nat) (f : Req),
    Quiet s →
    f.dest ≠ 255 →
    (s.taken dt 0x07 f).2 = true →
    (s.taken dt 0x07 f).1.stored (s.ctx dt) ((s.taken dt 0x07 f).1.orgOf f) (canId f.prio 0x07 f.dest f.src f.tag)
      f.data = none →
    headerCodes f.data = [] →
    12 ≤ f.data.length →
    (parseHdr f.data).len = 0 →
    fld f.data 8 4 ≤ 65536 →
    (s.taken dt 0x07 f).1.initCodes (s.ctx dt) (parseHdr f.data).key (parseHdr f.data).ty = [] →
    (s.taken dt 0x07 f).1.itp.segs.length < 4 →
    Completes (.segWriteInit dt f) s fun t => ∃ x ∈ t.dev.itp.segs, x.org.src = f.src ∧ x.org.tag = f.tag ∧ x.write
      = true ∧ x.total = fld f.data 8 4 ∧ x.data = []) ∧
  (∀ (s : State) (dt : Nat) (f : Req) (x : Obs) (y : Seg),
    Quiet s →
    f.dest ≠ 255 →
    (s.taken dt 0x09 f).2 = true →
    (s.taken dt 0x09 f).1.itp.segs.find? (fun y => y.is ((s.taken dt 0x09 f).1.orgOf f)) = some y →
    y.write = true →
    y.err = false →
    fld f.data 0 1 = y.next % 256 →
    bit (fld f.data 1 1) 0 = false →
    y.count + 1 < 16 →
    Completes (.segData dt f x) s fun t =>
      { y with count := y.count + 1, next := y.next + 1, data := (y.data ++ (f.data.drop 2).take 62 ++ zeros (62 - ((f.data.drop 2).take 62).length)).take 65598, t := (s.ctx dt).t }
      ∈ t.dev.itp.segs) ∧
  (∀ (s : State) (dt : Nat) (f : Req) (y : Seg),
    Quiet s →
    f.dest ≠ 255 →
    (s.taken dt 0x0A f).2 = true →
    (s.taken dt 0x0A f).1.itp.segs.find? (fun y => y.is ((s.taken dt 0x0A f).1.orgOf f)) = some y →
    y.write = false →
    fld f.data 1 1 = 2 →
    Completes (.segAck dt f) s fun t => ∀ x ∈ t.dev.itp.segs, x.is y.org = false) ∧
  (∀ (s : State) (dt : Nat) (n : Nat) (y : Seg),
    Quiet s →
    s.dev.itp.segs[n]? = some y →
    s.dev.listening = true →
    y.t + 40000000 ≤ (s.ctx dt).t →
    Completes (.segTransferTimeout dt n) s fun t => ∀ x ∈ t.dev.itp.segs, x.is y.org = false) ∧
  (∀ (s : State) (dt : Nat) (f : Req) (y : Seg),
    Quiet s →
    f.dest ≠ 255 →
    (s.taken dt 0x05 f).2 = true →
    (s.taken dt 0x05 f).1.itp.segs.find? (fun y => y.is ((s.taken dt 0x05 f).1.orgOf f)) = some y →
    Completes (.abort dt f) s fun t => ∀ x ∈ t.dev.itp.segs, x.is y.org = false) ∧
  (∀ (s : State) (dt : Nat) (f : Req) (cls : Nat),
    Quiet s →
    f.dest ≠ 255 →
    (s.taken dt cls f).2 = true →
    (s.taken dt cls f).1.stored (s.ctx dt) ((s.taken dt cls f).1.orgOf f) (canId f.prio cls f.dest f.src f.tag)
      f.data = none →
    notRequest cls = false →
    cls ∉ [1, 3, 5, 6, 7, 9, 10] →
    Completes (.unknownServiceClass dt cls f) s fun t => ∃ r ∈ t.dev.itp.resp, r.src = f.src ∧ r.tag = f.tag ∧
      r.ans.cls = 0x05 ∧ r.ans.data.drop 8 = le 2 0x000D) ∧
  (∀ (s : State) (dt : Nat) (f : Req),
    Quiet s →
    f.dest = 255 →
    f.fdExt = true →
    s.dev.chanOn f.ch = true →
    s.dev.listening = true →
    ((s.entry.leaveDoze (s.ctx dt)).dedupe (s.ctx dt) f (canId f.prio 0x14 f.dest f.src f.tag)).2 = true →
    ((s.entry.leaveDoze (s.ctx dt)).dedupe (s.ctx dt) f (canId f.prio 0x14 f.dest f.src f.tag)).1.stored (s.ctx dt)
      (((s.entry.leaveDoze (s.ctx dt)).dedupe (s.ctx dt) f (canId f.prio 0x14 f.dest f.src f.tag)).1.orgOf f) (canId
      f.prio 0x14 f.dest f.src f.tag) f.data = none →
    Completes (.identifyReq dt f) s fun t => ∃ r ∈ t.dev.itp.resp, r.src = f.src ∧ r.tag = f.tag ∧ r.ans.cls = 0x15
      ∧ r.ans.data = [byte (if s.fuses.s2412 then 12 else 24), byte s.dev.itp.node] ++ le 2 Config.dictionaryVersion
      ++ le 8 Config.serial ++ le 4 Config.agentVersion) ∧
  (∀ (s : State) (dt : Nat),
    Quiet s →
    s.dev.listening = true →
    s.dev.nat 0x1010_05 ≠ 0 →
    s.dev.itp.hbT + s.dev.nat 0x1010_05 * 400000 ≤ (s.ctx dt).t →
    Completes (.heartbeat dt) s fun t => t.dev.itp.hbCount = (s.dev.itp.hbCount + 1) % 2 ^ 32) ∧
  (∀ (s : State) (dt : Nat) (ch : Nat),
    Quiet s →
    ch < 2 →
    s.dev.chanOn ch = true →
    s.dev.ticking = true →
    (if ch = 0 then s.dev.itp.can0 else s.dev.itp.can1).lastOff = none →
    Completes (.canFdBusOff dt ch) s fun t => (if ch = 0 then t.dev.itp.can0 else t.dev.itp.can1).lastOff = some
      (s.ctx dt).t ∧ t.dev.nat 0x9300_04 = (s.dev.nat 0x9300_04 + 1) % 2 ^ 32) ∧
  (∀ (s : State) (dt : Nat) (ch u : Nat),
    Quiet s →
    ch < 2 →
    s.dev.chanOn ch = true →
    s.dev.ticking = true →
    (if ch = 0 then s.dev.itp.can0 else s.dev.itp.can1).lastOff = some u →
    (s.ctx dt).t ≤ u + 400000000 →
    Completes (.canFdBusOff dt ch) s fun t => (if ch = 0 then t.dev.itp.can0 else t.dev.itp.can1).lost = true) ∧
  (∀ (s : State) (dt : Nat) (x : Obs) (b : List Byte) (r : List (List Byte)),
    Quiet s →
    s.dev.host.frames = b :: r →
    s.dev.listening = true →
    s.dev.hostOn = true →
    frameOk b = false →
    Completes (.hostFrame dt x) s fun t => t.dev.host.frames = r ∧ t.dev.nat 0x1010_0B = (s.dev.nat 0x1010_0B + 1) %
      2 ^ 32) ∧
  (∀ (s : State) (dt : Nat) (x : Obs) (b : List Byte) (r : List (List Byte)) (id ty : Nat) (data v : List Byte),
    Quiet s →
    s.dev.host.frames = b :: r →
    s.dev.listening = true →
    s.dev.hostOn = true →
    x.busy = false →
    frameOk b = true →
    12 + fld b 4 2 ≤ b.length →
    fld b (8 + fld b 4 2) 4 = crc32c (b.take (8 + fld b 4 2)) →
    id = fld b 0 4 →
    data = (b.drop 8).take (fld b 4 2) →
    bits id 13 8 = s.dev.itp.node →
    bits id 21 5 = 0x01 →
    (s.hosted dt r).stored (s.ctx dt) ⟨.host, bits id 26 3, bits id 5 8, bits id 0 5⟩ id data = none →
    headerCodes data = [] →
    (parseHdr data).key ≠ 0x9400_01 →
    (s.hosted dt r).readObj (s.ctx dt) (parseHdr data).key (parseHdr data).ty (bit (parseHdr data).flags 0) = .inr
      (ty, v) →
    v.length ≤ 56 →
    Completes (.hostFrame dt x) s fun t => t.dev.host.frames = r ∧ ∃ a ∈ t.dev.itp.resp, a.path = .host ∧ a.src =
      bits id 5 8 ∧ a.tag = bits id 0 5 ∧ a.ans.cls = 0x02 ∧ a.ans.data.drop 8 = v) ∧
  (∀ (s : State) (dt : Nat) (x : Obs) (b : List Byte) (r : List (List Byte)),
    Quiet s →
    s.dev.host.frames = b :: r →
    s.dev.listening = true →
    s.dev.hostOn = true →
    frameOk b = true →
    12 + fld b 4 2 ≤ b.length →
    fld b (8 + fld b 4 2) 4 = crc32c (b.take (8 + fld b 4 2)) →
    bits (fld b 0 4) 13 8 ≠ s.dev.itp.node →
    bits (fld b 0 4) 13 8 ≠ 255 →
    Completes (.hostFrame dt x) s fun t => t.dev.host.frames = r ∧ t.dev.nat 0x1010_0B = s.dev.nat 0x1010_0B) ∧
  (∀ (s : State) (dt : Nat) (p : Nat) (k : Pkt) (x : Obs),
    Quiet s →
    p < s.portCount →
    (s.entry.rxPacket p 6 1 { k with fieldA := 1 }).2 = true →
    s.dev.listening = true →
    bit (s.dev.nat 0x1010_07) 3 = true →
    frameOk k.payload = false →
    Completes (.managementItp dt p k x) s fun t => t.dev.nat 0x1010_0C = (s.dev.nat 0x1010_0C + 1) % 2 ^ 32) ∧
  (∀ (s : State) (dt : Nat) (p : Nat) (k : Pkt) (x : Obs),
    Quiet s →
    p < s.portCount →
    (s.entry.rxPacket p 6 1 { k with fieldA := 1 }).2 = true →
    s.dev.listening = true →
    bit (s.dev.nat 0x1010_07) 3 = true →
    frameOk k.payload = true →
    bits (fld k.payload 0 4) 13 8 = 255 →
    bits (fld k.payload 0 4) 21 5 = 0x14 →
    s.dev.itp.resp = [] →
    s.dev.itp.node ≠ 255 →
    Completes (.managementItp dt p k x) s fun t => ∃ r ∈ t.dev.itp.resp, r.path = .vc1 p ∧ r.ans.cls = 0x15) ∧
  (∀ (s : State) (dt : Nat) (a0 pc : Nat) (x : Obs),
    Quiet s →
    s.dev.appActs = true →
    (s.called pc).userBytes (a0 % 2 ^ 32) 16 = false →
    s.dev.listening = true →
    x.busy = false →
    Completes (.mailbox dt a0 pc x) s fun t => .ret 0x0005 ∈ t.dev.out) ∧
  (∀ (s : State) (dt : Nat) (a0 pc ty : Nat) (x : Obs) (b v : List Byte),
    Quiet s →
    s.dev.appActs = true →
    (s.called pc).userBytes (a0 % 2 ^ 32) 16 = true →
    b = memRead (s.called pc).core.mem (memAddr (a0 % 2 ^ 32)) 16 →
    fld b 0 1 = 1 →
    fld b 1 1 < 2 →
    fld b 6 2 = 0 →
    fld b 8 4 ≤ 65536 →
    fld b 4 2 * 256 + fld b 3 1 ≠ 0x9400_01 →
    (s.called pc).readObj (s.ctx dt) (fld b 4 2 * 256 + fld b 3 1) (fld b 2 1) (bit (fld b 1 1) 0) = .inr (ty, v) →
    v.length ≤ fld b 8 4 →
    (s.called pc).userBytes (fld b 12 4) v.length = true →
    s.dev.listening = true →
    x.busy = false →
    Completes (.mailbox dt a0 pc x) s fun t => .ret 0 ∈ t.dev.out)

/-- O7. The quoin, save, restore and freeze commands complete with their own effect. -/
def Obligations.Configuration_commands_complete : Prop :=
  (∀ (s : State) (dt : Nat) (o : Org),
    Quiet s →
    Accepts s dt o 0x1030_01 1 →
    Completes (.commit dt o) s fun t => t.dev.itp.quoin.st = .validating ∧ t.dev.nat 0x1030_04 = quoinWord 1 0 0 ∧
      t.dev.itp.staged = s.dev.itp.staged) ∧
  (∀ (s : State) (dt : Nat) (o : Org),
    Quiet s →
    s.dev.itp.quoin.st = .none →
    Accepts s dt o 0x1030_01 2 →
    Completes (.discard dt o) s fun t => t.dev.nat 0x1030_04 = quoinWord 5 0 0 ∧ t.dev.itp.staged =
      s.dev.itp.staged.filter fun e => !s.dev.inScope s.dev.itp.staged (s.dev.nat 0x1030_02) e.key) ∧
  (∀ (s : State) (dt : Nat) (o : Org),
    Quiet s →
    Accepts s dt o 0x1030_01 3 →
    (s.found dt o 0x1030_01 3).quoinFault (s.ctx dt) ((s.found dt o 0x1030_01 3).itp.staged.filter fun e => (s.found
      dt o 0x1030_01 3).inScope (s.found dt o 0x1030_01 3).itp.staged ((s.found dt o 0x1030_01 3).nat 0x1030_02)
      e.key) = none →
    Completes (.validateOnly dt o) s fun t => t.dev.nat 0x1030_04 = quoinWord 6 0 0 ∧ t.dev.itp.staged =
      s.dev.itp.staged) ∧
  (∀ (s : State) (dt : Nat),
    Quiet s →
    s.dev.itp.quoin.st = .validating →
    s.entry.quoinFault (s.ctx dt) s.entry.itp.quoin.snap = none →
    Completes (.quoinValidationEnd dt) s fun t => t.dev.itp.quoin.st = .armed ∧ t.dev.nat 0x1030_04 = quoinWord 2 0
      0) ∧
  (∀ (s : State) (dt : Nat) (k code : Nat),
    Quiet s →
    s.dev.itp.quoin.st = .validating →
    s.dev.itp.quoin.restore = false →
    s.entry.quoinFault (s.ctx dt) s.entry.itp.quoin.snap = some (k, code) →
    Completes (.quoinValidationEnd dt) s fun t => t.dev.itp.quoin.st = .none ∧ t.dev.nat 0x1030_04 = quoinWord 4
      code k ∧ t.dev.itp.staged = s.dev.itp.staged) ∧
  (∀ (s : State) (dt : Nat),
    Quiet s →
    s.dev.itp.quoin.st = .armed →
    s.dev.itp.quoin.anchor = none →
    s.dev.itp.quoin.globals = false →
    s.dev.itp.quoin.restore = false →
    s.dev.itp.quoin.left = [] →
    s.dev.itp.restoring = [] →
    s.dev.itp.quoin.ripe (s.ctx dt).t = true →
    Completes (.quoinTimeReached dt) s fun t => t.dev.itp.quoin.st = .none ∧ t.dev.nat 0x1030_04 = quoinWord 3 0 0 ∧
      t.dev.nat 0x1030_07 = (s.ctx dt).t) ∧
  (∀ (s : State) (dt : Nat) (o : Org) (x : Obs),
    Quiet s →
    s.dev.itp.quoin.st ≠ .armed →
    x.busy = false →
    x.cut = 0 →
    x.faults.length < 2 →
    Accepts s dt o 0x1020_01 1 →
    (s.found dt o 0x1020_01 1).payloadLen (s.ctx dt) ≤ 229344 →
    Completes (.save dt o x) s fun t => t.dev.nat 0x1020_03 = saveWord 6 1 ((s.found dt o 0x1020_01 1).payload
      (s.ctx dt)).length ∧ t.dev.nat 0x1020_05 = if s.dev.nat 0x1020_05 = 1 then 2 else 1) ∧
  (∀ (s : State) (dt : Nat) (x : Obs) (d : Dev),
    Quiet s →
    s.dev.itp.saveWait = true →
    s.dev.itp.quoin.st ≠ .armed →
    x.cut = 0 →
    x.faults.length < 2 →
    d = { s.entry with itp := { s.entry.itp with saveWait := false, saveSnap := none } } →
    d.payloadLen (s.ctx dt) ≤ 229344 →
    Completes (.saveAfterQuoin dt x) s fun t => t.dev.itp.saveWait = false ∧ t.dev.nat 0x1020_03 = saveWord 6 1
      (d.payload (s.ctx dt)).length) ∧
  (∀ (s : State) (dt : Nat) (o : Org),
    Quiet s →
    Accepts s dt o 0x1020_02 1 →
    Completes (.restore dt o) s fun t => t.dev.itp.quoin.st = .validating ∧ t.dev.itp.quoin.restore = true ∧
      t.dev.nat 0x1020_03 = saveWord 9 0 0) ∧
  (∀ (s : State) (dt : Nat) (o : Org) (x : Obs),
    Quiet s →
    x.busy = false →
    x.cut = 0 →
    Accepts s dt o 0x1020_02 2 →
    Completes (.invalidateBanks dt o x) s fun t => t.dev.bankA.seq = 0 ∧ t.dev.bankA.comp = 0 ∧ t.dev.bankB.seq = 0
      ∧ t.dev.bankB.comp = 0 ∧ t.dev.nat 0x1020_05 = 0) ∧
  (∀ (s : State) (dt : Nat) (o : Org) (v : Nat),
    Quiet s →
    s.dev.flag 0x1060_01 = false →
    Accepts s dt o 0x1060_01 v →
    Completes (.freeze dt o v) s fun t => t.dev.nat 0x1060_01 = 1 ∧ t.dev.nat 0x1060_02 = (s.ctx dt).t)

/-- O8. The capture commands complete with their own effect. -/
def Obligations.Capture_commands_complete : Prop :=
  (∀ (s : State) (dt : Nat) (p ch : Nat) (k : Pkt),
    Quiet s →
    p < s.portCount →
    (s.entry.rxPacket p 2 0 k).2 = true →
    s.dev.boundChan (s.ctx dt) p = some ch →
    Completes (.folio dt p k) s fun t => t.dev.nat (chanK ch 0x14) = fld k.payload 0 4 ∧ t.dev.nat (chanK ch 0x15) =
      fld k.payload 8 4 ∧ t.dev.nat (chanK ch 0x16) = fld k.payload 4 4) ∧
  (∀ (s : State) (dt : Nat) (p ch i : Nat) (k : Pkt),
    Quiet s →
    p < s.portCount →
    (s.entry.rxPacket p 3 0 k).2 = true →
    s.dev.boundChan (s.ctx dt) p = some ch →
    (s.dev.port p).folioRx ≠ none →
    (s.dev.chan ch).writing = some i →
    i < (s.dev.chan ch).slots.length →
    bits k.fieldA 13 3 = (((s.dev.chan ch).slots[i]?).getD {}).folio.no % 8 →
    bits k.fieldA 0 13 < (((s.dev.chan ch).slots[i]?).getD {}).folio.h →
    k.fieldB < ceilDiv (lineBytes (((s.dev.chan ch).slots[i]?).getD {}).folio.w (((s.dev.chan ch).slots[i]?).getD
      {}).folio.fmt) 1024 →
    Completes (.videoLine dt p k) s fun t => (⟨bits k.fieldA 0 13, k.fieldB, k.payload.take (segLen (lineBytes
      (((s.dev.chan ch).slots[i]?).getD {}).folio.w (((s.dev.chan ch).slots[i]?).getD {}).folio.fmt) k.fieldB)⟩ :
      Seg1) ∈ (((t.dev.chan ch).slots[i]?).getD {}).segs) ∧
  (∀ (s : State) (dt : Nat) (ch : Nat),
    Quiet s →
    ch < s.count 24 12 →
    s.dev.chanSt ch = 2 →
    s.dev.inputOverdue (s.ctx dt) ch = true →
    Completes (.captureInputLost dt ch) s fun t => t.dev.chanSt ch = 3 ∧ t.dev.nat (chanK ch 0x1D) = (s.dev.nat
      (chanK ch 0x1D) + 1) % 2 ^ 32) ∧
  (∀ (s : State) (dt : Nat) (o : Org) (n : Nat),
    Quiet s →
    n < 24 →
    s.dev.chanOnline n = false →
    Accepts s dt o (chanK n 0x01) 1 →
    s.dev.videoDown = false →
    Completes (.captureEnable dt o n) s fun t => t.dev.nat (chanK n 0x01) = 1 ∧ t.dev.chanSt n = 1) ∧
  (∀ (s : State) (dt : Nat) (o : Org) (n : Nat),
    Quiet s →
    n < 24 →
    s.dev.chanOnline n = true →
    Accepts s dt o (chanK n 0x01) 0 →
    Completes (.captureDisable dt o n) s fun t => t.dev.nat (chanK n 0x01) = 0 ∧ (t.dev.chanSt n = 5 ∨ t.dev.chanSt
      n = 0)) ∧
  (∀ (s : State) (dt : Nat) (o : Org) (n : Nat),
    Quiet s →
    n < 24 →
    Accepts s dt o (chanK n 0x24) 1 →
    Completes (.captureClearCounters dt o n) s fun t => (∀ i ∈ List.range 7, t.dev.nat (chanK n (0x18 + i)) = 0) ∧
      t.dev.nat (chanK n 0x25) = 0)

/-- O9. The forme, row and echo commands complete with their own effect. -/
def Obligations.Forme_commands_complete : Prop :=
  (∀ (s : State) (dt n f : Nat),
    Quiet s →
    n < s.count 24 12 →
    n < s.dev.formes.length →
    s.dev.formeRuns n = true →
    s.dev.formeSt n ≠ 3 →
    s.dev.itp.quoin.st ≠ .armed →
    s.dev.itp.restoring = [] →
    s.dev.formeFrameAt (s.ctx dt) n = some f →
    Completes (.formeFrameStart dt n) s fun t => t.dev.nat (formeK n 0x12) = ((s.dev.port (s.dev.nat (formeK n
      2))).folioNo + 1) % 2 ^ 32 ∧ t.dev.nat (formeK n 0x14) = (s.dev.nat (formeK n 0x14) + 1) % 2 ^ 32 ∧ (t.dev.forme
      n).f = f) ∧
  (∀ (s : State) (dt n y : Nat) (bad again : List Nat),
    Quiet s →
    n < s.count 24 12 →
    n < s.dev.formes.length →
    s.dev.formeRuns n = true →
    y < s.dev.nat (formeK n 4) →
    (s.dev.forme n).fetch ≤ y →
    s.dev.rowDue (s.ctx dt) n y = true →
    Completes (.rowFetch dt n y bad again) s fun t => (∃ r ∈ (t.dev.forme n).rows, r.y = y) ∧ (t.dev.forme n).fetch
      = y + 1) ∧
  (∀ (s : State) (dt : Nat) (n y : Nat) (missing : List Nat),
    Quiet s →
    n < s.count 24 12 →
    s.dev.formeRuns n = true →
    (s.dev.forme n).nopic = false →
    y < s.dev.nat (formeK n 4) →
    n < s.dev.formes.length →
    y = (s.dev.forme n).line →
    Completes (.rowLaunch dt n y missing) s fun t => (∀ r ∈ (t.dev.forme n).rows, r.y ≠ y) ∧ (t.dev.forme n).line =
      y + 1) ∧
  (∀ (s : State) (dt wn t0 : Nat),
    Quiet s →
    wn < 64 →
    wn < s.dev.wins.length →
    (s.dev.win wn).noSrc = true →
    s.dev.nat (winK wn 0x16) = 2 →
    s.dev.holdSince wn = some t0 →
    t0 + s.dev.nat (winK wn 0x17) * 400000 ≤ (s.ctx dt).t →
    Completes (.holdTimeEnd dt wn) s fun t => (t.dev.win wn).holdDone = true) ∧
  (∀ (s : State) (dt : Nat) (p n : Nat) (k : Pkt) (x : Sig),
    Quiet s →
    p < s.portCount →
    (s.entry.rxPacket p 7 3 k).2 = true →
    (formesOf (s.ctx dt)).find? (fun n => s.dev.formeRuns n && s.dev.nat (formeK n 2) = p && s.dev.flag (key 0x5400
      n 1)) = some n →
    ((s.dev.forme n).hist.reverse).find? (fun x => x.no = fld k.payload 0 4) = some x →
    x.src = fld k.payload 4 4 →
    x.live = fld k.payload 8 4 →
    x.sig = fld k.payload 12 4 →
    Completes (.echo dt p k) s fun t => t.dev.nat (key 0x5400 n 0x05) = (s.dev.nat (key 0x5400 n 0x05) + 1) % 2 ^ 32
      ∧ (t.dev.forme n).matched = (s.dev.forme n).matched + 1 ∧ (t.dev.port p).sinkStatus = fld k.payload 16 4)

/-- O10. The audio commands complete with their own effect. -/
def Obligations.Audio_commands_complete : Prop :=
  (∀ (s : State) (dt : Nat) (tdm bad again : List Nat) (i : Nat),
    Quiet s →
    s.dev.nat 0x6300_06 ≠ 0 →
    s.dev.pwr.st = .run →
    i < 4 →
    i < s.dev.audio.tdm.length →
    s.dev.nat (tdmK i 0x02) = 0 →
    (s.dev.pace (s.ctx dt)).tickDue (s.ctx dt) = true →
    Completes (.deviceAudioTick dt tdm bad again) s fun t => (t.dev.atdm i).words = (tdm.drop (16 * i)).take 16) ∧
  (∀ (s : State) (dt : Nat) (p ch : Nat) (k : Pkt) (ppb : Int),
    Quiet s →
    p < s.portCount →
    (s.entry.rxPacket p 4 0 k).2 = true →
    s.dev.boundChan (s.ctx dt) p = some ch →
    s.dev.flag (capAudK ch 0x01) = true →
    blockGood k.fieldB k.payload = true →
    Completes (.audioBlock dt p k ppb) s fun t => t.dev.nat (capAudK ch 0x06) = (s.dev.nat (capAudK ch 0x06) + 1) %
      2 ^ 32) ∧
  (∀ (s : State) (dt : Nat) (a : Nat),
    Quiet s →
    a < 4 * s.count 24 12 →
    s.dev.groupSt a = 1 →
    Completes (.asrcLock dt a) s fun t => t.dev.groupSt a = 2) ∧
  (∀ (s : State) (dt : Nat) (i : Nat),
    Quiet s →
    i < 4 →
    s.dev.nat (tdmK i 0x02) = 1 →
    s.dev.nat (tdmK i 0x0E) = 2 →
    Completes (.asrcLock dt (96 + i)) s fun t => t.dev.nat (tdmK i 0x0E) = 3) ∧
  (∀ (s : State) (dt : Nat) (a : Nat),
    Quiet s →
    a < 4 * s.count 24 12 →
    s.dev.groupSt a = 1 ∨ s.dev.groupSt a = 2 ∨ s.dev.groupSt a = 4 →
    s.dev.groupOverdue (s.ctx dt) a = true →
    Completes (.audioInputLost dt a) s fun t => t.dev.groupSt a = 3 ∧ t.dev.nat (capAudK (a / 4) 0x08) = (s.dev.nat
      (capAudK (a / 4) 0x08) + 1) % 2 ^ 32) ∧
  (∀ (s : State) (dt : Nat) (n : Nat),
    Quiet s →
    n < s.count 24 12 →
    n < s.dev.audio.units.length →
    audioN s.dev.audioRate ≤ (s.dev.aunit n).ts.length →
    Completes (.audioBlockSend dt n) s fun t => (t.dev.aunit n).ts = (s.dev.aunit n).ts.drop (audioN
      s.dev.audioRate)) ∧
  (∀ (s : State) (dt : Nat) (i n : Nat) (same : Bool) (words : List Nat),
    Quiet s →
    i < 4 →
    i < s.dev.audio.tdm.length →
    s.dev.nat (tdmK i 0x02) ≠ 0 →
    s.dev.nat (tdmK i 0x0E) ≠ 0 →
    Completes (.tdmFrameSync dt i n same words) s fun t => (t.dev.atdm i).last = some (s.ctx dt).t ∧ (t.dev.atdm
      i).same = same) ∧
  (∀ (s : State) (dt i l : Nat),
    Quiet s →
    i < 4 →
    i < s.dev.audio.tdm.length →
    s.dev.nat (tdmK i 0x02) = 1 →
    s.dev.nat (tdmK i 0x0E) = 2 ∨ s.dev.nat (tdmK i 0x0E) = 3 →
    (s.dev.atdm i).last = some l →
    l * audioHz (s.dev.nat (tdmK i 0x03)) + 1600000000 ≤ (s.ctx dt).t * audioHz (s.dev.nat (tdmK i 0x03)) →
    Completes (.audioTdmClockLost dt i) s fun t => t.dev.nat (tdmK i 0x0E) = 4 ∧ (t.dev.atdm i).last = none ∧
      (t.dev.atdm i).words = List.replicate 16 0)

/-- O11. The title port commands complete with their own effect. -/
def Obligations.Title_port_commands_complete : Prop :=
  (∀ (s : State) (dt : Nat) (slot off len m id : Nat) (b : List Byte),
    Quiet s →
    slot < 2 →
    slot < s.dev.title.slots.length →
    s.dev.slotSt slot = 2 →
    off + len ≤ s.dev.titleTop →
    len ≠ 0 →
    (s.dev.tslot slot).pb = none →
    (s.dev.tslot slot).flush = none →
    (s.dev.tslot slot).readers = [] →
    (s.dev.tslot slot).hit ⟨m, id, off, len⟩ = some b →
    Completes (.windowRead dt slot off len m id) s fun t => .bus m id false b ∈ t.dev.out) ∧
  (∀ (s : State) (dt : Nat) (slot off m id : Nat) (data : List Byte),
    Quiet s →
    slot < 2 →
    slot < s.dev.title.slots.length →
    s.dev.slotSt slot = 2 →
    off + data.length ≤ s.dev.titleTop →
    (s.dev.tslot slot).pb = none →
    (s.dev.tslot slot).flush = none →
    Completes (.windowWrite dt slot off data m id) s fun t => .bus m id false [] ∈ t.dev.out) ∧
  (∀ (s : State) (dt slot : Nat) (b : PageBuf),
    Quiet s →
    slot < 2 →
    (s.dev.tslot slot).flush = none →
    (s.dev.tslot slot).pb = some b →
    b.t + s.dev.nat (titleK 0x10) * 400 ≤ (s.ctx dt).t →
    Completes (.coalesceTimeEnd dt slot) s fun t => (t.dev.tslot slot).flush ≠ none) ∧
  (∀ (s : State) (dt : Nat) (data : List Byte) (stalls : Nat) (r : TReq) (b : PageBuf) (g : Flush),
    Quiet s →
    s.dev.title.cur = some (r, false) →
    r.kind = .program →
    (s.dev.tslot r.slot).pb = some b →
    (s.dev.tslot r.slot).flush = some g →
    s.dev.titleTxnDue (s.ctx dt) = true →
    Completes (.titleTransactionEnd dt data stalls) s fun t => (t.dev.tslot r.slot).flush = some
      { g with step := 4, k := 1, t0 := (s.ctx dt).t }) ∧
  (∀ (s : State) (dt : Nat) (data : List Byte) (stalls : Nat) (r : TReq),
    Quiet s →
    s.dev.title.cur = some (r, false) →
    r.kind = .raw →
    (parseTmpl s.dev.rawReq.1).write = false →
    s.dev.titleTxnDue (s.ctx dt) = true →
    Completes (.titleTransactionEnd dt data stalls) s fun t => t.dev.raw (titleK 0x19) = data.take
      s.dev.rawReq.2.2.2.1 ∧ t.dev.nat (titleK 0x1F) = (s.dev.nat (titleK 0x1F) + (if s.dev.title.waits then stalls
      else 0)) % 2 ^ 32) ∧
  (∀ (s : State) (dt : Nat) (slot status : Nat) (g : Flush),
    Quiet s →
    slot < 2 →
    (s.dev.tslot slot).flush = some g →
    g.step = 4 →
    (status % 2 ^ s.dev.nat (titleK 9)) &&& s.dev.nat (titleK 0x0C) = 0 →
    (status % 2 ^ s.dev.nat (titleK 9)) &&& s.dev.nat (titleK 0x0A) = s.dev.nat (titleK 0x0B) &&& s.dev.nat (titleK
      0x0A) →
    s.dev.title.cur = none →
    g.t0 + g.k * s.dev.nat (titleK 0x0D) * 400 ≤ (s.ctx dt).t →
    Completes (.statusPoll dt slot status) s fun t => t.dev.nat (titleK 0x22) = (s.dev.nat (titleK 0x22) + 1) % 2 ^
      32) ∧
  (∀ (s : State) (dt : Nat) (slot status : Nat) (g : Flush),
    Quiet s →
    slot < 2 →
    (s.dev.tslot slot).flush = some g →
    g.step = 4 →
    (status % 2 ^ s.dev.nat (titleK 9)) &&& s.dev.nat (titleK 0x0C) = 0 →
    (status % 2 ^ s.dev.nat (titleK 9)) &&& s.dev.nat (titleK 0x0A) ≠ s.dev.nat (titleK 0x0B) &&& s.dev.nat (titleK
      0x0A) →
    g.k * s.dev.nat (titleK 0x0D) < 10000 →
    s.dev.title.cur = none →
    g.t0 + g.k * s.dev.nat (titleK 0x0D) * 400 ≤ (s.ctx dt).t →
    Completes (.statusPoll dt slot status) s fun t => (t.dev.tslot slot).flush = some
      { g with k := g.k + 1, extended := g.extended || decide (5000 ≤ g.k * s.dev.nat (titleK 0x0D)) }) ∧
  (∀ (s : State) (dt : Nat) (r : TReq),
    Quiet s →
    s.dev.title.cur = some (r, false) →
    r.kind ≠ .program →
    r.kind ≠ .writeEnable →
    r.kind ≠ .raw →
    s.dev.tprdyDue (s.ctx dt) = true →
    Completes (.tprdyTimeout dt) s fun t => t.dev.title.cur = some (r, true) ∧ t.dev.nat (titleK 0x1F) = (s.dev.nat
      (titleK 0x1F) + 1) % 2 ^ 32) ∧
  (∀ (s : State) (dt : Nat) (r : TReq),
    Quiet s →
    s.dev.title.cur = some (r, false) →
    r.kind ≠ .program →
    r.kind ≠ .writeEnable →
    r.kind ≠ .raw →
    s.dev.strobeDue (s.ctx dt) = true →
    Completes (.strobeTimeout dt) s fun t => t.dev.title.cur = some (r, true)) ∧
  (∀ (s : State) (dt : Nat) (o : Org) (slots : Bool) (v : Nat),
    Quiet s →
    Accepts s dt o (if slots then titleK 0x02 else titleK 0x01) v →
    Completes (.slotEnable dt o slots v) s fun t => t.dev.nat (if slots then titleK 0x02 else titleK 0x01) = v) ∧
  (∀ (s : State) (dt : Nat) (o : Org) (v i : Nat),
    Quiet s →
    i < 2 →
    bit v i = true →
    Accepts s dt o (titleK 0x20) v →
    Completes (.identify dt o v) s fun t => t.dev.slotSt i = 1) ∧
  (∀ (s : State) (dt : Nat) (o : Org) (v i : Nat),
    Quiet s →
    i < 2 →
    bit v i = true →
    (s.dev.tslot i).pb ≠ none →
    Accepts s dt o (titleK 0x16) v →
    Completes (.flush dt o v) s fun t => (t.dev.tslot i).flush ≠ none) ∧
  (∀ (s : State) (dt : Nat) (o : Org),
    Quiet s →
    Accepts s dt o (titleK 0x18) 1 →
    Completes (.rawExecute dt o) s fun t => t.dev.nat (titleK 0x18) = 1 ∨ t.dev.nat (titleK 0x18) = 2) ∧
  (∀ (s : State) (dt : Nat) (o : Org),
    Quiet s →
    Accepts s dt o (titleK 0x1B) 1 →
    Completes (.clearInterrupted dt o) s fun t => t.dev.raw (titleK 0x1A) = [] ∧ (t.dev.tslot 0).aon = none ∧
      (t.dev.tslot 1).aon = none)

/-- O12. The host port commands complete with their own effect. -/
def Obligations.Host_port_commands_complete : Prop :=
  (∀ (s : State) (dt : Nat) (hdr : List Byte),
    Quiet s →
    s.dev.hostOn = true →
    s.dev.host.op = 0 →
    hdr.length = 4 →
    fld hdr 1 1 = 255 - fld hdr 0 1 →
    fld hdr 2 2 = 0 →
    fld hdr 0 1 = 0xA1 ∨ fld hdr 0 1 = 0xA2 ∨ fld hdr 0 1 = 0xA3 →
    Completes (.hostHeader dt hdr) s fun t => t.dev.host.op = (if fld hdr 0 1 = 0xA1 then 2 else if fld hdr 0 1 =
      0xA2 then 3 else 6)) ∧
  (∀ (s : State) (dt : Nat) (hdr : List Byte),
    Quiet s →
    s.dev.hostOn = true →
    s.dev.host.op = 0 →
    fld hdr 1 1 ≠ 255 - fld hdr 0 1 →
    Completes (.hostHeader dt hdr) s fun t => t.dev.host.op = 5 ∧ t.dev.nat 0x7010_09 = (s.dev.nat 0x7010_09 + 1) %
      2 ^ 32) ∧
  (∀ (s : State) (dt : Nat) (bytes : List Byte),
    Quiet s →
    s.dev.hostOn = true →
    s.dev.host.op = 2 →
    s.dev.host.lowT = none →
    s.dev.host.mode = 0 →
    Completes (.write dt bytes) s fun t => t.dev.host.buf = s.dev.host.buf ++ bytes.take (4 * (bytes.length / 4))) ∧
  (∀ (s : State) (dt : Nat) (n : Nat),
    Quiet s →
    s.dev.hostOn = true →
    s.dev.host.op = 3 ∨ s.dev.host.op = 4 →
    Completes (.read dt n) s fun t => t.dev.host.op = 4) ∧
  (∀ (s : State) (dt : Nat) (n : Nat),
    Quiet s →
    s.dev.hostOn = true →
    s.dev.host.op = 3 →
    s.dev.host.cur = none →
    s.dev.itp.hostQ = [] →
    Completes (.read dt n) s fun t => .host (zeros (4 * n)) ∈ t.dev.out) ∧
  (∀ (s : State) (dt : Nat),
    Quiet s →
    s.dev.hostOn = true →
    s.dev.host.op = 6 →
    Completes (.status dt) s fun t => t.dev.host.op = 7 ∧ .host (le 4 s.dev.hostStatus) ∈ t.dev.out) ∧
  (∀ (s : State) (dt : Nat) (n : Nat),
    Quiet s →
    s.dev.hostRuns = true →
    s.dev.host.op ≠ 0 →
    Completes (.hpselNRise dt n) s fun t => t.dev.host.op = 0) ∧
  (∀ (s : State) (dt : Nat) (n : Nat),
    Quiet s →
    s.dev.hostIdle (s.ctx dt) = true →
    Completes (.hostPortTimeout dt n) s fun t => t.dev.host.op = 8 ∧ t.dev.nat 0x7010_0A = (s.dev.nat 0x7010_0A + 1)
      % 2 ^ 32) ∧
  (∀ (s : State) (dt : Nat),
    Quiet s →
    s.dev.hostOn = true →
    s.dev.host.mode ≠ 0 →
    s.dev.host.buf ≠ [] →
    s.dev.host.wordT + s.dev.nat 0x7010_03 * 400 ≤ (s.ctx dt).t →
    Completes (.partialFrameTimeout dt) s fun t => t.dev.host.buf = [] ∧ t.dev.nat 0x7010_07 = (s.dev.nat 0x7010_07
      + 1) % 2 ^ 32) ∧
  (∀ (s : State) (dt : Nat) (o : Org),
    Quiet s →
    Accepts s dt o 0x7010_0F 1 →
    Completes (.hostPortClearCounters dt o) s fun t => ∀ i ∈ List.range 9, t.dev.nat (0x7010_05 + i) = 0)

/-- O13. The cache, streaming, scheduler and sampling commands complete with their own effect. -/
def Obligations.Streaming_commands_complete : Prop :=
  (∀ (s : State) (dt : Nat) (o : Org) (v : Nat),
    Quiet s →
    Accepts s dt o (cacheK 0x01) v →
    Completes (.cacheEnable dt o v) s fun t => t.dev.nat (cacheK 0x01) = v) ∧
  (∀ (s : State) (dt : Nat) (o : Org) (v i : Nat),
    Quiet s →
    i < 2 →
    bit v i = true →
    Accepts s dt o (cacheK 0x0D) v →
    Completes (.invalidate dt o v) s fun t => ∀ e ∈ t.dev.cache.ents, e.tag.slot = i → s.dev.pinned e = true) ∧
  (∀ (s : State) (dt : Nat) (o : Org) (n : Nat),
    Quiet s →
    n < 32 →
    Accepts s dt o (strK n 0x01) 1 →
    Completes (.streamStart dt o n) s fun t => t.dev.streamSt n = 1 ∧ t.dev.nat (strK n 0x0B) = s.dev.nat (strK n
      0x05)) ∧
  (∀ (s : State) (dt : Nat) (o : Org) (n : Nat),
    Quiet s →
    n < 32 →
    s.dev.streamSt n ≠ 0 →
    Accepts s dt o (strK n 0x01) 2 →
    Completes (.streamStop dt o n) s fun t => t.dev.streamSt n = 4) ∧
  (∀ (s : State) (dt : Nat) (o : Org) (n v : Nat),
    Quiet s →
    n < 32 →
    Accepts s dt o (strK n 0x05) v →
    Completes (.destinationsWrite dt o n v) s fun t => t.dev.nat (strK n 0x05) = v) ∧
  (∀ (s : State) (dt : Nat) (o : Org) (n v : Nat),
    Quiet s →
    n < 32 →
    Accepts s dt o (strK n 0x1A) v →
    Completes (.rejoin dt o n v) s fun t => t.dev.nat (strK n 0x0C) = s.dev.nat (strK n 0x0C) - (v &&& s.dev.nat
      (strK n 0x0C)) ∧ t.dev.nat (strK n 0x0B) = s.dev.nat (strK n 0x0B) ||| (v &&& s.dev.nat (strK n 0x0C))) ∧
  (∀ (s : State) (dt : Nat) (n : Nat),
    Quiet s →
    n < 32 →
    s.dev.streamSt n = 1 →
    4096 ≤ (s.dev.stream n).hdr.length →
    s.dev.headerOk (s.dev.nat (strK n 2)) (s.dev.stream n).hdr = false →
    (s.dev.stream n).again = false →
    Completes (.headerCheck dt n) s fun t => (t.dev.stream n).hdr = [] ∧ (t.dev.stream n).again = true ∧
      t.dev.streamSt n = 1) ∧
  (∀ (s : State) (dt : Nat) (n : Nat),
    Quiet s →
    n < 32 →
    s.dev.streamSt n = 1 →
    4096 ≤ (s.dev.stream n).hdr.length →
    s.dev.headerOk (s.dev.nat (strK n 2)) (s.dev.stream n).hdr = true →
    s.dev.nat (strK n 3) < fld (s.dev.stream n).hdr 0x10 4 →
    s.dev.nat (strK n 4) = 0 ∨ s.dev.nat (strK n 3) + s.dev.nat (strK n 4) ≤ fld (s.dev.stream n).hdr 0x10 4 →
    Completes (.headerCheck dt n) s fun t => (t.dev.streamSt n = 2 ∨ t.dev.streamSt n = 3) ∧ t.dev.readPos n =
      s.dev.nat (strK n 3) ∧ (t.dev.stream n).n = fld (s.dev.stream n).hdr 0x10 4) ∧
  (∀ (s : State) (dt n mem m : Nat) (e : CEnt),
    Quiet s →
    n < 32 →
    s.dev.streamSt n = 2 →
    s.dev.readPos n < (s.dev.stream n).stop →
    s.dev.cache.entry (s.dev.blockTag n (s.dev.readPos n)) (s.dev.flag (strK n 7)) = some e →
    s.dev.leaderPos n = some m →
    s.dev.readPos n - m < s.dev.nat (strK n 0x19) →
    mem ≠ 2 →
    Completes (.streamEnqueue dt n mem) s fun t => t.dev.readPos n = s.dev.readPos n + 1 ∧ t.dev.nat (strK n 0x11) =
      (s.dev.nat (strK n 0x11) + 1) % 2 ^ 32) ∧
  (∀ (s : State) (dt n m : Nat) (e : CEnt),
    Quiet s →
    n < 32 →
    s.dev.streamSt n = 2 →
    s.dev.readPos n < (s.dev.stream n).stop →
    s.dev.cache.entry (s.dev.blockTag n (s.dev.readPos n)) (s.dev.flag (strK n 7)) = some e →
    s.dev.leaderPos n = some m →
    s.dev.readPos n - m < s.dev.nat (strK n 0x19) →
    Completes (.streamEnqueue dt n 2) s fun t => t.dev.readPos n = s.dev.readPos n ∧ ∀ y ∈ t.dev.cache.ents, y.idx ≠
      e.idx) ∧
  (∀ (s : State) (dt : Nat) (n : Nat),
    Quiet s →
    n < 32 →
    s.dev.streamSt n = 4 →
    s.dev.title.cur = none →
    Completes (.titleStreamStopped dt n) s fun t => t.dev.streamSt n = 0) ∧
  (∀ (s : State) (dt : Nat) (p : Nat) (k : Pkt) (bad again : List Nat),
    Quiet s →
    p < s.portCount →
    p < s.dev.ports.length →
    (s.entry.rxPacket p 6 1 { k with fieldA := 2 }).2 = true →
    fld k.payload 2 1 < 32 →
    1 ≤ fld k.payload 3 1 →
    fld k.payload 3 1 ≤ 16 →
    k.payload.length = 8 + 8 * fld k.payload 3 1 →
    Completes (.repairRequest dt p k bad again) s fun t => ∃ q ∈ (t.dev.port p).mgmt, q.ty = 6 ∧ q.fieldA = 3 ∧
      q.payload.take 4 = k.payload.take 4) ∧
  (∀ (s : State) (dt : Nat) (bad again : List Nat),
    Quiet s →
    s.dev.flag (cacheK 1) = true →
    s.dev.rst.fmOff = false →
    s.dev.videoDown = false →
    s.dev.cycleDue (s.ctx dt) = true →
    Completes (.cacheCycle dt bad again) s fun t => ∀ e ∈ t.dev.cache.ents, t.dev.pinned e = true ∨ ((s.ctx dt).t /
      400 < e.hit + t.dev.nat (cacheK 3) * 1000000 ∧ t.dev.slotIdent e.tag.slot = e.tag.ident)) ∧
  (∀ (s : State) (dt : Nat) (slot num mem : Nat) (page : Bool) (f : Fill1),
    Quiet s →
    slot < 2 →
    s.dev.cache.fills.find? (fun f => f.tag.slot = slot && f.tag.page = page && f.tag.num = num) = some f →
    f.waits = false →
    4096 ≤ f.data.length →
    Completes (.fillComplete dt slot page num mem) s fun t => t.dev.nat (cacheK 0x0C) = (s.dev.nat (cacheK 0x0C) +
      4096) % 2 ^ 64) ∧
  (∀ (s : State) (dt : Nat) (p : Nat) (q : QPkt) (r : List QPkt),
    Quiet s →
    p < s.portCount →
    s.dev.portSt p = 3 →
    (s.dev.port p).safe = q :: r →
    0 < (s.dev.port p).credit 3 →
    Completes (.packetEnd dt p) s fun t => .pkt p q.ty 3 (s.dev.packet p 3 (s.dev.port p).tx3 q) ∈ t.dev.out) ∧
  (∀ (s : State) (dt : Nat) (p : Nat),
    Quiet s →
    p < s.portCount →
    s.dev.portSt p = 3 →
    (s.dev.port p).safe = [] →
    (s.dev.port p).ctl = [] →
    (s.dev.port p).iso = [] →
    (s.dev.port p).mgmt = [] →
    (s.dev.port p).dueOf 1 = none →
    (s.dev.port p).dueOf 2 = none →
    (s.dev.port p).mayNew 2 = false →
    Completes (.packetEnd dt p) s fun t => .pkt p 0 0 (s.dev.packet p 0 0 ⟨0, 0, 0, [], (s.ctx dt).t⟩) ∈ t.dev.out) ∧
  (∀ (s : State) (dt : Nat),
    Quiet s →
    s.dev.sampleDue (s.ctx dt) = true →
    Completes (.queueSample dt) s fun t => t.dev.nat 0x7400_06 = (s.ctx dt).t) ∧
  (∀ (s : State) (dt : Nat) (o : Org),
    Quiet s →
    Accepts s dt o 0x7400_07 1 →
    Completes (.clearPeaks dt o) s fun t => t.dev.raw 0x7400_04 = [] ∧ t.dev.raw 0x7400_05 = [])

/-- O14. The bus, DMA, register, timer and trace commands complete with their own effect. -/
def Obligations.Bus_and_register_commands_complete : Prop :=
  (∀ (s : State) (dt master id addr len mem : Nat) (wd : Option (List Byte)) (user parity : Bool),
    Quiet s →
    s.dev.coreOn = true →
    1 ≤ master →
    master < 4 →
    id < idsOf master →
    len ≠ 0 →
    master ≠ 1 ∨ ¬(tgtNo ⟨master, id, addr % 2 ^ 32, len, wd, false, user && decide (master ≤ 1), s.dev.core.remap,
      [], false⟩ = 1 ∨ tgtNo ⟨master, id, addr % 2 ^ 32, len, wd, false, user && decide (master ≤ 1),
      s.dev.core.remap, [], false⟩ = 2) →
    Completes (.busRequest dt master id addr len wd user false parity mem) s fun t => ∃ r ∈ t.dev.core.issued ++
      t.dev.core.heldReqs, r.master = master ∧ r.id = id ∧ r.addr = addr % 2 ^ 32 ∧ r.len = len ∧ r.wdata = wd) ∧
  (∀ (s : State) (dt id addr len mem : Nat) (user parity : Bool),
    Quiet s →
    s.dev.coreOn = true →
    id < 4 →
    len ≠ 0 →
    busRoute ⟨1, id, addr % 2 ^ 32, len, none, false, user, s.dev.core.remap, [], false⟩ = .mem →
    tgtNo ⟨1, id, addr % 2 ^ 32, len, none, false, user, s.dev.core.remap, [], false⟩ = 1 ∨ tgtNo ⟨1, id, addr % 2 ^
      32, len, none, false, user, s.dev.core.remap, [], false⟩ = 2 →
    mem ≠ 2 →
    Completes (.busRequest dt 1 id addr len none user false parity mem) s fun t => .bus 1 id false (memRead
      s.dev.core.mem (memAddr (addr % 2 ^ 32)) len) ∈ t.dev.out) ∧
  (∀ (s : State) (dt id addr len mem : Nat) (b : List Byte) (user parity : Bool),
    Quiet s →
    s.dev.coreOn = true →
    id < 4 →
    len ≠ 0 →
    busRoute ⟨1, id, addr % 2 ^ 32, len, some b, false, user, s.dev.core.remap, [], false⟩ = .mem →
    tgtNo ⟨1, id, addr % 2 ^ 32, len, some b, false, user, s.dev.core.remap, [], false⟩ = 1 ∨ tgtNo ⟨1, id, addr % 2
      ^ 32, len, some b, false, user, s.dev.core.remap, [], false⟩ = 2 →
    Completes (.busRequest dt 1 id addr len (some b) user false parity mem) s fun t => t.dev.core.mem = memWrite
      s.dev.core.mem (memAddr (addr % 2 ^ 32)) (b.take len) ∧ .bus 1 id false [] ∈ t.dev.out) ∧
  (∀ (s : State) (dt id addr len mem : Nat) (wd : Option (List Byte)) (b : List Byte) (user parity : Bool),
    Quiet s →
    s.dev.coreOn = true →
    id < 2 →
    len ≠ 0 →
    s.dev.buffered (addr % 2 ^ 32) len = some b →
    Completes (.busRequest dt 0 id addr len wd user false parity mem) s fun t => .bus 0 id false b ∈ t.dev.out) ∧
  (∀ (s : State) (dt master id mem : Nat) (ext b : List Byte) (vacant : Bool) (r : BusReq),
    Quiet s →
    busRoute r = .mem →
    r.wdata = some b →
    s.dev.answers master id = some r →
    Completes (.busResponse dt master id ext mem vacant) s fun t => t.dev.core.mem = memWrite s.dev.core.mem
      (memAddr r.addr) (b.take r.len) ∧ .bus master id false [] ∈ t.dev.out) ∧
  (∀ (s : State) (dt master id mem : Nat) (ext : List Byte) (vacant : Bool) (r : BusReq),
    Quiet s →
    busRoute r = .mem →
    r.wdata = none →
    s.dev.answers master id = some r →
    mem ≠ 2 →
    Completes (.busResponse dt master id ext mem vacant) s fun t => .bus master id false (memRead s.dev.core.mem
      (memAddr r.addr) r.len) ∈ t.dev.out) ∧
  (∀ (s : State) (dt : Nat) (n v : Nat) (user : Bool),
    Quiet s →
    s.dev.coreOn = true →
    n < 8 →
    n < s.dev.core.dma.length →
    Completes (.dmaEnable dt n v user) s fun t => (t.dev.dmaCh n).st = 1 ∧ (t.dev.dmaCh n).ctl = setBit (v % 2 ^ 32)
      0 true % 64) ∧
  (∀ (s : State) (dt : Nat) (n v : Nat) (user : Bool),
    Quiet s →
    s.dev.coreOn = true →
    n < 8 →
    (s.dev.dmaCh n).st = 1 →
    Completes (.dmaDisable dt n v user) s fun t => (t.dev.dmaCh n).st = 2) ∧
  (∀ (s : State) (dt : Nat) (n m : Nat) (ext put : List Byte) (beat : Nat) (vacant : Bool),
    Quiet s →
    s.dev.coreOn = true →
    s.dev.dmaPick = some n →
    (s.dev.dmaCh n).loaded = true →
    bit (s.dev.dmaCh n).flags 0 = false →
    bit (s.dev.dmaCh n).flags 1 = false →
    m = min (s.dev.dmaCh n).burst (s.dev.dmaCh n).remain →
    m ≠ 0 →
    put = memRead s.dev.core.mem (memAddr (s.dev.dmaCh n).src) m →
    busRoute (s.dev.dmaReq n (s.dev.dmaCh n).src m none) = .mem →
    busRoute (s.dev.dmaReq n (s.dev.dmaCh n).dst m (some put)) = .mem →
    Completes (.dmaBurst dt ext 0 beat vacant) s fun t => t.dev.core.mem = memWrite s.dev.core.mem (memAddr
      (s.dev.dmaCh n).dst) put ∧ t.dev.core.dmaRr = n) ∧
  (∀ (s : State) (dt : Nat) (v : Nat) (user : Bool),
    Quiet s →
    s.dev.coreOn = true →
    bit v 0 = true →
    Completes (.bmxIcctl dt v user) s fun t => t.dev.core.icache = [] ∧ t.dev.core.fetchBuf = none) ∧
  (∀ (s : State) (dt : Nat) (v : Nat),
    Quiet s →
    s.dev.coreOn = true →
    Completes (.bmxRemap dt v false) s fun t => t.dev.core.remap = bit v 0) ∧
  (∀ (s : State) (dt : Nat) (v : Nat),
    Quiet s →
    s.dev.coreOn = true →
    bit v 8 = true →
    Completes (.bmxErrinfo dt v false) s fun t => bit t.dev.core.errInfo 8 = false) ∧
  (∀ (s : State) (dt : Nat) (a v : Nat) (user : Bool),
    Quiet s →
    s.dev.coreOn = true →
    a < 8 →
    Completes (.apwCtl dt none a 0 v user) s fun t => t.dev.nat (apK a 1) = bits v 0 1 ∧ t.dev.nat (apK a 5) = bits
      v 1 1 ∧ t.dev.nat (apK a 3) = bits v 8 5) ∧
  (∀ (s : State) (dt : Nat) (o : Org) (a sub v : Nat) (user : Bool),
    Quiet s →
    a < 8 →
    1 ≤ sub →
    sub ≤ 5 →
    Accepts s dt o (apK a sub) v →
    Completes (.apwCtl dt (some o) a sub v user) s fun t => t.dev.nat (apK a sub) = v) ∧
  (∀ (s : State) (dt : Nat) (n v x : Nat) (b user : Bool),
    Quiet s →
    s.dev.coreOn = true →
    n < 4 →
    s.dev.core.cmp[n]? = some x →
    s.dev.core.armed[n]? = some b →
    Completes (.tmrCmphi dt n v user) s fun t => t.dev.core.cmp[n]? = some (x % 2 ^ 32 + v % 2 ^ 32 * 2 ^ 32) ∧
      t.dev.core.armed[n]? = some true) ∧
  (∀ (s : State) (dt : Nat) (n x : Nat),
    Quiet s →
    n < 4 →
    s.dev.ticking = true →
    s.dev.core.armed[n]? = some true →
    s.dev.core.cmp[n]? = some x →
    x ≤ (s.ctx dt).t →
    Completes (.timer dt n) s fun t => t.dev.core.armed[n]? = some false ∧ t.dev.evc.raises[20 + n]? =
      (s.dev.evc.raises[20 + n]?).map fun k => (k + 1) % 2 ^ 32) ∧
  (∀ (s : State) (dt : Nat),
    Quiet s →
    s.dev.coreOn = true →
    Completes (.tmrMtimelo dt) s fun t => t.dev.core.latchHi = (s.ctx dt).t / 2 ^ 32 % 2 ^ 32 ∧
      t.dev.core.latchEpoch = s.dev.epoch ∧ .bus 1 0 false (le 4 ((s.ctx dt).t % 2 ^ 32)) ∈ t.dev.out) ∧
  (∀ (s : State) (dt : Nat) (v : Nat),
    Quiet s →
    s.dev.coreOn = true →
    s.dev.tracing = true →
    bit (s.dev.nat 0xA200_03) 3 = true →
    s.dev.trace.branches = [] →
    s.dev.nat 0xA200_02 ≠ 1 →
    s.dev.evc.mask = 0 →
    Completes (.trcMark dt v) s fun t => t.dev.trace.wptr = (s.dev.trace.wptr + 5) % 65536) ∧
  (∀ (s : State) (dt : Nat) (v : Nat) (user : Bool),
    Quiet s →
    s.dev.coreOn = true →
    Completes (.registerWrite dt 0x1020 v user) s fun t => t.dev.evc.mask = v % 2 ^ 32 % 16) ∧
  (∀ (s : State) (dt : Nat) (v : Nat),
    Quiet s →
    s.dev.coreOn = true →
    Completes (.registerWrite dt 0x2008 v false) s fun t => t.dev.core.mtimecmp = s.dev.core.mtimecmp / 2 ^ 32 * 2 ^
      32 + v % 2 ^ 32) ∧
  (∀ (s : State) (dt : Nat) (pc : Nat),
    Quiet s →
    s.dev.tracing = true →
    s.dev.nat 0xA200_04 ≤ s.dev.trace.since →
    bit (s.dev.nat 0xA200_03) 4 = false →
    s.dev.evc.mask = 0 →
    Completes (.traceSyncInterval dt [] pc) s fun t => t.dev.trace.since = 0 ∧ t.dev.trace.lastAddr = pc % 2 ^ 32) ∧
  (∀ (s : State) (dt : Nat) (n pc : Nat),
    Quiet s →
    s.dev.tracing = true →
    n ≠ 0 →
    s.dev.nat 0xA200_02 ≠ 1 →
    s.dev.evc.mask = 0 →
    Completes (.traceOverflow dt n pc) s fun t => t.dev.trace.ovf = s.dev.trace.ovf + n) ∧
  (∀ (s : State) (dt : Nat) (o : Org),
    Quiet s →
    s.dev.evc.mask = 0 →
    Accepts s dt o 0xA200_08 1 →
    Completes (.traceClear dt o) s fun t => t.dev.trace.wrapped = false ∧ t.dev.trace.ovf = 0 ∧
      t.dev.trace.buf.length ≤ 11)

/-- O15. The application, fault, debug and JTAG commands complete with their own effect. -/
def Obligations.Application_and_debug_commands_complete : Prop :=
  (∀ (s : State) (dt : Nat),
    Quiet s →
    s.dev.coreOn = true →
    Completes (.lockstepMismatch dt) s fun t => t.dev.rst.stage = .released ∧ t.dev.rst.scope = 2 ∧ t.dev.nat
      0x1040_01 = 6) ∧
  (∀ (s : State) (dt : Nat) (cause epc tval : Nat),
    Quiet s →
    s.dev.appActs = true →
    Completes (.applicationException dt cause epc tval) s fun t => t.dev.rst.stage = .released ∧ t.dev.rst.scope = 3
      ∧ t.dev.nat 0x1040_01 = 0x0B ∧ t.dev.nat 0xA000_08 = (s.dev.nat 0xA000_08 + 1) % 2 ^ 32 ∧ t.dev.raw 0xA000_07 =
      le 4 cause ++ le 4 epc ++ le 4 tval ++ le 4 (s.ctx dt).t) ∧
  (∀ (s : State) (dt : Nat),
    Quiet s →
    s.dev.coreOn = true →
    s.dev.core.halted = false →
    Completes (.agentException dt) s fun t => t.dev.rst.stage = .released ∧ t.dev.rst.scope = 2 ∧ t.dev.nat
      0x1040_01 = 8) ∧
  (∀ (s : State) (dt : Nat) (pc : Nat) (u : UserCtx) (r : List UserCtx),
    Quiet s →
    s.dev.appActs = true →
    s.dev.evc.mask = 0 →
    s.dev.core.ctxs = u :: r →
    Completes (.returnFromInterrupt dt pc) s fun t => t.dev.core.ctxs = r ∧ t.dev.core.pc = u.pc ∧ t.dev.core.x =
      u.x) ∧
  (∀ (s : State) (dt : Nat) (pc : Nat),
    Quiet s →
    s.dev.appActs = true →
    s.dev.evc.mask = 0 →
    Completes (.waitForInterrupt dt pc) s fun t => t.dev.core.waiting = true) ∧
  (∀ (s : State) (dt : Nat) (a7 pc : Nat),
    Quiet s →
    s.dev.appActs = true →
    a7 ≠ 0x4D42 →
    a7 ≠ 0x4D43 →
    a7 ≠ 0x4D44 →
    Completes (.unsupportedService dt a7 pc) s fun t => .ret 0x0D ∈ t.dev.out) ∧
  (∀ (s : State) (dt : Nat) (o : Org) (x : Obs) (y : Image),
    Quiet s →
    s.dev.nat 0xA000_01 = 5 →
    parseImage 5 (s.dev.raw 0xA000_06) = .inl y →
    s.dev.evc.mask = 0 →
    Accepts s dt o 0xA000_04 1 →
    x.busy = false →
    Completes (.applicationStart dt o x) s fun t => t.dev.nat 0xA000_05 = 2 ∧ t.dev.core.pc = y.load + y.entry ∧
      t.dev.core.priv = 0) ∧
  (∀ (s : State) (dt : Nat) (o : Org),
    Quiet s →
    s.dev.nat 0xA000_05 = 1 ∨ s.dev.nat 0xA000_05 = 2 →
    Accepts s dt o 0xA000_04 2 →
    Completes (.applicationStop dt o) s fun t => t.dev.nat 0xA000_05 = 3) ∧
  (∀ (s : State) (dt : Nat) (o : Org) (b : List Byte),
    Quiet s →
    AcceptsB s dt o 0xA000_06 b →
    Completes (.image dt o b) s fun t => t.dev.raw 0xA000_06 = b) ∧
  (∀ (s : State) (dt : Nat) (pc priv : Nat) (x : List Nat),
    Quiet s →
    s.dev.debugOn = true →
    s.dev.core.halted = false →
    Completes (.haltreq dt pc priv x) s fun t => t.dev.core.halted = true ∧ t.dev.core.dbg.dpc = pc % 2 ^ 32) ∧
  (∀ (s : State) (dt : Nat),
    Quiet s →
    s.dev.debugOn = true →
    s.dev.core.halted = true →
    s.dev.evc.mask = 0 →
    Completes (.resume dt) s fun t => t.dev.core.halted = false ∧ t.dev.core.pc = s.dev.core.dbg.dpc) ∧
  (∀ (s : State) (dt : Nat),
    Quiet s →
    s.dev.debugOn = true →
    s.dev.rst.stage = .up →
    Completes (.ndmreset dt) s fun t => t.dev.rst.stage = .released ∧ t.dev.rst.scope = 3 ∧ t.dev.nat 0x1040_01 =
      0x0C) ∧
  (∀ (s : State) (dt : Nat) (wd : Nat) (after : Option (List Nat)),
    Quiet s →
    s.dev.debugOn = true →
    s.dev.core.halted = true →
    s.dev.core.dbg.cmderr = 0 →
    wd / 2 ^ 24 % 256 = 0 →
    bit wd 17 = true →
    bits wd 20 3 = 2 →
    bit wd 16 = false →
    bit wd 18 = false →
    0x1001 ≤ bits wd 0 16 →
    bits wd 0 16 < 0x1020 →
    Completes (.abstractCommand dt wd after) s fun t => t.dev.core.dbg.data0 = (s.dev.core.x[bits wd 0 16 -
      0x1000]?).getD 0) ∧
  (∀ (s : State) (dt : Nat) (wd : Nat) (after : Option (List Nat)),
    Quiet s →
    s.dev.debugOn = true →
    s.dev.core.halted = true →
    s.dev.core.dbg.cmderr = 0 →
    wd / 2 ^ 24 % 256 = 0 →
    bit wd 17 = true →
    bits wd 20 3 = 2 →
    bit wd 16 = true →
    bit wd 18 = false →
    0x1001 ≤ bits wd 0 16 →
    bits wd 0 16 < 0x1020 →
    bits wd 0 16 - 0x1000 < s.dev.core.x.length →
    Completes (.abstractCommand dt wd after) s fun t => t.dev.core.x[bits wd 0 16 - 0x1000]? = some
      (s.dev.core.dbg.data0 % 2 ^ 32)) ∧
  (∀ (s : State) (dt size addr data mem : Nat) (ext : List Byte) (vacant : Bool),
    Quiet s →
    s.dev.debugOn = true →
    size = 1 ∨ size = 2 ∨ size = 4 →
    addr % size = 0 →
    busRoute ⟨3, 0, addr % 2 ^ 32, size, some (le size data), false, false, s.dev.core.remap, s.dev.core.apw, false⟩
      = .mem →
    Completes (.systemBusAccess dt true size addr data ext mem vacant) s fun t => t.dev.core.mem = memWrite
      s.dev.core.mem (memAddr (addr % 2 ^ 32)) (le size data)) ∧
  (∀ (s : State) (dt size addr data mem : Nat) (ext : List Byte) (vacant : Bool),
    Quiet s →
    s.dev.debugOn = true →
    size = 1 ∨ size = 2 ∨ size = 4 →
    addr % size = 0 →
    busRoute ⟨3, 0, addr % 2 ^ 32, size, none, false, false, s.dev.core.remap, s.dev.core.apw, false⟩ = .mem →
    mem ≠ 2 →
    Completes (.systemBusAccess dt false size addr data ext mem vacant) s fun t => t.dev.core.dbg.sbdata = unle
      (memRead s.dev.core.mem (memAddr (addr % 2 ^ 32)) size)) ∧
  (∀ (s : State) (dt : Nat) (n kind addr data pc priv : Nat) (x : List Nat),
    Quiet s →
    s.dev.coreOn = true →
    s.dev.debugOn = true →
    s.dev.core.halted = false →
    s.dev.trigMatch n kind addr data priv = true →
    bits (((s.dev.core.dbg.trigs[n]?).getD {}).tdata1) 12 4 = 1 →
    Completes (.trigger dt n kind addr data pc priv x) s fun t => t.dev.core.halted = true ∧ t.dev.core.dbg.dpc = pc
      % 2 ^ 32) ∧
  (∀ (s : State) (dt : Nat) (pc priv : Nat) (x : List Nat),
    Quiet s →
    s.dev.debugOn = true →
    s.dev.core.halted = true →
    Completes (.singleStep dt pc priv x) s fun t => t.dev.core.halted = true ∧ t.dev.core.dbg.dpc = pc % 2 ^ 32 ∧
      bits t.dev.core.dbg.dcsr 6 3 = 4) ∧
  (∀ (s : State) (dt : Nat),
    Quiet s →
    s.dev.tapOn = true →
    Completes (.idcode dt) s fun t => .jtag (idcode s.fuses.s2412) ∈ t.dev.out ∧ t.dev.core.dbg.ir = 1) ∧
  (∀ (s : State) (dt : Nat) (cap load : List Bool),
    Quiet s →
    s.dev.tapOn = true →
    Completes (.samplePreload dt cap load) s fun t => .jtag (cells cap) ∈ t.dev.out ∧ t.dev.core.dbg.ir = 2 ∧
      t.dev.core.dbg.scan = load) ∧
  (∀ (s : State) (dt : Nat) (load : List Bool),
    Quiet s →
    s.dev.tapOn = true →
    s.dev.core.dbg.extest = false →
    Completes (.extest dt load) s fun t => t.dev.core.dbg.extest = true ∧ t.dev.core.dbg.scan = load ∧
      t.dev.rst.stage = .inReset) ∧
  (∀ (s : State) (dt : Nat) (v : Nat),
    Quiet s →
    s.dev.tapOn = true →
    s.dev.rst.fuses.noDebug = true →
    Completes (.dtmcs dt v) s fun t => .jtag 0 ∈ t.dev.out ∧ t.dev.core.dbg.ir = 0x10) ∧
  (∀ (s : State) (dt : Nat) (v : Nat),
    Quiet s →
    s.dev.tapOn = true →
    s.dev.rst.fuses.noDebug = false →
    bit v 16 = true →
    Completes (.dtmcs dt v) s fun t => t.dev.core.dbg.dmiStat = 0 ∧ t.dev.core.dbg.ir = 0x10) ∧
  (∀ (s : State) (dt : Nat) (a v pc priv : Nat) (x : List Nat) (ext : List Byte) (after : Option (List Nat)),
    Quiet s →
    s.dev.tapOn = true →
    s.dev.debugOn = true →
    Completes (.dmi dt 1 a v pc priv x ext after) s fun t => .jtag (s.dev.dmRead (a % 128) * 4) ∈ t.dev.out) ∧
  (∀ (s : State) (dt : Nat) (v pc priv : Nat) (x : List Nat) (ext : List Byte) (after : Option (List Nat)),
    Quiet s →
    s.dev.tapOn = true →
    s.dev.debugOn = true →
    Completes (.dmi dt 2 4 v pc priv x ext after) s fun t => t.dev.core.dbg.data0 = v % 2 ^ 32 ∧ .jtag 0 ∈
      t.dev.out) ∧
  (∀ (s : State) (dt : Nat) (ir : Nat),
    Quiet s →
    s.dev.tapOn = true →
    ir % 32 ∉ [1, 2, 3, 0x10, 0x11] →
    Completes (.bypass dt ir) s fun t => t.dev.core.dbg.ir = ir % 32 ∧ .jtag 0 ∈ t.dev.out) ∧
  (∀ (s : State) (dt : Nat),
    Quiet s →
    s.dev.tapOn = true →
    Completes (.trstN dt) s fun t => t.dev.core.dbg.ir = 1)

/-- O16. The watchdog, event and log commands complete with their own effect. -/
def Obligations.Watchdog_event_log_commands_complete : Prop :=
  (∀ (s : State) (dt : Nat) (n v : Nat),
    Quiet s →
    s.dev.coreOn = true →
    n < 2 →
    (s.dev.wd n).lock = false →
    100 ≤ v →
    v ≤ 10000000 →
    Completes (.wdgCtl dt n 0x04 v false) s fun t => t.dev.nat (wdK n 0x02) = v) ∧
  (∀ (s : State) (dt : Nat) (n v : Nat),
    Quiet s →
    s.dev.coreOn = true →
    n < 2 →
    (s.dev.wd n).lock = false →
    v < 256 →
    bits v 5 3 = 0 ∨ bits v 2 3 < bits v 5 3 →
    Completes (.wdgCtl dt n 0x00 v false) s fun t => t.dev.nat (wdK n 0x03) = bits v 2 3 ∧ t.dev.nat (wdK n 0x04) =
      bits v 5 3) ∧
  (∀ (s : State) (dt : Nat) (v : Nat),
    Quiet s →
    s.dev.coreOn = true →
    s.dev.wd0.lock = false →
    Completes (.wdgCtl dt 0 0x14 v false) s fun t => t.dev.nat (wdK 0 0x05) = v % 2 ^ 32) ∧
  (∀ (s : State) (dt : Nat) (o : Org),
    Quiet s →
    Accepts s dt o (wdK 0 0x01) 1 →
    Completes (.wd0Start dt o) s fun t => t.dev.wd0.run = true ∧ t.dev.nat (wdK 0 0x01) = 1) ∧
  (∀ (s : State) (dt : Nat) (o : Org),
    Quiet s →
    Accepts s dt o (wdK 1 0x01) 1 →
    Completes (.wd1Start dt o) s fun t => t.dev.wd1.run = true) ∧
  (∀ (s : State) (dt : Nat),
    Quiet s →
    s.dev.listening = true →
    s.dev.wd0.run = true →
    s.dev.wd0.frozen = none →
    s.dev.wd0.set.p ≤ s.dev.wd0.count (s.ctx dt).t + 5 →
    s.dev.wd0.set.opens ≤ s.dev.wd0.count (s.ctx dt).t →
    s.dev.wd0.count (s.ctx dt).t ≤ s.dev.wd0.limit →
    Completes (.wd0Service dt) s fun t => t.dev.wd0.t0 = (s.ctx dt).t ∧ t.dev.nat (wdK 0 0x09) = (s.dev.nat (wdK 0
      0x09) + 1) % 2 ^ 32) ∧
  (∀ (s : State) (dt : Nat) (n : Nat),
    Quiet s →
    n < 2 →
    (s.dev.wd n).run = true →
    (s.dev.wd n).frozen = none →
    (s.dev.wd n).set.e ≠ 0 →
    (s.dev.wd n).warned = false →
    (s.dev.wd n).set.warnAt ≤ (s.dev.wd n).count (s.ctx dt).t →
    Completes (.earlyWarning dt n) s fun t => (t.dev.wd n).warned = true ∧ t.dev.nat (wdK n 0x0A) = (s.dev.nat (wdK
      n 0x0A) + 1) % 2 ^ 32) ∧
  (∀ (s : State) (dt : Nat) (pc priv : Nat),
    Quiet s →
    s.dev.wdDue (s.ctx dt) 0 = true →
    s.dev.wdDue (s.ctx dt) 1 = false →
    Completes (.watchdogExpired dt pc priv) s fun t => t.dev.nat 0x1040_01 = 5 ∧ t.dev.nat (wdK 0 0x0B) = (s.dev.nat
      (wdK 0 0x0B) + 1) % 2 ^ 32 ∧ t.dev.rst.stage = .released) ∧
  (∀ (s : State) (dt : Nat) (pc priv : Nat),
    Quiet s →
    s.dev.rst.stage = .up →
    s.dev.pwr.st = .run →
    s.dev.wdDue (s.ctx dt) 0 = false →
    s.dev.wdDue (s.ctx dt) 1 = true →
    Completes (.watchdogExpired dt pc priv) s fun t => t.dev.nat 0x1040_01 = 9 ∧ t.dev.nat (wdK 1 0x0B) = (s.dev.nat
      (wdK 1 0x0B) + 1) % 2 ^ 32 ∧ t.dev.rst.scope = 3) ∧
  (∀ (s : State) (dt : Nat) (o : Org) (n : Nat),
    Quiet s →
    n < 2 →
    Accepts s dt o (wdK n 0x0D) 1 →
    Completes (.clearEvidence dt o n) s fun t => t.dev.raw (wdK n 0x0C) = zeros 32) ∧
  (∀ (s : State) (dt : Nat) (k v : Nat),
    Quiet s →
    s.dev.coreOn = true →
    k < 3 →
    s.dev.nat 0x6300_06 ≠ 2 →
    Completes (.evcAck dt k v) s fun t => t.dev.evc.pend = s.dev.evc.pend - (s.dev.evc.pend &&& (v % 2 ^ 32 * 2 ^
      (32 * k)))) ∧
  (∀ (s : State) (dt : Nat) (o : Org),
    Quiet s →
    s.dev.nat 0x6300_06 ≠ 2 →
    Accepts s dt o 0x9200_07 1 →
    Completes (.eventClearCounters dt o) s fun t => t.dev.evc.raises = List.replicate 96 0 ∧ t.dev.nat 0x9200_04 =
      0) ∧
  (∀ (s : State) (dt : Nat) (m : EvMsg) (r : List EvMsg),
    Quiet s →
    s.dev.nat 0x6300_06 ≠ 2 →
    s.dev.log.fifo = m :: r →
    s.dev.writerTakes (s.ctx dt) = true →
    Completes (.logRecordCommit dt) s fun t => t.dev.log.fifo = r ∧ t.dev.log.next = seqNext s.dev.log.next) ∧
  (∀ (s : State) (dt : Nat) (o : Org) (x : Obs),
    Quiet s →
    s.dev.log.good ≠ [] →
    s.dev.newestCopy = none →
    x.bad < 2 →
    Accepts s dt o 0x9400_07 1 →
    x.busy = false →
    Completes (.copy dt o x) s fun t => t.dev.nat 0x9400_07 = 2 ∧ t.dev.slot0.recs = s.dev.log.good.drop
      (s.dev.log.good.length - 128) ∧ t.dev.slot0.seq = 1) ∧
  (∀ (s : State) (dt : Nat) (o : Org),
    Quiet s →
    Accepts s dt o 0x9400_0A 1 →
    Completes (.logClear dt o) s fun t => t.dev.log.recs = [] ∧ t.dev.log.next = s.dev.log.next)

/-- O17. The power manager commands complete with their own effect. -/
def Obligations.Power_commands_complete : Prop :=
  (∀ (s : State) (dt : Nat),
    Quiet s →
    s.dev.mayDoze = true →
    (s.dev.tslot 0).pb = none →
    (s.dev.tslot 1).pb = none →
    Completes (.dozeEntry dt) s fun t => t.dev.pwr.st = .doze ∧ t.dev.nat 0x8000_01 = 1 ∧ t.dev.nat 0x8000_0A =
      (s.dev.nat 0x8000_0A + 1) % 2 ^ 32) ∧
  (∀ (s : State) (dt : Nat),
    Quiet s →
    s.dev.pwr.st = .doze →
    Completes (.dozeExit dt) s fun t => t.dev.pwr.st = .run ∧ t.dev.nat 0x8000_01 = 0) ∧
  (∀ (s : State) (dt : Nat) (o : Org) (x : Obs),
    Quiet s →
    Accepts s dt o 0x8000_02 1 →
    x.busy = false →
    Completes (.standby dt o x) s fun t => t.dev.pwr.st = .standby ∧ t.dev.safety = 2 ∧ t.dev.nat 0x2000_01 = 3) ∧
  (∀ (s : State) (dt : Nat) (o : Org) (x : Obs),
    Quiet s →
    Accepts s dt o 0x8000_02 2 →
    x.busy = false →
    Completes (.hibernate dt o x) s fun t => t.dev.pwr.st = .hibernate ∨ (t.dev.pwr.st = .standby ∧ t.dev.pwr.hib =
      true)) ∧
  (∀ (s : State) (dt : Nat) (src us : Nat),
    Quiet s →
    s.dev.pwr.st = .standby →
    s.dev.pwr.seq = .none →
    s.dev.pwr.hib = false →
    s.dev.wakes src ≠ 0 →
    Completes (.standbyWake dt src us) s fun t => t.dev.pwr.st = .run ∧ t.dev.nat 0x8000_09 = s.dev.wakes src) ∧
  (∀ (s : State) (dt : Nat) (src slow : Nat),
    Quiet s →
    s.dev.pwr.st = .hibernate →
    src &&& s.dev.nat 0x8000_04 &&& 0x1001 ≠ 0 →
    Completes (.hibernateWake dt src slow) s fun t => t.dev.rst.stage = .released ∧ t.dev.nat 0x1040_01 = 4 ∧
      t.dev.nat 0x8000_09 = src &&& s.dev.nat 0x8000_04 &&& 0x1001) ∧
  (∀ (s : State) (dt : Nat) (slow : Nat),
    Quiet s →
    s.dev.pwr.st = .hibernate →
    bit (s.dev.nat 0x8000_04) 12 = true →
    s.dev.nat 0x8000_08 ≠ 0 →
    s.dev.nat 0x8000_08 * 400000000 ≤ 11851 * (slow + 1) →
    Completes (.wakeTimer dt slow) s fun t => t.dev.rst.stage = .released ∧ t.dev.nat 0x1040_01 = 4 ∧ t.dev.nat
      0x8000_09 = 0x1000) ∧
  (∀ (s : State) (dt : Nat) (o : Org),
    Quiet s →
    Accepts s dt o 0x8000_0C 1 →
    Completes (.powerUp dt o) s fun t => t.dev.nat 0x8000_0C = 1 ∨ t.dev.nat 0x8000_0C = 2) ∧
  (∀ (s : State) (dt : Nat) (o : Org),
    Quiet s →
    Accepts s dt o 0x8000_0C 2 →
    Completes (.powerDown dt o) s fun t => t.dev.nat 0x8000_0C = 3 ∨ t.dev.nat 0x8000_0C = 0) ∧
  (∀ (s : State) (dt : Nat) (r : Nat),
    Quiet s →
    r < 16 →
    r < s.dev.pwr.rails.length →
    (s.dev.rail r).pen = true →
    s.dev.railSt r = 1 →
    Completes (.pgGood dt r) s fun t => t.dev.railSt r = 2 ∧ (t.dev.rail r).pg = true) ∧
  (∀ (s : State) (dt : Nat),
    Quiet s →
    s.dev.pwr.seq = .up →
    s.dev.pwr.wait = .onDelay →
    (∀ j ∈ List.range 16, s.dev.pwr.step < j → s.dev.ups j = []) →
    s.dev.pwr.dueT ≤ (s.ctx dt).t →
    Completes (.onDelayEnd dt) s fun t => t.dev.nat 0x8000_0C = 2 ∧ t.dev.pwr.seq = .none) ∧
  (∀ (s : State) (dt : Nat),
    Quiet s →
    s.dev.pwr.wait = .offDelay →
    s.dev.pwr.seq = .down →
    (∀ j, j ≤ s.dev.pwr.step → s.dev.downs j = []) →
    s.dev.pwr.dueT ≤ (s.ctx dt).t →
    Completes (.offDelayEnd dt) s fun t => t.dev.nat 0x8000_0C = 0 ∧ t.dev.pwr.seq = .none) ∧
  (∀ (s : State) (dt : Nat),
    Quiet s →
    s.dev.pgLate (s.ctx dt) = true →
    s.dev.pwr.retried = false →
    Completes (.pgTimeout dt) s fun t => t.dev.pwr.retried = true ∧ t.dev.pwr.wait = .offDelay ∧ ∀ r ∈ s.dev.ups
      s.dev.pwr.step, (t.dev.rail r).pen = false) ∧
  (∀ (s : State) (dt : Nat),
    Quiet s →
    s.dev.pgLate (s.ctx dt) = true →
    s.dev.pwr.retried = true →
    Completes (.pgTimeout dt) s fun t => t.dev.nat 0x8000_0C = 4 ∧ t.dev.nat 0x8000_0D = s.dev.pwr.step) ∧
  (∀ (s : State) (dt : Nat) (r : Nat),
    Quiet s →
    r < 16 →
    s.dev.nat (railK r 6) ≠ 0 →
    s.dev.railSt r = 2 →
    s.dev.nat (railK r 7) = 0 →
    Completes (.railFault dt r) s fun t => (t.dev.rail r).pg = false ∧ t.dev.nat (railK r 0x14) = (s.dev.nat (railK
      r 0x14) + 1) % 2 ^ 32) ∧
  (∀ (s : State) (dt : Nat) (o : Org) (r : Nat),
    Quiet s →
    r < 16 →
    Accepts s dt o (railK r 0x13) 1 →
    Completes (.restart dt o r) s fun t => (t.dev.rail r).noPoll = false ∧ (t.dev.rail r).restartT = none ∧
      t.dev.railSt r ≠ 4) ∧
  (∀ (s : State) (dt : Nat) (n : Nat),
    Quiet s →
    n < 8 →
    n < s.dev.pwr.seats.length →
    s.dev.powered = true →
    s.dev.seatReady n = true →
    (∀ j, j < n → s.dev.seatReady j = false) →
    (∀ t0 ∈ s.dev.pwr.lastRise, t0 + s.dev.nat 0x8000_12 * 400000 ≤ (s.ctx dt).t) →
    Completes (.seatenRise dt n) s fun t => (t.dev.seat n).en = true ∧ t.dev.nat (seatK n 0x0A) = 2) ∧
  (∀ (s : State) (dt : Nat) (n : Nat),
    Quiet s →
    n < 8 →
    (s.dev.seat n).en = true →
    (s.dev.seat n).blank = true →
    (s.dev.seat n).riseT + (s.dev.seat n).set.blank * 400000 ≤ (s.ctx dt).t →
    Completes (.inrushBlankingEnd dt n) s fun t => (t.dev.seat n).blank = false) ∧
  (∀ (s : State) (dt n t0 : Nat),
    Quiet s →
    n < 8 →
    (s.dev.seat n).en = true →
    (s.dev.seat n).blank = false →
    (s.dev.seat n).overT = some t0 →
    t0 + (s.dev.seat n).set.trip * 400 ≤ (s.ctx dt).t →
    Completes (.seatFault dt n) s fun t => (t.dev.seat n).en = false ∧ t.dev.nat (seatK n 0x0A) = (if (s.dev.seat
      n).again && decide ((s.ctx dt).t ≤ (s.dev.seat n).riseT + 4000000000) then 4 else 3) ∧ t.dev.nat (seatK n 0x0C)
      = (s.dev.nat (seatK n 0x0C) + 1) % 2 ^ 32) ∧
  (∀ (s : State) (dt : Nat) (n : Nat),
    Quiet s →
    n < 8 →
    s.dev.nat (seatK n 0x0A) = 3 →
    (s.dev.seat n).tripT + (s.dev.seat n).set.retry * 400000 ≤ (s.ctx dt).t →
    Completes (.retryDelayEnd dt n) s fun t => t.dev.nat (seatK n 0x0A) = 1) ∧
  (∀ (s : State) (dt : Nat) (rd : List (Nat × Nat × Nat × Nat)) (r wd : Nat),
    Quiet s →
    r < 16 →
    s.dev.powered = true →
    s.dev.nat (railK r 0x0A) ≠ 0 →
    (s.dev.rail r).noPoll = false →
    s.dev.pwr.poll = [] →
    s.dev.pwr.pollT + s.dev.nat 0x8000_11 * 400000 ≤ (s.ctx dt).t →
    (∀ j ∈ List.range 3, ∃ y ∈ rd.find? (fun y => y.1 = r && y.2.1 = j), y.2.2.2 < 2) →
    (∃ y ∈ rd.find? (fun y => y.1 = r && y.2.1 = 2), y.2.2.1 = wd) →
    Completes (.pmbusPoll dt rd none) s fun t => t.dev.nat (railK r 0x12) = wd % 65536 ∧ t.dev.pwr.poll = [] ∧
      t.dev.pwr.pollT = (s.ctx dt).t) ∧
  (∀ (s : State) (dt : Nat) (rd : List (Nat × Nat × Nat)) (r wd e : Nat),
    Quiet s →
    r < 16 →
    s.dev.powered = true →
    s.dev.nat (railK r 0x0A) ≠ 0 →
    rd.find? (fun x => x.1 = r) = some (r, wd, e) →
    e < 2 →
    Completes (.pmbusAlert dt rd) s fun t => t.dev.nat (railK r 0x12) = wd % 65536) ∧
  (∀ (s : State) (dt mv errs : Nat) (rest : List (Nat × Nat × Nat × Nat)),
    Quiet s →
    s.dev.powered = true →
    s.dev.pwr.st = .run →
    s.dev.flag 0x8400_01 = true →
    s.dev.avsOk = true →
    (s.dev.rail (s.dev.nat 0x8400_02)).noPoll = false →
    s.dev.pwr.avsT + 400000 ≤ (s.ctx dt).t →
    Completes (.avsUpdate dt mv errs rest) s fun t => t.dev.nat 0x8400_05 = (clampInt (s.dev.int 0x8400_07)
      (s.dev.int 0x8400_08) mv).toNat ∧ t.dev.pwr.poll = [] ∧ t.dev.pwr.avsT = (s.ctx dt).t) ∧
  (∀ (s : State) (dt : Nat) (n code : Nat),
    Quiet s →
    n < 16 →
    n < s.dev.pwr.adc.length →
    s.dev.powered = true →
    s.dev.adcNext = some n →
    s.dev.pwr.adcT + 400 ≤ (s.ctx dt).t →
    Completes (.adcConversion dt n code) s fun t => (t.dev.adcCh n).raw = code % 4096 ∧ t.dev.pwr.adcAt = some n) ∧
  (∀ (s : State) (dt : Nat) (n : Nat),
    Quiet s →
    n < 7 →
    s.dev.ticking = true →
    bit s.dev.pwr.supOut n = false →
    s.dev.videoDown = false →
    Completes (.supplyOutOfRange dt n) s fun t => bit t.dev.pwr.supOut n = true ∧ (0x05, n) ∈ t.dev.saf.conds ∧
      t.dev.safety ≠ 1) ∧
  (∀ (s : State) (dt : Nat) (n : Nat),
    Quiet s →
    n < 7 →
    bit s.dev.pwr.supOut n = true →
    Completes (.supplyBackInWindow dt n) s fun t => bit t.dev.pwr.supOut n = false ∧ (0x05, n) ∉ t.dev.saf.conds) ∧
  (∀ (s : State) (dt : Nat) (n : Nat),
    Quiet s →
    n = 0 ∨ n = 4 →
    s.dev.pwr.st ≠ .hibernate →
    s.dev.rst.stage ≠ .off →
    Completes (.brownout dt n) s fun t => t.dev.rst.stage = .inReset ∧ t.dev.nat 0x1040_01 = 3) ∧
  (∀ (s : State) (dt : Nat),
    Quiet s →
    Completes (.brownout dt 6) s fun t => t.dev.rst.stage = .off ∧ t.dev.pwr.st = .off) ∧
  (∀ (s : State) (dt : Nat) (l again : List Int),
    Quiet s →
    s.dev.powered = true →
    l.length = 8 →
    (∀ i ∈ List.range 8, s.dev.outlier l i ((l[i]?).getD 0) = false) →
    s.dev.pwr.thT + 400000 ≤ (s.ctx dt).t →
    Completes (.thermalReading dt l again) s fun t => t.dev.raw 0x8500_04 = l.flatMap fun v => le 2 (toTwos 2 v)) ∧
  (∀ (s : State) (dt : Nat) (o : Org) (out : Bool) (v : Nat),
    Quiet s →
    Accepts s dt o (if out then 0x8000_14 else 0x8000_13) v →
    Completes (.gpioOutputWrite dt o out v) s fun t => t.dev.nat (if out then 0x8000_14 else 0x8000_13) = v) ∧
  (∀ (s : State) (dt : Nat) (g : Nat) (high : Bool),
    Quiet s →
    g < 16 →
    Completes (.gpioInput dt g high) s fun t => bit t.dev.pwr.gpioIn g = high)

/-- O18. The safety, reset, boot and fuse commands complete with their own effect. -/
def Obligations.Safety_and_reset_commands_complete : Prop :=
  (∀ (s : State) (dt : Nat),
    Quiet s →
    s.dev.ticking = true →
    s.dev.flag 0x9010_03 = true →
    (0x0B, 0) ∉ s.dev.saf.conds →
    Completes (.externalSafeRequest dt) s fun t => t.dev.saf.reqLow = true ∧ (0x0B, 0) ∈ t.dev.saf.conds ∧
      t.dev.safety ≠ 1) ∧
  (∀ (s : State) (dt : Nat),
    Quiet s →
    s.dev.ticking = true →
    Completes (.safeReqNHigh dt) s fun t => t.dev.saf.reqLow = false ∧ (0x0B, 0) ∉ t.dev.saf.conds) ∧
  (∀ (s : State) (dt : Nat) (o : Org),
    Quiet s →
    s.dev.safety ≠ 1 →
    s.dev.nat 0x9000_06 = 0 →
    s.dev.saf.detT ≠ some (s.ctx dt).t →
    s.dev.nat 0x9000_07 % 256 = 1 →
    s.dev.nat 0x9000_08 % 256 ≠ 2 →
    Accepts s dt o 0x9000_02 1 →
    Completes (.release dt o 1) s fun t => t.dev.safety = 1 ∧ t.dev.nat 0x9000_0A = 1 ∧ t.dev.saf.latchA = false ∧
      t.dev.saf.latchB = false) ∧
  (∀ (s : State) (dt : Nat),
    Quiet s →
    s.dev.rst.stage = .up →
    s.dev.ticking = true →
    s.dev.nat 0x9000_09 + s.dev.nat 0x9010_02 * 400000000 ≤ (s.ctx dt).t →
    Completes (.periodicSelfTest dt []) s fun t => t.dev.nat 0x9000_08 = 1 ∧ t.dev.nat 0x9000_09 = (s.ctx dt).t ∧
      t.dev.nat 0x9300_09 = (s.dev.nat 0x9300_09 + 1) % 2 ^ 32) ∧
  (∀ (s : State) (dt : Nat),
    Quiet s →
    s.dev.ticking = true →
    Completes (.shadowScan dt false) s fun t => t.dev.nat 0x9300_08 = (s.dev.nat 0x9300_08 + 1) % 2 ^ 32) ∧
  (∀ (s : State) (dt : Nat),
    Quiet s →
    s.dev.ticking = true →
    Completes (.shadowScan dt true) s fun t => t.dev.rst.stage = .released ∧ t.dev.nat 0x1040_01 = 8) ∧
  (∀ (s : State) (dt : Nat) (ms a b e : Nat) (bad ev : List Nat),
    Quiet s →
    s.dev.ticking = true →
    Completes (.patrolScrub dt ms a b e false false bad ev) s fun t => t.dev.nat 0x9300_06 = (s.dev.nat 0x9300_06 +
      1) % 2 ^ 32 ∧ t.dev.nat 0x9300_07 = max ms (s.dev.nat 0x9300_07) ∧ t.dev.nat 0x9300_05 = (s.dev.nat 0x9300_05 +
      a) % 2 ^ 32 ∧ t.dev.nat 0x9300_04 = (s.dev.nat 0x9300_04 + e) % 2 ^ 32) ∧
  (∀ (s : State) (dt : Nat),
    Quiet s →
    s.dev.ticking = true →
    Completes (.safeNReadback dt) s fun t => (0x0A, 0) ∈ t.dev.saf.conds ∧ t.dev.safety ≠ 1) ∧
  (∀ (s : State) (dt : Nat),
    Quiet s →
    s.dev.ticking = true →
    Completes (.collectorDisagreement dt) s fun t => (0x19, 0) ∈ t.dev.saf.conds ∧ t.dev.safety ≠ 1) ∧
  (∀ (s : State) (dt : Nat) (o : Org),
    Quiet s →
    Accepts s dt o 0x9300_0A 1 →
    Completes (.faultCountersClear dt o) s fun t => ∀ i ∈ List.range 8, t.dev.nat (0x9300_02 + i) = 0) ∧
  (∀ (s : State) (dt : Nat),
    Completes (.powerOn dt) s fun t => t.time = 0 ∧ t.fuses = s.fuses ∧ t.dev.bankA = s.dev.bankA ∧ t.dev.bankB =
      s.dev.bankB ∧ t.dev.rst.stage = State.reset.dev.rst.stage) ∧
  (∀ (s : State) (dt : Nat) (ns slow : Nat),
    Quiet s →
    10000 ≤ ns →
    s.dev.rst.stage ≠ .off →
    s.dev.rst.stage ≠ .inReset →
    Completes (.resetN dt ns slow) s fun t => t.dev.rst.stage = .released ∧ t.dev.rst.scope = 1 ∧ t.dev.nat
      0x1040_01 = 2) ∧
  (∀ (s : State) (dt : Nat) (o : Org),
    Quiet s →
    Accepts s dt o 0x1041_01 0x7C3A →
    Completes (.controlReset dt o) s fun t => t.dev.rst.stage = .released ∧ t.dev.rst.scope = 3 ∧ t.dev.nat
      0x1040_01 = 0x0A ∧ t.dev.rst.noApp = false) ∧
  (∀ (s : State) (dt : Nat) (o : Org),
    Quiet s →
    Accepts s dt o 0x1041_01 0x7C3B →
    Completes (.controlResetWithoutApplication dt o) s fun t => t.dev.rst.stage = .released ∧ t.dev.rst.scope = 3 ∧
      t.dev.nat 0x1040_01 = 0x0A ∧ t.dev.rst.noApp = true) ∧
  (∀ (s : State) (dt : Nat) (b : BootObs),
    Quiet s →
    s.dev.rst.stage = .released →
    s.dev.rst.scope = 3 →
    b.rom < 2 →
    Completes (.boot dt b) s fun t => t.dev.rst.stage = .up) ∧
  (∀ (s : State) (dt : Nat) (b : BootObs),
    Quiet s →
    s.dev.rst.stage = .released →
    s.dev.rst.scope ≠ 3 →
    b.fuse < 2 →
    b.rom < 2 →
    Completes (.boot dt b) s fun t => t.dev.rst.stage = .up) ∧
  (∀ (s : State) (dt : Nat) (o : Org) (x : Obs),
    Quiet s →
    Accepts s dt o 0x1041_02 0x7C3C →
    x.busy = false →
    Completes (.endHold dt o x) s fun t => t.dev.nat 0x1040_0A = 0) ∧
  (∀ (s : State) (dt : Nat) (o : Org) (b : List Byte) (x : Obs),
    Quiet s →
    x.bad < 2 →
    fld b 2 1 = 1 →
    AcceptsB s dt o 0x1041_03 b →
    x.busy = false →
    Completes (.fuseProgram dt o b x) s fun t => t.fuses.lock = true ∧ t.dev.nat 0x1041_04 = 2) ∧
  (∀ (s : State) (dt : Nat) (o : Org),
    Quiet s →
    Accepts s dt o 0x1040_0C 1 →
    Completes (.clearCounts dt o) s fun t => t.dev.rst.counts = List.replicate 16 0) ∧
  (∀ (s : State) (dt : Nat) (slow : Nat),
    Quiet s →
    s.dev.rst.stage = .inReset →
    s.dev.core.dbg.extest = false →
    Completes (.powerGood dt slow) s fun t => t.dev.rst.stage = .released)

/-- O19. A write to EVC_SWRAISE0 or 1, or of n to 0x9200.06, raises its software event (R762). -/
def Obligations.Software_events_raise : Prop :=
  (∀ (s : State) (dt : Nat) (v : Nat),
    Quiet s →
    s.dev.coreOn = true →
    94 < s.dev.evc.raises.length →
    94 < s.dev.evc.details.length →
    Completes (.evcSwraise0 dt v) s fun t => t.dev.evc.details[94]? = some (v % 2 ^ 32) ∧ t.dev.evc.raises[94]? =
      (s.dev.evc.raises[94]?).map fun k => (k + 1) % 2 ^ 32) ∧
  (∀ (s : State) (dt : Nat) (v : Nat),
    Quiet s →
    s.dev.coreOn = true →
    95 < s.dev.evc.raises.length →
    95 < s.dev.evc.details.length →
    Completes (.evcSwraise1 dt v) s fun t => t.dev.evc.details[95]? = some (v % 2 ^ 32) ∧ t.dev.evc.raises[95]? =
      (s.dev.evc.raises[95]?).map fun k => (k + 1) % 2 ^ 32) ∧
  (∀ (s : State) (dt : Nat) (o : Org) (v : Nat),
    Quiet s →
    v < 2 →
    95 < s.dev.evc.details.length →
    Accepts s dt o 0x9200_06 v →
    Completes (.softwareRaise dt o v) s fun t => (t.dev.evc.raises[94 + v]? = (s.dev.evc.raises[94 + v]?).map fun k
      => (k + 1) % 2 ^ 32) ∧ t.dev.evc.details[94 + v]? = some 0)

/-- O20. A watchdog service is two keys, accepted once the window is open (R746). -/
def Obligations.Watchdog_service : Prop :=
  (∀ (s : State) (dt : Nat) (n v : Nat),
    Quiet s →
    s.dev.coreOn = true →
    n < 2 →
    (s.dev.wd n).run = true →
    (s.dev.wd n).key1 = false →
    v % 2 ^ 32 = 0x3C5A →
    (s.dev.wd n).count (s.ctx dt).t ≤ (s.dev.wd n).limit →
    Completes (.wdgSvc dt n v false) s fun t => (t.dev.wd n).key1 = true) ∧
  (∀ (s : State) (dt : Nat) (n v : Nat),
    Quiet s →
    s.dev.coreOn = true →
    n < 2 →
    (s.dev.wd n).run = true →
    (s.dev.wd n).key1 = true →
    v % 2 ^ 32 = 0xC3A5 →
    (s.dev.wd n).set.opens ≤ (s.dev.wd n).count (s.ctx dt).t →
    (s.dev.wd n).count (s.ctx dt).t ≤ (s.dev.wd n).limit →
    Completes (.wdgSvc dt n v false) s fun t => (t.dev.wd n).t0 = (s.ctx dt).t ∧ (t.dev.wd n).key1 = false ∧
      t.dev.nat (wdK n 0x09) = (s.dev.nat (wdK n 0x09) + 1) % 2 ^ 32) ∧
  (∀ (s : State) (dt : Nat) (n v : Nat),
    Quiet s →
    s.dev.coreOn = true →
    n < 2 →
    (s.dev.wd n).run = true →
    (s.dev.wd n).key1 = true →
    v % 2 ^ 32 = 0xC3A5 →
    (s.dev.wd n).set.opens ≤ (s.dev.wd n).count (s.ctx dt).t →
    (s.dev.wdSet n).ok n = true →
    (s.dev.wd n).count (s.ctx dt).t ≤ (s.dev.wd n).limit →
    Completes (.wdgSvc dt n v false) s fun t => (t.dev.wd n).key1 = false ∧ (t.dev.wd n).count (s.ctx dt).t = 0 ∧
      (t.dev.wd n).set = s.dev.wdSet n) ∧
  (∀ (s : State) (dt : Nat) (n v : Nat),
    Quiet s →
    s.dev.coreOn = true →
    n < 2 →
    (s.dev.wd n).run = true →
    (s.dev.wd n).key1 = true →
    v % 2 ^ 32 = 0xC3A5 →
    (s.dev.wd n).count (s.ctx dt).t < (s.dev.wd n).set.opens →
    Completes (.wdgSvc dt n v false) s fun t => t.dev.nat (wdK n 0x0B) = (s.dev.nat (wdK n 0x0B) + 1) % 2 ^ 32)

/-- O21. The log sequence rises by 1 with each record, skips 0, starts at 1 and outlives resets (R764). -/
def Obligations.Log_sequence : Prop :=
  (∀ (l : Log) (ev flags epoch t : Nat) (body : List Byte), l.next < 2 ^ 32 →
    (l.commit ev flags epoch t body).recs.getLast? = some ⟨l.next, ev, flags, epoch, t, body, false⟩ ∧
      (l.commit ev flags epoch t body).next = if (l.next + 1) % 2 ^ 32 = 0 then 1 else (l.next + 1) % 2 ^ 32) ∧
  (∀ (s : State) (dt : Nat),
    Completes (.powerOn dt) s fun t => t.dev.log.next = 1) ∧
  (∀ (d : Dev) (c : Ctx), 1 ∉ d.rst.want → ∃ n, (d.takeReset c).log.next = seqNext^[n] d.log.next)

/-- O22. LOG_CLEAR empties the log and keeps pending entries, summaries and the sequence (R781). -/
def Obligations.Log_clear_empties_the_log : Prop :=
  (∀ (s : State) (dt : Nat) (o : Org),
    Quiet s →
    s.dev.nat 0x6300_06 ≠ 2 →
    Accepts s dt o 0x9400_0A 1 →
    Completes (.logClear dt o) s fun t => t.dev.log.recs = [] ∧ t.dev.log.fifo = (s.found dt o 0x9400_0A 1).log.fifo
      ∧ t.dev.log.ovr = (s.found dt o 0x9400_0A 1).log.ovr ∧ t.dev.log.next = (s.found dt o 0x9400_0A 1).log.next)

/-- O23. After any reset no event is pending, EVC_MASK is 0 and every source has its default route until boot step 4
  (R786). -/
def Obligations.Events_after_a_reset : Prop :=
  (∀ (d : Dev) (c : Ctx), d.rst.want ≠ [] →
    (d.rst.stage = .up ∨ (d.rst.stage = .released ∧ d.rst.scope = 3) ∨ ∃ w ∈ d.rst.want, w ≤ 4) →
    let e := d.takeReset c
    e.evc.pend = 0 ∧ e.evc.mask = 0 ∧
      ∀ ev, ev < 96 → e.route ev = if ev = 15 ∨ (20 ≤ ev ∧ ev ≤ 23) then 0 else 0x18) ∧
  (∀ (s : State) (dt : Nat) (b : BootObs),
    Quiet s →
    s.dev.rst.stage = .released →
    s.dev.rst.scope = 3 →
    b.rom < 2 →
    Completes (.boot dt b) s fun t => t.dev.evc.routes = t.dev.raw 0x9200_01)

/-- O24. Sources that act together give one reset of the widest scope, its lowest code recorded and every source
  counted (R889). -/
def Obligations.Simultaneous_reset_sources : Prop :=
  (∀ (d : Dev) (c : Ctx) (w : Nat) (ws : List Nat), d.rst.want = w :: ws → 1 ∉ d.rst.want →
    let m := ws.foldl min w
    let e := d.takeReset c
    ¬ (9 ≤ m ∧ d.rst.stage = .released ∧ d.rst.scope < 3) →
    ¬ (5 ≤ m ∧ (d.rst.stage = .dead ∨ d.rst.stage = .inReset ∨ d.rst.stage = .off)) →
    m ∈ d.rst.want ∧ (∀ x ∈ d.rst.want, m ≤ x ∧ scopeOf m ≤ scopeOf x) ∧ e.nat 0x1040_01 = m ∧ e.nat 0x1040_02 = scopeOf m ∧
      e.rst.scope = scopeOf m ∧
      e.rst.counts = (w :: ws).foldl (fun l x => modifyAt (fun n => (n + 1) % 2 ^ 32) x l) d.rst.counts)

/-- O25. A control reset and DOZE leave every channel, galley, claim and counter unchanged (R447). -/
def Obligations.Capture_outlives_control_reset_and_doze : Prop :=
  (∀ (s : State) (dt : Nat) (o : Org),
    Quiet s →
    Accepts s dt o 0x1041_01 0x7C3A →
    Completes (.controlReset dt o) s fun t => t.dev.chans = s.dev.chans ∧ t.dev.obj.filter (fun p => 0x4000 ≤ p.1 /
      256 && p.1 / 256 < 0x4018) = s.dev.obj.filter (fun p => 0x4000 ≤ p.1 / 256 && p.1 / 256 < 0x4018)) ∧
  (∀ (s : State) (dt : Nat) (o : Org),
    Quiet s →
    Accepts s dt o 0x1041_01 0x7C3B →
    Completes (.controlResetWithoutApplication dt o) s fun t => t.dev.chans = s.dev.chans ∧ t.dev.obj.filter (fun p
      => 0x4000 ≤ p.1 / 256 && p.1 / 256 < 0x4018) = s.dev.obj.filter (fun p => 0x4000 ≤ p.1 / 256 && p.1 / 256 <
      0x4018)) ∧
  (∀ (s : State) (dt : Nat),
    Quiet s →
    s.dev.mayDoze = true →
    Completes (.dozeEntry dt) s fun t => t.dev.chans = s.dev.chans ∧ t.dev.obj.filter (fun p => 0x4000 ≤ p.1 / 256
      && p.1 / 256 < 0x4018) = s.dev.obj.filter (fun p => 0x4000 ≤ p.1 / 256 && p.1 / 256 < 0x4018)) ∧
  (∀ (s : State) (dt : Nat),
    Quiet s →
    s.dev.pwr.st = .doze →
    Completes (.dozeExit dt) s fun t => t.dev.chans = s.dev.chans ∧ t.dev.obj.filter (fun p => 0x4000 ≤ p.1 / 256 &&
      p.1 / 256 < 0x4018) = s.dev.obj.filter (fun p => 0x4000 ≤ p.1 / 256 && p.1 / 256 < 0x4018))

/-- O26. Automatic selection takes the qualified reference of lowest quality value, then priority, then number (R187,
  R188). -/
def Obligations.Automatic_reference_choice : Prop :=
  (∀ (d : Dev), d.nat 0x2110_01 = 1 →
    let ok := fun (r : Nat) => r < 8 ∧ r ≠ 3 ∧ d.refSt r = 4 ∧ d.effQuality r ≠ 15 ∧ d.effQuality r ≤ 15
    let pr := fun (r : Nat) => d.nat (key 0x2100 r 0x02)
    (∀ r, d.choose = some r ↔ ok r ∧ ∀ q, ok q → q ≠ r → d.effQuality r < d.effQuality q ∨
        (d.effQuality r = d.effQuality q ∧ (pr r < pr q ∨ (pr r = pr q ∧ r < q)))) ∧
      (d.choose = none ↔ ∀ q, ¬ ok q))

/-- O27. A sample that arrives while a slew is in progress replaces the slew target; the offset goes on from where it
  is (R157). -/
def Obligations.New_sample_replaces_the_slew_target : Prop :=
  (∀ (d : Dev) (c : Ctx) (old x : Int) (e : Nat), d.clk.target = some old → d.clk.seen = true → e = d.nat 0x1050_0F →
    x ≠ d.offset → (x - d.offset).natAbs ≤ d.nat 0x1050_04 * 400 →
    (d.takeSample c x e).clk.target = some x ∧ (d.takeSample c x e).offset = d.offset ∧
      (d.takeSample c x e).clk.lastMove = d.clk.lastMove)

/-- O28. A snapshot that fails validation is not applied, and the last consistent set stays in force (R241). -/
def Obligations.Invalid_snapshot_is_held : Prop :=
  (∀ (s : State) (dt : Nat) (o : Org) (y : Nat),
    Quiet s →
    y < 4 →
    y < s.dev.syns.length →
    26 < s.dev.evc.raises.length →
    s.dev.synValid y (s.dev.shadowSet y) = false →
    (s.dev.syn y).held = false →
    Accepts s dt o (synK y 0x09) 1 →
    Completes (.apply dt o y) s fun t => (t.dev.syn y).act = (s.dev.syn y).act ∧ (t.dev.syn y).armed = (s.dev.syn
      y).armed ∧ (t.dev.syn y).held = true ∧ t.dev.nat (synK y 0x09) = 4 ∧ (t.dev.evc.raises[26]? = ((s.found dt o
      (synK y 0x09) 1).evc.raises[26]?).map fun n => (n + 1) % 2 ^ 32)) ∧
  (∀ (s : State) (dt : Nat) (o : Org) (y : Nat),
    Quiet s →
    y < 4 →
    y < s.dev.syns.length →
    s.dev.synValid y (s.dev.shadowSet y) = false →
    (s.dev.syn y).held = true →
    Accepts s dt o (synK y 0x09) 1 →
    Completes (.apply dt o y) s fun t => (t.dev.syn y).act = (s.dev.syn y).act ∧ (t.dev.syn y).armed = (s.dev.syn
      y).armed ∧ t.dev.nat (synK y 0x09) = 4 ∧ t.dev.evc.raises[26]? = (s.found dt o (synK y 0x09) 1).evc.raises[26]?)

/-- O29. A host frame with a bad CRC, a length above 64 or a non-zero reserved field is discarded and counted (R100).
  -/
def Obligations.Bad_host_frames_are_discarded : Prop :=
  (∀ (s : State) (dt : Nat) (x : Obs) (b : List Byte) (r : List (List Byte)),
    Quiet s →
    s.dev.host.frames = b :: r →
    s.dev.listening = true →
    s.dev.hostOn = true →
    2 ^ 29 ≤ fld b 0 4 ∨ 64 < fld b 4 2 ∨ fld b 6 2 ≠ 0 ∨ fld b (8 + fld b 4 2) 4 ≠ crc32c (b.take (8 + fld b 4 2))
      →
    x.busy = false →
    Completes (.hostFrame dt x) s fun t => t.dev.host.frames = r ∧ t.dev.nat 0x1010_0B = (s.dev.nat 0x1010_0B + 1) %
      2 ^ 32 ∧ t.dev.itp.resp = s.dev.itp.resp ∧ t.dev.itp.segs = s.dev.itp.segs ∧ t.dev.itp.staged =
      s.dev.itp.staged)

/-- O30. An identifier of all zeros or all ones makes the slot ABSENT; else the fused allow-list decides (R571). -/
def Obligations.Cartridge_identifier_decides_the_slot : Prop :=
  (∀ (s : State) (dt : Nat) (r : TReq) (data : List Byte) (stalls : Nat),
    Quiet s →
    s.dev.title.cur = some (r, false) →
    r.kind = .ident →
    r.slot < 2 →
    r.slot < s.dev.title.slots.length →
    (s.dev.tslot r.slot).ident = [data] →
    (s.dev.tslot r.slot).closing = false →
    s.dev.powered = true →
    data.length = 8 →
    s.dev.titleTxnDue (s.ctx dt) = true →
    s.dev.slotSt r.slot = 1 →
    Completes (.titleTransactionEnd dt data stalls) s fun t => t.dev.slotSt r.slot = (if unle data = 0 ∨ unle data =
      2 ^ 64 - 1 then 4 else if s.dev.rst.fuses.allow = [] ∨ unle data ∈ s.dev.rst.fuses.allow then 2 else 3))

/-- O31. A block with a rate code above 6, an n outside 1 to 32 or a wrong length is discarded and counted (R547). -/
def Obligations.Bad_audio_blocks_are_discarded : Prop :=
  (∀ (s : State) (dt : Nat) (p ch : Nat) (k : Pkt) (ppb : Int),
    Quiet s →
    p < s.portCount →
    (s.entry.rxPacket p 4 0 k).2 = true →
    s.dev.boundChan (s.ctx dt) p = some ch →
    s.dev.flag (capAudK ch 0x01) = true →
    6 < fld k.payload 0 1 ∨ fld k.payload 2 1 = 0 ∨ 32 < fld k.payload 2 1 ∨ k.payload.length ≠ 16 + 16 * fld
      k.payload 2 1 →
    s.dev.nat 0x6300_06 ≠ 2 →
    Completes (.audioBlock dt p k ppb) s fun t => t.dev.nat (capAudK ch 0x09) = (s.dev.nat (capAudK ch 0x09) + 1) %
      2 ^ 32 ∧ t.dev.audio = s.dev.audio ∧ t.dev.nat (capAudK ch 0x06) = s.dev.nat (capAudK ch 0x06))

/-- O32. An invalid folio opens no frame and is counted (R408). -/
def Obligations.Invalid_folio_opens_no_frame : Prop :=
  (∀ (s : State) (dt : Nat) (p ch : Nat) (k : Pkt),
    Quiet s →
    p < s.portCount →
    ch < s.dev.chans.length →
    (s.entry.rxPacket p 2 0 k).2 = true →
    s.dev.boundChan (s.ctx dt) p = some ch →
    (parseFolio k.payload).w = 0 ∨ (parseFolio k.payload).h = 0 ∨ (parseFolio k.payload).total = 0 ∨ (parseFolio
      k.payload).den = 0 ∨ (parseFolio k.payload).total < (parseFolio k.payload).h ∨ 960 < fld k.payload 30 2 →
    Completes (.folio dt p k) s fun t => t.dev.nat (chanK ch 0x1C) = (s.dev.nat (chanK ch 0x1C) + 1) % 2 ^ 32 ∧
      (t.dev.chan ch).writing = none) ∧
  (∀ (s : State) (dt : Nat) (p ch : Nat) (k : Pkt),
    Quiet s →
    p < s.portCount →
    (s.entry.rxPacket p 2 0 k).2 = true →
    s.dev.boundChan (s.ctx dt) p = some ch →
    (parseFolio k.payload).w ≠ 0 →
    (parseFolio k.payload).h ≠ 0 →
    (parseFolio k.payload).den ≠ 0 →
    (parseFolio k.payload).h ≤ (parseFolio k.payload).total →
    fld k.payload 30 2 ≤ 960 →
    s.dev.folioFits ch (parseFolio k.payload) = true →
    Completes (.folio dt p k) s fun t => t.dev.nat (chanK ch 0x1C) = s.dev.nat (chanK ch 0x1C))

/-- O33. A step runs exec on the command at the front of the queue, with the rest of the queue. -/
def Obligations.Queue_front_runs : Prop :=
  (∀ (i : Instr) (rest : List Instr) (s : State), step { s with pending := i :: rest } = exec i { s with pending := rest }) ∧
  (∀ s : State, s.pending = [] → step s = .next s)

/-- O34. No command changes the queue of waiting commands. -/
def Obligations.Commands_leave_the_queue : Prop :=
  (∀ (i : Instr) (s t : State), exec i s = .next t → t.pending = s.pending ∧ t.seed = s.seed + 1)

/-- O35. Every well-formed command answers a next state on the S2424, and a command stops only where the variant lacks
  its instance. -/
def Obligations.Well_formed_commands_complete_on_the_S2424 : Prop :=
  (∀ (i : Instr) (s : State), (∃ t, exec i s = .next t) ∨ exec i s = .fault .absentUnit) ∧
  (∀ (i : Instr) (s : State), i.wf = true → s.fuses.s2412 = false → ∃ t, exec i s = .next t)

/-- O36. The machine right after reset meets the invariant of a settled, safe machine. -/
def Obligations.Reset_is_a_safe_machine : Prop :=
  (State.reset.dev.Settled ∧ State.reset.dev.SafeOutputs ∧ State.reset.dev.GatedOutputs)

/-- O37. Every step leaves a settled machine whose SAFE_N is high only in NORMAL with both latches clear, and whose
  gated outputs stand still in the safe state. -/
def Obligations.Steps_keep_the_machine_safe : Prop :=
  (∀ s t : State, s.dev.Settled ∧ s.dev.SafeOutputs ∧ s.dev.GatedOutputs → step s = .next t →
    t.dev.Settled ∧ t.dev.SafeOutputs ∧ t.dev.GatedOutputs) ∧
  (∀ (i : Instr) (s t : State), exec i s = .next t → t.dev.Settled ∧ t.dev.SafeOutputs ∧ t.dev.GatedOutputs)

/-- O38. Local time never runs backward but for POWER_ON, which starts it again at 0. -/
def Obligations.Local_time_never_runs_back : Prop :=
  (∀ (i : Instr) (s t : State), (∀ dt, i ≠ .powerOn dt) → exec i s = .next t → s.time ≤ t.time) ∧
  (∀ (dt : Nat) (s : State), Completes (.powerOn dt) s fun t => t.time = 0) ∧
  (∀ (dt : Nat) (s : State), Quiet s → Completes (.slewStep dt) s fun t => t.dev.itp.quoin = s.dev.itp.quoin)

/-- O39. A blown fuse stays blown, whatever command runs. -/
def Obligations.Fuses_only_blow : Prop :=
  (∀ (i : Instr) (s t : State), exec i s = .next t → s.fuses.le t.fuses)

/-- O40. What the power-on reset leaves. -/
def Obligations.Power_on_state : Prop :=
  (State.reset.time = 0 ∧ State.reset.dev.epoch = 0 ∧ State.reset.dev.nat 0x1040_01 = 1 ∧ State.reset.dev.nat 0x1040_02 = 0 ∧
    State.reset.dev.rst.hist = [⟨1, 0, false, 0, 0⟩] ∧ State.reset.dev.safety = 0 ∧ State.reset.dev.saf.latchA = true ∧
    State.reset.dev.saf.latchB = true ∧ State.reset.dev.pins.safeN = false ∧ State.reset.dev.nat 0x9000_03 = 0x1B ∧
    State.reset.dev.pins.pen = 0 ∧ State.reset.dev.pins.seaten = 0 ∧ State.reset.dev.pins.syn = 0 ∧
    (∀ p ∈ List.range 32, State.reset.dev.nat (portK p 0x07) = 0) ∧ (∀ y ∈ List.range 4, State.reset.dev.synSt y = 0) ∧
    State.reset.dev.wd0.run = false ∧ State.reset.dev.wd1.run = false ∧ State.reset.dev.itp.quoin.st = .none ∧
    State.reset.dev.itp.staged = []) ∧
  (∀ (dt : Nat) (s : State), Completes (.powerOn dt) s fun t =>
    t.time = 0 ∧ t.fuses = s.fuses ∧ t.dev.bankA = s.dev.bankA ∧ t.dev.bankB = s.dev.bankB ∧ t.dev.slot0 = s.dev.slot0 ∧
      t.dev.slot1 = s.dev.slot1 ∧ t.dev.safety = 0 ∧ t.dev.pins.safeN = false ∧ t.dev.epoch = 0 ∧
      t.dev.core.mem = [] ∧ t.dev.log.recs = [] ∧ t.dev.rst.hist = [⟨1, 0, false, 0, 0⟩])

/-- O41. A write to a staged object enters the staged set and leaves the active value, and an armed quoin, as they are
  (R38, R113). -/
def Obligations.Staged_writes : Prop :=
  (∀ (s : State) (dt : Nat) (f : Req) (x : Obs) (base n : Nat) (r : Obj) (v : Val),
    Quiet s →
    f.dest ≠ 255 →
    (s.taken dt 0x03 f).2 = true →
    (s.taken dt 0x03 f).1.stored (s.ctx dt) ((s.taken dt 0x03 f).1.orgOf f) (canId f.prio 0x03 f.dest f.src f.tag)
      f.data = none →
    headerCodes f.data = [] →
    (parseHdr f.data).len ≤ 56 →
    8 + (parseHdr f.data).len ≤ f.data.length →
    (s.taken dt 0x03 f).1.writeCodes (s.ctx dt) (parseHdr f.data).key (parseHdr f.data).ty ((f.data.drop 8).take
      (parseHdr f.data).len) false = [] →
    lookup (s.ctx dt).s12 (parseHdr f.data).key = .row base n r →
    r.acc = .rws →
    decodeVal r.ty ((f.data.drop 8).take (parseHdr f.data).len) = some v →
    x.busy = false →
    Completes (.writeReq dt f x) s fun t => (t.dev.itp.staged.filter fun e => e.key = key base n r.sub).map (fun e
      => e.val) = [v] ∧ t.dev.get (key base n r.sub) = s.dev.get (key base n r.sub) ∧ t.dev.itp.quoin =
      s.dev.itp.quoin)

/-- O42. Writes to RO objects, reads of WO objects and writes to RWD objects of an enabled block are refused with
  0x0003 (R34). -/
def Obligations.Access_classes_refuse : Prop :=
  (∀ (d : Dev) (c : Ctx) (k ty base n : Nat) (b : List Byte) (o : Obj) (mine : Bool), lookup c.s12 k = .row base n o →
    o.acc = .ro ∨ (o.acc = .rwd ∧ d.blockOn base n = true) → 0x0003 ∈ d.writeCodes c k ty b mine) ∧
  (∀ (d : Dev) (c : Ctx) (k ty base n : Nat) (o : Obj) (staged : Bool), lookup c.s12 k = .row base n o → o.acc = .wo →
    ∃ l, d.readObj c k ty staged = .inl l ∧ 0x0003 ∈ l)

/-- O43. A route entry names an input, follows a window's channel, or is silence; any other value is refused (R510,
  R511). -/
def Obligations.Route_entries : Prop :=
  (∀ (d : Dev) (c : Ctx) (n : Nat) (b : List Byte), c.s12 = false →
    d.checkAudio c 0x6100 n 0x03 (.bytes b) =
      if ∀ i ∈ List.range 16, fld b (2 * i) 2 ≤ 0x01BF ∨ (0x8000 ≤ fld b (2 * i) 2 ∧ fld b (2 * i) 2 ≤ 0x83FF) ∨ fld b (2 * i) 2 = 0xFFFF
      then [] else [0x0005]) ∧
  (∀ (d : Dev) (r w k : Nat), w < 64 → k < 16 →
    (r ≤ 0x01BF → d.routeInput r = r) ∧ d.routeInput 0xFFFF = 0xFFFF ∧
      d.routeInput (0x8000 + 16 * w + k) =
        if d.nat (winK w 0x1A) = 1 ∧ d.nat (winK w 0x03) < 24 then 16 * d.nat (winK w 0x03) + k else 0xFFFF)

/-- O44. A bus write stores its bytes at its address and changes no other byte; a read changes none. -/
def Obligations.Bus_accesses_store_their_own_bytes : Prop :=
  (∀ (s : State) (dt master id mem : Nat) (ext b : List Byte) (vacant : Bool) (r : BusReq),
    Quiet s →
    busRoute r = .mem →
    r.wdata = some b →
    s.dev.answers master id = some r →
    Completes (.busResponse dt master id ext mem vacant) s fun t => ∀ a, memGet t.dev.core.mem a = if memAddr r.addr
      ≤ a ∧ a < memAddr r.addr + (b.take r.len).length then (b[a - memAddr r.addr]?).getD 0#8 else memGet
      s.dev.core.mem a) ∧
  (∀ (s : State) (dt size addr data mem : Nat) (ext : List Byte) (vacant : Bool),
    Quiet s →
    s.dev.debugOn = true →
    size = 1 ∨ size = 2 ∨ size = 4 →
    addr % size = 0 →
    busRoute ⟨3, 0, addr % 2 ^ 32, size, some (le size data), false, false, s.dev.core.remap, s.dev.core.apw, false⟩
      = .mem →
    Completes (.systemBusAccess dt true size addr data ext mem vacant) s fun t => ∀ a, memGet t.dev.core.mem a = if
      memAddr (addr % 2 ^ 32) ≤ a ∧ a < memAddr (addr % 2 ^ 32) + size then ((le size data)[a - memAddr (addr % 2 ^
      32)]?).getD 0#8 else memGet s.dev.core.mem a) ∧
  (∀ (s : State) (dt master id mem : Nat) (ext : List Byte) (vacant : Bool) (r : BusReq),
    Quiet s →
    busRoute r = .mem →
    r.wdata = none →
    s.dev.answers master id = some r →
    mem ≠ 2 →
    Completes (.busResponse dt master id ext mem vacant) s fun t => t.dev.core.mem = s.dev.core.mem ∧
      t.dev.core.fmem = s.dev.core.fmem) ∧
  (∀ (s : State) (dt size addr data mem : Nat) (ext : List Byte) (vacant : Bool),
    Quiet s →
    s.dev.debugOn = true →
    size = 1 ∨ size = 2 ∨ size = 4 →
    addr % size = 0 →
    busRoute ⟨3, 0, addr % 2 ^ 32, size, none, false, false, s.dev.core.remap, s.dev.core.apw, false⟩ = .mem →
    mem ≠ 2 →
    Completes (.systemBusAccess dt false size addr data ext mem vacant) s fun t => t.dev.core.mem = s.dev.core.mem ∧
      t.dev.core.fmem = s.dev.core.fmem) ∧
  (∀ (s : State) (dt id addr len mem : Nat) (b : List Byte) (user parity : Bool),
    Quiet s →
    s.dev.coreOn = true →
    id < 4 →
    len ≠ 0 →
    busRoute ⟨1, id, addr % 2 ^ 32, len, some b, false, user, s.dev.core.remap, [], false⟩ = .mem →
    tgtNo ⟨1, id, addr % 2 ^ 32, len, some b, false, user, s.dev.core.remap, [], false⟩ = 1 ∨ tgtNo ⟨1, id, addr % 2
      ^ 32, len, some b, false, user, s.dev.core.remap, [], false⟩ = 2 →
    Completes (.busRequest dt 1 id addr len (some b) user false parity mem) s fun t => ∀ a, memGet t.dev.core.mem a
      = if memAddr (addr % 2 ^ 32) ≤ a ∧ a < memAddr (addr % 2 ^ 32) + (b.take len).length then (b[a - memAddr (addr %
      2 ^ 32)]?).getD 0#8 else memGet s.dev.core.mem a) ∧
  (∀ (s : State) (dt id addr len mem : Nat) (user parity : Bool),
    Quiet s →
    s.dev.coreOn = true →
    id < 4 →
    len ≠ 0 →
    busRoute ⟨1, id, addr % 2 ^ 32, len, none, false, user, s.dev.core.remap, [], false⟩ = .mem →
    tgtNo ⟨1, id, addr % 2 ^ 32, len, none, false, user, s.dev.core.remap, [], false⟩ = 1 ∨ tgtNo ⟨1, id, addr % 2 ^
      32, len, none, false, user, s.dev.core.remap, [], false⟩ = 2 →
    mem ≠ 2 →
    Completes (.busRequest dt 1 id addr len none user false parity mem) s fun t => t.dev.core.mem = s.dev.core.mem ∧
      t.dev.core.fmem = s.dev.core.fmem)

/-- O45. A port that enters FAILED discards every queued and unacknowledged packet and counts them (R391). -/
def Obligations.Failing_ports_discard_their_packets : Prop :=
  (∀ (s : State) (dt : Nat) (p : Nat),
    Quiet s →
    p < s.portCount →
    p < s.dev.ports.length →
    s.dev.portSt p = 4 ∨ s.dev.portSt p = 6 →
    (s.dev.port p).begT + 800000 ≤ (s.ctx dt).t →
    Completes (.retrainTimeout dt p) s fun t => t.dev.portSt p = 7 ∧ (t.dev.port p).safe = [] ∧ (t.dev.port p).iso =
      [] ∧ (t.dev.port p).mgmt = [] ∧ (∀ f ∈ (t.dev.port p).flows, f = []) ∧ (t.dev.port p).vc1.unack = [] ∧
      (t.dev.port p).vc2.unack = [] ∧ t.dev.nat (linkK p 0x0A) = (s.dev.nat (linkK p 0x0A) + ((s.dev.port
      p).safe.length + (s.dev.port p).iso.length + (s.dev.port p).mgmt.length + ((s.dev.port p).flows.map
      List.length).sum + (s.dev.port p).vc1.unack.length + (s.dev.port p).vc2.unack.length)) % 2 ^ 32) ∧
  (∀ (s : State) (dt : Nat) (p : Nat),
    Quiet s →
    p < s.portCount →
    p < s.dev.ports.length →
    s.dev.portSt p = 2 →
    (s.dev.port p).attempt ≠ 1 →
    (s.dev.port p).begT + 20000000 ≤ (s.ctx dt).t →
    Completes (.trainingAttemptTimeout dt p) s fun t => t.dev.portSt p = 7 ∧ (t.dev.port p).safe = [] ∧ (t.dev.port
      p).iso = [] ∧ (t.dev.port p).mgmt = [] ∧ (∀ f ∈ (t.dev.port p).flows, f = []) ∧ (t.dev.port p).vc1.unack = [] ∧
      (t.dev.port p).vc2.unack = [] ∧ t.dev.nat (linkK p 0x0A) = (s.dev.nat (linkK p 0x0A) + ((s.dev.port
      p).safe.length + (s.dev.port p).iso.length + (s.dev.port p).mgmt.length + ((s.dev.port p).flows.map
      List.length).sum + (s.dev.port p).vc1.unack.length + (s.dev.port p).vc2.unack.length)) % 2 ^ 32)

/-- O46. A block pointer whose complement does not match is counted and otherwise ignored (R388). -/
def Obligations.Bad_block_pointers_are_counted : Prop :=
  (∀ (s : State) (dt p : Nat) (b : List Nat),
    Quiet s →
    p < s.portCount →
    s.dev.takes p = true →
    s.dev.saf.entered = false →
    s.dev.rxBlock p = some b →
    bits (nthN b 0) 0 16 + bits (nthN b 0) 16 16 ≠ 65535 →
    Completes (.blockPointer dt p) s fun t => t.dev.nat (linkK p 0x01) = (s.dev.nat (linkK p 0x01) + 1) % 2 ^ 32 ∧
      t.dev.ports = s.dev.ports)

/-- O47. A control reset, a debug halt and DOZE leave the safety state, SAFE_N, the monitor and the collector
  unchanged; a halted application cannot release (R871). -/
def Obligations.Safety_outlives_control_reset_halt_and_doze : Prop :=
  (∀ (s : State) (dt : Nat) (o : Org),
    Quiet s →
    s.dev.pins = s.dev.settlePins.pins →
    s.dev.saf.entered = false →
    Accepts s dt o 0x1041_01 0x7C3A →
    Completes (.controlReset dt o) s fun t => t.dev.saf = s.dev.saf ∧ t.dev.safety = s.dev.safety ∧ t.dev.pins.safeN
      = s.dev.pins.safeN ∧ t.dev.wins = s.dev.wins ∧ t.dev.formes = s.dev.formes ∧ t.dev.raw 0x9300_01 = s.dev.raw
      0x9300_01 ∧ t.dev.nat 0x9000_06 = s.dev.nat 0x9000_06) ∧
  (∀ (s : State) (dt : Nat) (pc priv : Nat) (x : List Nat),
    Quiet s →
    s.dev.pins = s.dev.settlePins.pins →
    s.dev.saf.entered = false →
    Completes (.haltreq dt pc priv x) s fun t => t.dev.saf = s.dev.saf ∧ t.dev.safety = s.dev.safety ∧
      t.dev.pins.safeN = s.dev.pins.safeN ∧ t.dev.wins = s.dev.wins ∧ t.dev.formes = s.dev.formes ∧ t.dev.raw
      0x9300_01 = s.dev.raw 0x9300_01 ∧ t.dev.nat 0x9000_06 = s.dev.nat 0x9000_06) ∧
  (∀ (s : State) (dt : Nat),
    Quiet s →
    s.dev.pins = s.dev.settlePins.pins →
    s.dev.saf.entered = false →
    Completes (.dozeEntry dt) s fun t => t.dev.saf = s.dev.saf ∧ t.dev.safety = s.dev.safety ∧ t.dev.pins.safeN =
      s.dev.pins.safeN ∧ t.dev.wins = s.dev.wins ∧ t.dev.formes = s.dev.formes ∧ t.dev.raw 0x9300_01 = s.dev.raw
      0x9300_01 ∧ t.dev.nat 0x9000_06 = s.dev.nat 0x9000_06) ∧
  (∀ (s : State) (dt : Nat),
    Quiet s →
    s.dev.pins = s.dev.settlePins.pins →
    s.dev.saf.entered = false →
    Completes (.dozeExit dt) s fun t => t.dev.saf = s.dev.saf ∧ t.dev.safety = s.dev.safety ∧ t.dev.pins.safeN =
      s.dev.pins.safeN ∧ t.dev.wins = s.dev.wins ∧ t.dev.formes = s.dev.formes ∧ t.dev.raw 0x9300_01 = s.dev.raw
      0x9300_01 ∧ t.dev.nat 0x9000_06 = s.dev.nat 0x9000_06) ∧
  (∀ (s : State) (dt : Nat) (v : Nat),
    Quiet s →
    s.dev.core.halted = true →
    Completes (.evcSwraise1 dt v) s fun t => t.dev.safety = s.dev.safety)

/-- O48. Frame of the access and configuration commands: a part of the state that no rule of ch 1 lets it write stays
  as it was. -/
def Obligations.Frame_of_access : Prop :=
  (FrameOf .access)

/-- O49. Frame of the clock root and timebase commands: a part of the state that no rule of ch 2 lets it write stays
  as it was. -/
def Obligations.Frame_of_timebase : Prop :=
  (FrameOf .timebase)

/-- O50. Frame of the genlock commands: a part of the state that no rule of ch 3 lets it write stays as it was. -/
def Obligations.Frame_of_genlock : Prop :=
  (FrameOf .genlock)

/-- O51. Frame of the synthesizer commands: a part of the state that no rule of ch 4 lets it write stays as it was. -/
def Obligations.Frame_of_synthesis : Prop :=
  (FrameOf .synthesis)

/-- O52. Frame of the lane commands: a part of the state that no rule of ch 5 lets it write stays as it was. -/
def Obligations.Frame_of_lanes : Prop :=
  (FrameOf .lanes)

/-- O53. Frame of the link packet commands: a part of the state that no rule of ch 6 lets it write stays as it was. -/
def Obligations.Frame_of_links : Prop :=
  (FrameOf .links)

/-- O54. Frame of the capture and forme commands: a part of the state that no rule of ch 7 and ch 8 lets it write
  stays as it was. -/
def Obligations.Frame_of_video : Prop :=
  (FrameOf .video)

/-- O55. Frame of the audio commands: a part of the state that no rule of ch 9 lets it write stays as it was. -/
def Obligations.Frame_of_audio : Prop :=
  (FrameOf .audio)

/-- O56. Frame of the title port, host port, cache, stream and scheduler commands: a part of the state that no rule of
  ch 10 and ch 11 lets it write stays as it was. -/
def Obligations.Frame_of_ports_and_streams : Prop :=
  (FrameOf .ports) ∧
  (FrameOf .streams)

/-- O57. Frame of the control core and debug commands: a part of the state that no rule of ch 12 lets it write stays
  as it was. -/
def Obligations.Frame_of_core : Prop :=
  (FrameOf .core)

/-- O58. Frame of the watchdog, event and log commands: a part of the state that no rule of ch 13 lets it write stays
  as it was. -/
def Obligations.Frame_of_events : Prop :=
  (FrameOf .events)

/-- O59. Frame of the power, safety and reset commands: a part of the state that no rule of ch 14, ch 15 and ch 16
  lets it write stays as it was. -/
def Obligations.Frame_of_power : Prop :=
  (FrameOf .power)

/-- O60. An event of one synthesizer, reference, mark, port, window, channel, audio input or watchdog leaves every
  other one as it was. -/
def Obligations.Instances_stay_apart : Prop :=
  (∀ (i : Instr) (s t : State) (dt y j : Nat) (band : Nat),
      (i = .bandSearchDone dt y band ∨
      i = .synthesizerLocked dt y ∨
      i = .lockingTimeout dt y ∨
      i = .synthesizerLockLost dt y ∨
      i = .synthesizerReferenceLost dt y ∨
      i = .gatedTimeout dt y ∨
      i = .glideEnd dt y ∨
      i = .profileUpdate dt y) →
      RunsUp i s t → j < 4 → j ≠ y → t.dev.syns[j]? = s.dev.syns[j]? ∧ SameObjs [0x2200, 0x2210] j s.dev t.dev) ∧
  (∀ (i : Instr) (s t : State) (dt r j : Nat) (wide : Bool) (ppb : Int),
      (i = .referenceEdge dt r wide ∨
      i = .missingEdge dt r ∨
      i = .frequencyGateEnd dt r ppb ∨
      i = .waitToRestoreEnd dt r) →
      RunsUp i s t → j < 8 → j ≠ r → t.dev.refs[j]? = s.dev.refs[j]? ∧ SameObjs [0x2100] j s.dev t.dev) ∧
  (∀ (i : Instr) (s t : State) (dt m j : Nat),
      (i = .markPulse dt m) →
      RunsUp i s t → j < 4 → j ≠ m → t.dev.marks[j]? = s.dev.marks[j]? ∧ SameObjs [0x2120] j s.dev t.dev) ∧
  (∀ (i : Instr) (s t : State) (dt p j : Nat) (wd : Nat),
      (i = .blockPointer dt p ∨
      i = .framingError dt p wd ∨
      i = .flowPeriodic dt p ∨
      i = .timeSyncPeriod dt p) →
      RunsUp i s t → j < 32 → j ≠ p → t.dev.ports[j]? = s.dev.ports[j]? ∧ SameObjs [0x3400] j s.dev t.dev) ∧
  (∀ (i : Instr) (s t : State) (dt w j : Nat),
      (i = .holdTimeEnd dt w) →
      RunsUp i s t → j < 64 → j ≠ w → t.dev.wins[j]? = s.dev.wins[j]? ∧ SameObjs [0x5100, 0x5300] j s.dev t.dev) ∧
  (∀ (i : Instr) (s t : State) (dt n j : Nat),
      (i = .captureInputLost dt n) →
      RunsUp i s t → j < 24 → j ≠ n → t.dev.chans[j]? = s.dev.chans[j]? ∧ SameObjs [0x4000] j s.dev t.dev) ∧
  (∀ (i : Instr) (s t : State) (dt a j : Nat),
      (i = .audioInputLost dt a) →
      RunsUp i s t → j < 24 → j ≠ a / 4 → SameObjs [0x6000] j s.dev t.dev) ∧
  (∀ (i : Instr) (s t : State) (dt n j : Nat),
      (i = .earlyWarning dt n) →
      RunsUp i s t → j < 2 → j ≠ n → (j = 0 → t.dev.wd0 = s.dev.wd0) ∧ (j = 1 → t.dev.wd1 = s.dev.wd1) ∧ SameObjs [0x9100] j s.dev t.dev)
end

