-- ==== Sys2Proof/Laws/Exec.lean ====
section
/-!
SUPPORT. What one command can do, said once: it runs inside `State.act`, or it is POWER_ON, or it names an instance the
variant does not have.
-/
namespace Sys2Proof.Machine

/-- What `exec` can answer. -/
def Acts (i : Instr) (s : State) : Prop :=
  (∃ dt f, exec i s = s.act dt f) ∨ exec i s = .fault .absentUnit ∨ (∃ dt, i = .powerOn dt)

theorem acts_of {i : Instr} {s : State} {r : Host.Outcome State Fault Refusal} (h : exec i s = r)
    {dt : Nat} {f : Ctx → Dev → Dev} (g : r = s.act dt f) : Acts i s := .inl ⟨dt, f, h.trans g⟩

theorem req_acts {i : Instr} {s : State} {r : Host.Outcome State Fault Refusal} (h : exec i s = r)
    {dt : Nat} {o : Org} {k : Nat} {v : Int} {x : Obs} (g : r = s.req dt o k v x) : Acts i s :=
  .inl ⟨dt, _, h.trans (g.trans (by unfold State.req; rfl))⟩

theorem actOn_acts {i : Instr} {s : State} {r : Host.Outcome State Fault Refusal} (h : exec i s = r)
    {p : Bool} {dt : Nat} {f : Ctx → Dev → Dev} (g : r = s.actOn p dt f) : Acts i s := by
  cases p
  · exact .inr (.inl (h.trans g))
  · exact .inl ⟨dt, f, h.trans g⟩

set_option maxHeartbeats 2000000 in
theorem exec_acts (i : Instr) (s : State) : Acts i s := by
  cases i with
  | readReq a b c => exact acts_of (r := execReadReq a b c s) rfl rfl
  | writeReq a b c => exact acts_of (r := execWriteReq a b c s) rfl rfl
  | segReadInit a b => exact acts_of (r := execSegReadInit a b s) rfl rfl
  | segWriteInit a b => exact acts_of (r := execSegWriteInit a b s) rfl rfl
  | segData a b c => exact acts_of (r := execSegData a b c s) rfl rfl
  | segAck a b => exact acts_of (r := execSegAck a b s) rfl rfl
  | segTransferTimeout a b => exact acts_of (r := execSegTransferTimeout a b s) rfl rfl
  | abort a b => exact acts_of (r := execAbort a b s) rfl rfl
  | identifyReq a b => exact acts_of (r := execIdentifyReq a b s) rfl rfl
  | time a b c d => exact acts_of (r := execTime a b c d s) rfl rfl
  | heartbeat a => exact acts_of (r := execHeartbeat a s) rfl rfl
  | canFdBusOff a b => exact actOn_acts (r := execCanFdBusOff a b s) rfl rfl
  | hostFrame a b => exact acts_of (r := execHostFrame a b s) rfl rfl
  | managementItp a b c d => exact actOn_acts (r := execManagementItp a b c d s) rfl rfl
  | mailbox a b c d => exact acts_of (r := execMailbox a b c d s) rfl rfl
  | commit a b => exact req_acts (r := execCommit a b s) rfl rfl
  | discard a b => exact req_acts (r := execDiscard a b s) rfl rfl
  | validateOnly a b => exact req_acts (r := execValidateOnly a b s) rfl rfl
  | quoinValidationEnd a => exact acts_of (r := execQuoinValidationEnd a s) rfl rfl
  | quoinTimeReached a => exact acts_of (r := execQuoinTimeReached a s) rfl rfl
  | save a b c => exact req_acts (r := execSave a b c s) rfl rfl
  | saveAfterQuoin a b => exact acts_of (r := execSaveAfterQuoin a b s) rfl rfl
  | restore a b => exact req_acts (r := execRestore a b s) rfl rfl
  | invalidateBanks a b c => exact req_acts (r := execInvalidateBanks a b c s) rfl rfl
  | freeze a b c => exact req_acts (r := execFreeze a b c s) rfl rfl
  | cmonGateEnd a b c => exact acts_of (r := execCmonGateEnd a b c s) rfl rfl
  | monitorOscillatorLost a => exact acts_of (r := execMonitorOscillatorLost a s) rfl rfl
  | rootPllLock a b c => exact acts_of (r := execRootPllLock a b c s) rfl rfl
  | rootPllLockFailure a => exact acts_of (r := execRootPllLockFailure a s) rfl rfl
  | slewStep a => exact acts_of (r := execSlewStep a s) rfl rfl
  | masterTimeLost a => exact acts_of (r := execMasterTimeLost a s) rfl rfl
  | timeSourceChange a b c d => exact req_acts (r := execTimeSourceChange a b c d s) rfl rfl
  | refEnable a b c d => exact req_acts (r := execRefEnable a b c d s) rfl rfl
  | referenceEdge a b c => exact actOn_acts (r := execReferenceEdge a b c s) rfl rfl
  | missingEdge a b => exact actOn_acts (r := execMissingEdge a b s) rfl rfl
  | frequencyGateEnd a b c => exact actOn_acts (r := execFrequencyGateEnd a b c s) rfl rfl
  | waitToRestoreEnd a b => exact actOn_acts (r := execWaitToRestoreEnd a b s) rfl rfl
  | endWait a b c => exact req_acts (r := execEndWait a b c s) rfl rfl
  | genlockLocked a => exact acts_of (r := execGenlockLocked a s) rfl rfl
  | genlockFrameStart a => exact acts_of (r := execGenlockFrameStart a s) rfl rfl
  | realign a b => exact req_acts (r := execRealign a b s) rfl rfl
  | markPulse a b => exact actOn_acts (r := execMarkPulse a b s) rfl rfl
  | synEnable a b c d => exact req_acts (r := execSynEnable a b c d s) rfl rfl
  | bandSearchDone a b c => exact actOn_acts (r := execBandSearchDone a b c s) rfl rfl
  | synthesizerLocked a b => exact actOn_acts (r := execSynthesizerLocked a b s) rfl rfl
  | lockingTimeout a b => exact actOn_acts (r := execLockingTimeout a b s) rfl rfl
  | synthesizerLockLost a b => exact actOn_acts (r := execSynthesizerLockLost a b s) rfl rfl
  | synthesizerReferenceLost a b => exact actOn_acts (r := execSynthesizerReferenceLost a b s) rfl rfl
  | gatedTimeout a b => exact actOn_acts (r := execGatedTimeout a b s) rfl rfl
  | apply a b c => exact req_acts (r := execApply a b c s) rfl rfl
  | applyWithRelock a b c => exact req_acts (r := execApplyWithRelock a b c s) rfl rfl
  | glideEnd a b => exact actOn_acts (r := execGlideEnd a b s) rfl rfl
  | resync a b c => exact req_acts (r := execResync a b c s) rfl rfl
  | outputEnable a b c d e => exact req_acts (r := execOutputEnable a b c d e s) rfl rfl
  | profileStart a b c => exact req_acts (r := execProfileStart a b c s) rfl rfl
  | profileStop a b c => exact req_acts (r := execProfileStop a b c s) rfl rfl
  | generateDownSpread a b c => exact req_acts (r := execGenerateDownSpread a b c s) rfl rfl
  | profileUpdate a b => exact actOn_acts (r := execProfileUpdate a b s) rfl rfl
  | portEnable a b c => exact req_acts (r := execPortEnable a b c s) rfl rfl
  | portDisable a b c => exact req_acts (r := execPortDisable a b c s) rfl rfl
  | quadPllLock a b c d => exact actOn_acts (r := execQuadPllLock a b c d s) rfl rfl
  | signalDetect a b => exact actOn_acts (r := execSignalDetect a b s) rfl rfl
  | cdrLock a b c d => exact actOn_acts (r := execCdrLock a b c d s) rfl rfl
  | laneMarker a b c d => exact actOn_acts (r := execLaneMarker a b c d s) rfl rfl
  | dfeConvergence a b c => exact actOn_acts (r := execDfeConvergence a b c s) rfl rfl
  | trainingAttemptTimeout a b => exact actOn_acts (r := execTrainingAttemptTimeout a b s) rfl rfl
  | signalLost a b => exact actOn_acts (r := execSignalLost a b s) rfl rfl
  | retrainTimeout a b => exact actOn_acts (r := execRetrainTimeout a b s) rfl rfl
  | quadPllUnlock a b c d e => exact actOn_acts (r := execQuadPllUnlock a b c d e s) rfl rfl
  | failedPortReturn a b => exact actOn_acts (r := execFailedPortReturn a b s) rfl rfl
  | sleep a b c => exact req_acts (r := execSleep a b c s) rfl rfl
  | wake a b c => exact req_acts (r := execWake a b c s) rfl rfl
  | adaptationUpdate a b c d e => exact actOn_acts (r := execAdaptationUpdate a b c d e s) rfl rfl
  | adaptFreeze a b c d => exact req_acts (r := execAdaptFreeze a b c d s) rfl rfl
  | eyeScanStart a b => exact req_acts (r := execEyeScanStart a b s) rfl rfl
  | eyeScanAbort a b => exact req_acts (r := execEyeScanAbort a b s) rfl rfl
  | eyeScanPointEnd a b c => exact acts_of (r := execEyeScanPointEnd a b c s) rfl rfl
  | testStart a b => exact req_acts (r := execTestStart a b s) rfl rfl
  | testStop a b c => exact req_acts (r := execTestStop a b c s) rfl rfl
  | blockPointer a b => exact actOn_acts (r := execBlockPointer a b s) rfl rfl
  | framingError a b c => exact actOn_acts (r := execFramingError a b c s) rfl rfl
  | packetRejected a b c d e => exact actOn_acts (r := execPacketRejected a b c d e s) rfl rfl
  | folio a b c => exact actOn_acts (r := execFolio a b c s) rfl rfl
  | videoLine a b c => exact actOn_acts (r := execVideoLine a b c s) rfl rfl
  | captureInputLost a b => exact actOn_acts (r := execCaptureInputLost a b s) rfl rfl
  | captureEnable a b c => exact req_acts (r := execCaptureEnable a b c s) rfl rfl
  | captureDisable a b c => exact req_acts (r := execCaptureDisable a b c s) rfl rfl
  | formeFrameStart a b => exact actOn_acts (r := execFormeFrameStart a b s) rfl rfl
  | rowFetch a b c d e => exact actOn_acts (r := execRowFetch a b c d e s) rfl rfl
  | rowLaunch a b c d => exact actOn_acts (r := execRowLaunch a b c d s) rfl rfl
  | holdTimeEnd a b => exact actOn_acts (r := execHoldTimeEnd a b s) rfl rfl
  | echo a b c => exact actOn_acts (r := execEcho a b c s) rfl rfl
  | audioBlock a b c d => exact actOn_acts (r := execAudioBlock a b c d s) rfl rfl
  | asrcLock a b => exact actOn_acts (r := execAsrcLock a b s) rfl rfl
  | audioInputLost a b => exact actOn_acts (r := execAudioInputLost a b s) rfl rfl
  | deviceAudioTick a b c d => exact acts_of (r := execDeviceAudioTick a b c d s) rfl rfl
  | audioBlockSend a b => exact actOn_acts (r := execAudioBlockSend a b s) rfl rfl
  | tdmFrameSync a b c d e => exact actOn_acts (r := execTdmFrameSync a b c d e s) rfl rfl
  | audioTdmClockLost a b => exact actOn_acts (r := execAudioTdmClockLost a b s) rfl rfl
  | slotEnable a b c d => exact req_acts (r := execSlotEnable a b c d s) rfl rfl
  | identify a b c => exact req_acts (r := execIdentify a b c s) rfl rfl
  | titleTransactionEnd a b c => exact acts_of (r := execTitleTransactionEnd a b c s) rfl rfl
  | windowRead a b c d e f => exact actOn_acts (r := execWindowRead a b c d e f s) rfl rfl
  | windowWrite a b c d e f => exact actOn_acts (r := execWindowWrite a b c d e f s) rfl rfl
  | coalesceTimeEnd a b => exact actOn_acts (r := execCoalesceTimeEnd a b s) rfl rfl
  | flush a b c => exact req_acts (r := execFlush a b c s) rfl rfl
  | statusPoll a b c => exact actOn_acts (r := execStatusPoll a b c s) rfl rfl
  | tprdyTimeout a => exact acts_of (r := execTprdyTimeout a s) rfl rfl
  | strobeTimeout a => exact acts_of (r := execStrobeTimeout a s) rfl rfl
  | rawExecute a b => exact req_acts (r := execRawExecute a b s) rfl rfl
  | clearInterrupted a b => exact req_acts (r := execClearInterrupted a b s) rfl rfl
  | hostHeader a b => exact acts_of (r := execHostHeader a b s) rfl rfl
  | write a b => exact acts_of (r := execWrite a b s) rfl rfl
  | read a b => exact acts_of (r := execRead a b s) rfl rfl
  | status a => exact acts_of (r := execStatus a s) rfl rfl
  | hpselNRise a b => exact acts_of (r := execHpselNRise a b s) rfl rfl
  | hostPortTimeout a b => exact acts_of (r := execHostPortTimeout a b s) rfl rfl
  | partialFrameTimeout a => exact acts_of (r := execPartialFrameTimeout a s) rfl rfl
  | cacheCycle a b c => exact acts_of (r := execCacheCycle a b c s) rfl rfl
  | fillComplete a b c d e => exact actOn_acts (r := execFillComplete a b c d e s) rfl rfl
  | streamStart a b c => exact req_acts (r := execStreamStart a b c s) rfl rfl
  | headerCheck a b => exact actOn_acts (r := execHeaderCheck a b s) rfl rfl
  | streamEnqueue a b c => exact actOn_acts (r := execStreamEnqueue a b c s) rfl rfl
  | streamStop a b c => exact req_acts (r := execStreamStop a b c s) rfl rfl
  | titleStreamStopped a b => exact actOn_acts (r := execTitleStreamStopped a b s) rfl rfl
  | repairRequest a b c d e => exact actOn_acts (r := execRepairRequest a b c d e s) rfl rfl
  | rejoin a b c d => exact req_acts (r := execRejoin a b c d s) rfl rfl
  | destinationsWrite a b c d => exact req_acts (r := execDestinationsWrite a b c d s) rfl rfl
  | cacheEnable a b c => exact req_acts (r := execCacheEnable a b c s) rfl rfl
  | invalidate a b c => exact req_acts (r := execInvalidate a b c s) rfl rfl
  | packetEnd a b => exact actOn_acts (r := execPacketEnd a b s) rfl rfl
  | queueSample a => exact acts_of (r := execQueueSample a s) rfl rfl
  | clearPeaks a b => exact req_acts (r := execClearPeaks a b s) rfl rfl
  | flow a b c => exact actOn_acts (r := execFlow a b c s) rfl rfl
  | flowPeriodic a b => exact actOn_acts (r := execFlowPeriodic a b s) rfl rfl
  | creditTimeout a b c => exact actOn_acts (r := execCreditTimeout a b c s) rfl rfl
  | ackTimeout a b c => exact actOn_acts (r := execAckTimeout a b c s) rfl rfl
  | timeSyncPeriod a b => exact actOn_acts (r := execTimeSyncPeriod a b s) rfl rfl
  | timeSync a b c => exact actOn_acts (r := execTimeSync a b c s) rfl rfl
  | timeFollow a b c => exact actOn_acts (r := execTimeFollow a b c s) rfl rfl
  | timeDreq a b c => exact actOn_acts (r := execTimeDreq a b c s) rfl rfl
  | timeDrsp a b c => exact actOn_acts (r := execTimeDrsp a b c s) rfl rfl
  | safeNotice a b c => exact actOn_acts (r := execSafeNotice a b c s) rfl rfl
  | linkClearCounters a b c => exact req_acts (r := execLinkClearCounters a b c s) rfl rfl
  | captureClearCounters a b c => exact req_acts (r := execCaptureClearCounters a b c s) rfl rfl
  | hostPortClearCounters a b => exact req_acts (r := execHostPortClearCounters a b s) rfl rfl
  | busRequest a b c d e f g h i j => exact acts_of (r := execBusRequest a b c d e f g h i j s) rfl rfl
  | busResponse a b c d e f => exact acts_of (r := execBusResponse a b c d e f s) rfl rfl
  | dmaEnable a b c d => exact actOn_acts (r := execDmaEnable a b c d s) rfl rfl
  | dmaDisable a b c d => exact actOn_acts (r := execDmaDisable a b c d s) rfl rfl
  | dmaBurst a b c d e => exact acts_of (r := execDmaBurst a b c d e s) rfl rfl
  | bmxIcctl a b c => exact acts_of (r := execBmxIcctl a b c s) rfl rfl
  | bmxRemap a b c => exact acts_of (r := execBmxRemap a b c s) rfl rfl
  | bmxErrinfo a b c => exact acts_of (r := execBmxErrinfo a b c s) rfl rfl
  | apwCtl a b c d e f => exact actOn_acts (r := execApwCtl a b c d e f s) rfl rfl
  | tmrCmphi a b c d => exact actOn_acts (r := execTmrCmphi a b c d s) rfl rfl
  | timer a b => exact actOn_acts (r := execTimer a b s) rfl rfl
  | tmrMtimelo a => exact acts_of (r := execTmrMtimelo a s) rfl rfl
  | trcMark a b => exact acts_of (r := execTrcMark a b s) rfl rfl
  | registerWrite a b c d => exact acts_of (r := execRegisterWrite a b c d s) rfl rfl
  | traceSyncInterval a b c => exact acts_of (r := execTraceSyncInterval a b c s) rfl rfl
  | traceOverflow a b c => exact acts_of (r := execTraceOverflow a b c s) rfl rfl
  | traceClear a b => exact req_acts (r := execTraceClear a b s) rfl rfl
  | lockstepMismatch a => exact acts_of (r := execLockstepMismatch a s) rfl rfl
  | applicationException a b c d => exact acts_of (r := execApplicationException a b c d s) rfl rfl
  | agentException a => exact acts_of (r := execAgentException a s) rfl rfl
  | returnFromInterrupt a b => exact acts_of (r := execReturnFromInterrupt a b s) rfl rfl
  | waitForInterrupt a b => exact acts_of (r := execWaitForInterrupt a b s) rfl rfl
  | unsupportedService a b c => exact acts_of (r := execUnsupportedService a b c s) rfl rfl
  | applicationStart a b c => exact req_acts (r := execApplicationStart a b c s) rfl rfl
  | applicationStop a b => exact req_acts (r := execApplicationStop a b s) rfl rfl
  | image a b c => exact acts_of (r := execImage a b c s) rfl rfl
  | haltreq a b c d => exact acts_of (r := execHaltreq a b c d s) rfl rfl
  | resume a => exact acts_of (r := execResume a s) rfl rfl
  | ndmreset a => exact acts_of (r := execNdmreset a s) rfl rfl
  | abstractCommand a b c => exact acts_of (r := execAbstractCommand a b c s) rfl rfl
  | systemBusAccess a b c d e f g h => exact acts_of (r := execSystemBusAccess a b c d e f g h s) rfl rfl
  | trigger a b c d e f g h => exact acts_of (r := execTrigger a b c d e f g h s) rfl rfl
  | singleStep a b c d => exact acts_of (r := execSingleStep a b c d s) rfl rfl
  | idcode a => exact acts_of (r := execIdcode a s) rfl rfl
  | samplePreload a b c => exact acts_of (r := execSamplePreload a b c s) rfl rfl
  | extest a b => exact acts_of (r := execExtest a b s) rfl rfl
  | dtmcs a b => exact acts_of (r := execDtmcs a b s) rfl rfl
  | dmi a b c d e f g h i => exact acts_of (r := execDmi a b c d e f g h i s) rfl rfl
  | bypass a b => exact acts_of (r := execBypass a b s) rfl rfl
  | trstN a => exact acts_of (r := execTrstN a s) rfl rfl
  | wdgSvc a b c d => exact actOn_acts (r := execWdgSvc a b c d s) rfl rfl
  | wdgCtl a b c d e => exact actOn_acts (r := execWdgCtl a b c d e s) rfl rfl
  | wd0Start a b => exact req_acts (r := execWd0Start a b s) rfl rfl
  | wd1Start a b => exact req_acts (r := execWd1Start a b s) rfl rfl
  | wd0Service a => exact acts_of (r := execWd0Service a s) rfl rfl
  | earlyWarning a b => exact actOn_acts (r := execEarlyWarning a b s) rfl rfl
  | watchdogExpired a b c => exact acts_of (r := execWatchdogExpired a b c s) rfl rfl
  | clearEvidence a b c => exact req_acts (r := execClearEvidence a b c s) rfl rfl
  | evcAck a b c => exact actOn_acts (r := execEvcAck a b c s) rfl rfl
  | evcSwraise0 a b => exact acts_of (r := execEvcSwraise0 a b s) rfl rfl
  | evcSwraise1 a b => exact acts_of (r := execEvcSwraise1 a b s) rfl rfl
  | softwareRaise a b c => exact req_acts (r := execSoftwareRaise a b c s) rfl rfl
  | eventClearCounters a b => exact req_acts (r := execEventClearCounters a b s) rfl rfl
  | logRecordCommit a => exact acts_of (r := execLogRecordCommit a s) rfl rfl
  | copy a b c => exact req_acts (r := execCopy a b c s) rfl rfl
  | logClear a b => exact req_acts (r := execLogClear a b s) rfl rfl
  | dozeEntry a => exact acts_of (r := execDozeEntry a s) rfl rfl
  | dozeExit a => exact acts_of (r := execDozeExit a s) rfl rfl
  | standby a b c => exact req_acts (r := execStandby a b c s) rfl rfl
  | hibernate a b c => exact req_acts (r := execHibernate a b c s) rfl rfl
  | standbyWake a b c => exact acts_of (r := execStandbyWake a b c s) rfl rfl
  | hibernateWake a b c => exact acts_of (r := execHibernateWake a b c s) rfl rfl
  | wakeTimer a b => exact acts_of (r := execWakeTimer a b s) rfl rfl
  | powerUp a b => exact req_acts (r := execPowerUp a b s) rfl rfl
  | powerDown a b => exact req_acts (r := execPowerDown a b s) rfl rfl
  | pgGood a b => exact actOn_acts (r := execPgGood a b s) rfl rfl
  | onDelayEnd a => exact acts_of (r := execOnDelayEnd a s) rfl rfl
  | offDelayEnd a => exact acts_of (r := execOffDelayEnd a s) rfl rfl
  | pgTimeout a => exact acts_of (r := execPgTimeout a s) rfl rfl
  | railFault a b => exact actOn_acts (r := execRailFault a b s) rfl rfl
  | restart a b c => exact req_acts (r := execRestart a b c s) rfl rfl
  | seatenRise a b => exact actOn_acts (r := execSeatenRise a b s) rfl rfl
  | inrushBlankingEnd a b => exact actOn_acts (r := execInrushBlankingEnd a b s) rfl rfl
  | seatFault a b => exact actOn_acts (r := execSeatFault a b s) rfl rfl
  | retryDelayEnd a b => exact actOn_acts (r := execRetryDelayEnd a b s) rfl rfl
  | pmbusPoll a b c => exact acts_of (r := execPmbusPoll a b c s) rfl rfl
  | pmbusAlert a b => exact acts_of (r := execPmbusAlert a b s) rfl rfl
  | avsUpdate a b c d => exact acts_of (r := execAvsUpdate a b c d s) rfl rfl
  | adcConversion a b c => exact actOn_acts (r := execAdcConversion a b c s) rfl rfl
  | supplyOutOfRange a b => exact actOn_acts (r := execSupplyOutOfRange a b s) rfl rfl
  | brownout a b => exact actOn_acts (r := execBrownout a b s) rfl rfl
  | thermalReading a b c => exact acts_of (r := execThermalReading a b c s) rfl rfl
  | gpioOutputWrite a b c d => exact req_acts (r := execGpioOutputWrite a b c d s) rfl rfl
  | gpioInput a b c => exact actOn_acts (r := execGpioInput a b c s) rfl rfl
  | externalSafeRequest a => exact acts_of (r := execExternalSafeRequest a s) rfl rfl
  | release a b c => exact req_acts (r := execRelease a b c s) rfl rfl
  | periodicSelfTest a b => exact acts_of (r := execPeriodicSelfTest a b s) rfl rfl
  | shadowScan a b => exact acts_of (r := execShadowScan a b s) rfl rfl
  | patrolScrub a b c d e f g h i => exact acts_of (r := execPatrolScrub a b c d e f g h i s) rfl rfl
  | safeNReadback a => exact acts_of (r := execSafeNReadback a s) rfl rfl
  | collectorDisagreement a => exact acts_of (r := execCollectorDisagreement a s) rfl rfl
  | faultCountersClear a b => exact req_acts (r := execFaultCountersClear a b s) rfl rfl
  | powerOn a => exact .inr (.inr ⟨_, rfl⟩)
  | resetN a b c => exact acts_of (r := execResetN a b c s) rfl rfl
  | controlReset a b => exact req_acts (r := execControlReset a b s) rfl rfl
  | controlResetWithoutApplication a b => exact req_acts (r := execControlResetWithoutApplication a b s) rfl rfl
  | boot a b => exact acts_of (r := execBoot a b s) rfl rfl
  | endHold a b c => exact req_acts (r := execEndHold a b c s) rfl rfl
  | fuseProgram a b c d => exact acts_of (r := execFuseProgram a b c d s) rfl rfl
  | clearCounts a b => exact req_acts (r := execClearCounts a b s) rfl rfl
  | unknownServiceClass a b c => exact acts_of (r := execUnknownServiceClass a b c s) rfl rfl
  | safeReqNHigh a => exact acts_of (r := execSafeReqNHigh a s) rfl rfl
  | supplyBackInWindow a b => exact actOn_acts (r := execSupplyBackInWindow a b s) rfl rfl
  | powerGood a b => exact acts_of (r := execPowerGood a b s) rfl rfl

end Sys2Proof.Machine
end

