-- ==== Sys2Proof/Laws/Memory.lean ====
section
/-!
SUPPORT. The memories of the control core: reading a byte after a store, and the canonical form every operation keeps.
-/
namespace Sys2Proof.Machine

theorem memGet_memIns (m : List (Nat × Byte)) (a c : Nat) (v : Byte) :
    memGet (memIns m a v) c = if c = a then v else memGet m c := by
  by_cases h : c = a
  · subst h
    rw [if_pos rfl]
    induction m with
    | nil => simp [memIns, memGet]
    | cons p r ih =>
      obtain ⟨b, w⟩ := p
      unfold memIns
      split
      · simp [memGet]
      · split
        · simp [memGet]
        · rename_i n _; simp [memGet, n, ih]
  · rw [if_neg h]
    have h' : ¬a = c := fun e => h e.symm
    induction m with
    | nil => simp [memIns, memGet, h']
    | cons p r ih =>
      obtain ⟨b, w⟩ := p
      unfold memIns
      split
      · rename_i e; subst e; simp [memGet, h']
      · split
        · simp [memGet, h']
        · simp [memGet, ih]

theorem memGet_filter_ne (m : List (Nat × Byte)) (a c : Nat) :
    memGet (m.filter fun p => p.1 ≠ a) c = if c = a then 0#8 else memGet m c := by
  induction m with
  | nil => simp [memGet]
  | cons p r ih =>
    obtain ⟨b, w⟩ := p
    by_cases e : b = a
    · subst e
      simp only [ne_eq, not_true_eq_false, decide_false, Bool.false_eq_true, not_false_eq_true, List.filter_cons_of_neg]
      rw [ih]
      by_cases h : c = b <;> simp [memGet, h, eq_comm]
    · simp only [ne_eq, e, not_false_eq_true, decide_true, List.filter_cons_of_pos]
      by_cases h : b = c
      · subst h; simp [memGet, e]
      · simp only [memGet, h, if_false]; exact ih

/-- A store is read back, and every other byte reads as before. -/
theorem memGet_memPut (m : List (Nat × Byte)) (a c : Nat) (v : Byte) :
    memGet (memPut m a v) c = if c = a then v else memGet m c := by
  unfold memPut
  split
  · rename_i e; rw [memGet_filter_ne, e]
  · exact memGet_memIns m a c v

/-- Bytes stored from `a` on are read back, and every other byte reads as before. -/
theorem memGet_memWrite (b : List Byte) (m : List (Nat × Byte)) (a c : Nat) :
    memGet (memWrite m a b) c = if a ≤ c ∧ c < a + b.length then (b[c - a]?).getD 0#8 else memGet m c := by
  induction b generalizing m a with
  | nil =>
    have h : ¬(a ≤ c ∧ c < a + 0) := by omega
    simp only [memWrite, List.length_nil, h, if_false]
  | cons x r ih =>
    rw [memWrite, ih, memGet_memPut]
    by_cases e : c = a
    · subst e; simp
    · by_cases g : a ≤ c ∧ c < a + (x :: r).length
      · have h1 : a + 1 ≤ c ∧ c < a + 1 + r.length := by simp at g; omega
        obtain ⟨k, rfl⟩ : ∃ k, c = a + 1 + k := ⟨c - (a + 1), by omega⟩
        have h2 : a + 1 + k - a = k + 1 := by omega
        have h3 : a + 1 + k - (a + 1) = k := by omega
        simp only [h1, g, and_self, if_true, h2, h3, List.getElem?_cons_succ]
      · have h1 : ¬(a + 1 ≤ c ∧ c < a + 1 + r.length) := by simp at g; omega
        simp only [h1, g, if_false, e]

/-! ## The canonical form -/

theorem memWfFrom_mono {m : List (Nat × Byte)} {a b : Nat} (h : memWfFrom b m = true) (l : a ≤ b) :
    memWfFrom a m = true := by
  cases m with
  | nil => rfl
  | cons p r =>
    obtain ⟨k, v⟩ := p
    simp only [memWfFrom, Bool.and_eq_true, decide_eq_true_eq] at h ⊢
    exact ⟨⟨le_trans l h.1.1, h.1.2⟩, h.2⟩

theorem memWfFrom_ins {m : List (Nat × Byte)} {a k : Nat} {v : Byte} (h : memWfFrom a m = true) (l : a ≤ k)
    (hv : v ≠ 0#8) : memWfFrom a (memIns m k v) = true := by
  induction m generalizing a with
  | nil => simp [memIns, memWfFrom, l, hv]
  | cons p r ih =>
    obtain ⟨j, w⟩ := p
    simp only [memWfFrom, Bool.and_eq_true, decide_eq_true_eq] at h
    unfold memIns
    split
    · rename_i e; subst e; simp [memWfFrom, l, hv, h.2]
    · split
      · rename_i g; simp [memWfFrom, l, hv, h.1.2, h.2]; omega
      · simp only [memWfFrom, Bool.and_eq_true, decide_eq_true_eq]
        exact ⟨h.1, ih h.2 (by omega)⟩

theorem memWfFrom_filter {m : List (Nat × Byte)} {a : Nat} (f : Nat × Byte → Bool) (h : memWfFrom a m = true) :
    memWfFrom a (m.filter f) = true := by
  induction m generalizing a with
  | nil => rfl
  | cons p r ih =>
    obtain ⟨j, w⟩ := p
    simp only [memWfFrom, Bool.and_eq_true, decide_eq_true_eq] at h
    rw [List.filter_cons]
    split
    · simp only [memWfFrom, Bool.and_eq_true, decide_eq_true_eq]
      exact ⟨h.1, ih h.2⟩
    · exact memWfFrom_mono (ih h.2) (by omega)

theorem memPut_wf {m : List (Nat × Byte)} (a : Nat) (v : Byte) (h : Memory.wf m = true) : Memory.wf (memPut m a v) = true := by
  unfold memPut
  split
  · exact memWfFrom_filter _ h
  · rename_i e; exact memWfFrom_ins h (Nat.zero_le _) e

theorem memWrite_wf (b : List Byte) {m : List (Nat × Byte)} (a : Nat) (h : Memory.wf m = true) :
    Memory.wf (memWrite m a b) = true := by
  induction b generalizing m a with
  | nil => exact h
  | cons x r ih => exact ih _ (memPut_wf a x h)

theorem memClear_wf {m : List (Nat × Byte)} (lo hi : Nat) (h : Memory.wf m = true) : Memory.wf (memClear m lo hi) = true :=
  memWfFrom_filter _ h

/-- What a reset keeps of the memory is in canonical form (Table 12.2's AON area). -/
theorem keep_wf {m : List (Nat × Byte)} (h : Memory.wf m = true) : Memory.wf (m.filter fun p => aonAddr p.1) = true :=
  memWfFrom_filter _ h

theorem reset_mem_wf : Memory.wf State.reset.dev.core.mem = true ∧ Memory.wf State.reset.dev.core.fmem = true :=
  ⟨rfl, rfl⟩

end Sys2Proof.Machine
end

