-- ==== Sys2Proof/Laws/State.lean ====
section
/-!
SUPPORT. What the basic updates of the device do to each of its fields, said once, and what reading an object after
writing one gives. No later proof need unfold an update.
-/
namespace Sys2Proof.Machine

/-! ## The object store -/

@[simp] theorem find_put_same (m : List (Nat × Val)) (k : Nat) (v : Val) : find (put m k v) k = some v := by
  induction m with
  | nil => simp [put, find]
  | cons p r ih =>
    obtain ⟨a, w⟩ := p
    unfold put
    split
    · simp [find]
    · split
      · simp [find]
      · rename_i h _
        simp [find, h, ih]

theorem find_put_ne (m : List (Nat × Val)) (k j : Nat) (v : Val) (h : j ≠ k) : find (put m k v) j = find m j := by
  induction m with
  | nil => simp [put, find, Ne.symm h]
  | cons p r ih =>
    obtain ⟨a, w⟩ := p
    unfold put
    split
    · rename_i e; subst e; simp [find, Ne.symm h]
    · split
      · simp [find, Ne.symm h]
      · simp [find, ih]

@[simp] theorem find_del_same (m : List (Nat × Val)) (k : Nat) : find (del m k) k = none := by
  induction m with
  | nil => rfl
  | cons p r ih =>
    obtain ⟨a, w⟩ := p
    unfold del
    split
    · exact ih
    · rename_i e; simp [find, e, ih]

theorem find_del_ne (m : List (Nat × Val)) (k j : Nat) (h : j ≠ k) : find (del m k) j = find m j := by
  induction m with
  | nil => rfl
  | cons p r ih =>
    obtain ⟨a, w⟩ := p
    unfold del
    split
    · rename_i e; subst e; simp [find, Ne.symm h, ih]
    · simp [find, ih]

@[simp] theorem Dev.get_set_same (d : Dev) (k : Nat) (v : Val) : (d.set k v).get k = v := by
  unfold Dev.set Dev.get
  split
  · rename_i e; simp [e]
  · simp

theorem Dev.get_set_ne (d : Dev) (k j : Nat) (v : Val) (h : j ≠ k) : (d.set k v).get j = d.get j := by
  unfold Dev.set Dev.get
  split
  · simp [find_del_ne _ _ _ h]
  · simp [find_put_ne _ _ _ _ h]

/-- Reading one object after writing another or the same. -/
theorem Dev.get_set (d : Dev) (k j : Nat) (v : Val) : (d.set k v).get j = if j = k then v else d.get j := by
  split
  · rename_i e; simp [e]
  · rename_i e; exact d.get_set_ne k j v e

theorem Dev.nat_setN (d : Dev) (k j n : Nat) : (d.setN k n).nat j = if j = k then n else d.nat j := by
  unfold Dev.nat Dev.int Dev.setN
  rw [d.get_set]
  split <;> simp [Val.int]

@[simp] theorem Dev.nat_setN_same (d : Dev) (k n : Nat) : (d.setN k n).nat k = n := by simp [Dev.nat_setN]

theorem Dev.nat_setN_ne (d : Dev) (k j n : Nat) (h : j ≠ k) : (d.setN k n).nat j = d.nat j := by simp [Dev.nat_setN, h]

/-! ## The canonical form of the object store -/

theorem objWfFrom_mono {m : List (Nat × Val)} {a b : Nat} (h : objWfFrom b m = true) (l : a ≤ b) :
    objWfFrom a m = true := by
  cases m with
  | nil => rfl
  | cons p r =>
    obtain ⟨k, v⟩ := p
    simp only [objWfFrom, Bool.and_eq_true, decide_eq_true_eq] at h ⊢
    exact ⟨⟨le_trans l h.1.1, h.1.2⟩, h.2⟩

theorem objWfFrom_put {m : List (Nat × Val)} {a k : Nat} {v : Val} (h : objWfFrom a m = true) (l : a ≤ k)
    (hv : v ≠ dflt k) : objWfFrom a (put m k v) = true := by
  induction m generalizing a with
  | nil => simp [put, objWfFrom, l, hv]
  | cons p r ih =>
    obtain ⟨j, w⟩ := p
    simp only [objWfFrom, Bool.and_eq_true, decide_eq_true_eq] at h
    unfold put
    split
    · rename_i e; subst e; simp [objWfFrom, l, hv, h.2]
    · rename_i e
      split
      · rename_i g; simp [objWfFrom, l, hv, h.1.2, h.2]; omega
      · rename_i g
        simp only [objWfFrom, Bool.and_eq_true, decide_eq_true_eq]
        exact ⟨h.1, ih h.2 (by omega)⟩

theorem objWfFrom_del {m : List (Nat × Val)} {a k : Nat} (h : objWfFrom a m = true) : objWfFrom a (del m k) = true := by
  induction m generalizing a with
  | nil => rfl
  | cons p r ih =>
    obtain ⟨j, w⟩ := p
    simp only [objWfFrom, Bool.and_eq_true, decide_eq_true_eq] at h
    unfold del
    split
    · exact objWfFrom_mono (ih h.2) (by omega)
    · simp only [objWfFrom, Bool.and_eq_true, decide_eq_true_eq]
      exact ⟨h.1, ih h.2⟩

theorem Dev.set_obj_wf (d : Dev) (k : Nat) (v : Val) (h : objWfFrom 0 d.obj = true) : objWfFrom 0 (d.set k v).obj = true := by
  unfold Dev.set
  split
  · exact objWfFrom_del h
  · rename_i e; exact objWfFrom_put h (Nat.zero_le _) e

theorem reset_obj_wf : objWfFrom 0 State.reset.dev.obj = true := rfl

/-! ## set -/

theorem Dev.set_eta (d : Dev) (k : Nat) (v : Val) : d.set k v = { d with obj := (d.set k v).obj } := by
  unfold Dev.set; split <;> rfl

theorem Dev.inc_eta (d : Dev) (k : Nat) : d.inc k = { d with obj := (d.inc k).obj } := d.set_eta k _

@[simp] theorem Dev.set_bankA (d : Dev) (k : Nat) (v : Val) : (d.set k v).bankA = d.bankA := by rw [Dev.set_eta]
@[simp] theorem Dev.set_bankB (d : Dev) (k : Nat) (v : Val) : (d.set k v).bankB = d.bankB := by rw [Dev.set_eta]
@[simp] theorem Dev.set_slot0 (d : Dev) (k : Nat) (v : Val) : (d.set k v).slot0 = d.slot0 := by rw [Dev.set_eta]
@[simp] theorem Dev.set_slot1 (d : Dev) (k : Nat) (v : Val) : (d.set k v).slot1 = d.slot1 := by rw [Dev.set_eta]
@[simp] theorem Dev.set_itp (d : Dev) (k : Nat) (v : Val) : (d.set k v).itp = d.itp := by rw [Dev.set_eta]
@[simp] theorem Dev.set_clk (d : Dev) (k : Nat) (v : Val) : (d.set k v).clk = d.clk := by rw [Dev.set_eta]
@[simp] theorem Dev.set_refs (d : Dev) (k : Nat) (v : Val) : (d.set k v).refs = d.refs := by rw [Dev.set_eta]
@[simp] theorem Dev.set_dpll (d : Dev) (k : Nat) (v : Val) : (d.set k v).dpll = d.dpll := by rw [Dev.set_eta]
@[simp] theorem Dev.set_marks (d : Dev) (k : Nat) (v : Val) : (d.set k v).marks = d.marks := by rw [Dev.set_eta]
@[simp] theorem Dev.set_syns (d : Dev) (k : Nat) (v : Val) : (d.set k v).syns = d.syns := by rw [Dev.set_eta]
@[simp] theorem Dev.set_quads (d : Dev) (k : Nat) (v : Val) : (d.set k v).quads = d.quads := by rw [Dev.set_eta]
@[simp] theorem Dev.set_lanes (d : Dev) (k : Nat) (v : Val) : (d.set k v).lanes = d.lanes := by rw [Dev.set_eta]
@[simp] theorem Dev.set_ports (d : Dev) (k : Nat) (v : Val) : (d.set k v).ports = d.ports := by rw [Dev.set_eta]
@[simp] theorem Dev.set_scan (d : Dev) (k : Nat) (v : Val) : (d.set k v).scan = d.scan := by rw [Dev.set_eta]
@[simp] theorem Dev.set_test (d : Dev) (k : Nat) (v : Val) : (d.set k v).test = d.test := by rw [Dev.set_eta]
@[simp] theorem Dev.set_chans (d : Dev) (k : Nat) (v : Val) : (d.set k v).chans = d.chans := by rw [Dev.set_eta]
@[simp] theorem Dev.set_formes (d : Dev) (k : Nat) (v : Val) : (d.set k v).formes = d.formes := by rw [Dev.set_eta]
@[simp] theorem Dev.set_wins (d : Dev) (k : Nat) (v : Val) : (d.set k v).wins = d.wins := by rw [Dev.set_eta]
@[simp] theorem Dev.set_audio (d : Dev) (k : Nat) (v : Val) : (d.set k v).audio = d.audio := by rw [Dev.set_eta]
@[simp] theorem Dev.set_title (d : Dev) (k : Nat) (v : Val) : (d.set k v).title = d.title := by rw [Dev.set_eta]
@[simp] theorem Dev.set_host (d : Dev) (k : Nat) (v : Val) : (d.set k v).host = d.host := by rw [Dev.set_eta]
@[simp] theorem Dev.set_cache (d : Dev) (k : Nat) (v : Val) : (d.set k v).cache = d.cache := by rw [Dev.set_eta]
@[simp] theorem Dev.set_streams (d : Dev) (k : Nat) (v : Val) : (d.set k v).streams = d.streams := by rw [Dev.set_eta]
@[simp] theorem Dev.set_core (d : Dev) (k : Nat) (v : Val) : (d.set k v).core = d.core := by rw [Dev.set_eta]
@[simp] theorem Dev.set_trace (d : Dev) (k : Nat) (v : Val) : (d.set k v).trace = d.trace := by rw [Dev.set_eta]
@[simp] theorem Dev.set_wd0 (d : Dev) (k : Nat) (v : Val) : (d.set k v).wd0 = d.wd0 := by rw [Dev.set_eta]
@[simp] theorem Dev.set_wd1 (d : Dev) (k : Nat) (v : Val) : (d.set k v).wd1 = d.wd1 := by rw [Dev.set_eta]
@[simp] theorem Dev.set_evc (d : Dev) (k : Nat) (v : Val) : (d.set k v).evc = d.evc := by rw [Dev.set_eta]
@[simp] theorem Dev.set_log (d : Dev) (k : Nat) (v : Val) : (d.set k v).log = d.log := by rw [Dev.set_eta]
@[simp] theorem Dev.set_pwr (d : Dev) (k : Nat) (v : Val) : (d.set k v).pwr = d.pwr := by rw [Dev.set_eta]
@[simp] theorem Dev.set_saf (d : Dev) (k : Nat) (v : Val) : (d.set k v).saf = d.saf := by rw [Dev.set_eta]
@[simp] theorem Dev.set_rst (d : Dev) (k : Nat) (v : Val) : (d.set k v).rst = d.rst := by rw [Dev.set_eta]
@[simp] theorem Dev.set_pins (d : Dev) (k : Nat) (v : Val) : (d.set k v).pins = d.pins := by rw [Dev.set_eta]
@[simp] theorem Dev.set_out (d : Dev) (k : Nat) (v : Val) : (d.set k v).out = d.out := by rw [Dev.set_eta]

/-! ## setN -/

@[simp] theorem Dev.setN_bankA (d : Dev) (k n : Nat) : (d.setN k n).bankA = d.bankA := d.set_bankA k _
@[simp] theorem Dev.setN_bankB (d : Dev) (k n : Nat) : (d.setN k n).bankB = d.bankB := d.set_bankB k _
@[simp] theorem Dev.setN_slot0 (d : Dev) (k n : Nat) : (d.setN k n).slot0 = d.slot0 := d.set_slot0 k _
@[simp] theorem Dev.setN_slot1 (d : Dev) (k n : Nat) : (d.setN k n).slot1 = d.slot1 := d.set_slot1 k _
@[simp] theorem Dev.setN_itp (d : Dev) (k n : Nat) : (d.setN k n).itp = d.itp := d.set_itp k _
@[simp] theorem Dev.setN_clk (d : Dev) (k n : Nat) : (d.setN k n).clk = d.clk := d.set_clk k _
@[simp] theorem Dev.setN_refs (d : Dev) (k n : Nat) : (d.setN k n).refs = d.refs := d.set_refs k _
@[simp] theorem Dev.setN_dpll (d : Dev) (k n : Nat) : (d.setN k n).dpll = d.dpll := d.set_dpll k _
@[simp] theorem Dev.setN_marks (d : Dev) (k n : Nat) : (d.setN k n).marks = d.marks := d.set_marks k _
@[simp] theorem Dev.setN_syns (d : Dev) (k n : Nat) : (d.setN k n).syns = d.syns := d.set_syns k _
@[simp] theorem Dev.setN_quads (d : Dev) (k n : Nat) : (d.setN k n).quads = d.quads := d.set_quads k _
@[simp] theorem Dev.setN_lanes (d : Dev) (k n : Nat) : (d.setN k n).lanes = d.lanes := d.set_lanes k _
@[simp] theorem Dev.setN_ports (d : Dev) (k n : Nat) : (d.setN k n).ports = d.ports := d.set_ports k _
@[simp] theorem Dev.setN_scan (d : Dev) (k n : Nat) : (d.setN k n).scan = d.scan := d.set_scan k _
@[simp] theorem Dev.setN_test (d : Dev) (k n : Nat) : (d.setN k n).test = d.test := d.set_test k _
@[simp] theorem Dev.setN_chans (d : Dev) (k n : Nat) : (d.setN k n).chans = d.chans := d.set_chans k _
@[simp] theorem Dev.setN_formes (d : Dev) (k n : Nat) : (d.setN k n).formes = d.formes := d.set_formes k _
@[simp] theorem Dev.setN_wins (d : Dev) (k n : Nat) : (d.setN k n).wins = d.wins := d.set_wins k _
@[simp] theorem Dev.setN_audio (d : Dev) (k n : Nat) : (d.setN k n).audio = d.audio := d.set_audio k _
@[simp] theorem Dev.setN_title (d : Dev) (k n : Nat) : (d.setN k n).title = d.title := d.set_title k _
@[simp] theorem Dev.setN_host (d : Dev) (k n : Nat) : (d.setN k n).host = d.host := d.set_host k _
@[simp] theorem Dev.setN_cache (d : Dev) (k n : Nat) : (d.setN k n).cache = d.cache := d.set_cache k _
@[simp] theorem Dev.setN_streams (d : Dev) (k n : Nat) : (d.setN k n).streams = d.streams := d.set_streams k _
@[simp] theorem Dev.setN_core (d : Dev) (k n : Nat) : (d.setN k n).core = d.core := d.set_core k _
@[simp] theorem Dev.setN_trace (d : Dev) (k n : Nat) : (d.setN k n).trace = d.trace := d.set_trace k _
@[simp] theorem Dev.setN_wd0 (d : Dev) (k n : Nat) : (d.setN k n).wd0 = d.wd0 := d.set_wd0 k _
@[simp] theorem Dev.setN_wd1 (d : Dev) (k n : Nat) : (d.setN k n).wd1 = d.wd1 := d.set_wd1 k _
@[simp] theorem Dev.setN_evc (d : Dev) (k n : Nat) : (d.setN k n).evc = d.evc := d.set_evc k _
@[simp] theorem Dev.setN_log (d : Dev) (k n : Nat) : (d.setN k n).log = d.log := d.set_log k _
@[simp] theorem Dev.setN_pwr (d : Dev) (k n : Nat) : (d.setN k n).pwr = d.pwr := d.set_pwr k _
@[simp] theorem Dev.setN_saf (d : Dev) (k n : Nat) : (d.setN k n).saf = d.saf := d.set_saf k _
@[simp] theorem Dev.setN_rst (d : Dev) (k n : Nat) : (d.setN k n).rst = d.rst := d.set_rst k _
@[simp] theorem Dev.setN_pins (d : Dev) (k n : Nat) : (d.setN k n).pins = d.pins := d.set_pins k _
@[simp] theorem Dev.setN_out (d : Dev) (k n : Nat) : (d.setN k n).out = d.out := d.set_out k _

/-! ## setI -/

@[simp] theorem Dev.setI_bankA (d : Dev) (k : Nat) (n : Int) : (d.setI k n).bankA = d.bankA := d.set_bankA k _
@[simp] theorem Dev.setI_bankB (d : Dev) (k : Nat) (n : Int) : (d.setI k n).bankB = d.bankB := d.set_bankB k _
@[simp] theorem Dev.setI_slot0 (d : Dev) (k : Nat) (n : Int) : (d.setI k n).slot0 = d.slot0 := d.set_slot0 k _
@[simp] theorem Dev.setI_slot1 (d : Dev) (k : Nat) (n : Int) : (d.setI k n).slot1 = d.slot1 := d.set_slot1 k _
@[simp] theorem Dev.setI_itp (d : Dev) (k : Nat) (n : Int) : (d.setI k n).itp = d.itp := d.set_itp k _
@[simp] theorem Dev.setI_clk (d : Dev) (k : Nat) (n : Int) : (d.setI k n).clk = d.clk := d.set_clk k _
@[simp] theorem Dev.setI_refs (d : Dev) (k : Nat) (n : Int) : (d.setI k n).refs = d.refs := d.set_refs k _
@[simp] theorem Dev.setI_dpll (d : Dev) (k : Nat) (n : Int) : (d.setI k n).dpll = d.dpll := d.set_dpll k _
@[simp] theorem Dev.setI_marks (d : Dev) (k : Nat) (n : Int) : (d.setI k n).marks = d.marks := d.set_marks k _
@[simp] theorem Dev.setI_syns (d : Dev) (k : Nat) (n : Int) : (d.setI k n).syns = d.syns := d.set_syns k _
@[simp] theorem Dev.setI_quads (d : Dev) (k : Nat) (n : Int) : (d.setI k n).quads = d.quads := d.set_quads k _
@[simp] theorem Dev.setI_lanes (d : Dev) (k : Nat) (n : Int) : (d.setI k n).lanes = d.lanes := d.set_lanes k _
@[simp] theorem Dev.setI_ports (d : Dev) (k : Nat) (n : Int) : (d.setI k n).ports = d.ports := d.set_ports k _
@[simp] theorem Dev.setI_scan (d : Dev) (k : Nat) (n : Int) : (d.setI k n).scan = d.scan := d.set_scan k _
@[simp] theorem Dev.setI_test (d : Dev) (k : Nat) (n : Int) : (d.setI k n).test = d.test := d.set_test k _
@[simp] theorem Dev.setI_chans (d : Dev) (k : Nat) (n : Int) : (d.setI k n).chans = d.chans := d.set_chans k _
@[simp] theorem Dev.setI_formes (d : Dev) (k : Nat) (n : Int) : (d.setI k n).formes = d.formes := d.set_formes k _
@[simp] theorem Dev.setI_wins (d : Dev) (k : Nat) (n : Int) : (d.setI k n).wins = d.wins := d.set_wins k _
@[simp] theorem Dev.setI_audio (d : Dev) (k : Nat) (n : Int) : (d.setI k n).audio = d.audio := d.set_audio k _
@[simp] theorem Dev.setI_title (d : Dev) (k : Nat) (n : Int) : (d.setI k n).title = d.title := d.set_title k _
@[simp] theorem Dev.setI_host (d : Dev) (k : Nat) (n : Int) : (d.setI k n).host = d.host := d.set_host k _
@[simp] theorem Dev.setI_cache (d : Dev) (k : Nat) (n : Int) : (d.setI k n).cache = d.cache := d.set_cache k _
@[simp] theorem Dev.setI_streams (d : Dev) (k : Nat) (n : Int) : (d.setI k n).streams = d.streams := d.set_streams k _
@[simp] theorem Dev.setI_core (d : Dev) (k : Nat) (n : Int) : (d.setI k n).core = d.core := d.set_core k _
@[simp] theorem Dev.setI_trace (d : Dev) (k : Nat) (n : Int) : (d.setI k n).trace = d.trace := d.set_trace k _
@[simp] theorem Dev.setI_wd0 (d : Dev) (k : Nat) (n : Int) : (d.setI k n).wd0 = d.wd0 := d.set_wd0 k _
@[simp] theorem Dev.setI_wd1 (d : Dev) (k : Nat) (n : Int) : (d.setI k n).wd1 = d.wd1 := d.set_wd1 k _
@[simp] theorem Dev.setI_evc (d : Dev) (k : Nat) (n : Int) : (d.setI k n).evc = d.evc := d.set_evc k _
@[simp] theorem Dev.setI_log (d : Dev) (k : Nat) (n : Int) : (d.setI k n).log = d.log := d.set_log k _
@[simp] theorem Dev.setI_pwr (d : Dev) (k : Nat) (n : Int) : (d.setI k n).pwr = d.pwr := d.set_pwr k _
@[simp] theorem Dev.setI_saf (d : Dev) (k : Nat) (n : Int) : (d.setI k n).saf = d.saf := d.set_saf k _
@[simp] theorem Dev.setI_rst (d : Dev) (k : Nat) (n : Int) : (d.setI k n).rst = d.rst := d.set_rst k _
@[simp] theorem Dev.setI_pins (d : Dev) (k : Nat) (n : Int) : (d.setI k n).pins = d.pins := d.set_pins k _
@[simp] theorem Dev.setI_out (d : Dev) (k : Nat) (n : Int) : (d.setI k n).out = d.out := d.set_out k _

/-! ## setB -/

@[simp] theorem Dev.setB_bankA (d : Dev) (k : Nat) (b : List Byte) : (d.setB k b).bankA = d.bankA := d.set_bankA k _
@[simp] theorem Dev.setB_bankB (d : Dev) (k : Nat) (b : List Byte) : (d.setB k b).bankB = d.bankB := d.set_bankB k _
@[simp] theorem Dev.setB_slot0 (d : Dev) (k : Nat) (b : List Byte) : (d.setB k b).slot0 = d.slot0 := d.set_slot0 k _
@[simp] theorem Dev.setB_slot1 (d : Dev) (k : Nat) (b : List Byte) : (d.setB k b).slot1 = d.slot1 := d.set_slot1 k _
@[simp] theorem Dev.setB_itp (d : Dev) (k : Nat) (b : List Byte) : (d.setB k b).itp = d.itp := d.set_itp k _
@[simp] theorem Dev.setB_clk (d : Dev) (k : Nat) (b : List Byte) : (d.setB k b).clk = d.clk := d.set_clk k _
@[simp] theorem Dev.setB_refs (d : Dev) (k : Nat) (b : List Byte) : (d.setB k b).refs = d.refs := d.set_refs k _
@[simp] theorem Dev.setB_dpll (d : Dev) (k : Nat) (b : List Byte) : (d.setB k b).dpll = d.dpll := d.set_dpll k _
@[simp] theorem Dev.setB_marks (d : Dev) (k : Nat) (b : List Byte) : (d.setB k b).marks = d.marks := d.set_marks k _
@[simp] theorem Dev.setB_syns (d : Dev) (k : Nat) (b : List Byte) : (d.setB k b).syns = d.syns := d.set_syns k _
@[simp] theorem Dev.setB_quads (d : Dev) (k : Nat) (b : List Byte) : (d.setB k b).quads = d.quads := d.set_quads k _
@[simp] theorem Dev.setB_lanes (d : Dev) (k : Nat) (b : List Byte) : (d.setB k b).lanes = d.lanes := d.set_lanes k _
@[simp] theorem Dev.setB_ports (d : Dev) (k : Nat) (b : List Byte) : (d.setB k b).ports = d.ports := d.set_ports k _
@[simp] theorem Dev.setB_scan (d : Dev) (k : Nat) (b : List Byte) : (d.setB k b).scan = d.scan := d.set_scan k _
@[simp] theorem Dev.setB_test (d : Dev) (k : Nat) (b : List Byte) : (d.setB k b).test = d.test := d.set_test k _
@[simp] theorem Dev.setB_chans (d : Dev) (k : Nat) (b : List Byte) : (d.setB k b).chans = d.chans := d.set_chans k _
@[simp] theorem Dev.setB_formes (d : Dev) (k : Nat) (b : List Byte) : (d.setB k b).formes = d.formes :=
  d.set_formes k _
@[simp] theorem Dev.setB_wins (d : Dev) (k : Nat) (b : List Byte) : (d.setB k b).wins = d.wins := d.set_wins k _
@[simp] theorem Dev.setB_audio (d : Dev) (k : Nat) (b : List Byte) : (d.setB k b).audio = d.audio := d.set_audio k _
@[simp] theorem Dev.setB_title (d : Dev) (k : Nat) (b : List Byte) : (d.setB k b).title = d.title := d.set_title k _
@[simp] theorem Dev.setB_host (d : Dev) (k : Nat) (b : List Byte) : (d.setB k b).host = d.host := d.set_host k _
@[simp] theorem Dev.setB_cache (d : Dev) (k : Nat) (b : List Byte) : (d.setB k b).cache = d.cache := d.set_cache k _
@[simp] theorem Dev.setB_streams (d : Dev) (k : Nat) (b : List Byte) : (d.setB k b).streams = d.streams :=
  d.set_streams k _
@[simp] theorem Dev.setB_core (d : Dev) (k : Nat) (b : List Byte) : (d.setB k b).core = d.core := d.set_core k _
@[simp] theorem Dev.setB_trace (d : Dev) (k : Nat) (b : List Byte) : (d.setB k b).trace = d.trace := d.set_trace k _
@[simp] theorem Dev.setB_wd0 (d : Dev) (k : Nat) (b : List Byte) : (d.setB k b).wd0 = d.wd0 := d.set_wd0 k _
@[simp] theorem Dev.setB_wd1 (d : Dev) (k : Nat) (b : List Byte) : (d.setB k b).wd1 = d.wd1 := d.set_wd1 k _
@[simp] theorem Dev.setB_evc (d : Dev) (k : Nat) (b : List Byte) : (d.setB k b).evc = d.evc := d.set_evc k _
@[simp] theorem Dev.setB_log (d : Dev) (k : Nat) (b : List Byte) : (d.setB k b).log = d.log := d.set_log k _
@[simp] theorem Dev.setB_pwr (d : Dev) (k : Nat) (b : List Byte) : (d.setB k b).pwr = d.pwr := d.set_pwr k _
@[simp] theorem Dev.setB_saf (d : Dev) (k : Nat) (b : List Byte) : (d.setB k b).saf = d.saf := d.set_saf k _
@[simp] theorem Dev.setB_rst (d : Dev) (k : Nat) (b : List Byte) : (d.setB k b).rst = d.rst := d.set_rst k _
@[simp] theorem Dev.setB_pins (d : Dev) (k : Nat) (b : List Byte) : (d.setB k b).pins = d.pins := d.set_pins k _
@[simp] theorem Dev.setB_out (d : Dev) (k : Nat) (b : List Byte) : (d.setB k b).out = d.out := d.set_out k _

/-! ## inc -/

@[simp] theorem Dev.inc_bankA (d : Dev) (k : Nat) : (d.inc k).bankA = d.bankA := d.setN_bankA k _
@[simp] theorem Dev.inc_bankB (d : Dev) (k : Nat) : (d.inc k).bankB = d.bankB := d.setN_bankB k _
@[simp] theorem Dev.inc_slot0 (d : Dev) (k : Nat) : (d.inc k).slot0 = d.slot0 := d.setN_slot0 k _
@[simp] theorem Dev.inc_slot1 (d : Dev) (k : Nat) : (d.inc k).slot1 = d.slot1 := d.setN_slot1 k _
@[simp] theorem Dev.inc_itp (d : Dev) (k : Nat) : (d.inc k).itp = d.itp := d.setN_itp k _
@[simp] theorem Dev.inc_clk (d : Dev) (k : Nat) : (d.inc k).clk = d.clk := d.setN_clk k _
@[simp] theorem Dev.inc_refs (d : Dev) (k : Nat) : (d.inc k).refs = d.refs := d.setN_refs k _
@[simp] theorem Dev.inc_dpll (d : Dev) (k : Nat) : (d.inc k).dpll = d.dpll := d.setN_dpll k _
@[simp] theorem Dev.inc_marks (d : Dev) (k : Nat) : (d.inc k).marks = d.marks := d.setN_marks k _
@[simp] theorem Dev.inc_syns (d : Dev) (k : Nat) : (d.inc k).syns = d.syns := d.setN_syns k _
@[simp] theorem Dev.inc_quads (d : Dev) (k : Nat) : (d.inc k).quads = d.quads := d.setN_quads k _
@[simp] theorem Dev.inc_lanes (d : Dev) (k : Nat) : (d.inc k).lanes = d.lanes := d.setN_lanes k _
@[simp] theorem Dev.inc_ports (d : Dev) (k : Nat) : (d.inc k).ports = d.ports := d.setN_ports k _
@[simp] theorem Dev.inc_scan (d : Dev) (k : Nat) : (d.inc k).scan = d.scan := d.setN_scan k _
@[simp] theorem Dev.inc_test (d : Dev) (k : Nat) : (d.inc k).test = d.test := d.setN_test k _
@[simp] theorem Dev.inc_chans (d : Dev) (k : Nat) : (d.inc k).chans = d.chans := d.setN_chans k _
@[simp] theorem Dev.inc_formes (d : Dev) (k : Nat) : (d.inc k).formes = d.formes := d.setN_formes k _
@[simp] theorem Dev.inc_wins (d : Dev) (k : Nat) : (d.inc k).wins = d.wins := d.setN_wins k _
@[simp] theorem Dev.inc_audio (d : Dev) (k : Nat) : (d.inc k).audio = d.audio := d.setN_audio k _
@[simp] theorem Dev.inc_title (d : Dev) (k : Nat) : (d.inc k).title = d.title := d.setN_title k _
@[simp] theorem Dev.inc_host (d : Dev) (k : Nat) : (d.inc k).host = d.host := d.setN_host k _
@[simp] theorem Dev.inc_cache (d : Dev) (k : Nat) : (d.inc k).cache = d.cache := d.setN_cache k _
@[simp] theorem Dev.inc_streams (d : Dev) (k : Nat) : (d.inc k).streams = d.streams := d.setN_streams k _
@[simp] theorem Dev.inc_core (d : Dev) (k : Nat) : (d.inc k).core = d.core := d.setN_core k _
@[simp] theorem Dev.inc_trace (d : Dev) (k : Nat) : (d.inc k).trace = d.trace := d.setN_trace k _
@[simp] theorem Dev.inc_wd0 (d : Dev) (k : Nat) : (d.inc k).wd0 = d.wd0 := d.setN_wd0 k _
@[simp] theorem Dev.inc_wd1 (d : Dev) (k : Nat) : (d.inc k).wd1 = d.wd1 := d.setN_wd1 k _
@[simp] theorem Dev.inc_evc (d : Dev) (k : Nat) : (d.inc k).evc = d.evc := d.setN_evc k _
@[simp] theorem Dev.inc_log (d : Dev) (k : Nat) : (d.inc k).log = d.log := d.setN_log k _
@[simp] theorem Dev.inc_pwr (d : Dev) (k : Nat) : (d.inc k).pwr = d.pwr := d.setN_pwr k _
@[simp] theorem Dev.inc_saf (d : Dev) (k : Nat) : (d.inc k).saf = d.saf := d.setN_saf k _
@[simp] theorem Dev.inc_rst (d : Dev) (k : Nat) : (d.inc k).rst = d.rst := d.setN_rst k _
@[simp] theorem Dev.inc_pins (d : Dev) (k : Nat) : (d.inc k).pins = d.pins := d.setN_pins k _
@[simp] theorem Dev.inc_out (d : Dev) (k : Nat) : (d.inc k).out = d.out := d.setN_out k _

/-! ## addTo -/

@[simp] theorem Dev.addTo_bankA (d : Dev) (k w n : Nat) : (d.addTo k w n).bankA = d.bankA := d.setN_bankA k _
@[simp] theorem Dev.addTo_bankB (d : Dev) (k w n : Nat) : (d.addTo k w n).bankB = d.bankB := d.setN_bankB k _
@[simp] theorem Dev.addTo_slot0 (d : Dev) (k w n : Nat) : (d.addTo k w n).slot0 = d.slot0 := d.setN_slot0 k _
@[simp] theorem Dev.addTo_slot1 (d : Dev) (k w n : Nat) : (d.addTo k w n).slot1 = d.slot1 := d.setN_slot1 k _
@[simp] theorem Dev.addTo_itp (d : Dev) (k w n : Nat) : (d.addTo k w n).itp = d.itp := d.setN_itp k _
@[simp] theorem Dev.addTo_clk (d : Dev) (k w n : Nat) : (d.addTo k w n).clk = d.clk := d.setN_clk k _
@[simp] theorem Dev.addTo_refs (d : Dev) (k w n : Nat) : (d.addTo k w n).refs = d.refs := d.setN_refs k _
@[simp] theorem Dev.addTo_dpll (d : Dev) (k w n : Nat) : (d.addTo k w n).dpll = d.dpll := d.setN_dpll k _
@[simp] theorem Dev.addTo_marks (d : Dev) (k w n : Nat) : (d.addTo k w n).marks = d.marks := d.setN_marks k _
@[simp] theorem Dev.addTo_syns (d : Dev) (k w n : Nat) : (d.addTo k w n).syns = d.syns := d.setN_syns k _
@[simp] theorem Dev.addTo_quads (d : Dev) (k w n : Nat) : (d.addTo k w n).quads = d.quads := d.setN_quads k _
@[simp] theorem Dev.addTo_lanes (d : Dev) (k w n : Nat) : (d.addTo k w n).lanes = d.lanes := d.setN_lanes k _
@[simp] theorem Dev.addTo_ports (d : Dev) (k w n : Nat) : (d.addTo k w n).ports = d.ports := d.setN_ports k _
@[simp] theorem Dev.addTo_scan (d : Dev) (k w n : Nat) : (d.addTo k w n).scan = d.scan := d.setN_scan k _
@[simp] theorem Dev.addTo_test (d : Dev) (k w n : Nat) : (d.addTo k w n).test = d.test := d.setN_test k _
@[simp] theorem Dev.addTo_chans (d : Dev) (k w n : Nat) : (d.addTo k w n).chans = d.chans := d.setN_chans k _
@[simp] theorem Dev.addTo_formes (d : Dev) (k w n : Nat) : (d.addTo k w n).formes = d.formes := d.setN_formes k _
@[simp] theorem Dev.addTo_wins (d : Dev) (k w n : Nat) : (d.addTo k w n).wins = d.wins := d.setN_wins k _
@[simp] theorem Dev.addTo_audio (d : Dev) (k w n : Nat) : (d.addTo k w n).audio = d.audio := d.setN_audio k _
@[simp] theorem Dev.addTo_title (d : Dev) (k w n : Nat) : (d.addTo k w n).title = d.title := d.setN_title k _
@[simp] theorem Dev.addTo_host (d : Dev) (k w n : Nat) : (d.addTo k w n).host = d.host := d.setN_host k _
@[simp] theorem Dev.addTo_cache (d : Dev) (k w n : Nat) : (d.addTo k w n).cache = d.cache := d.setN_cache k _
@[simp] theorem Dev.addTo_streams (d : Dev) (k w n : Nat) : (d.addTo k w n).streams = d.streams := d.setN_streams k _
@[simp] theorem Dev.addTo_core (d : Dev) (k w n : Nat) : (d.addTo k w n).core = d.core := d.setN_core k _
@[simp] theorem Dev.addTo_trace (d : Dev) (k w n : Nat) : (d.addTo k w n).trace = d.trace := d.setN_trace k _
@[simp] theorem Dev.addTo_wd0 (d : Dev) (k w n : Nat) : (d.addTo k w n).wd0 = d.wd0 := d.setN_wd0 k _
@[simp] theorem Dev.addTo_wd1 (d : Dev) (k w n : Nat) : (d.addTo k w n).wd1 = d.wd1 := d.setN_wd1 k _
@[simp] theorem Dev.addTo_evc (d : Dev) (k w n : Nat) : (d.addTo k w n).evc = d.evc := d.setN_evc k _
@[simp] theorem Dev.addTo_log (d : Dev) (k w n : Nat) : (d.addTo k w n).log = d.log := d.setN_log k _
@[simp] theorem Dev.addTo_pwr (d : Dev) (k w n : Nat) : (d.addTo k w n).pwr = d.pwr := d.setN_pwr k _
@[simp] theorem Dev.addTo_saf (d : Dev) (k w n : Nat) : (d.addTo k w n).saf = d.saf := d.setN_saf k _
@[simp] theorem Dev.addTo_rst (d : Dev) (k w n : Nat) : (d.addTo k w n).rst = d.rst := d.setN_rst k _
@[simp] theorem Dev.addTo_pins (d : Dev) (k w n : Nat) : (d.addTo k w n).pins = d.pins := d.setN_pins k _
@[simp] theorem Dev.addTo_out (d : Dev) (k w n : Nat) : (d.addTo k w n).out = d.out := d.setN_out k _

/-! ## emit -/

@[simp] theorem Dev.emit_obj (d : Dev) (o : Out) : (d.emit o).obj = d.obj := rfl
@[simp] theorem Dev.emit_bankA (d : Dev) (o : Out) : (d.emit o).bankA = d.bankA := rfl
@[simp] theorem Dev.emit_bankB (d : Dev) (o : Out) : (d.emit o).bankB = d.bankB := rfl
@[simp] theorem Dev.emit_slot0 (d : Dev) (o : Out) : (d.emit o).slot0 = d.slot0 := rfl
@[simp] theorem Dev.emit_slot1 (d : Dev) (o : Out) : (d.emit o).slot1 = d.slot1 := rfl
@[simp] theorem Dev.emit_itp (d : Dev) (o : Out) : (d.emit o).itp = d.itp := rfl
@[simp] theorem Dev.emit_clk (d : Dev) (o : Out) : (d.emit o).clk = d.clk := rfl
@[simp] theorem Dev.emit_refs (d : Dev) (o : Out) : (d.emit o).refs = d.refs := rfl
@[simp] theorem Dev.emit_dpll (d : Dev) (o : Out) : (d.emit o).dpll = d.dpll := rfl
@[simp] theorem Dev.emit_marks (d : Dev) (o : Out) : (d.emit o).marks = d.marks := rfl
@[simp] theorem Dev.emit_syns (d : Dev) (o : Out) : (d.emit o).syns = d.syns := rfl
@[simp] theorem Dev.emit_quads (d : Dev) (o : Out) : (d.emit o).quads = d.quads := rfl
@[simp] theorem Dev.emit_lanes (d : Dev) (o : Out) : (d.emit o).lanes = d.lanes := rfl
@[simp] theorem Dev.emit_ports (d : Dev) (o : Out) : (d.emit o).ports = d.ports := rfl
@[simp] theorem Dev.emit_scan (d : Dev) (o : Out) : (d.emit o).scan = d.scan := rfl
@[simp] theorem Dev.emit_test (d : Dev) (o : Out) : (d.emit o).test = d.test := rfl
@[simp] theorem Dev.emit_chans (d : Dev) (o : Out) : (d.emit o).chans = d.chans := rfl
@[simp] theorem Dev.emit_formes (d : Dev) (o : Out) : (d.emit o).formes = d.formes := rfl
@[simp] theorem Dev.emit_wins (d : Dev) (o : Out) : (d.emit o).wins = d.wins := rfl
@[simp] theorem Dev.emit_audio (d : Dev) (o : Out) : (d.emit o).audio = d.audio := rfl
@[simp] theorem Dev.emit_title (d : Dev) (o : Out) : (d.emit o).title = d.title := rfl
@[simp] theorem Dev.emit_host (d : Dev) (o : Out) : (d.emit o).host = d.host := rfl
@[simp] theorem Dev.emit_cache (d : Dev) (o : Out) : (d.emit o).cache = d.cache := rfl
@[simp] theorem Dev.emit_streams (d : Dev) (o : Out) : (d.emit o).streams = d.streams := rfl
@[simp] theorem Dev.emit_core (d : Dev) (o : Out) : (d.emit o).core = d.core := rfl
@[simp] theorem Dev.emit_trace (d : Dev) (o : Out) : (d.emit o).trace = d.trace := rfl
@[simp] theorem Dev.emit_wd0 (d : Dev) (o : Out) : (d.emit o).wd0 = d.wd0 := rfl
@[simp] theorem Dev.emit_wd1 (d : Dev) (o : Out) : (d.emit o).wd1 = d.wd1 := rfl
@[simp] theorem Dev.emit_evc (d : Dev) (o : Out) : (d.emit o).evc = d.evc := rfl
@[simp] theorem Dev.emit_log (d : Dev) (o : Out) : (d.emit o).log = d.log := rfl
@[simp] theorem Dev.emit_pwr (d : Dev) (o : Out) : (d.emit o).pwr = d.pwr := rfl
@[simp] theorem Dev.emit_saf (d : Dev) (o : Out) : (d.emit o).saf = d.saf := rfl
@[simp] theorem Dev.emit_rst (d : Dev) (o : Out) : (d.emit o).rst = d.rst := rfl
@[simp] theorem Dev.emit_pins (d : Dev) (o : Out) : (d.emit o).pins = d.pins := rfl

/-! ## sendBoth -/

theorem Dev.sendCan_same (d : Dev) (ch : Nat) (m : Msg) : d.sendCan ch m = { d with out := (d.sendCan ch m).out } := by
  unfold Dev.sendCan; split <;> rfl

/-- A message on the CAN FD channels writes only what is sent. -/
theorem Dev.sendBoth_same (d : Dev) (m : Msg) : d.sendBoth m = { d with out := (d.sendBoth m).out } := by
  unfold Dev.sendBoth
  rw [Dev.sendCan_same (d.sendCan 0 m), Dev.sendCan_same d]

@[simp] theorem Dev.sendBoth_obj (d : Dev) (m : Msg) : (d.sendBoth m).obj = d.obj := by rw [Dev.sendBoth_same]
@[simp] theorem Dev.sendBoth_bankA (d : Dev) (m : Msg) : (d.sendBoth m).bankA = d.bankA := by rw [Dev.sendBoth_same]
@[simp] theorem Dev.sendBoth_bankB (d : Dev) (m : Msg) : (d.sendBoth m).bankB = d.bankB := by rw [Dev.sendBoth_same]
@[simp] theorem Dev.sendBoth_slot0 (d : Dev) (m : Msg) : (d.sendBoth m).slot0 = d.slot0 := by rw [Dev.sendBoth_same]
@[simp] theorem Dev.sendBoth_slot1 (d : Dev) (m : Msg) : (d.sendBoth m).slot1 = d.slot1 := by rw [Dev.sendBoth_same]
@[simp] theorem Dev.sendBoth_itp (d : Dev) (m : Msg) : (d.sendBoth m).itp = d.itp := by rw [Dev.sendBoth_same]
@[simp] theorem Dev.sendBoth_clk (d : Dev) (m : Msg) : (d.sendBoth m).clk = d.clk := by rw [Dev.sendBoth_same]
@[simp] theorem Dev.sendBoth_refs (d : Dev) (m : Msg) : (d.sendBoth m).refs = d.refs := by rw [Dev.sendBoth_same]
@[simp] theorem Dev.sendBoth_dpll (d : Dev) (m : Msg) : (d.sendBoth m).dpll = d.dpll := by rw [Dev.sendBoth_same]
@[simp] theorem Dev.sendBoth_marks (d : Dev) (m : Msg) : (d.sendBoth m).marks = d.marks := by rw [Dev.sendBoth_same]
@[simp] theorem Dev.sendBoth_syns (d : Dev) (m : Msg) : (d.sendBoth m).syns = d.syns := by rw [Dev.sendBoth_same]
@[simp] theorem Dev.sendBoth_quads (d : Dev) (m : Msg) : (d.sendBoth m).quads = d.quads := by rw [Dev.sendBoth_same]
@[simp] theorem Dev.sendBoth_lanes (d : Dev) (m : Msg) : (d.sendBoth m).lanes = d.lanes := by rw [Dev.sendBoth_same]
@[simp] theorem Dev.sendBoth_ports (d : Dev) (m : Msg) : (d.sendBoth m).ports = d.ports := by rw [Dev.sendBoth_same]
@[simp] theorem Dev.sendBoth_scan (d : Dev) (m : Msg) : (d.sendBoth m).scan = d.scan := by rw [Dev.sendBoth_same]
@[simp] theorem Dev.sendBoth_test (d : Dev) (m : Msg) : (d.sendBoth m).test = d.test := by rw [Dev.sendBoth_same]
@[simp] theorem Dev.sendBoth_chans (d : Dev) (m : Msg) : (d.sendBoth m).chans = d.chans := by rw [Dev.sendBoth_same]
@[simp] theorem Dev.sendBoth_formes (d : Dev) (m : Msg) : (d.sendBoth m).formes = d.formes := by rw [Dev.sendBoth_same]
@[simp] theorem Dev.sendBoth_wins (d : Dev) (m : Msg) : (d.sendBoth m).wins = d.wins := by rw [Dev.sendBoth_same]
@[simp] theorem Dev.sendBoth_audio (d : Dev) (m : Msg) : (d.sendBoth m).audio = d.audio := by rw [Dev.sendBoth_same]
@[simp] theorem Dev.sendBoth_title (d : Dev) (m : Msg) : (d.sendBoth m).title = d.title := by rw [Dev.sendBoth_same]
@[simp] theorem Dev.sendBoth_host (d : Dev) (m : Msg) : (d.sendBoth m).host = d.host := by rw [Dev.sendBoth_same]
@[simp] theorem Dev.sendBoth_cache (d : Dev) (m : Msg) : (d.sendBoth m).cache = d.cache := by rw [Dev.sendBoth_same]
@[simp] theorem Dev.sendBoth_streams (d : Dev) (m : Msg) : (d.sendBoth m).streams = d.streams := by rw [Dev.sendBoth_same]
@[simp] theorem Dev.sendBoth_core (d : Dev) (m : Msg) : (d.sendBoth m).core = d.core := by rw [Dev.sendBoth_same]
@[simp] theorem Dev.sendBoth_trace (d : Dev) (m : Msg) : (d.sendBoth m).trace = d.trace := by rw [Dev.sendBoth_same]
@[simp] theorem Dev.sendBoth_wd0 (d : Dev) (m : Msg) : (d.sendBoth m).wd0 = d.wd0 := by rw [Dev.sendBoth_same]
@[simp] theorem Dev.sendBoth_wd1 (d : Dev) (m : Msg) : (d.sendBoth m).wd1 = d.wd1 := by rw [Dev.sendBoth_same]
@[simp] theorem Dev.sendBoth_evc (d : Dev) (m : Msg) : (d.sendBoth m).evc = d.evc := by rw [Dev.sendBoth_same]
@[simp] theorem Dev.sendBoth_log (d : Dev) (m : Msg) : (d.sendBoth m).log = d.log := by rw [Dev.sendBoth_same]
@[simp] theorem Dev.sendBoth_pwr (d : Dev) (m : Msg) : (d.sendBoth m).pwr = d.pwr := by rw [Dev.sendBoth_same]
@[simp] theorem Dev.sendBoth_saf (d : Dev) (m : Msg) : (d.sendBoth m).saf = d.saf := by rw [Dev.sendBoth_same]
@[simp] theorem Dev.sendBoth_rst (d : Dev) (m : Msg) : (d.sendBoth m).rst = d.rst := by rw [Dev.sendBoth_same]
@[simp] theorem Dev.sendBoth_pins (d : Dev) (m : Msg) : (d.sendBoth m).pins = d.pins := by rw [Dev.sendBoth_same]

/-! ## toHost -/

@[simp] theorem Dev.toHost_bankA (d : Dev) (a b : Bool) (m : Msg) : (d.toHost a b m).bankA = d.bankA := by
  unfold Dev.toHost; dsimp only; (repeat' split) <;> first | rfl | exact d.inc_bankA _
@[simp] theorem Dev.toHost_bankB (d : Dev) (a b : Bool) (m : Msg) : (d.toHost a b m).bankB = d.bankB := by
  unfold Dev.toHost; dsimp only; (repeat' split) <;> first | rfl | exact d.inc_bankB _
@[simp] theorem Dev.toHost_slot0 (d : Dev) (a b : Bool) (m : Msg) : (d.toHost a b m).slot0 = d.slot0 := by
  unfold Dev.toHost; dsimp only; (repeat' split) <;> first | rfl | exact d.inc_slot0 _
@[simp] theorem Dev.toHost_slot1 (d : Dev) (a b : Bool) (m : Msg) : (d.toHost a b m).slot1 = d.slot1 := by
  unfold Dev.toHost; dsimp only; (repeat' split) <;> first | rfl | exact d.inc_slot1 _
@[simp] theorem Dev.toHost_clk (d : Dev) (a b : Bool) (m : Msg) : (d.toHost a b m).clk = d.clk := by
  unfold Dev.toHost; dsimp only; (repeat' split) <;> first | rfl | exact d.inc_clk _
@[simp] theorem Dev.toHost_refs (d : Dev) (a b : Bool) (m : Msg) : (d.toHost a b m).refs = d.refs := by
  unfold Dev.toHost; dsimp only; (repeat' split) <;> first | rfl | exact d.inc_refs _
@[simp] theorem Dev.toHost_dpll (d : Dev) (a b : Bool) (m : Msg) : (d.toHost a b m).dpll = d.dpll := by
  unfold Dev.toHost; dsimp only; (repeat' split) <;> first | rfl | exact d.inc_dpll _
@[simp] theorem Dev.toHost_marks (d : Dev) (a b : Bool) (m : Msg) : (d.toHost a b m).marks = d.marks := by
  unfold Dev.toHost; dsimp only; (repeat' split) <;> first | rfl | exact d.inc_marks _
@[simp] theorem Dev.toHost_syns (d : Dev) (a b : Bool) (m : Msg) : (d.toHost a b m).syns = d.syns := by
  unfold Dev.toHost; dsimp only; (repeat' split) <;> first | rfl | exact d.inc_syns _
@[simp] theorem Dev.toHost_quads (d : Dev) (a b : Bool) (m : Msg) : (d.toHost a b m).quads = d.quads := by
  unfold Dev.toHost; dsimp only; (repeat' split) <;> first | rfl | exact d.inc_quads _
@[simp] theorem Dev.toHost_lanes (d : Dev) (a b : Bool) (m : Msg) : (d.toHost a b m).lanes = d.lanes := by
  unfold Dev.toHost; dsimp only; (repeat' split) <;> first | rfl | exact d.inc_lanes _
@[simp] theorem Dev.toHost_ports (d : Dev) (a b : Bool) (m : Msg) : (d.toHost a b m).ports = d.ports := by
  unfold Dev.toHost; dsimp only; (repeat' split) <;> first | rfl | exact d.inc_ports _
@[simp] theorem Dev.toHost_scan (d : Dev) (a b : Bool) (m : Msg) : (d.toHost a b m).scan = d.scan := by
  unfold Dev.toHost; dsimp only; (repeat' split) <;> first | rfl | exact d.inc_scan _
@[simp] theorem Dev.toHost_test (d : Dev) (a b : Bool) (m : Msg) : (d.toHost a b m).test = d.test := by
  unfold Dev.toHost; dsimp only; (repeat' split) <;> first | rfl | exact d.inc_test _
@[simp] theorem Dev.toHost_chans (d : Dev) (a b : Bool) (m : Msg) : (d.toHost a b m).chans = d.chans := by
  unfold Dev.toHost; dsimp only; (repeat' split) <;> first | rfl | exact d.inc_chans _
@[simp] theorem Dev.toHost_formes (d : Dev) (a b : Bool) (m : Msg) : (d.toHost a b m).formes = d.formes := by
  unfold Dev.toHost; dsimp only; (repeat' split) <;> first | rfl | exact d.inc_formes _
@[simp] theorem Dev.toHost_wins (d : Dev) (a b : Bool) (m : Msg) : (d.toHost a b m).wins = d.wins := by
  unfold Dev.toHost; dsimp only; (repeat' split) <;> first | rfl | exact d.inc_wins _
@[simp] theorem Dev.toHost_audio (d : Dev) (a b : Bool) (m : Msg) : (d.toHost a b m).audio = d.audio := by
  unfold Dev.toHost; dsimp only; (repeat' split) <;> first | rfl | exact d.inc_audio _
@[simp] theorem Dev.toHost_title (d : Dev) (a b : Bool) (m : Msg) : (d.toHost a b m).title = d.title := by
  unfold Dev.toHost; dsimp only; (repeat' split) <;> first | rfl | exact d.inc_title _
@[simp] theorem Dev.toHost_host (d : Dev) (a b : Bool) (m : Msg) : (d.toHost a b m).host = d.host := by
  unfold Dev.toHost; dsimp only; (repeat' split) <;> first | rfl | exact d.inc_host _
@[simp] theorem Dev.toHost_cache (d : Dev) (a b : Bool) (m : Msg) : (d.toHost a b m).cache = d.cache := by
  unfold Dev.toHost; dsimp only; (repeat' split) <;> first | rfl | exact d.inc_cache _
@[simp] theorem Dev.toHost_streams (d : Dev) (a b : Bool) (m : Msg) : (d.toHost a b m).streams = d.streams := by
  unfold Dev.toHost; dsimp only; (repeat' split) <;> first | rfl | exact d.inc_streams _
@[simp] theorem Dev.toHost_core (d : Dev) (a b : Bool) (m : Msg) : (d.toHost a b m).core = d.core := by
  unfold Dev.toHost; dsimp only; (repeat' split) <;> first | rfl | exact d.inc_core _
@[simp] theorem Dev.toHost_trace (d : Dev) (a b : Bool) (m : Msg) : (d.toHost a b m).trace = d.trace := by
  unfold Dev.toHost; dsimp only; (repeat' split) <;> first | rfl | exact d.inc_trace _
@[simp] theorem Dev.toHost_wd0 (d : Dev) (a b : Bool) (m : Msg) : (d.toHost a b m).wd0 = d.wd0 := by
  unfold Dev.toHost; dsimp only; (repeat' split) <;> first | rfl | exact d.inc_wd0 _
@[simp] theorem Dev.toHost_wd1 (d : Dev) (a b : Bool) (m : Msg) : (d.toHost a b m).wd1 = d.wd1 := by
  unfold Dev.toHost; dsimp only; (repeat' split) <;> first | rfl | exact d.inc_wd1 _
@[simp] theorem Dev.toHost_evc (d : Dev) (a b : Bool) (m : Msg) : (d.toHost a b m).evc = d.evc := by
  unfold Dev.toHost; dsimp only; (repeat' split) <;> first | rfl | exact d.inc_evc _
@[simp] theorem Dev.toHost_log (d : Dev) (a b : Bool) (m : Msg) : (d.toHost a b m).log = d.log := by
  unfold Dev.toHost; dsimp only; (repeat' split) <;> first | rfl | exact d.inc_log _
@[simp] theorem Dev.toHost_pwr (d : Dev) (a b : Bool) (m : Msg) : (d.toHost a b m).pwr = d.pwr := by
  unfold Dev.toHost; dsimp only; (repeat' split) <;> first | rfl | exact d.inc_pwr _
@[simp] theorem Dev.toHost_saf (d : Dev) (a b : Bool) (m : Msg) : (d.toHost a b m).saf = d.saf := by
  unfold Dev.toHost; dsimp only; (repeat' split) <;> first | rfl | exact d.inc_saf _
@[simp] theorem Dev.toHost_rst (d : Dev) (a b : Bool) (m : Msg) : (d.toHost a b m).rst = d.rst := by
  unfold Dev.toHost; dsimp only; (repeat' split) <;> first | rfl | exact d.inc_rst _
@[simp] theorem Dev.toHost_pins (d : Dev) (a b : Bool) (m : Msg) : (d.toHost a b m).pins = d.pins := by
  unfold Dev.toHost; dsimp only; (repeat' split) <;> first | rfl | exact d.inc_pins _
@[simp] theorem Dev.toHost_out (d : Dev) (a b : Bool) (m : Msg) : (d.toHost a b m).out = d.out := by
  unfold Dev.toHost; dsimp only; (repeat' split) <;> first | rfl | exact d.inc_out _

/-! ## raiseF -/

/-- What a raise may write: the event controller, the log, the counters among the objects. -/
def Dev.RaiseOf (d x : Dev) : Prop := ∃ o e l, x = { d with obj := o, evc := e, log := l }

theorem Dev.RaiseOf.inc {d x : Dev} (k : Nat) (h : d.RaiseOf x) : d.RaiseOf (x.inc k) := by
  obtain ⟨o, e, l, rfl⟩ := h
  exact ⟨_, e, l, Dev.inc_eta _ k⟩

theorem ite_pred {α : Type} (P : α → Prop) {p : Prop} [Decidable p] {a b : α} (ha : P a) (hb : P b) :
    P (if p then a else b) := by
  split
  · exact ha
  · exact hb

/-- A raise writes only the event controller, the log and the counters of dropped messages and records. -/
theorem Dev.raiseF_eta (d : Dev) (c : Ctx) (b : Bool) (ev n : Nat) : d.RaiseOf (d.raiseF c b ev n) := by
  unfold Dev.raiseF
  extract_lets r e0 m e1 e2 d1 d2
  have h1 : d.RaiseOf d1 := ⟨_, _, _, rfl⟩
  have h2 : d.RaiseOf d2 :=
    ite_pred d.RaiseOf (ite_pred d.RaiseOf (h1.inc _) (ite_pred d.RaiseOf (h1.inc _) ⟨_, _, _, rfl⟩)) h1
  clear_value d2
  obtain ⟨o, e, l, rfl⟩ := h2
  exact ite_pred d.RaiseOf (ite_pred d.RaiseOf (.inc _ ⟨_, _, _, rfl⟩) ⟨_, _, _, rfl⟩) ⟨_, _, _, rfl⟩

@[simp] theorem Dev.raiseF_bankA (d : Dev) (c : Ctx) (b : Bool) (ev n : Nat) : (d.raiseF c b ev n).bankA = d.bankA := by
  obtain ⟨_, _, _, h⟩ := d.raiseF_eta c b ev n; rw [h]
@[simp] theorem Dev.raiseF_bankB (d : Dev) (c : Ctx) (b : Bool) (ev n : Nat) : (d.raiseF c b ev n).bankB = d.bankB := by
  obtain ⟨_, _, _, h⟩ := d.raiseF_eta c b ev n; rw [h]
@[simp] theorem Dev.raiseF_slot0 (d : Dev) (c : Ctx) (b : Bool) (ev n : Nat) : (d.raiseF c b ev n).slot0 = d.slot0 := by
  obtain ⟨_, _, _, h⟩ := d.raiseF_eta c b ev n; rw [h]
@[simp] theorem Dev.raiseF_slot1 (d : Dev) (c : Ctx) (b : Bool) (ev n : Nat) : (d.raiseF c b ev n).slot1 = d.slot1 := by
  obtain ⟨_, _, _, h⟩ := d.raiseF_eta c b ev n; rw [h]
@[simp] theorem Dev.raiseF_itp (d : Dev) (c : Ctx) (b : Bool) (ev n : Nat) : (d.raiseF c b ev n).itp = d.itp := by
  obtain ⟨_, _, _, h⟩ := d.raiseF_eta c b ev n; rw [h]
@[simp] theorem Dev.raiseF_clk (d : Dev) (c : Ctx) (b : Bool) (ev n : Nat) : (d.raiseF c b ev n).clk = d.clk := by
  obtain ⟨_, _, _, h⟩ := d.raiseF_eta c b ev n; rw [h]
@[simp] theorem Dev.raiseF_refs (d : Dev) (c : Ctx) (b : Bool) (ev n : Nat) : (d.raiseF c b ev n).refs = d.refs := by
  obtain ⟨_, _, _, h⟩ := d.raiseF_eta c b ev n; rw [h]
@[simp] theorem Dev.raiseF_dpll (d : Dev) (c : Ctx) (b : Bool) (ev n : Nat) : (d.raiseF c b ev n).dpll = d.dpll := by
  obtain ⟨_, _, _, h⟩ := d.raiseF_eta c b ev n; rw [h]
@[simp] theorem Dev.raiseF_marks (d : Dev) (c : Ctx) (b : Bool) (ev n : Nat) : (d.raiseF c b ev n).marks = d.marks := by
  obtain ⟨_, _, _, h⟩ := d.raiseF_eta c b ev n; rw [h]
@[simp] theorem Dev.raiseF_syns (d : Dev) (c : Ctx) (b : Bool) (ev n : Nat) : (d.raiseF c b ev n).syns = d.syns := by
  obtain ⟨_, _, _, h⟩ := d.raiseF_eta c b ev n; rw [h]
@[simp] theorem Dev.raiseF_quads (d : Dev) (c : Ctx) (b : Bool) (ev n : Nat) : (d.raiseF c b ev n).quads = d.quads := by
  obtain ⟨_, _, _, h⟩ := d.raiseF_eta c b ev n; rw [h]
@[simp] theorem Dev.raiseF_lanes (d : Dev) (c : Ctx) (b : Bool) (ev n : Nat) : (d.raiseF c b ev n).lanes = d.lanes := by
  obtain ⟨_, _, _, h⟩ := d.raiseF_eta c b ev n; rw [h]
@[simp] theorem Dev.raiseF_ports (d : Dev) (c : Ctx) (b : Bool) (ev n : Nat) : (d.raiseF c b ev n).ports = d.ports := by
  obtain ⟨_, _, _, h⟩ := d.raiseF_eta c b ev n; rw [h]
@[simp] theorem Dev.raiseF_scan (d : Dev) (c : Ctx) (b : Bool) (ev n : Nat) : (d.raiseF c b ev n).scan = d.scan := by
  obtain ⟨_, _, _, h⟩ := d.raiseF_eta c b ev n; rw [h]
@[simp] theorem Dev.raiseF_test (d : Dev) (c : Ctx) (b : Bool) (ev n : Nat) : (d.raiseF c b ev n).test = d.test := by
  obtain ⟨_, _, _, h⟩ := d.raiseF_eta c b ev n; rw [h]
@[simp] theorem Dev.raiseF_chans (d : Dev) (c : Ctx) (b : Bool) (ev n : Nat) : (d.raiseF c b ev n).chans = d.chans := by
  obtain ⟨_, _, _, h⟩ := d.raiseF_eta c b ev n; rw [h]
@[simp] theorem Dev.raiseF_formes (d : Dev) (c : Ctx) (b : Bool) (ev n : Nat) : (d.raiseF c b ev n).formes = d.formes := by
  obtain ⟨_, _, _, h⟩ := d.raiseF_eta c b ev n; rw [h]
@[simp] theorem Dev.raiseF_wins (d : Dev) (c : Ctx) (b : Bool) (ev n : Nat) : (d.raiseF c b ev n).wins = d.wins := by
  obtain ⟨_, _, _, h⟩ := d.raiseF_eta c b ev n; rw [h]
@[simp] theorem Dev.raiseF_audio (d : Dev) (c : Ctx) (b : Bool) (ev n : Nat) : (d.raiseF c b ev n).audio = d.audio := by
  obtain ⟨_, _, _, h⟩ := d.raiseF_eta c b ev n; rw [h]
@[simp] theorem Dev.raiseF_title (d : Dev) (c : Ctx) (b : Bool) (ev n : Nat) : (d.raiseF c b ev n).title = d.title := by
  obtain ⟨_, _, _, h⟩ := d.raiseF_eta c b ev n; rw [h]
@[simp] theorem Dev.raiseF_host (d : Dev) (c : Ctx) (b : Bool) (ev n : Nat) : (d.raiseF c b ev n).host = d.host := by
  obtain ⟨_, _, _, h⟩ := d.raiseF_eta c b ev n; rw [h]
@[simp] theorem Dev.raiseF_cache (d : Dev) (c : Ctx) (b : Bool) (ev n : Nat) : (d.raiseF c b ev n).cache = d.cache := by
  obtain ⟨_, _, _, h⟩ := d.raiseF_eta c b ev n; rw [h]
@[simp] theorem Dev.raiseF_streams (d : Dev) (c : Ctx) (b : Bool) (ev n : Nat) : (d.raiseF c b ev n).streams = d.streams := by
  obtain ⟨_, _, _, h⟩ := d.raiseF_eta c b ev n; rw [h]
@[simp] theorem Dev.raiseF_core (d : Dev) (c : Ctx) (b : Bool) (ev n : Nat) : (d.raiseF c b ev n).core = d.core := by
  obtain ⟨_, _, _, h⟩ := d.raiseF_eta c b ev n; rw [h]
@[simp] theorem Dev.raiseF_trace (d : Dev) (c : Ctx) (b : Bool) (ev n : Nat) : (d.raiseF c b ev n).trace = d.trace := by
  obtain ⟨_, _, _, h⟩ := d.raiseF_eta c b ev n; rw [h]
@[simp] theorem Dev.raiseF_wd0 (d : Dev) (c : Ctx) (b : Bool) (ev n : Nat) : (d.raiseF c b ev n).wd0 = d.wd0 := by
  obtain ⟨_, _, _, h⟩ := d.raiseF_eta c b ev n; rw [h]
@[simp] theorem Dev.raiseF_wd1 (d : Dev) (c : Ctx) (b : Bool) (ev n : Nat) : (d.raiseF c b ev n).wd1 = d.wd1 := by
  obtain ⟨_, _, _, h⟩ := d.raiseF_eta c b ev n; rw [h]
@[simp] theorem Dev.raiseF_pwr (d : Dev) (c : Ctx) (b : Bool) (ev n : Nat) : (d.raiseF c b ev n).pwr = d.pwr := by
  obtain ⟨_, _, _, h⟩ := d.raiseF_eta c b ev n; rw [h]
@[simp] theorem Dev.raiseF_saf (d : Dev) (c : Ctx) (b : Bool) (ev n : Nat) : (d.raiseF c b ev n).saf = d.saf := by
  obtain ⟨_, _, _, h⟩ := d.raiseF_eta c b ev n; rw [h]
@[simp] theorem Dev.raiseF_rst (d : Dev) (c : Ctx) (b : Bool) (ev n : Nat) : (d.raiseF c b ev n).rst = d.rst := by
  obtain ⟨_, _, _, h⟩ := d.raiseF_eta c b ev n; rw [h]
@[simp] theorem Dev.raiseF_pins (d : Dev) (c : Ctx) (b : Bool) (ev n : Nat) : (d.raiseF c b ev n).pins = d.pins := by
  obtain ⟨_, _, _, h⟩ := d.raiseF_eta c b ev n; rw [h]
@[simp] theorem Dev.raiseF_out (d : Dev) (c : Ctx) (b : Bool) (ev n : Nat) : (d.raiseF c b ev n).out = d.out := by
  obtain ⟨_, _, _, h⟩ := d.raiseF_eta c b ev n; rw [h]

/-! ## raise -/

@[simp] theorem Dev.raise_bankA (d : Dev) (c : Ctx) (ev n : Nat) : (d.raise c ev n).bankA = d.bankA :=
  d.raiseF_bankA c _ ev n
@[simp] theorem Dev.raise_bankB (d : Dev) (c : Ctx) (ev n : Nat) : (d.raise c ev n).bankB = d.bankB :=
  d.raiseF_bankB c _ ev n
@[simp] theorem Dev.raise_slot0 (d : Dev) (c : Ctx) (ev n : Nat) : (d.raise c ev n).slot0 = d.slot0 :=
  d.raiseF_slot0 c _ ev n
@[simp] theorem Dev.raise_slot1 (d : Dev) (c : Ctx) (ev n : Nat) : (d.raise c ev n).slot1 = d.slot1 :=
  d.raiseF_slot1 c _ ev n
@[simp] theorem Dev.raise_itp (d : Dev) (c : Ctx) (ev n : Nat) : (d.raise c ev n).itp = d.itp := d.raiseF_itp c _ ev n
@[simp] theorem Dev.raise_clk (d : Dev) (c : Ctx) (ev n : Nat) : (d.raise c ev n).clk = d.clk := d.raiseF_clk c _ ev n
@[simp] theorem Dev.raise_refs (d : Dev) (c : Ctx) (ev n : Nat) : (d.raise c ev n).refs = d.refs :=
  d.raiseF_refs c _ ev n
@[simp] theorem Dev.raise_dpll (d : Dev) (c : Ctx) (ev n : Nat) : (d.raise c ev n).dpll = d.dpll :=
  d.raiseF_dpll c _ ev n
@[simp] theorem Dev.raise_marks (d : Dev) (c : Ctx) (ev n : Nat) : (d.raise c ev n).marks = d.marks :=
  d.raiseF_marks c _ ev n
@[simp] theorem Dev.raise_syns (d : Dev) (c : Ctx) (ev n : Nat) : (d.raise c ev n).syns = d.syns :=
  d.raiseF_syns c _ ev n
@[simp] theorem Dev.raise_quads (d : Dev) (c : Ctx) (ev n : Nat) : (d.raise c ev n).quads = d.quads :=
  d.raiseF_quads c _ ev n
@[simp] theorem Dev.raise_lanes (d : Dev) (c : Ctx) (ev n : Nat) : (d.raise c ev n).lanes = d.lanes :=
  d.raiseF_lanes c _ ev n
@[simp] theorem Dev.raise_ports (d : Dev) (c : Ctx) (ev n : Nat) : (d.raise c ev n).ports = d.ports :=
  d.raiseF_ports c _ ev n
@[simp] theorem Dev.raise_scan (d : Dev) (c : Ctx) (ev n : Nat) : (d.raise c ev n).scan = d.scan :=
  d.raiseF_scan c _ ev n
@[simp] theorem Dev.raise_test (d : Dev) (c : Ctx) (ev n : Nat) : (d.raise c ev n).test = d.test :=
  d.raiseF_test c _ ev n
@[simp] theorem Dev.raise_chans (d : Dev) (c : Ctx) (ev n : Nat) : (d.raise c ev n).chans = d.chans :=
  d.raiseF_chans c _ ev n
@[simp] theorem Dev.raise_formes (d : Dev) (c : Ctx) (ev n : Nat) : (d.raise c ev n).formes = d.formes :=
  d.raiseF_formes c _ ev n
@[simp] theorem Dev.raise_wins (d : Dev) (c : Ctx) (ev n : Nat) : (d.raise c ev n).wins = d.wins :=
  d.raiseF_wins c _ ev n
@[simp] theorem Dev.raise_audio (d : Dev) (c : Ctx) (ev n : Nat) : (d.raise c ev n).audio = d.audio :=
  d.raiseF_audio c _ ev n
@[simp] theorem Dev.raise_title (d : Dev) (c : Ctx) (ev n : Nat) : (d.raise c ev n).title = d.title :=
  d.raiseF_title c _ ev n
@[simp] theorem Dev.raise_host (d : Dev) (c : Ctx) (ev n : Nat) : (d.raise c ev n).host = d.host :=
  d.raiseF_host c _ ev n
@[simp] theorem Dev.raise_cache (d : Dev) (c : Ctx) (ev n : Nat) : (d.raise c ev n).cache = d.cache :=
  d.raiseF_cache c _ ev n
@[simp] theorem Dev.raise_streams (d : Dev) (c : Ctx) (ev n : Nat) : (d.raise c ev n).streams = d.streams :=
  d.raiseF_streams c _ ev n
@[simp] theorem Dev.raise_core (d : Dev) (c : Ctx) (ev n : Nat) : (d.raise c ev n).core = d.core :=
  d.raiseF_core c _ ev n
@[simp] theorem Dev.raise_trace (d : Dev) (c : Ctx) (ev n : Nat) : (d.raise c ev n).trace = d.trace :=
  d.raiseF_trace c _ ev n
@[simp] theorem Dev.raise_wd0 (d : Dev) (c : Ctx) (ev n : Nat) : (d.raise c ev n).wd0 = d.wd0 := d.raiseF_wd0 c _ ev n
@[simp] theorem Dev.raise_wd1 (d : Dev) (c : Ctx) (ev n : Nat) : (d.raise c ev n).wd1 = d.wd1 := d.raiseF_wd1 c _ ev n
@[simp] theorem Dev.raise_pwr (d : Dev) (c : Ctx) (ev n : Nat) : (d.raise c ev n).pwr = d.pwr := d.raiseF_pwr c _ ev n
@[simp] theorem Dev.raise_saf (d : Dev) (c : Ctx) (ev n : Nat) : (d.raise c ev n).saf = d.saf := d.raiseF_saf c _ ev n
@[simp] theorem Dev.raise_rst (d : Dev) (c : Ctx) (ev n : Nat) : (d.raise c ev n).rst = d.rst := d.raiseF_rst c _ ev n
@[simp] theorem Dev.raise_pins (d : Dev) (c : Ctx) (ev n : Nat) : (d.raise c ev n).pins = d.pins :=
  d.raiseF_pins c _ ev n
@[simp] theorem Dev.raise_out (d : Dev) (c : Ctx) (ev n : Nat) : (d.raise c ev n).out = d.out := d.raiseF_out c _ ev n

/-! ## raiseClr -/

@[simp] theorem Dev.raiseClr_bankA (d : Dev) (c : Ctx) (ev n : Nat) : (d.raiseClr c ev n).bankA = d.bankA :=
  d.raiseF_bankA c _ ev n
@[simp] theorem Dev.raiseClr_bankB (d : Dev) (c : Ctx) (ev n : Nat) : (d.raiseClr c ev n).bankB = d.bankB :=
  d.raiseF_bankB c _ ev n
@[simp] theorem Dev.raiseClr_slot0 (d : Dev) (c : Ctx) (ev n : Nat) : (d.raiseClr c ev n).slot0 = d.slot0 :=
  d.raiseF_slot0 c _ ev n
@[simp] theorem Dev.raiseClr_slot1 (d : Dev) (c : Ctx) (ev n : Nat) : (d.raiseClr c ev n).slot1 = d.slot1 :=
  d.raiseF_slot1 c _ ev n
@[simp] theorem Dev.raiseClr_itp (d : Dev) (c : Ctx) (ev n : Nat) : (d.raiseClr c ev n).itp = d.itp :=
  d.raiseF_itp c _ ev n
@[simp] theorem Dev.raiseClr_clk (d : Dev) (c : Ctx) (ev n : Nat) : (d.raiseClr c ev n).clk = d.clk :=
  d.raiseF_clk c _ ev n
@[simp] theorem Dev.raiseClr_refs (d : Dev) (c : Ctx) (ev n : Nat) : (d.raiseClr c ev n).refs = d.refs :=
  d.raiseF_refs c _ ev n
@[simp] theorem Dev.raiseClr_dpll (d : Dev) (c : Ctx) (ev n : Nat) : (d.raiseClr c ev n).dpll = d.dpll :=
  d.raiseF_dpll c _ ev n
@[simp] theorem Dev.raiseClr_marks (d : Dev) (c : Ctx) (ev n : Nat) : (d.raiseClr c ev n).marks = d.marks :=
  d.raiseF_marks c _ ev n
@[simp] theorem Dev.raiseClr_syns (d : Dev) (c : Ctx) (ev n : Nat) : (d.raiseClr c ev n).syns = d.syns :=
  d.raiseF_syns c _ ev n
@[simp] theorem Dev.raiseClr_quads (d : Dev) (c : Ctx) (ev n : Nat) : (d.raiseClr c ev n).quads = d.quads :=
  d.raiseF_quads c _ ev n
@[simp] theorem Dev.raiseClr_lanes (d : Dev) (c : Ctx) (ev n : Nat) : (d.raiseClr c ev n).lanes = d.lanes :=
  d.raiseF_lanes c _ ev n
@[simp] theorem Dev.raiseClr_ports (d : Dev) (c : Ctx) (ev n : Nat) : (d.raiseClr c ev n).ports = d.ports :=
  d.raiseF_ports c _ ev n
@[simp] theorem Dev.raiseClr_scan (d : Dev) (c : Ctx) (ev n : Nat) : (d.raiseClr c ev n).scan = d.scan :=
  d.raiseF_scan c _ ev n
@[simp] theorem Dev.raiseClr_test (d : Dev) (c : Ctx) (ev n : Nat) : (d.raiseClr c ev n).test = d.test :=
  d.raiseF_test c _ ev n
@[simp] theorem Dev.raiseClr_chans (d : Dev) (c : Ctx) (ev n : Nat) : (d.raiseClr c ev n).chans = d.chans :=
  d.raiseF_chans c _ ev n
@[simp] theorem Dev.raiseClr_formes (d : Dev) (c : Ctx) (ev n : Nat) : (d.raiseClr c ev n).formes = d.formes :=
  d.raiseF_formes c _ ev n
@[simp] theorem Dev.raiseClr_wins (d : Dev) (c : Ctx) (ev n : Nat) : (d.raiseClr c ev n).wins = d.wins :=
  d.raiseF_wins c _ ev n
@[simp] theorem Dev.raiseClr_audio (d : Dev) (c : Ctx) (ev n : Nat) : (d.raiseClr c ev n).audio = d.audio :=
  d.raiseF_audio c _ ev n
@[simp] theorem Dev.raiseClr_title (d : Dev) (c : Ctx) (ev n : Nat) : (d.raiseClr c ev n).title = d.title :=
  d.raiseF_title c _ ev n
@[simp] theorem Dev.raiseClr_host (d : Dev) (c : Ctx) (ev n : Nat) : (d.raiseClr c ev n).host = d.host :=
  d.raiseF_host c _ ev n
@[simp] theorem Dev.raiseClr_cache (d : Dev) (c : Ctx) (ev n : Nat) : (d.raiseClr c ev n).cache = d.cache :=
  d.raiseF_cache c _ ev n
@[simp] theorem Dev.raiseClr_streams (d : Dev) (c : Ctx) (ev n : Nat) : (d.raiseClr c ev n).streams = d.streams :=
  d.raiseF_streams c _ ev n
@[simp] theorem Dev.raiseClr_core (d : Dev) (c : Ctx) (ev n : Nat) : (d.raiseClr c ev n).core = d.core :=
  d.raiseF_core c _ ev n
@[simp] theorem Dev.raiseClr_trace (d : Dev) (c : Ctx) (ev n : Nat) : (d.raiseClr c ev n).trace = d.trace :=
  d.raiseF_trace c _ ev n
@[simp] theorem Dev.raiseClr_wd0 (d : Dev) (c : Ctx) (ev n : Nat) : (d.raiseClr c ev n).wd0 = d.wd0 :=
  d.raiseF_wd0 c _ ev n
@[simp] theorem Dev.raiseClr_wd1 (d : Dev) (c : Ctx) (ev n : Nat) : (d.raiseClr c ev n).wd1 = d.wd1 :=
  d.raiseF_wd1 c _ ev n
@[simp] theorem Dev.raiseClr_pwr (d : Dev) (c : Ctx) (ev n : Nat) : (d.raiseClr c ev n).pwr = d.pwr :=
  d.raiseF_pwr c _ ev n
@[simp] theorem Dev.raiseClr_saf (d : Dev) (c : Ctx) (ev n : Nat) : (d.raiseClr c ev n).saf = d.saf :=
  d.raiseF_saf c _ ev n
@[simp] theorem Dev.raiseClr_rst (d : Dev) (c : Ctx) (ev n : Nat) : (d.raiseClr c ev n).rst = d.rst :=
  d.raiseF_rst c _ ev n
@[simp] theorem Dev.raiseClr_pins (d : Dev) (c : Ctx) (ev n : Nat) : (d.raiseClr c ev n).pins = d.pins :=
  d.raiseF_pins c _ ev n
@[simp] theorem Dev.raiseClr_out (d : Dev) (c : Ctx) (ev n : Nat) : (d.raiseClr c ev n).out = d.out :=
  d.raiseF_out c _ ev n

/-! ## wantReset -/

@[simp] theorem Dev.wantReset_obj (d : Dev) (n : Nat) : (d.wantReset n).obj = d.obj := rfl
@[simp] theorem Dev.wantReset_bankA (d : Dev) (n : Nat) : (d.wantReset n).bankA = d.bankA := rfl
@[simp] theorem Dev.wantReset_bankB (d : Dev) (n : Nat) : (d.wantReset n).bankB = d.bankB := rfl
@[simp] theorem Dev.wantReset_slot0 (d : Dev) (n : Nat) : (d.wantReset n).slot0 = d.slot0 := rfl
@[simp] theorem Dev.wantReset_slot1 (d : Dev) (n : Nat) : (d.wantReset n).slot1 = d.slot1 := rfl
@[simp] theorem Dev.wantReset_itp (d : Dev) (n : Nat) : (d.wantReset n).itp = d.itp := rfl
@[simp] theorem Dev.wantReset_clk (d : Dev) (n : Nat) : (d.wantReset n).clk = d.clk := rfl
@[simp] theorem Dev.wantReset_refs (d : Dev) (n : Nat) : (d.wantReset n).refs = d.refs := rfl
@[simp] theorem Dev.wantReset_dpll (d : Dev) (n : Nat) : (d.wantReset n).dpll = d.dpll := rfl
@[simp] theorem Dev.wantReset_marks (d : Dev) (n : Nat) : (d.wantReset n).marks = d.marks := rfl
@[simp] theorem Dev.wantReset_syns (d : Dev) (n : Nat) : (d.wantReset n).syns = d.syns := rfl
@[simp] theorem Dev.wantReset_quads (d : Dev) (n : Nat) : (d.wantReset n).quads = d.quads := rfl
@[simp] theorem Dev.wantReset_lanes (d : Dev) (n : Nat) : (d.wantReset n).lanes = d.lanes := rfl
@[simp] theorem Dev.wantReset_ports (d : Dev) (n : Nat) : (d.wantReset n).ports = d.ports := rfl
@[simp] theorem Dev.wantReset_scan (d : Dev) (n : Nat) : (d.wantReset n).scan = d.scan := rfl
@[simp] theorem Dev.wantReset_test (d : Dev) (n : Nat) : (d.wantReset n).test = d.test := rfl
@[simp] theorem Dev.wantReset_chans (d : Dev) (n : Nat) : (d.wantReset n).chans = d.chans := rfl
@[simp] theorem Dev.wantReset_formes (d : Dev) (n : Nat) : (d.wantReset n).formes = d.formes := rfl
@[simp] theorem Dev.wantReset_wins (d : Dev) (n : Nat) : (d.wantReset n).wins = d.wins := rfl
@[simp] theorem Dev.wantReset_audio (d : Dev) (n : Nat) : (d.wantReset n).audio = d.audio := rfl
@[simp] theorem Dev.wantReset_title (d : Dev) (n : Nat) : (d.wantReset n).title = d.title := rfl
@[simp] theorem Dev.wantReset_host (d : Dev) (n : Nat) : (d.wantReset n).host = d.host := rfl
@[simp] theorem Dev.wantReset_cache (d : Dev) (n : Nat) : (d.wantReset n).cache = d.cache := rfl
@[simp] theorem Dev.wantReset_streams (d : Dev) (n : Nat) : (d.wantReset n).streams = d.streams := rfl
@[simp] theorem Dev.wantReset_core (d : Dev) (n : Nat) : (d.wantReset n).core = d.core := rfl
@[simp] theorem Dev.wantReset_trace (d : Dev) (n : Nat) : (d.wantReset n).trace = d.trace := rfl
@[simp] theorem Dev.wantReset_wd0 (d : Dev) (n : Nat) : (d.wantReset n).wd0 = d.wd0 := rfl
@[simp] theorem Dev.wantReset_wd1 (d : Dev) (n : Nat) : (d.wantReset n).wd1 = d.wd1 := rfl
@[simp] theorem Dev.wantReset_evc (d : Dev) (n : Nat) : (d.wantReset n).evc = d.evc := rfl
@[simp] theorem Dev.wantReset_log (d : Dev) (n : Nat) : (d.wantReset n).log = d.log := rfl
@[simp] theorem Dev.wantReset_pwr (d : Dev) (n : Nat) : (d.wantReset n).pwr = d.pwr := rfl
@[simp] theorem Dev.wantReset_saf (d : Dev) (n : Nat) : (d.wantReset n).saf = d.saf := rfl
@[simp] theorem Dev.wantReset_pins (d : Dev) (n : Nat) : (d.wantReset n).pins = d.pins := rfl
@[simp] theorem Dev.wantReset_out (d : Dev) (n : Nat) : (d.wantReset n).out = d.out := rfl

end Sys2Proof.Machine
end

