-- ==== Sys2Proof/Laws/Settle.lean ====
section
/-!
SUPPORT. What ends every command (`Dev.settle`), part by part: which fields each part may write, and what holds of the
device afterwards.
-/
namespace Sys2Proof.Machine

theorem foldl_pred {α β : Type} (P : β → Prop) (f : β → α → β) (h : ∀ b a, P b → P (f b a)) (l : List α) {b : β}
    (hb : P b) : P (l.foldl f b) := by
  induction l generalizing b with
  | nil => exact hb
  | cons a r ih => exact ih (h b a hb)

/-! ## The parts -/

/-- What the notices of an entry to SAFE may write where no reset is asked for. -/
def Dev.PortsOf (d x : Dev) : Prop := ∃ ps, x = { d with ports := ps }

theorem Dev.safeNotices_eta (d : Dev) (c : Ctx) (w : Nat) (h : d.rst.want = []) : d.PortsOf (d.safeNotices c w) := by
  unfold Dev.safeNotices
  have hn : (d.rst.want.any fun w => decide (w ≤ 8)) = false := by rw [h]; rfl
  simp only [hn, Bool.false_and, Bool.false_eq_true, if_false]
  refine foldl_pred d.PortsOf _ ?_ _ ⟨_, rfl⟩
  rintro b a ⟨ps, rfl⟩
  exact ite_pred d.PortsOf ⟨_, rfl⟩ ⟨_, rfl⟩

theorem Dev.settlePins_eta (d : Dev) : d.settlePins = { d with pins := d.settlePins.pins } := rfl

/-- What the safe state may do to the seats. -/
def Dev.SeatsOf (d x : Dev) : Prop := ∃ o p, x = { d with obj := o, pwr := p }

theorem Dev.settleSeats_eta (d : Dev) : d.SeatsOf d.settleSeats := by
  unfold Dev.settleSeats
  refine ite_pred d.SeatsOf (foldl_pred d.SeatsOf _ ?_ _ ⟨_, _, rfl⟩) ⟨_, _, rfl⟩
  rintro b a ⟨o, p, rfl⟩
  dsimp only
  refine ite_pred d.SeatsOf ⟨_, _, Dev.set_eta _ _ _⟩ ⟨_, _, rfl⟩

theorem Dev.RaiseOf.setN {d x : Dev} (k n : Nat) (h : d.RaiseOf x) : d.RaiseOf (x.setN k n) := by
  obtain ⟨o, e, l, rfl⟩ := h
  exact ⟨_, e, l, Dev.set_eta _ _ _⟩

theorem Dev.RaiseOf.raise {d x : Dev} (c : Ctx) (ev n : Nat) (h : d.RaiseOf x) : d.RaiseOf (x.raise c ev n) := by
  obtain ⟨o, e, l, rfl⟩ := h
  obtain ⟨o', e', l', h'⟩ := Dev.raiseF_eta { d with obj := o, evc := e, log := l } c false ev n
  exact ⟨o', e', l', h'⟩

theorem Dev.settleAudio_eta (d : Dev) (c : Ctx) : d.RaiseOf (d.settleAudio c) := by
  unfold Dev.settleAudio
  refine ite_pred d.RaiseOf ?_ ⟨_, _, _, rfl⟩
  refine foldl_pred d.RaiseOf _ ?_ _ (.raise _ _ _ (.setN _ _ ⟨_, _, _, rfl⟩))
  intro b a hb
  exact ite_pred d.RaiseOf (hb.setN _ _) hb

/-- What a trace packet may write. -/
def Dev.TraceOf (d x : Dev) : Prop := ∃ t, x = { d with trace := t }

theorem Dev.trc_eta (d : Dev) (b : List Byte) : d.TraceOf (d.trc b) := by
  unfold Dev.trc
  exact ite_pred d.TraceOf ⟨_, rfl⟩ ⟨_, rfl⟩

theorem Dev.trcTrap_eta (d : Dev) (i : Bool) (a b : Nat) : d.TraceOf (d.trcTrap i a b) := by
  unfold Dev.trcTrap
  refine ite_pred d.TraceOf ?_ ⟨_, rfl⟩
  obtain ⟨t, h⟩ := d.trc_eta ([byte (0x40 + b2n i), byte a] ++ le 4 b ++ le 4 agentHandler)
  exact ⟨_, by dsimp only; rw [h]⟩

/-- What the entry of a handler may write. -/
def Dev.CoreOf (d x : Dev) : Prop := ∃ k t, x = { d with core := k, trace := t }

/-- The entry of an application's handler writes only the core and the trace. -/
theorem Dev.dispatch_eta (d : Dev) (c : Ctx) : d.CoreOf (d.dispatch c) := by
  unfold Dev.dispatch
  refine ite_pred d.CoreOf ⟨_, _, rfl⟩ ?_
  cases d.irqClaim with
  | none => exact ⟨_, _, rfl⟩
  | some p =>
    obtain ⟨l, e⟩ := p
    refine ite_pred d.CoreOf ⟨_, _, rfl⟩ ?_
    obtain ⟨t, h⟩ := d.trcTrap_eta true 11 (if d.core.waiting then d.core.userPc else Config.free c.seed 2103 % 2 ^ 32)
    dsimp only
    rw [h]
    exact ⟨_, _, rfl⟩

/-- What sending may write. -/
def Dev.SendOf (d x : Dev) : Prop := ∃ o i e u, x = { d with obj := o, itp := i, evc := e, out := u }

/-- What a message on the CAN FD channels may write. -/
def Dev.OutOf (d x : Dev) : Prop := ∃ u, x = { d with out := u }

theorem Dev.sendBoth_eta (d : Dev) (m : Msg) : d.OutOf (d.sendBoth m) := ⟨_, Dev.sendBoth_same d m⟩

/-- What a frame for the host may write. -/
def Dev.HostOf (d x : Dev) : Prop := ∃ o i, x = { d with obj := o, itp := i }

theorem Dev.toHost_eta (d : Dev) (a b : Bool) (m : Msg) : d.HostOf (d.toHost a b m) := by
  unfold Dev.toHost
  exact ite_pred d.HostOf ⟨_, _, rfl⟩ (ite_pred d.HostOf ⟨_, _, rfl⟩ (ite_pred d.HostOf ⟨_, _, rfl⟩
    (ite_pred d.HostOf ⟨_, _, rfl⟩ ⟨_, _, Dev.inc_eta _ _⟩)))

theorem Dev.sendEvents_eta (d : Dev) : d.SendOf d.sendEvents := by
  unfold Dev.sendEvents
  refine foldl_pred d.SendOf _ ?_ _ ⟨_, _, _, _, rfl⟩
  rintro x m ⟨o, i, e, u, rfl⟩
  obtain ⟨u', h⟩ := Dev.sendBoth_eta { d with obj := o, itp := i, evc := e, out := u } ⟨1, 0x10, 255, none, evBytes m⟩
  dsimp only
  rw [h]
  obtain ⟨o', i', h'⟩ := Dev.toHost_eta { d with obj := o, itp := i, evc := e, out := u' } false false ⟨1, 0x10, 255, none, evBytes m⟩
  exact ⟨_, _, _, _, h'⟩

theorem Dev.takeReset_none (d : Dev) (c : Ctx) (h : d.rst.want = []) : d.takeReset c = d := by
  unfold Dev.takeReset
  rw [h]

/-! ## The whole -/

/-- What the notices of an entry to SAFE may write. -/
def Dev.NoticesOf (d x : Dev) : Prop := ∃ ps sf, x = { d with ports := ps, saf := sf }

/-- Where no reset is asked for, settling a command writes no field but these. -/
theorem Dev.settle_eta (d : Dev) (c : Ctx) (h : d.rst.want = []) :
    ∃ o ps pw sf k t e l i pn u, d.settle c =
      { d with obj := o, ports := ps, pwr := pw, saf := sf, core := k, trace := t, evc := e, log := l, itp := i,
               pins := pn, out := u } := by
  unfold Dev.settle
  extract_lets n0 f0 d1 d2 d3 d4
  have hn : d.PortsOf n0 := Dev.safeNotices_eta d c (d.nat 0x9000_03) h
  have h1 : d.NoticesOf d1 := by
    clear_value n0
    obtain ⟨ps, rfl⟩ := hn
    exact ite_pred d.NoticesOf ⟨ps, _, rfl⟩ ⟨_, _, rfl⟩
  have h2 : ∃ o ps pw sf e l, d2 = { d with obj := o, ports := ps, pwr := pw, saf := sf, evc := e, log := l } := by
    clear_value d1
    obtain ⟨ps, sf, rfl⟩ := h1
    obtain ⟨o, p, hs⟩ := Dev.settleSeats_eta { d with ports := ps, saf := sf }
    obtain ⟨o', e, l, ha⟩ := Dev.settleAudio_eta { d with ports := ps, saf := sf, obj := o, pwr := p } c
    refine ⟨o', ps, p, sf, e, l, ?_⟩
    show Dev.settleAudio (Dev.settleSeats _) c = _
    rw [hs, ha]
  have h3 : ∃ o ps pw sf k t e l,
      d3 = { d with obj := o, ports := ps, pwr := pw, saf := sf, core := k, trace := t, evc := e, log := l } := by
    clear_value d2
    obtain ⟨o, ps, p, sf, e, l, rfl⟩ := h2
    have hr := Dev.takeReset_none { d with obj := o, ports := ps, pwr := p, saf := sf, evc := e, log := l } c h
    obtain ⟨k, t, hd⟩ := Dev.dispatch_eta { d with obj := o, ports := ps, pwr := p, saf := sf, evc := e, log := l } c
    refine ⟨o, ps, p, sf, k, t, e, l, ?_⟩
    show Dev.dispatch (Dev.takeReset _ c) c = _
    rw [hr, hd]
  clear_value d3
  obtain ⟨o, ps, p, sf, k, t, e, l, rfl⟩ := h3
  have h4 : Dev.SendOf { d with obj := o, ports := ps, pwr := p, saf := sf, core := k, trace := t, evc := e, log := l } d4 :=
    ite_pred (Dev.SendOf _) (Dev.sendEvents_eta _) ⟨_, _, _, _, rfl⟩
  clear_value d4
  obtain ⟨o', i, e', u, rfl⟩ := h4
  exact ⟨o', ps, p, sf, k, t, e', l, i, _, u, rfl⟩

end Sys2Proof.Machine
end

