-- ==== Sys2Proof/Laws/Store.lean ====
section
/-!
SUPPORT. The lengths of a record and of a save's payload (R58).
-/
namespace Sys2Proof.Machine

/-- `le w n` has `w` bytes. -/
@[simp] theorem le_length (w n : Nat) : (le w n).length = w := by
  induction w generalizing n with
  | zero => rfl
  | succ w ih => simp [le, ih]

/-- A record has the length that `recordLen` gives. -/
theorem recordBytes_length (k : Nat) (ty : Ty) (v : Val) : (recordBytes k ty v).length = recordLen ty v := by
  have pad : ∀ n : Nat, 2 + (2 + (n + (4 - (6 + n) % 4) % 4) + 1 + 1) = (6 + n + 3) / 4 * 4 := by omega
  cases h : ty.size <;> simp [recordBytes, recordLen, recordVal, zeros, h, pad]

/-- The length that a save is checked by is the length it writes. -/
theorem payload_length (d : Dev) (c : Ctx) : (d.payload c).length = d.payloadLen c := by
  simp [Dev.payload, Dev.payloadLen, List.length_flatMap, recordBytes_length]

end Sys2Proof.Machine
end

