-- ==== Sys2Proof/Tests/Slice0.lean ====
section
/-!
SUPPORT. The model's own tests: small helpers, the spec's worked examples, the well-formedness smoke, and a witness for
the hypotheses of every statement.
-/
open Sys2Proof Sys2Proof.Machine

set_option maxRecDepth 20000
set_option Elab.async false
set_option linter.unusedVariables false

/-! ## Small states -/

/-- A device that is up, 10 ms after time 0, with objects at values and a change. -/
def tst (kv : List (Nat × Int)) (f : Dev → Dev) : State :=
  { State.reset with
    time := 4000000
    dev := f (kv.foldl (fun d p => d.setI p.1 p.2) { State.reset.dev with
      rst := { State.reset.dev.rst with stage := .up }, clk := { State.reset.dev.clk with tb := true } }) }

/-- A boot that meets nothing. -/
def bootObs : BootObs := ⟨0, 180, 0, 0, [], 0, 0, 0, 0, [], none, none, [10, 200, 300, 900, 1000, 1100]⟩

/-- A cartridge header of 2 blocks (R618). -/
def testHeader : List Byte :=
  le 4 0x4D495446 ++ le 2 1 ++ zeros 2 ++ le 8 0 ++ le 4 2 ++ le 4 4096 ++ le 4 8192 ++ zeros (0xFFC - 0x1C) ++ le 4 1889901636

/-- The first 60 bytes of an application image of 4 bytes for the SRAM (Table 12.8). -/
def imageHead : List Byte :=
  le 4 0x41505031 ++ le 2 1 ++ le 2 0 ++ le 4 4 ++ le 4 0x1000_0000 ++ le 4 0 ++ le 4 0 ++ le 4 0x1000_1000 ++ le 4 691047668
    ++ zeros 28

/-- An application image of 4 bytes. -/
def testImage : List Byte := imageHead ++ le 4 3257476957 ++ [1#8, 2#8, 3#8, 4#8]

/-- A packet of a type on a virtual channel with a good trailer. -/
def sealed (ty vc seq a b : Nat) (payload : List Byte) : Pkt := ⟨seq, a, b, payload, 1, pktCrc ty vc seq a b payload⟩

/-- The line bits of a good marker of logical lane 0 at width 1, with RX ready and packet mode. -/
def markerBits : List Bool := (stuff false 0 (bitsOf 64 (markerWord 0 0 false true true 77))).2

/-- A host frame that reads 0x1000.01, with its CRC. -/
def hostRead : List Byte :=
  let b := le 4 (canId 2 1 16 5 7) ++ le 4 8 ++ Hdr.bytes ⟨0, 0, 0x1000, 1, 0⟩
  b ++ le 4 (crc32c b)

/-! ## Values of the spec's own worked examples and tables -/

-- ch 1, worked example: the identifiers of the staged write and of its response
theorem test_identifiers : canId 3 0x03 0x10 0x21 4 = 0x0C62_0424 ∧ canId 3 0x04 0x21 0x10 4 = 0x0C84_2204 := by decide

-- ch 1, worked example: the bytes of the staged write
theorem test_header : Hdr.bytes ⟨0, 2, 0x5105, 0x03, 1⟩ ++ [7#8] =
    [0x00#8, 0x02#8, 0x05#8, 0x51#8, 0x03#8, 0x01#8, 0x00#8, 0x00#8, 0x07#8] := by decide

/-- The device of ch 1's worked example: node 0x10, both CAN FD channels on, redundant mode. -/
def node10 : State :=
  tst [(0x1010_07, 3)] fun d => { d with itp := { d.itp with node := 0x10 } }

/-- The staged write of ch 1's worked example, on a channel. -/
def stagedWrite (ch : Nat) : Req :=
  ⟨ch, true, 3, 0x10, 0x21, 4, [0x00#8, 0x02#8, 0x05#8, 0x51#8, 0x03#8, 0x01#8, 0x00#8, 0x00#8, 0x07#8, 0#8, 0#8, 0#8]⟩

/-- A test of the state a command answers. -/
def answers (r : Host.Outcome State Fault Refusal) (p : State → Bool) : Bool :=
  match r with
  | .next t => p t
  | _ => false

-- ch 1, worked example, step 1: the value is staged, the active value stays
theorem test_staged_write : answers (exec (.writeReq 0 (stagedWrite 0) Obs.quiet) node10) (fun t =>
    decide (t.dev.itp.staged.map (fun e => (e.key, e.val)) = [(0x5105_03, .num 7)]) && t.dev.nat 0x5105_03 != 7) = true := by
  decide +kernel

-- ch 1, worked example, step 2: the second copy is discarded
theorem test_second_copy : answers (exec (.writeReq 0 (stagedWrite 0) Obs.quiet) node10) (fun t =>
    answers (exec (.writeReq 14000 (stagedWrite 1) Obs.quiet) t) fun u => u.dev.out.isEmpty) = true := by
  decide +kernel

-- R939: halves round toward plus infinity
theorem test_round : roundDiv (-5) 2 = -2 ∧ roundDiv 5 2 = 3 := by decide

-- ch 2, worked example, steps 1 and 2: a sample 16,000 ticks away starts a slew, one tick a move
theorem test_time_slew :
    let d := (tst [(0x1050_03, 6600000000), (0x1050_02, 7)] fun d => { d with clk := { d.clk with seen := true } }).dev.takeSample
      ⟨2400000000, 0, false, {}, 0⟩ 6600016000 0
    d.offset = 6600000000 ∧ d.clk.target = some 6600016000 ∧ d.int 0x1050_0E = 16000 ∧ d.epoch = 7 := by
  decide +kernel

-- ch 2, worked example, step 5: a new master epoch steps the offset and the epoch
theorem test_time_step :
    let d := (tst [(0x1050_03, 6600016000), (0x1050_02, 7)] fun d => { d with clk := { d.clk with seen := true } }).dev.takeSample
      ⟨3200000000, 0, false, {}, 0⟩ (-2799999940) 1
    d.offset = -2799999940 ∧ d.clk.target = none ∧ d.int 0x1050_0E = -9400015940 ∧ d.epoch = 8 := by
  decide +kernel

-- ch 3 and ch 4, worked examples: K at 60 Hz
theorem test_genlock_k : (tst [(0x2110_03, 60), (0x2110_04, 1)] id).dev.kOf = 1666667 := by decide +kernel

-- ch 4, worked example: V and the VCO of SYN0 at 148.5 MHz and 27 MHz
theorem test_synth_vco :
    let f := (tst [(0x2110_03, 60), (0x2110_04, 1)] id).dev.fVco ⟨1, 1, 0, 0, 118800000, 48, 264⟩
    f.1 = 7128000000 * f.2 ∧ fracIn f 6000000000 9600000000 = true := by decide +kernel

-- Table 5.2 and R274: payload rates of 4 lanes at 12.8, 1 at 6.4, 2 at 12.8 and 1 at 25.6 Gbit/s
theorem test_payload_rates :
    payloadMbit 4 2 = 51049 ∧ payloadMbit 1 1 = 6381 ∧ payloadMbit 2 2 = 25524 ∧ payloadMbit 1 3 = 25524 := by decide

-- R277: lane 0, an all-zero payload, the first eight line bits
theorem test_scrambler : (scramble (scramblerSeed 0) (List.replicate 8 false)).2 =
    [false, true, false, true, false, true, true, true] := by decide

-- ch 7, worked example: slot size, allocation, needed slots, write and read reservations
theorem test_galley_sizes : slotSize 3840 2160 24 = 24887296 ∧ slotAlloc 24887296 = 24 * 1048576 := by decide

/-- Channel C0 of ch 7's worked example, shown by O0 at 120 Hz and by O5 at 60 Hz, blended. -/
def galleys : Dev :=
  (tst [(0x4000_04, 3840), (0x4000_05, 2160), (0x4000_06, 24), (0x4000_07, 120), (0x5000_01, 1), (0x5000_06, 120),
    (0x5000_07, 1), (0x5005_01, 1), (0x5005_06, 60), (0x5005_07, 1), (0x5100_01, 1), (0x5100_02, 0), (0x5100_03, 0),
    (0x5100_04, 1), (0x5101_01, 1), (0x5101_02, 5), (0x5101_03, 0), (0x5101_04, 2)] id).dev

theorem test_galley_reservations :
    slotsNeeded galleys.view 0 = 5 ∧ chanWrites galleys.view 0 = 2986475520 ∧
      (let r := chanReads galleys.view 0; r.1 = 6005145600 * r.2) := by decide +kernel

/-- The folio of channel C3 in ch 8's and ch 9's worked examples. -/
def seatFolio : Folio := { w := 1920, h := 1080, total := 1125, num := 120, den := 1, fmt := 0x03 }

/-- Forme O3 of ch 8's worked example: 1920 x 1080 at 120 Hz, showing C3 in window W3. -/
def seatForme : Dev :=
  (tst [(0x5003_01, 1), (0x5003_03, 1920), (0x5003_04, 1080), (0x5003_05, 1125), (0x5003_06, 120), (0x5003_07, 1),
    (0x5003_08, 0x03), (0x5003_02, 20), (0x5003_0A, 9600), (0x5003_10, 255), (0x5103_01, 1), (0x5103_02, 3), (0x5103_03, 3),
    (0x5103_05, 1), (0x5103_0C, 1920), (0x5103_0D, 1080), (0x3014_05, 3), (0x4003_0D, 4), (0x4003_17, 250),
    (0x2110_03, 120), (0x2110_04, 1)] fun d => d.modChan 3 fun x => { x with last := some seatFolio }).dev

-- ch 8, worked example: load and reservation of O3
theorem test_forme_load :
    seatForme.active.pixelLoad 3 = (259200000, 1) ∧ seatForme.active.formeIso 3 = (6046690560, 1) := by decide +kernel

-- ch 8, worked example: the latency of W3 in DIRECT and in GALLEY-NEAREST without lock
theorem test_latency_direct : (seatForme.showLatency 3 3 0 1).nat 0x5303_01 = 54540 := by decide +kernel

theorem test_latency_nearest : ((seatForme.setN 0x4003_0D 0).showLatency 3 3 1 1).nat 0x5303_01 = 16697457 := by
  decide +kernel

/-- Forme O7 of ch 9's worked example: 1920 x 1080 at 60 Hz, window W7 showing C3, two channels of audio. -/
def audioForme : Dev :=
  (tst [(0x6107_01, 1), (0x6107_02, 2), (0x6107_05, 7), (0x5107_01, 1), (0x5107_02, 7), (0x5107_03, 3), (0x5107_05, 1),
    (0x5107_0C, 1920), (0x5107_0D, 1080), (0x5007_01, 1), (0x5007_03, 1920), (0x5007_04, 1080), (0x5007_05, 1125),
    (0x5007_06, 60), (0x5007_07, 1), (0x5007_02, 21), (0x3015_05, 3)] fun d => d.modChan 3 fun x => { x with last := some seatFolio }).dev

-- ch 9, worked example: the latency of W7, the delay of O7's audio, its reservation
theorem test_audio_latency : (audioForme.showLatency 7 7 1 1).nat 0x5307_01 = 33060420 := by decide +kernel

theorem test_audio_delay :
    ((audioForme.showLatency 7 7 1 1).lipSync ⟨0, 0, false, {}, 0⟩ 7).nat 0x6107_08 = 31563 := by decide +kernel

theorem test_audio_reservation : ceilDiv (audioForme.active.audioIso 7) 1000000 = 8 := by decide +kernel

-- ch 11, worked example: the strict reservation of P8 in Mbit/s
theorem test_strict_reservation :
    let s := (tst [(0x3008_04, 1), (0x3008_05, 1)] id).dev.active.strict ⟨0, 0, false, {}, 0⟩ 8
    ceilDiv s.1 (s.2 * 1000000) = 24 := by decide +kernel

/-- Traced, content 0x1F. -/
def traced : State := tst [(0xA200_01, 1), (0xA200_03, 0x1F)] id

-- ch 12, worked example: MARKER 60 A5 00 00 00
theorem test_marker : answers (exec (.trcMark 0 0xA5) traced)
    (fun t => decide (t.dev.trace.buf.drop (t.dev.trace.buf.length - 5) = [0x60#8, 0xA5#8, 0#8, 0#8, 0#8])) = true := by
  decide +kernel

-- ch 12, worked example: the time field of 4.0 s in epoch 3
theorem test_time_field : (tst [(0x1050_02, 3)] id).dev.stampBytes ⟨1600000000, 0, false, {}, 0⟩ =
    [0x00#8, 0x10#8, 0x5E#8, 0x5F#8, 0#8, 0#8, 0#8, 0#8, 0x03#8, 0x00#8] := by decide +kernel

-- ch 15, worked example: the cause word, the class, the event and the detail of code 0x11 of O3's window W3
theorem test_capture_frozen :
    causeWord 0x11 3 = 0x0311 ∧ (tst [] id).dev.classOf 0x11 = 2 ∧ evOf 0x11 = 49 ∧ monDetail 3 3 = 0x8303_0000 := by
  decide +kernel

-- ch 16, worked example: the summary byte of a power-on reset
theorem test_reset_summary : (State.reset.dev.recordReset ⟨0, 0, false, {}, 0⟩ 1 false).nat 0x1040_03 = 0x04 := by
  decide +kernel

-- R341: the CRC-32C of the ASCII digits 1 to 9
theorem test_crc32c : crc32c [0x31#8, 0x32#8, 0x33#8, 0x34#8, 0x35#8, 0x36#8, 0x37#8, 0x38#8, 0x39#8] = 0xE306_9283 := by
  decide +kernel

-- ch 6, worked example: the bytes of a frame of P4's forme, in bit/s without the pointer's charge
theorem test_link_reservation :
    (tst [(0x5004_03, 3840), (0x5004_04, 2160), (0x5004_06, 120), (0x5004_07, 1), (0x5004_08, 0x03)] id).dev.active.formeIso 4 =
      (8 * 3023317920, 1) := by decide +kernel

/-- The templates of ch 10's worked example: 16-bit commands, 32-bit addresses, 8 lanes, double data rate. -/
def ddrTmpl (addr dummy : Nat) : Tmpl :=
  ⟨0xABCD, 16, 2, true, addr, 2, true, 0, 0, false, dummy, 0, 2, true, false, false, false, 0⟩

-- ch 10, worked example: WRITE ENABLE 12.5 ns, PAGE PROGRAM 662.5 ns, a status read 47.5 ns, a line fetch 262.5 ns
theorem test_title_lengths :
    txnTicks 24 ((ddrTmpl 0 0).phases 0 [] 0) = 5 ∧ txnTicks 24 ((ddrTmpl 32 0).phases 0 (zeros 256) 0) = 265 ∧
      txnTicks 24 ((ddrTmpl 32 4).phases 0 [] 2) = 19 ∧ txnTicks 24 ((ddrTmpl 32 16).phases 0 [] 64) = 105 := by
  decide +kernel

/-! ## The interface -/

-- an empty queue idles; a waiting command is taken from the front
theorem test_idle : step State.reset = .next State.reset := rfl

theorem test_front : step { State.reset with pending := [.heartbeat 0, .timer 0 1] } =
    exec (.heartbeat 0) { State.reset with pending := [.timer 0 1] } := rfl

-- no word of the table spells a command
theorem test_no_words : decodeTableWord 0 0 = none ∧ decodeTableWord 32 0xFFFF_FFFF = none := ⟨rfl, rfl⟩

-- R2: on the S2412 an event of port 16 names a port that is absent
theorem test_absent_port :
    (match exec (.framingError 0 16 0) { State.reset with fuses := { s2412 := true } } with
     | .fault .absentUnit => true
     | _ => false) = true := by decide +kernel

/-! ## Well-formedness: each check refuses a term that breaks it alone -/

/-- A frame, an origin, a packet and a list of registers that pass every check. -/
def f0 : Req := ⟨0, false, 3, 16, 5, 7, []⟩
def o0 : Org := ⟨.fd0, 3, 5, 7⟩
def k0 : Pkt := ⟨0, 0, 0, [], 0, 0⟩
def zeros32 : List Nat := List.replicate 32 0

theorem test_wf_parts : (([
  { o0 with prio := 8 }, { o0 with src := 256 }, { o0 with tag := 32 }, { o0 with path := .vc1 32 }] : List Org).all fun o => !o.wf) = true ∧
    (([{ f0 with ch := 2 }, { f0 with prio := 8 }, { f0 with dest := 256 }, { f0 with src := 256 }, { f0 with tag := 32 },
      { f0 with data := zeros 65 }] : List Req).all fun f => !f.wf) = true ∧
    (([{ k0 with seq := 4096 }, { k0 with fieldA := 65536 }, { k0 with fieldB := 256 }, { k0 with payload := zeros 1025 }] :
      List Pkt).all fun k => !k.wf) = true ∧
    (([{ Obs.quiet with cut := 6 }, { Obs.quiet with faults := [3] }, { Obs.quiet with lost := [2] },
      { Obs.quiet with rx := List.replicate 5 [] }] : List Obs).all fun x => !x.wf) = true ∧
    (([{ bootObs with failed := [0] }, { bootObs with failed := [10] }, { bootObs with us := [] },
      { bootObs with us := [10, 5, 300, 900, 1000, 1100] }] : List BootObs).all fun o => !o.wf) = true ∧
    pmbusOk (0, 3, 0, 0) = false := by decide +kernel

theorem test_wf_accepts_1 : (([
  .readReq 0 f0 Obs.quiet, .writeReq 0 f0 Obs.quiet, .segReadInit 0 f0, .segWriteInit 0 f0, .segData 0 f0 Obs.quiet,
  .segAck 0 f0, .segTransferTimeout 0 0, .abort 0 f0, .identifyReq 0 f0, .time 0 f0 0 true, .heartbeat 0,
  .canFdBusOff 0 0, .hostFrame 0 Obs.quiet, .managementItp 0 0 k0 Obs.quiet, .mailbox 0 0 0 Obs.quiet, .commit 0 o0,
  .discard 0 o0, .validateOnly 0 o0, .quoinValidationEnd 0, .quoinTimeReached 0, .save 0 o0 Obs.quiet,
  .saveAfterQuoin 0 Obs.quiet, .restore 0 o0, .invalidateBanks 0 o0 Obs.quiet, .freeze 0 o0 0,
  .cmonGateEnd 0 (List.replicate 8 0) 0, .monitorOscillatorLost 0, .rootPllLock 0 0 0, .rootPllLockFailure 0,
  .slewStep 0, .masterTimeLost 0, .timeSourceChange 0 o0 true 0, .refEnable 0 o0 0 0, .referenceEdge 0 0 true,
  .missingEdge 0 0, .frequencyGateEnd 0 0 0, .waitToRestoreEnd 0 0, .endWait 0 o0 0, .genlockLocked 0,
  .genlockFrameStart 0, .realign 0 o0, .markPulse 0 0, .synEnable 0 o0 0 0, .bandSearchDone 0 0 0,
  .synthesizerLocked 0 0, .lockingTimeout 0 0, .synthesizerLockLost 0 0, .synthesizerReferenceLost 0 0,
  .gatedTimeout 0 0, .apply 0 o0 0
  ] : List Instr).all fun i => i.wf) = true := by decide +kernel

theorem test_wf_accepts_2 : (([
  .applyWithRelock 0 o0 0, .glideEnd 0 0, .resync 0 o0 0, .outputEnable 0 o0 0 true 0, .profileStart 0 o0 0,
  .profileStop 0 o0 0, .generateDownSpread 0 o0 0, .profileUpdate 0 0, .portEnable 0 o0 0, .portDisable 0 o0 0,
  .quadPllLock 0 0 0 0, .signalDetect 0 0, .cdrLock 0 0 0 [], .laneMarker 0 0 [] 0, .dfeConvergence 0 0 [],
  .trainingAttemptTimeout 0 0, .signalLost 0 0, .retrainTimeout 0 0, .quadPllUnlock 0 0 true 0 0, .failedPortReturn 0 0,
  .sleep 0 o0 0, .wake 0 o0 0, .adaptationUpdate 0 0 0 0 [], .adaptFreeze 0 o0 0 0, .eyeScanStart 0 o0,
  .eyeScanAbort 0 o0, .eyeScanPointEnd 0 0 0, .testStart 0 o0, .testStop 0 o0 Obs.quiet, .blockPointer 0 0,
  .framingError 0 0 0, .packetRejected 0 0 0 0 k0, .folio 0 0 k0, .videoLine 0 0 k0, .captureInputLost 0 0,
  .captureEnable 0 o0 0, .captureDisable 0 o0 0, .formeFrameStart 0 0, .rowFetch 0 0 0 [] [], .rowLaunch 0 0 0 [],
  .holdTimeEnd 0 0, .echo 0 0 k0, .audioBlock 0 0 k0 0, .asrcLock 0 0, .audioInputLost 0 0, .deviceAudioTick 0 [] [] [],
  .audioBlockSend 0 0, .tdmFrameSync 0 0 0 true [], .audioTdmClockLost 0 0, .slotEnable 0 o0 true 0
  ] : List Instr).all fun i => i.wf) = true := by decide +kernel

theorem test_wf_accepts_3 : (([
  .identify 0 o0 0, .titleTransactionEnd 0 [] 0, .windowRead 0 0 0 1 0 0, .windowWrite 0 0 0 [] 0 0,
  .coalesceTimeEnd 0 0, .flush 0 o0 0, .statusPoll 0 0 0, .tprdyTimeout 0, .strobeTimeout 0, .rawExecute 0 o0,
  .clearInterrupted 0 o0, .hostHeader 0 [], .write 0 [], .read 0 0, .status 0, .hpselNRise 0 0, .hostPortTimeout 0 0,
  .partialFrameTimeout 0, .cacheCycle 0 [] [], .fillComplete 0 0 true 0 0, .streamStart 0 o0 0, .headerCheck 0 0,
  .streamEnqueue 0 0 0, .streamStop 0 o0 0, .titleStreamStopped 0 0, .repairRequest 0 0 k0 [] [], .rejoin 0 o0 0 0,
  .destinationsWrite 0 o0 0 0, .cacheEnable 0 o0 0, .invalidate 0 o0 0, .packetEnd 0 0, .queueSample 0, .clearPeaks 0 o0,
  .flow 0 0 k0, .flowPeriodic 0 0, .creditTimeout 0 0 0, .ackTimeout 0 0 0, .timeSyncPeriod 0 0, .timeSync 0 0 k0,
  .timeFollow 0 0 k0, .timeDreq 0 0 k0, .timeDrsp 0 0 k0, .safeNotice 0 0 k0, .linkClearCounters 0 o0 0,
  .captureClearCounters 0 o0 0, .hostPortClearCounters 0 o0, .busRequest 0 0 0 0 1 none true true true 0,
  .busResponse 0 0 0 [] 0 true, .dmaEnable 0 0 0 true, .dmaDisable 0 0 0 true
  ] : List Instr).all fun i => i.wf) = true := by decide +kernel

theorem test_wf_accepts_4 : (([
  .dmaBurst 0 [] 0 0 true, .bmxIcctl 0 0 true, .bmxRemap 0 0 true, .bmxErrinfo 0 0 true, .apwCtl 0 none 0 0 0 true,
  .tmrCmphi 0 0 0 true, .timer 0 0, .tmrMtimelo 0, .trcMark 0 0, .registerWrite 0 0 0 true, .traceSyncInterval 0 [] 0,
  .traceOverflow 0 0 0, .traceClear 0 o0, .lockstepMismatch 0, .applicationException 0 0 0 0, .agentException 0,
  .returnFromInterrupt 0 0, .waitForInterrupt 0 0, .unsupportedService 0 0 0, .applicationStart 0 o0 Obs.quiet,
  .applicationStop 0 o0, .image 0 o0 [], .haltreq 0 0 0 zeros32, .resume 0, .ndmreset 0, .abstractCommand 0 0 none,
  .systemBusAccess 0 true 0 0 0 [] 0 true, .trigger 0 0 0 0 0 0 0 zeros32, .singleStep 0 0 0 zeros32, .idcode 0,
  .samplePreload 0 [] [], .extest 0 [], .dtmcs 0 0, .dmi 0 0 0 0 0 0 zeros32 [] none, .bypass 0 0, .trstN 0,
  .wdgSvc 0 0 0 true, .wdgCtl 0 0 0 0 true, .wd0Start 0 o0, .wd1Start 0 o0, .wd0Service 0, .earlyWarning 0 0,
  .watchdogExpired 0 0 0, .clearEvidence 0 o0 0, .evcAck 0 0 0, .evcSwraise0 0 0, .evcSwraise1 0 0,
  .softwareRaise 0 o0 0, .eventClearCounters 0 o0, .logRecordCommit 0
  ] : List Instr).all fun i => i.wf) = true := by decide +kernel

theorem test_wf_accepts_5 : (([
  .copy 0 o0 Obs.quiet, .logClear 0 o0, .dozeEntry 0, .dozeExit 0, .standby 0 o0 Obs.quiet, .hibernate 0 o0 Obs.quiet,
  .standbyWake 0 0 0, .hibernateWake 0 0 0, .wakeTimer 0 0, .powerUp 0 o0, .powerDown 0 o0, .pgGood 0 0, .onDelayEnd 0,
  .offDelayEnd 0, .pgTimeout 0, .railFault 0 0, .restart 0 o0 0, .seatenRise 0 0, .inrushBlankingEnd 0 0, .seatFault 0 0,
  .retryDelayEnd 0 0, .pmbusPoll 0 [] none, .pmbusAlert 0 [], .avsUpdate 0 0 0 [], .adcConversion 0 0 0,
  .supplyOutOfRange 0 0, .brownout 0 0, .thermalReading 0 (List.replicate 8 0) [], .gpioOutputWrite 0 o0 true 0,
  .gpioInput 0 0 true, .externalSafeRequest 0, .release 0 o0 0, .periodicSelfTest 0 [], .shadowScan 0 true,
  .patrolScrub 0 0 0 0 0 true true [] [], .safeNReadback 0, .collectorDisagreement 0, .faultCountersClear 0 o0,
  .powerOn 0, .resetN 0 0 0, .controlReset 0 o0, .controlResetWithoutApplication 0 o0, .boot 0 bootObs,
  .endHold 0 o0 Obs.quiet, .fuseProgram 0 o0 [] Obs.quiet, .clearCounts 0 o0, .unknownServiceClass 0 0 f0,
  .safeReqNHigh 0, .supplyBackInWindow 0 0, .powerGood 0 0
  ] : List Instr).all fun i => i.wf) = true := by decide +kernel

theorem test_wf_refuses_1 : (([
  .readReq (2 ^ 63) f0 Obs.quiet, .readReq 0 ({ f0 with tag := 32 }) Obs.quiet,
  .readReq 0 f0 ({ Obs.quiet with cut := 6 }), .writeReq (2 ^ 63) f0 Obs.quiet,
  .writeReq 0 ({ f0 with tag := 32 }) Obs.quiet, .writeReq 0 f0 ({ Obs.quiet with cut := 6 }), .segReadInit (2 ^ 63) f0,
  .segReadInit 0 ({ f0 with tag := 32 }), .segWriteInit (2 ^ 63) f0, .segWriteInit 0 ({ f0 with tag := 32 }),
  .segData (2 ^ 63) f0 Obs.quiet, .segData 0 ({ f0 with tag := 32 }) Obs.quiet,
  .segData 0 f0 ({ Obs.quiet with cut := 6 }), .segAck (2 ^ 63) f0, .segAck 0 ({ f0 with tag := 32 }),
  .segTransferTimeout (2 ^ 63) 0, .segTransferTimeout 0 4, .abort (2 ^ 63) f0, .abort 0 ({ f0 with tag := 32 }),
  .identifyReq (2 ^ 63) f0, .identifyReq 0 ({ f0 with tag := 32 }), .time (2 ^ 63) f0 0 true,
  .time 0 ({ f0 with tag := 32 }) 0 true, .time 0 f0 (2 ^ 32) true, .heartbeat (2 ^ 63), .canFdBusOff (2 ^ 63) 0,
  .canFdBusOff 0 2, .hostFrame (2 ^ 63) Obs.quiet, .hostFrame 0 ({ Obs.quiet with cut := 6 }),
  .managementItp (2 ^ 63) 0 k0 Obs.quiet, .managementItp 0 32 k0 Obs.quiet,
  .managementItp 0 0 ({ k0 with seq := 4096 }) Obs.quiet, .managementItp 0 0 k0 ({ Obs.quiet with cut := 6 }),
  .mailbox (2 ^ 63) 0 0 Obs.quiet, .mailbox 0 (2 ^ 32) 0 Obs.quiet, .mailbox 0 0 (2 ^ 32) Obs.quiet,
  .mailbox 0 0 0 ({ Obs.quiet with cut := 6 }), .commit (2 ^ 63) o0, .commit 0 ({ o0 with prio := 8 }),
  .discard (2 ^ 63) o0, .discard 0 ({ o0 with prio := 8 }), .validateOnly (2 ^ 63) o0,
  .validateOnly 0 ({ o0 with prio := 8 }), .quoinValidationEnd (2 ^ 63), .quoinTimeReached (2 ^ 63),
  .save (2 ^ 63) o0 Obs.quiet, .save 0 ({ o0 with prio := 8 }) Obs.quiet, .save 0 o0 ({ Obs.quiet with cut := 6 }),
  .saveAfterQuoin (2 ^ 63) Obs.quiet, .saveAfterQuoin 0 ({ Obs.quiet with cut := 6 }), .restore (2 ^ 63) o0,
  .restore 0 ({ o0 with prio := 8 }), .invalidateBanks (2 ^ 63) o0 Obs.quiet,
  .invalidateBanks 0 ({ o0 with prio := 8 }) Obs.quiet, .invalidateBanks 0 o0 ({ Obs.quiet with cut := 6 }),
  .freeze (2 ^ 63) o0 0, .freeze 0 ({ o0 with prio := 8 }) 0, .freeze 0 o0 (2 ^ 16),
  .cmonGateEnd (2 ^ 63) (List.replicate 8 0) 0, .cmonGateEnd 0 [] 0
  ] : List Instr).all fun i => !i.wf) = true := by decide +kernel

theorem test_wf_refuses_2 : (([
  .cmonGateEnd 0 (List.replicate 8 0) (2 ^ 32), .monitorOscillatorLost (2 ^ 63), .rootPllLock (2 ^ 63) 0 0,
  .rootPllLock 0 (2 ^ 32) 0, .rootPllLock 0 0 (2 ^ 32), .rootPllLockFailure (2 ^ 63), .slewStep (2 ^ 63),
  .masterTimeLost (2 ^ 63), .timeSourceChange (2 ^ 63) o0 true 0, .timeSourceChange 0 ({ o0 with prio := 8 }) true 0,
  .timeSourceChange 0 o0 true 256, .refEnable (2 ^ 63) o0 0 0, .refEnable 0 ({ o0 with prio := 8 }) 0 0,
  .refEnable 0 o0 8 0, .refEnable 0 o0 0 256, .referenceEdge (2 ^ 63) 0 true, .referenceEdge 0 8 true,
  .referenceEdge 0 3 true, .missingEdge (2 ^ 63) 0, .missingEdge 0 8, .missingEdge 0 3, .frequencyGateEnd (2 ^ 63) 0 0,
  .frequencyGateEnd 0 8 0, .frequencyGateEnd 0 3 0, .frequencyGateEnd 0 0 (-2 ^ 31 - 1), .frequencyGateEnd 0 0 (2 ^ 31),
  .waitToRestoreEnd (2 ^ 63) 0, .waitToRestoreEnd 0 8, .waitToRestoreEnd 0 3, .endWait (2 ^ 63) o0 0,
  .endWait 0 ({ o0 with prio := 8 }) 0, .endWait 0 o0 8, .genlockLocked (2 ^ 63), .genlockFrameStart (2 ^ 63),
  .realign (2 ^ 63) o0, .realign 0 ({ o0 with prio := 8 }), .markPulse (2 ^ 63) 0, .markPulse 0 4,
  .synEnable (2 ^ 63) o0 0 0, .synEnable 0 ({ o0 with prio := 8 }) 0 0, .synEnable 0 o0 4 0, .synEnable 0 o0 0 256,
  .bandSearchDone (2 ^ 63) 0 0, .bandSearchDone 0 4 0, .bandSearchDone 0 0 256, .synthesizerLocked (2 ^ 63) 0,
  .synthesizerLocked 0 4, .lockingTimeout (2 ^ 63) 0, .lockingTimeout 0 4, .synthesizerLockLost (2 ^ 63) 0,
  .synthesizerLockLost 0 4, .synthesizerReferenceLost (2 ^ 63) 0, .synthesizerReferenceLost 0 4,
  .gatedTimeout (2 ^ 63) 0, .gatedTimeout 0 4, .apply (2 ^ 63) o0 0, .apply 0 ({ o0 with prio := 8 }) 0, .apply 0 o0 4,
  .applyWithRelock (2 ^ 63) o0 0, .applyWithRelock 0 ({ o0 with prio := 8 }) 0
  ] : List Instr).all fun i => !i.wf) = true := by decide +kernel

theorem test_wf_refuses_3 : (([
  .applyWithRelock 0 o0 4, .glideEnd (2 ^ 63) 0, .glideEnd 0 4, .resync (2 ^ 63) o0 0,
  .resync 0 ({ o0 with prio := 8 }) 0, .resync 0 o0 4, .outputEnable (2 ^ 63) o0 0 true 0,
  .outputEnable 0 ({ o0 with prio := 8 }) 0 true 0, .outputEnable 0 o0 4 true 0, .outputEnable 0 o0 0 true 256,
  .profileStart (2 ^ 63) o0 0, .profileStart 0 ({ o0 with prio := 8 }) 0, .profileStart 0 o0 4,
  .profileStop (2 ^ 63) o0 0, .profileStop 0 ({ o0 with prio := 8 }) 0, .profileStop 0 o0 4,
  .generateDownSpread (2 ^ 63) o0 0, .generateDownSpread 0 ({ o0 with prio := 8 }) 0, .generateDownSpread 0 o0 4,
  .profileUpdate (2 ^ 63) 0, .profileUpdate 0 4, .portEnable (2 ^ 63) o0 0, .portEnable 0 ({ o0 with prio := 8 }) 0,
  .portEnable 0 o0 32, .portDisable (2 ^ 63) o0 0, .portDisable 0 ({ o0 with prio := 8 }) 0, .portDisable 0 o0 32,
  .quadPllLock (2 ^ 63) 0 0 0, .quadPllLock 0 12 0 0, .signalDetect (2 ^ 63) 0, .signalDetect 0 32,
  .cdrLock (2 ^ 63) 0 0 [], .cdrLock 0 32 0 [], .cdrLock 0 0 (-2 ^ 15 - 1) [], .cdrLock 0 0 (2 ^ 15) [],
  .cdrLock 0 0 0 [(16, 0)], .cdrLock 0 0 0 [(0, 32)], .laneMarker (2 ^ 63) 0 [] 0, .laneMarker 0 48 [] 0,
  .dfeConvergence (2 ^ 63) 0 [], .dfeConvergence 0 32 [], .dfeConvergence 0 0 [(16, 0, List.replicate 12 0)],
  .dfeConvergence 0 0 [(0, 32, List.replicate 12 0)], .dfeConvergence 0 0 [(0, 0, [])],
  .trainingAttemptTimeout (2 ^ 63) 0, .trainingAttemptTimeout 0 32, .signalLost (2 ^ 63) 0, .signalLost 0 48,
  .retrainTimeout (2 ^ 63) 0, .retrainTimeout 0 32, .quadPllUnlock (2 ^ 63) 0 true 0 0, .quadPllUnlock 0 12 true 0 0,
  .failedPortReturn (2 ^ 63) 0, .failedPortReturn 0 32, .sleep (2 ^ 63) o0 0, .sleep 0 ({ o0 with prio := 8 }) 0,
  .sleep 0 o0 32, .wake (2 ^ 63) o0 0, .wake 0 ({ o0 with prio := 8 }) 0, .wake 0 o0 32
  ] : List Instr).all fun i => !i.wf) = true := by decide +kernel

theorem test_wf_refuses_4 : (([
  .adaptationUpdate (2 ^ 63) 0 0 0 [], .adaptationUpdate 0 48 0 0 [], .adaptationUpdate 0 0 256 0 [],
  .adaptationUpdate 0 0 0 256 [], .adaptationUpdate 0 0 0 0 (List.replicate 65 default), .adaptFreeze (2 ^ 63) o0 0 0,
  .adaptFreeze 0 ({ o0 with prio := 8 }) 0 0, .adaptFreeze 0 o0 48 0, .adaptFreeze 0 o0 0 256, .eyeScanStart (2 ^ 63) o0,
  .eyeScanStart 0 ({ o0 with prio := 8 }), .eyeScanAbort (2 ^ 63) o0, .eyeScanAbort 0 ({ o0 with prio := 8 }),
  .eyeScanPointEnd (2 ^ 63) 0 0, .testStart (2 ^ 63) o0, .testStart 0 ({ o0 with prio := 8 }),
  .testStop (2 ^ 63) o0 Obs.quiet, .testStop 0 ({ o0 with prio := 8 }) Obs.quiet,
  .testStop 0 o0 ({ Obs.quiet with cut := 6 }), .blockPointer (2 ^ 63) 0, .blockPointer 0 32, .framingError (2 ^ 63) 0 0,
  .framingError 0 32 0, .framingError 0 0 (2 ^ 64), .packetRejected (2 ^ 63) 0 0 0 k0, .packetRejected 0 32 0 0 k0,
  .packetRejected 0 0 16 0 k0, .packetRejected 0 0 0 4 k0, .packetRejected 0 0 0 0 ({ k0 with seq := 4096 }),
  .folio (2 ^ 63) 0 k0, .folio 0 32 k0, .folio 0 0 ({ k0 with seq := 4096 }), .videoLine (2 ^ 63) 0 k0,
  .videoLine 0 32 k0, .videoLine 0 0 ({ k0 with seq := 4096 }), .captureInputLost (2 ^ 63) 0, .captureInputLost 0 24,
  .captureEnable (2 ^ 63) o0 0, .captureEnable 0 ({ o0 with prio := 8 }) 0, .captureEnable 0 o0 24,
  .captureDisable (2 ^ 63) o0 0, .captureDisable 0 ({ o0 with prio := 8 }) 0, .captureDisable 0 o0 24,
  .formeFrameStart (2 ^ 63) 0, .formeFrameStart 0 24, .rowFetch (2 ^ 63) 0 0 [] [], .rowFetch 0 24 0 [] [],
  .rowFetch 0 0 65536 [] [], .rowFetch 0 0 0 [64] [], .rowFetch 0 0 0 [] [64], .rowLaunch (2 ^ 63) 0 0 [],
  .rowLaunch 0 24 0 [], .rowLaunch 0 0 65536 [], .rowLaunch 0 0 0 [64], .holdTimeEnd (2 ^ 63) 0, .holdTimeEnd 0 64,
  .echo (2 ^ 63) 0 k0, .echo 0 32 k0, .echo 0 0 ({ k0 with seq := 4096 }), .audioBlock (2 ^ 63) 0 k0 0
  ] : List Instr).all fun i => !i.wf) = true := by decide +kernel

theorem test_wf_refuses_5 : (([
  .audioBlock 0 32 k0 0, .audioBlock 0 0 ({ k0 with seq := 4096 }) 0, .audioBlock 0 0 k0 (-2 ^ 31 - 1),
  .audioBlock 0 0 k0 (2 ^ 31), .asrcLock (2 ^ 63) 0, .asrcLock 0 100, .audioInputLost (2 ^ 63) 0, .audioInputLost 0 96,
  .deviceAudioTick (2 ^ 63) [] [] [], .deviceAudioTick 0 (List.replicate 65 default) [] [],
  .deviceAudioTick 0 [] [448] [], .deviceAudioTick 0 [] [] [448], .audioBlockSend (2 ^ 63) 0, .audioBlockSend 0 24,
  .tdmFrameSync (2 ^ 63) 0 0 true [], .tdmFrameSync 0 4 0 true [], .tdmFrameSync 0 0 0 true (List.replicate 17 default),
  .audioTdmClockLost (2 ^ 63) 0, .audioTdmClockLost 0 4, .slotEnable (2 ^ 63) o0 true 0,
  .slotEnable 0 ({ o0 with prio := 8 }) true 0, .slotEnable 0 o0 true 256, .identify (2 ^ 63) o0 0,
  .identify 0 ({ o0 with prio := 8 }) 0, .identify 0 o0 256, .titleTransactionEnd (2 ^ 63) [] 0,
  .titleTransactionEnd 0 (List.replicate 65537 default) 0, .windowRead (2 ^ 63) 0 0 1 0 0, .windowRead 0 2 0 1 0 0,
  .windowRead 0 0 0x1000_0000 1 0 0, .windowRead 0 0 0 1 4 0, .windowRead 0 0 0 1 0 8, .windowWrite (2 ^ 63) 0 0 [] 0 0,
  .windowWrite 0 2 0 [] 0 0, .windowWrite 0 0 0x1000_0000 [] 0 0, .windowWrite 0 0 0 (List.replicate 257 default) 0 0,
  .windowWrite 0 0 0 [] 4 0, .windowWrite 0 0 0 [] 0 8, .coalesceTimeEnd (2 ^ 63) 0, .coalesceTimeEnd 0 2,
  .flush (2 ^ 63) o0 0, .flush 0 ({ o0 with prio := 8 }) 0, .flush 0 o0 256, .statusPoll (2 ^ 63) 0 0, .statusPoll 0 2 0,
  .statusPoll 0 0 65536, .tprdyTimeout (2 ^ 63), .strobeTimeout (2 ^ 63), .rawExecute (2 ^ 63) o0,
  .rawExecute 0 ({ o0 with prio := 8 }), .clearInterrupted (2 ^ 63) o0, .clearInterrupted 0 ({ o0 with prio := 8 }),
  .hostHeader (2 ^ 63) [], .hostHeader 0 (List.replicate 5 default), .write (2 ^ 63) [],
  .write 0 (List.replicate 65537 default), .read (2 ^ 63) 0, .status (2 ^ 63), .hpselNRise (2 ^ 63) 0, .hpselNRise 0 32
  ] : List Instr).all fun i => !i.wf) = true := by decide +kernel

theorem test_wf_refuses_6 : (([
  .hostPortTimeout (2 ^ 63) 0, .hostPortTimeout 0 32, .partialFrameTimeout (2 ^ 63), .cacheCycle (2 ^ 63) [] [],
  .fillComplete (2 ^ 63) 0 true 0 0, .fillComplete 0 2 true 0 0, .fillComplete 0 0 true (2 ^ 32) 0,
  .fillComplete 0 0 true 0 4, .streamStart (2 ^ 63) o0 0, .streamStart 0 ({ o0 with prio := 8 }) 0, .streamStart 0 o0 32,
  .headerCheck (2 ^ 63) 0, .headerCheck 0 32, .streamEnqueue (2 ^ 63) 0 0, .streamEnqueue 0 32 0, .streamEnqueue 0 0 4,
  .streamStop (2 ^ 63) o0 0, .streamStop 0 ({ o0 with prio := 8 }) 0, .streamStop 0 o0 32,
  .titleStreamStopped (2 ^ 63) 0, .titleStreamStopped 0 32, .repairRequest (2 ^ 63) 0 k0 [] [],
  .repairRequest 0 32 k0 [] [], .repairRequest 0 0 ({ k0 with seq := 4096 }) [] [], .rejoin (2 ^ 63) o0 0 0,
  .rejoin 0 ({ o0 with prio := 8 }) 0 0, .rejoin 0 o0 32 0, .rejoin 0 o0 0 (2 ^ 32), .destinationsWrite (2 ^ 63) o0 0 0,
  .destinationsWrite 0 ({ o0 with prio := 8 }) 0 0, .destinationsWrite 0 o0 32 0, .destinationsWrite 0 o0 0 (2 ^ 32),
  .cacheEnable (2 ^ 63) o0 0, .cacheEnable 0 ({ o0 with prio := 8 }) 0, .cacheEnable 0 o0 256, .invalidate (2 ^ 63) o0 0,
  .invalidate 0 ({ o0 with prio := 8 }) 0, .invalidate 0 o0 256, .packetEnd (2 ^ 63) 0, .packetEnd 0 32,
  .queueSample (2 ^ 63), .clearPeaks (2 ^ 63) o0, .clearPeaks 0 ({ o0 with prio := 8 }), .flow (2 ^ 63) 0 k0,
  .flow 0 32 k0, .flow 0 0 ({ k0 with seq := 4096 }), .flowPeriodic (2 ^ 63) 0, .flowPeriodic 0 32,
  .creditTimeout (2 ^ 63) 0 0, .creditTimeout 0 32 0, .creditTimeout 0 0 4, .ackTimeout (2 ^ 63) 0 0, .ackTimeout 0 32 0,
  .ackTimeout 0 0 4, .timeSyncPeriod (2 ^ 63) 0, .timeSyncPeriod 0 32, .timeSync (2 ^ 63) 0 k0, .timeSync 0 32 k0,
  .timeSync 0 0 ({ k0 with seq := 4096 }), .timeFollow (2 ^ 63) 0 k0
  ] : List Instr).all fun i => !i.wf) = true := by decide +kernel

theorem test_wf_refuses_7 : (([
  .timeFollow 0 32 k0, .timeFollow 0 0 ({ k0 with seq := 4096 }), .timeDreq (2 ^ 63) 0 k0, .timeDreq 0 32 k0,
  .timeDreq 0 0 ({ k0 with seq := 4096 }), .timeDrsp (2 ^ 63) 0 k0, .timeDrsp 0 32 k0,
  .timeDrsp 0 0 ({ k0 with seq := 4096 }), .safeNotice (2 ^ 63) 0 k0, .safeNotice 0 32 k0,
  .safeNotice 0 0 ({ k0 with seq := 4096 }), .linkClearCounters (2 ^ 63) o0 0,
  .linkClearCounters 0 ({ o0 with prio := 8 }) 0, .linkClearCounters 0 o0 32, .captureClearCounters (2 ^ 63) o0 0,
  .captureClearCounters 0 ({ o0 with prio := 8 }) 0, .captureClearCounters 0 o0 24, .hostPortClearCounters (2 ^ 63) o0,
  .hostPortClearCounters 0 ({ o0 with prio := 8 }), .busRequest 0 0 0 0 1 none true true true 4,
  .busRequest (2 ^ 63) 0 0 0 1 none true true true 0, .busRequest 0 4 0 0 1 none true true true 0,
  .busRequest 0 0 8 0 1 none true true true 0, .busRequest 0 0 0 (2 ^ 32) 1 none true true true 0,
  .busRequest 0 0 0 0 0 none true true true 0, .busRequest 0 0 0 0 65 none true true true 0,
  .busResponse 0 0 0 [] 4 true, .busResponse (2 ^ 63) 0 0 [] 0 true, .busResponse 0 4 0 [] 0 true,
  .busResponse 0 0 8 [] 0 true, .busResponse 0 0 0 (List.replicate 65 default) 0 true, .dmaEnable (2 ^ 63) 0 0 true,
  .dmaEnable 0 8 0 true, .dmaEnable 0 0 (2 ^ 32) true, .dmaDisable (2 ^ 63) 0 0 true, .dmaDisable 0 8 0 true,
  .dmaDisable 0 0 (2 ^ 32) true, .dmaBurst (2 ^ 63) [] 0 0 true, .dmaBurst 0 (List.replicate 65 default) 0 0 true,
  .dmaBurst 0 [] 5 0 true, .bmxIcctl (2 ^ 63) 0 true, .bmxIcctl 0 (2 ^ 32) true, .bmxRemap (2 ^ 63) 0 true,
  .bmxRemap 0 (2 ^ 32) true, .bmxErrinfo (2 ^ 63) 0 true, .bmxErrinfo 0 (2 ^ 32) true, .apwCtl (2 ^ 63) none 0 0 0 true,
  .apwCtl 0 (some { o0 with prio := 8 }) 0 0 0 true, .apwCtl 0 none 8 0 0 true, .apwCtl 0 none 0 16 0 true,
  .apwCtl 0 none 0 0 (2 ^ 32) true, .tmrCmphi (2 ^ 63) 0 0 true, .tmrCmphi 0 4 0 true, .tmrCmphi 0 0 (2 ^ 32) true,
  .timer (2 ^ 63) 0, .timer 0 4, .tmrMtimelo (2 ^ 63), .trcMark (2 ^ 63) 0, .trcMark 0 (2 ^ 32),
  .registerWrite (2 ^ 63) 0 0 true
  ] : List Instr).all fun i => !i.wf) = true := by decide +kernel

theorem test_wf_refuses_8 : (([
  .registerWrite 0 0x6000 0 true, .registerWrite 0 0 (2 ^ 32) true, .traceSyncInterval (2 ^ 63) [] 0,
  .traceSyncInterval 0 [] (2 ^ 32), .traceOverflow (2 ^ 63) 0 0, .traceOverflow 0 0 (2 ^ 32), .traceClear (2 ^ 63) o0,
  .traceClear 0 ({ o0 with prio := 8 }), .lockstepMismatch (2 ^ 63), .applicationException (2 ^ 63) 0 0 0,
  .applicationException 0 32 0 0, .applicationException 0 0 (2 ^ 32) 0, .applicationException 0 0 0 (2 ^ 32),
  .agentException (2 ^ 63), .returnFromInterrupt (2 ^ 63) 0, .returnFromInterrupt 0 (2 ^ 32),
  .waitForInterrupt (2 ^ 63) 0, .waitForInterrupt 0 (2 ^ 32), .unsupportedService (2 ^ 63) 0 0,
  .unsupportedService 0 (2 ^ 32) 0, .unsupportedService 0 0 (2 ^ 32), .applicationStart (2 ^ 63) o0 Obs.quiet,
  .applicationStart 0 ({ o0 with prio := 8 }) Obs.quiet, .applicationStart 0 o0 ({ Obs.quiet with cut := 6 }),
  .applicationStop (2 ^ 63) o0, .applicationStop 0 ({ o0 with prio := 8 }), .image (2 ^ 63) o0 [],
  .image 0 ({ o0 with prio := 8 }) [], .image 0 o0 (List.replicate 65537 default), .haltreq (2 ^ 63) 0 0 zeros32,
  .haltreq 0 (2 ^ 32) 0 zeros32, .haltreq 0 0 4 zeros32, .haltreq 0 0 0 [], .resume (2 ^ 63), .ndmreset (2 ^ 63),
  .abstractCommand (2 ^ 63) 0 none, .abstractCommand 0 (2 ^ 32) none, .systemBusAccess 0 true 0 0 0 [] 4 true,
  .systemBusAccess (2 ^ 63) true 0 0 0 [] 0 true, .systemBusAccess 0 true 0 (2 ^ 32) 0 [] 0 true,
  .systemBusAccess 0 true 0 0 (2 ^ 32) [] 0 true, .systemBusAccess 0 true 0 0 0 (List.replicate 5 default) 0 true,
  .trigger (2 ^ 63) 0 0 0 0 0 0 zeros32, .trigger 0 4 0 0 0 0 0 zeros32, .trigger 0 0 3 0 0 0 0 zeros32,
  .trigger 0 0 0 (2 ^ 32) 0 0 0 zeros32, .trigger 0 0 0 0 (2 ^ 32) 0 0 zeros32, .trigger 0 0 0 0 0 (2 ^ 32) 0 zeros32,
  .trigger 0 0 0 0 0 0 4 zeros32, .trigger 0 0 0 0 0 0 0 [], .singleStep (2 ^ 63) 0 0 zeros32,
  .singleStep 0 (2 ^ 32) 0 zeros32, .singleStep 0 0 4 zeros32, .singleStep 0 0 0 [], .idcode (2 ^ 63),
  .samplePreload (2 ^ 63) [] [], .extest (2 ^ 63) [], .dtmcs (2 ^ 63) 0, .dtmcs 0 (2 ^ 32),
  .dmi (2 ^ 63) 0 0 0 0 0 zeros32 [] none
  ] : List Instr).all fun i => !i.wf) = true := by decide +kernel

theorem test_wf_refuses_9 : (([
  .dmi 0 4 0 0 0 0 zeros32 [] none, .dmi 0 0 128 0 0 0 zeros32 [] none, .dmi 0 0 0 (2 ^ 32) 0 0 zeros32 [] none,
  .dmi 0 0 0 0 (2 ^ 32) 0 zeros32 [] none, .dmi 0 0 0 0 0 4 zeros32 [] none, .dmi 0 0 0 0 0 0 [] [] none,
  .dmi 0 0 0 0 0 0 zeros32 (List.replicate 5 default) none, .bypass (2 ^ 63) 0, .bypass 0 32, .trstN (2 ^ 63),
  .wdgSvc (2 ^ 63) 0 0 true, .wdgSvc 0 2 0 true, .wdgSvc 0 0 (2 ^ 32) true, .wdgCtl (2 ^ 63) 0 0 0 true,
  .wdgCtl 0 2 0 0 true, .wdgCtl 0 0 3 0 true, .wdgCtl 0 0 0 (2 ^ 32) true, .wd0Start (2 ^ 63) o0,
  .wd0Start 0 ({ o0 with prio := 8 }), .wd1Start (2 ^ 63) o0, .wd1Start 0 ({ o0 with prio := 8 }), .wd0Service (2 ^ 63),
  .earlyWarning (2 ^ 63) 0, .earlyWarning 0 2, .watchdogExpired (2 ^ 63) 0 0, .watchdogExpired 0 (2 ^ 32) 0,
  .watchdogExpired 0 0 4, .clearEvidence (2 ^ 63) o0 0, .clearEvidence 0 ({ o0 with prio := 8 }) 0,
  .clearEvidence 0 o0 2, .evcAck (2 ^ 63) 0 0, .evcAck 0 3 0, .evcAck 0 0 (2 ^ 32), .evcSwraise0 (2 ^ 63) 0,
  .evcSwraise0 0 (2 ^ 32), .evcSwraise1 (2 ^ 63) 0, .evcSwraise1 0 (2 ^ 32), .softwareRaise (2 ^ 63) o0 0,
  .softwareRaise 0 ({ o0 with prio := 8 }) 0, .softwareRaise 0 o0 256, .eventClearCounters (2 ^ 63) o0,
  .eventClearCounters 0 ({ o0 with prio := 8 }), .logRecordCommit (2 ^ 63), .copy (2 ^ 63) o0 Obs.quiet,
  .copy 0 ({ o0 with prio := 8 }) Obs.quiet, .copy 0 o0 ({ Obs.quiet with cut := 6 }), .logClear (2 ^ 63) o0,
  .logClear 0 ({ o0 with prio := 8 }), .dozeEntry (2 ^ 63), .dozeExit (2 ^ 63), .standby (2 ^ 63) o0 Obs.quiet,
  .standby 0 ({ o0 with prio := 8 }) Obs.quiet, .standby 0 o0 ({ Obs.quiet with cut := 6 }),
  .hibernate (2 ^ 63) o0 Obs.quiet, .hibernate 0 ({ o0 with prio := 8 }) Obs.quiet,
  .hibernate 0 o0 ({ Obs.quiet with cut := 6 }), .standbyWake (2 ^ 63) 0 0, .standbyWake 0 (2 ^ 13) 0,
  .hibernateWake (2 ^ 63) 0 0, .hibernateWake 0 (2 ^ 13) 0
  ] : List Instr).all fun i => !i.wf) = true := by decide +kernel

theorem test_wf_refuses_10 : (([
  .wakeTimer (2 ^ 63) 0, .powerUp (2 ^ 63) o0, .powerUp 0 ({ o0 with prio := 8 }), .powerDown (2 ^ 63) o0,
  .powerDown 0 ({ o0 with prio := 8 }), .pgGood (2 ^ 63) 0, .pgGood 0 16, .onDelayEnd (2 ^ 63), .offDelayEnd (2 ^ 63),
  .pgTimeout (2 ^ 63), .railFault (2 ^ 63) 0, .railFault 0 16, .restart (2 ^ 63) o0 0,
  .restart 0 ({ o0 with prio := 8 }) 0, .restart 0 o0 16, .seatenRise (2 ^ 63) 0, .seatenRise 0 8,
  .inrushBlankingEnd (2 ^ 63) 0, .inrushBlankingEnd 0 8, .seatFault (2 ^ 63) 0, .seatFault 0 8,
  .retryDelayEnd (2 ^ 63) 0, .retryDelayEnd 0 8, .pmbusPoll (2 ^ 63) [] none, .pmbusPoll 0 [(16, 0, 0, 0)] none,
  .pmbusAlert (2 ^ 63) [], .pmbusAlert 0 [(16, 0, 0)], .avsUpdate (2 ^ 63) 0 0 [], .avsUpdate 0 65536 0 [],
  .avsUpdate 0 0 0 [(16, 0, 0, 0)], .adcConversion (2 ^ 63) 0 0, .adcConversion 0 16 0, .adcConversion 0 0 4096,
  .supplyOutOfRange (2 ^ 63) 0, .supplyOutOfRange 0 7, .brownout (2 ^ 63) 0, .brownout 0 1,
  .thermalReading (2 ^ 63) (List.replicate 8 0) [], .thermalReading 0 [] [], .gpioOutputWrite (2 ^ 63) o0 true 0,
  .gpioOutputWrite 0 ({ o0 with prio := 8 }) true 0, .gpioOutputWrite 0 o0 true 65536, .gpioInput (2 ^ 63) 0 true,
  .gpioInput 0 16 true, .externalSafeRequest (2 ^ 63), .release (2 ^ 63) o0 0, .release 0 ({ o0 with prio := 8 }) 0,
  .release 0 o0 256, .periodicSelfTest (2 ^ 63) [], .shadowScan (2 ^ 63) true,
  .patrolScrub (2 ^ 63) 0 0 0 0 true true [] [], .safeNReadback (2 ^ 63), .collectorDisagreement (2 ^ 63),
  .faultCountersClear (2 ^ 63) o0, .faultCountersClear 0 ({ o0 with prio := 8 }), .powerOn (2 ^ 63),
  .resetN (2 ^ 63) 0 0, .controlReset (2 ^ 63) o0, .controlReset 0 ({ o0 with prio := 8 }),
  .controlResetWithoutApplication (2 ^ 63) o0
  ] : List Instr).all fun i => !i.wf) = true := by decide +kernel

theorem test_wf_refuses_11 : (([
  .controlResetWithoutApplication 0 ({ o0 with prio := 8 }), .boot (2 ^ 63) bootObs, .boot 0 ({ bootObs with us := [] }),
  .endHold (2 ^ 63) o0 Obs.quiet, .endHold 0 ({ o0 with prio := 8 }) Obs.quiet,
  .endHold 0 o0 ({ Obs.quiet with cut := 6 }), .fuseProgram (2 ^ 63) o0 [] Obs.quiet,
  .fuseProgram 0 ({ o0 with prio := 8 }) [] Obs.quiet, .fuseProgram 0 o0 (List.replicate 57 default) Obs.quiet,
  .fuseProgram 0 o0 [] ({ Obs.quiet with cut := 6 }), .clearCounts (2 ^ 63) o0, .clearCounts 0 ({ o0 with prio := 8 }),
  .unknownServiceClass (2 ^ 63) 0 f0, .unknownServiceClass 0 32 f0, .unknownServiceClass 0 0 ({ f0 with tag := 32 }),
  .safeReqNHigh (2 ^ 63), .supplyBackInWindow (2 ^ 63) 0, .supplyBackInWindow 0 7, .powerGood (2 ^ 63) 0
  ] : List Instr).all fun i => !i.wf) = true := by decide +kernel

/-! ## Witnesses: a state and operands that meet the hypotheses of each clause -/

theorem wit_Clock_events_complete :
    (∃ (s : State) (dt : Nat) (counts : List Nat) (imoHz : Nat), Quiet s ∧ s.dev.cmonOn = true ∧ imoGood imoHz =
      true ∧ s.dev.cmonBad counts = 0) ∧
    (∃ (s : State) (dt : Nat), Quiet s ∧ s.dev.cmonOn = true ∧ s.dev.clk.imoLost = false) ∧
    (∃ (s : State) (dt us slow : Nat), Quiet s ∧ s.dev.pllStarting = true) ∧
    (∃ (s : State) (dt : Nat), Quiet s ∧ s.dev.clk.pllTries = 0 ∧ s.dev.pllStarting = true) ∧
    (∃ (s : State) (dt : Nat), Quiet s ∧ s.dev.clk.pllTries ≠ 0 ∧ s.dev.pllStarting = true) ∧
    (∃ (s : State) (dt : Nat) (g : Int), Quiet s ∧ s.dev.clk.target = some g ∧ s.dev.pwr.st ≠ .standby ∧
      s.dev.offset < g ∧ s.dev.timePairBad = false ∧ s.dev.clk.lastMove + s.dev.slewGap ≤ (s.ctx dt).t) ∧
    (∃ (s : State) (dt : Nat) (g : Int), Quiet s ∧ s.dev.clk.target = some g ∧ s.dev.pwr.st ≠ .standby ∧ g <
      s.dev.offset ∧ s.dev.timePairBad = false ∧ s.dev.clk.lastMove + s.dev.slewGap ≤ (s.ctx dt).t) ∧
    (∃ (s : State) (dt : Nat), Quiet s ∧ s.dev.nat 0x1050_06 ≠ 0 ∧ s.dev.nat 0x1050_0B ≠ 4 ∧ s.dev.clk.toStart +
      400000 * s.dev.clk.toLen ≤ (s.ctx dt).t) ∧
    (∃ (s : State) (dt : Nat) (f : Req) (age : Nat), Quiet s ∧ f.fdExt = true ∧ s.dev.chanOn f.ch = true ∧
      s.dev.listening = true) ∧
    (∃ (s : State) (dt : Nat) (o : Org) (port : Bool) (v : Nat), Quiet s ∧ Accepts s dt o (if port then 0x1050_08
      else 0x1050_06) v) :=
  ⟨⟨tst [(0x2000_03, 260)] fun d => { d with clk := { d.clk with imoLost := true, tb := true } }, 3, [100, 4800,
    3200, 2400, 1600, 1200, 400, 400], 16000000, by decide +kernel⟩,
   ⟨tst [] id, 3, by decide +kernel⟩,
   ⟨State.reset, 0, 180, 0, by decide +kernel⟩,
   ⟨State.reset, 0, by decide +kernel⟩,
   ⟨{ State.reset with dev := { State.reset.dev with clk := { State.reset.dev.clk with pllTries := 1 } } }, 0,
    by decide +kernel⟩,
   ⟨tst [] fun d => { d with clk := { d.clk with target := some 5 } }, 1, 5, by decide +kernel⟩,
   ⟨tst [] fun d => { d with clk := { d.clk with target := some (-5) } }, 1, -5, by decide +kernel⟩,
   ⟨tst [(0x1050_06, 1)] id, 0, by decide +kernel⟩,
   ⟨tst [(0x1010_07, 1)] id, 0, ⟨0, true, 2, 16, 5, 7, zeros 12⟩, 40, by decide +kernel⟩,
   ⟨tst [(0x1010_07, 1)] id, 0, ⟨.fd0, 3, 5, 7⟩, false, 1, by decide +kernel⟩⟩

theorem wit_Genlock_events_complete :
    (∃ (s : State) (dt : Nat) (o : Org) (r v : Nat), Quiet s ∧ r < 8 ∧ Accepts s dt o (key 0x2100 r 0x01) v) ∧
    (∃ (s : State) (dt : Nat) (r : Nat) (wide : Bool), Quiet s ∧ r < 8 ∧ r ≠ 3 ∧ s.dev.refSt r ≠ 0 ∧ r <
      s.dev.refs.length) ∧
    (∃ (s : State) (dt : Nat) (r : Nat), Quiet s ∧ r < 8 ∧ r ≠ 3 ∧ s.dev.refSt r ≠ 0 ∧ r < s.dev.refs.length ∧
      (s.dev.refOf r).badRun < 2 ∧ s.dev.windowOver r (s.dev.refTime (s.ctx dt) r) = true) ∧
    (∃ (s : State) (dt : Nat) (r : Nat) (ppb : Int), Quiet s ∧ r < 8 ∧ r ≠ 3 ∧ 2 ≤ s.dev.refSt r ∧ (s.dev.refOf
      r).gateT + gateTicks ≤ (s.ctx dt).t) ∧
    (∃ (s : State) (dt : Nat) (r : Nat), Quiet s ∧ r < 8 ∧ r ≠ 3 ∧ s.dev.refSt r = 3 ∧ (s.dev.refOf r).waitT +
      s.dev.nat (key 0x2100 r 0x0B) * 400000000 ≤ (s.ctx dt).t) ∧
    (∃ (s : State) (dt : Nat) (o : Org) (r : Nat), Quiet s ∧ r < 8 ∧ s.dev.refSt r = 3 ∧ Accepts s dt o (key 0x2100
      r 0x12) 1) ∧
    (∃ (s : State) (dt : Nat), Quiet s ∧ s.dev.dpllSt = 1 ∧ s.dev.settled (s.ctx dt) = true) ∧
    (∃ (s : State) (dt : Nat), Quiet s ∧ s.dev.rst.video = true ∧ s.dev.pwr.st = .run ∧ s.dev.frameDue (s.ctx dt) =
      true ∧ s.dev.dpll.misBad = false) ∧
    (∃ (s : State) (dt : Nat) (o : Org), Quiet s ∧ Accepts s dt o 0x2110_13 1) ∧
    (∃ (s : State) (dt : Nat) (m : Nat) (x : Mark), Quiet s ∧ m < 4 ∧ s.dev.marks[m]? = some x ∧ x.on = true ∧
      s.dev.flag (key 0x2120 m 0x01) = true ∧ s.dev.dpll.run = true ∧ (s.dev.markFrame x).2 % max 1 x.div = 0 ∧
      x.lastPulse = none ∧ (s.dev.markFrame x).1 + x.off ≤ (s.ctx dt).t) :=
  ⟨⟨tst [(0x1010_07, 1)] id, 0, ⟨.fd0, 3, 5, 7⟩, 0, 1, by decide +kernel⟩,
   ⟨tst [(0x2100_0D, 1)] id, 5, 0, false, by decide +kernel⟩,
   ⟨tst [(0x2100_0D, 4), (0x2110_03, 60), (0x2110_04, 1), (0x2100_04, 1), (0x2100_05, 1)] fun d =>
    { d with refs := List.replicate 8 { last := some 0 } }, 8000000, 0, by decide +kernel⟩,
   ⟨tst [(0x2100_0D, 2)] id, 400000000, 0, -12, by decide +kernel⟩,
   ⟨tst [(0x2100_0D, 3), (0x2100_0B, 2)] id, 800000000, 0, by decide +kernel⟩,
   ⟨tst [(0x1010_07, 1), (0x2101_0D, 3)] id, 5, ⟨.fd0, 3, 5, 7⟩, 1, by decide +kernel⟩,
   ⟨tst [(0x2110_0A, 1)] fun d => { d with dpll := { d.dpll with okSince := some 5 } }, 800000000, by decide +kernel⟩,
   ⟨tst [(0x2110_03, 60), (0x2110_04, 1)] fun d =>
    { d with rst := { d.rst with video := true }, dpll := { d.dpll with run := true, frameT := 4000000 } }, 6666668,
    by decide +kernel⟩,
   ⟨tst [(0x1010_07, 1), (0x2110_0A, 2)] id, 5, ⟨.fd0, 3, 5, 7⟩, by decide +kernel⟩,
   ⟨tst [(0x2121_01, 1)] fun d =>
    { d with marks := List.replicate 4 { on := true }, dpll := { d.dpll with run := true, frameT := 4000000 } }, 5, 1,
    { on := true }, by decide +kernel⟩⟩

theorem wit_Synthesizer_commands_complete_1 :
    (∃ (s : State) (dt : Nat) (o : Org) (y v : Nat), Quiet s ∧ y < 4 ∧ v = 1 ∧ s.dev.flag (synK y 0x01) = false ∧
      Accepts s dt o (synK y 0x01) v) ∧
    (∃ (s : State) (dt : Nat) (o : Org) (y v : Nat), Quiet s ∧ y < 4 ∧ v = 0 ∧ Accepts s dt o (synK y 0x01) v) ∧
    (∃ (s : State) (dt : Nat) (y band : Nat), Quiet s ∧ y < 4 ∧ s.dev.synSt y = 1) ∧
    (∃ (s : State) (dt : Nat) (y : Nat), Quiet s ∧ y < 4 ∧ s.dev.synSt y = 3 ∧ (s.dev.syn y).lockT + s.dev.refTicks
      y (((s.dev.syn y).inForce[0]?).getD 0) ≤ (s.ctx dt).t) ∧
    (∃ (s : State) (dt : Nat) (y : Nat), Quiet s ∧ y < 4 ∧ s.dev.synSt y = 3 ∧ (s.dev.syn y).lockT + 800000 ≤ (s.ctx
      dt).t) ∧
    (∃ (s : State) (dt : Nat) (y : Nat), Quiet s ∧ y < 4 ∧ s.dev.synSt y = 5 ∧ (s.dev.syn y).relockT = none) ∧
    (∃ (s : State) (dt : Nat) (y r : Nat), Quiet s ∧ y < 4 ∧ s.dev.synSt y = 5 ∧ (s.dev.syn y).relockT = some r ∧
      (s.ctx dt).t ≤ r + 400000000) ∧
    (∃ (s : State) (dt : Nat) (y : Nat), Quiet s ∧ y < 4 ∧ s.dev.synSt y = 5 ∧ (s.dev.syn y).relockT = none) ∧
    (∃ (s : State) (dt : Nat) (y : Nat), Quiet s ∧ y < 4 ∧ s.dev.synSt y = 6 ∧ (s.dev.syn y).gateT + 4000000 ≤
      (s.ctx dt).t) ∧
    (∃ (s : State) (dt : Nat) (o : Org) (y : Nat), Quiet s ∧ y < 4 ∧ y < s.dev.syns.length ∧ s.dev.synValid y
      (s.dev.shadowSet y) = true ∧ Accepts s dt o (synK y 0x09) 1) :=
  ⟨⟨tst [(0x1010_07, 1)] id, 0, ⟨.fd0, 3, 5, 7⟩, 2, 1, by decide +kernel⟩,
   ⟨tst [(0x1010_07, 1), (0x2202_19, 5), (0x2202_01, 1)] id, 0, ⟨.fd0, 3, 5, 7⟩, 2, 0, by decide +kernel⟩,
   ⟨tst [(0x2200_19, 1)] id, 0, 0, 17, by decide +kernel⟩,
   ⟨tst [(0x2200_19, 3)] id, 400000, 0, by decide +kernel⟩,
   ⟨tst [(0x2200_19, 3)] id, 800000, 0, by decide +kernel⟩,
   ⟨tst [(0x2200_19, 5)] id, 0, 0, by decide +kernel⟩,
   ⟨tst [(0x2200_19, 5)] fun d => { d with syns := List.replicate 4 { relockT := some 9 } }, 0, 0, 9,
    by decide +kernel⟩,
   ⟨tst [(0x2200_19, 5)] id, 0, 0, by decide +kernel⟩,
   ⟨tst [(0x2200_19, 6)] id, 4000000, 0, by decide +kernel⟩,
   ⟨tst [(0x1010_07, 1)] id, 0, ⟨.fd0, 3, 5, 7⟩, 1, by decide +kernel⟩⟩

theorem wit_Synthesizer_commands_complete_2 :
    (∃ (s : State) (dt : Nat) (o : Org) (y : Nat), Quiet s ∧ y < 4 ∧ y < s.dev.syns.length ∧ s.dev.synValid y
      (s.dev.shadowSet y) = true ∧ Accepts s dt o (synK y 0x09) 2) ∧
    (∃ (s : State) (dt : Nat) (y : Nat) (g : Glide), Quiet s ∧ y < 4 ∧ (s.dev.syn y).glide = some g ∧ g.t0 + g.len ≤
      (s.ctx dt).t) ∧
    (∃ (s : State) (dt : Nat) (o : Org) (y : Nat), Quiet s ∧ y < 4 ∧ s.dev.synSt y = 5 ∧ Accepts s dt o (synK y
      0x18) 1) ∧
    (∃ (s : State) (dt : Nat) (o : Org) (y : Nat) (b : Bool) (v : Nat), Quiet s ∧ y < 4 ∧ Accepts s dt o (synK y (if
      b then 0x0B else 0x0A)) v) ∧
    (∃ (s : State) (dt : Nat) (o : Org) (y : Nat), Quiet s ∧ y < 4 ∧ Accepts s dt o (profK y 0x04) 1) ∧
    (∃ (s : State) (dt : Nat) (o : Org) (y : Nat), Quiet s ∧ y < 4 ∧ (s.dev.nat (profK y 0x07) = 1 ∨ s.dev.nat
      (profK y 0x07) = 2) ∧ Accepts s dt o (profK y 0x04) 2) ∧
    (∃ (s : State) (dt : Nat) (o : Org) (y : Nat), Quiet s ∧ y < 4 ∧ Accepts s dt o (profK y 0x04) 3) ∧
    (∃ (s : State) (dt : Nat) (y : Nat), Quiet s ∧ y < 4 ∧ y < s.dev.syns.length ∧ s.dev.nat (profK y 0x07) = 1 ∧
      (s.dev.syn y).profT + s.dev.refTicks y (16 * ((s.dev.syn y).upd + 1)) ≤ (s.ctx dt).t) :=
  ⟨⟨tst [(0x1010_07, 1)] id, 0, ⟨.fd0, 3, 5, 7⟩, 1, by decide +kernel⟩,
   ⟨tst [(0x2200_19, 5)] fun d => { d with syns := List.replicate 4 { glide := some ⟨(7, 3), 5, 9⟩ } }, 0, 0, ⟨(7,
    3), 5, 9⟩, by decide +kernel⟩,
   ⟨tst [(0x1010_07, 1), (0x2201_19, 5)] id, 0, ⟨.fd0, 3, 5, 7⟩, 1, by decide +kernel⟩,
   ⟨tst [(0x1010_07, 1)] id, 0, ⟨.fd0, 3, 5, 7⟩, 1, true, 1, by decide +kernel⟩,
   ⟨tst [(0x1010_07, 1), (0x2201_19, 5)] fun d =>
    { d.setB 0x2211_02 (le 4 0 ++ le 4 1000) with syns := List.replicate 4 { act := { v := 8640000000 }, target := (d.fVco { v := 8640000000 }) } },
    0, ⟨.fd0, 3, 5, 7⟩, 1, by decide +kernel⟩,
   ⟨tst [(0x1010_07, 1), (0x2211_07, 1)] id, 0, ⟨.fd0, 3, 5, 7⟩, 1, by decide +kernel⟩,
   ⟨tst [(0x1010_07, 1)] id, 0, ⟨.fd0, 3, 5, 7⟩, 1, by decide +kernel⟩,
   ⟨tst [(0x2211_07, 1)] fun d => d.setB 0x2211_02 (le 4 0 ++ le 4 1000), 4000000, 1, by decide +kernel⟩⟩

theorem wit_Lane_commands_complete_1 :
    (∃ (s : State) (dt : Nat) (o : Org) (p : Nat), Quiet s ∧ p < 32 ∧ s.dev.portOn p = false ∧ 0 < s.dev.width p ∧
      Accepts s dt o (portK p 0x01) 1 ∧ s.dev.videoDown = false) ∧
    (∃ (s : State) (dt : Nat) (o : Org) (p : Nat), Quiet s ∧ p < 32 ∧ s.dev.portOn p = true ∧ Accepts s dt o (portK
      p 0x01) 0) ∧
    (∃ (s : State) (dt : Nat) (q r bias again : Nat), Quiet s ∧ q < s.count 12 6 ∧ s.dev.quads[q]? = some ⟨1, r⟩ ∧
      biasOk bias again = true) ∧
    (∃ (s : State) (dt : Nat) (p : Nat), Quiet s ∧ p < s.portCount ∧ s.dev.portSt p = 5) ∧
    (∃ (s : State) (dt : Nat) (p r : Nat), Quiet s ∧ p < s.portCount ∧ s.dev.portSt p = 1 ∧ s.dev.quads[s.dev.quadOf
      p]? = some ⟨2, r⟩) ∧
    (∃ (s : State) (dt : Nat) (p : Nat) (ppm : Int) (eq : List (Nat × Nat)), Quiet s ∧ p < s.portCount ∧ p <
      s.dev.ports.length ∧ (s.dev.portSt p = 2 ∨ s.dev.portSt p = 4 ∨ s.dev.portSt p = 6) ∧ (s.dev.port p).step = 0) ∧
    (∃ (s : State) (dt : Nat) (l p skew : Nat) (line : List Bool) (u : (Bool × Nat × Bool) × List Bool × Nat) (wd :
      Nat), Quiet s ∧ l < s.laneCount ∧ l < s.dev.lanes.length ∧ s.dev.laneOwner (s.ctx dt) l = some p ∧ s.dev.portSt
      p = 3 ∧ s.dev.flag (laneK l 0x05) = false ∧ u = unstuff (s.dev.lane l).runBit (s.dev.lane l).run (s.dev.lane
      l).drop line ∧ (s.dev.flag (laneK l 0x0B) = false ∨ u.2.1.length = 32832) ∧ wd = unbits (u.2.1.drop
      (u.2.1.length - 64)) ∧ markerGood wd = true ∧ bit wd 36 = false ∧ bit wd 37 = true ∧ (∀ m ∈ s.dev.portLanes p, m
      ≠ l → (s.dev.lane m).seq = none)) ∧
    (∃ (s : State) (dt : Nat) (p : Nat) (eq : List (Nat × Nat × List Byte)), Quiet s ∧ p < s.portCount ∧ p <
      s.dev.ports.length ∧ (s.dev.portSt p = 2 ∨ s.dev.portSt p = 4 ∨ s.dev.portSt p = 6) ∧ (s.dev.port p).step = 2) ∧
    (∃ (s : State) (dt : Nat) (p : Nat), Quiet s ∧ p < s.portCount ∧ p < s.dev.ports.length ∧ s.dev.portSt p = 2 ∧
      (s.dev.port p).attempt = 1 ∧ (s.dev.port p).begT + 20000000 ≤ (s.ctx dt).t) ∧
    (∃ (s : State) (dt : Nat) (p : Nat), Quiet s ∧ p < s.portCount ∧ s.dev.portSt p = 2 ∧ (s.dev.port p).attempt ≠ 1
      ∧ (s.dev.port p).begT + 20000000 ≤ (s.ctx dt).t) :=
  ⟨⟨tst [(0x1010_07, 1)] id, 0, ⟨.fd0, 3, 5, 7⟩, 4, by decide +kernel⟩,
   ⟨tst [(0x1010_07, 1), (0x3004_01, 1), (0x3004_07, 3)] id, 0, ⟨.fd0, 3, 5, 7⟩, 4, by decide +kernel⟩,
   ⟨tst [] fun d => { d with quads := List.replicate 12 ⟨1, 3⟩ }, 0, 2, 3, 1000, 0, by decide +kernel⟩,
   ⟨tst [(0x3004_07, 5)] id, 0, 4, by decide +kernel⟩,
   ⟨tst [(0x3004_07, 1)] fun d => { d with quads := List.replicate 12 ⟨2, 3⟩ }, 0, 4, 3, by decide +kernel⟩,
   ⟨tst [(0x3004_07, 2)] id, 0, 4, -30, [(3, 5)], by decide +kernel⟩,
   ⟨tst [(0x3004_07, 3), (0x3004_03, 4)] id, 0, 4, 4, 0, markerBits, unstuff false 0 false markerBits, markerWord 0 0
    false true true 77, by decide +kernel⟩,
   ⟨tst [(0x3004_07, 2)] fun d => { d with ports := List.replicate 32 { step := 2 } }, 0, 4, [(3, 5, [7#8])],
    by decide +kernel⟩,
   ⟨tst [(0x3004_07, 2)] fun d => { d with ports := List.replicate 32 { attempt := 1 } }, 20000000, 4,
    by decide +kernel⟩,
   ⟨tst [(0x3004_07, 2)] fun d => { d with ports := List.replicate 32 { attempt := 2 } }, 20000000, 4,
    by decide +kernel⟩⟩

theorem wit_Lane_commands_complete_2 :
    (∃ (s : State) (dt : Nat) (l p : Nat), Quiet s ∧ l < s.laneCount ∧ s.dev.laneOwner (s.ctx dt) l = some p ∧
      s.dev.portSt p = 3 ∧ (s.dev.port p).doneT = none) ∧
    (∃ (s : State) (dt : Nat) (p : Nat), Quiet s ∧ p < s.portCount ∧ (s.dev.portSt p = 4 ∨ s.dev.portSt p = 6) ∧
      (s.dev.port p).begT + 800000 ≤ (s.ctx dt).t) ∧
    (∃ (s : State) (dt : Nat) (q r bias again : Nat), Quiet s ∧ q < s.count 12 6 ∧ s.dev.quads[q]? = some ⟨2, r⟩) ∧
    (∃ (s : State) (dt : Nat) (q r bias again : Nat), Quiet s ∧ q < s.count 12 6 ∧ s.dev.quads[q]? = some ⟨2, r⟩ ∧
      biasOk bias bias = true) ∧
    (∃ (s : State) (dt : Nat) (p u : Nat), Quiet s ∧ p < s.portCount ∧ s.dev.portSt p = 7 ∧ s.dev.signalNone p =
      true ∧ 0 < s.dev.width p ∧ (s.dev.port p).quietT = some u ∧ u + 40000000 ≤ (s.ctx dt).t) ∧
    (∃ (s : State) (dt : Nat) (o : Org) (p : Nat), Quiet s ∧ p < 32 ∧ Accepts s dt o (portK p 0x08) 1) ∧
    (∃ (s : State) (dt : Nat) (o : Org) (p : Nat), Quiet s ∧ p < 32 ∧ Accepts s dt o (portK p 0x08) 2) ∧
    (∃ (s : State) (dt : Nat) (l p ctle vga : Nat) (dfe : List Byte), Quiet s ∧ l < s.laneCount ∧ s.dev.laneOwner
      (s.ctx dt) l = some p ∧ s.dev.portSt p = 3 ∧ s.dev.flag (laneK l 0x06) = false ∧ s.dev.nat (portK p 0x06) ≠ 2) ∧
    (∃ (s : State) (dt : Nat) (o : Org) (l v : Nat), Quiet s ∧ l < 48 ∧ Accepts s dt o (key 0x3100 l 0x06) v) ∧
    (∃ (s : State) (dt : Nat) (o : Org), Quiet s ∧ Accepts s dt o 0x3200_07 1) :=
  ⟨⟨tst [(0x3004_07, 3), (0x3004_03, 4), (0x3104_0A, 1)] id, 0, 4, 4, by decide +kernel⟩,
   ⟨tst [(0x3004_07, 4)] id, 800000, 4, by decide +kernel⟩,
   ⟨tst [] fun d => { d with quads := List.replicate 12 ⟨2, 3⟩ }, 0, 2, 3, 1000, 0, by decide +kernel⟩,
   ⟨tst [] fun d => { d with quads := List.replicate 12 ⟨2, 3⟩ }, 0, 2, 3, 1000, 0, by decide +kernel⟩,
   ⟨tst [(0x3004_07, 7)] fun d => { d with ports := List.replicate 32 { quietT := some 7 } }, 40000000, 4, 7,
    by decide +kernel⟩,
   ⟨tst [(0x1010_07, 1), (0x3004_07, 3)] id, 0, ⟨.fd0, 3, 5, 7⟩, 4, by decide +kernel⟩,
   ⟨tst [(0x1010_07, 1), (0x3004_07, 5)] id, 0, ⟨.fd0, 3, 5, 7⟩, 4, by decide +kernel⟩,
   ⟨tst [(0x3004_07, 3), (0x3004_03, 4)] id, 0, 4, 4, 7, 9, [3#8], by decide +kernel⟩,
   ⟨tst [(0x1010_07, 1)] id, 0, ⟨.fd0, 3, 5, 7⟩, 4, 1, by decide +kernel⟩,
   ⟨tst [(0x1010_07, 1), (0x3004_07, 3), (0x3004_03, 4), (0x3200_01, 4)] id, 0, ⟨.fd0, 3, 5, 7⟩, by decide +kernel⟩⟩

theorem wit_Lane_commands_complete_3 :
    (∃ (s : State) (dt : Nat) (o : Org), Quiet s ∧ s.dev.scan ≠ none ∧ Accepts s dt o 0x3200_07 2) ∧
    (∃ (s : State) (dt : Nat) (n e : Nat) (x : Scan), Quiet s ∧ s.dev.scan = some x ∧ (n = x.dwell ∧ e ≤ x.limit) ∨
      (e = x.limit ∧ n ≤ x.dwell)) ∧
    (∃ (s : State) (dt : Nat) (o : Org), Quiet s ∧ Accepts s dt o 0x3300_04 1) ∧
    (∃ (s : State) (dt : Nat) (o : Org) (x : Obs) (r : Test), Quiet s ∧ s.dev.test = some r ∧ Accepts s dt o
      0x3300_04 2) :=
  ⟨⟨tst [(0x1010_07, 1)] fun d => { d with scan := some ⟨4, 64, 1000, 9⟩ }, 0, ⟨.fd0, 3, 5, 7⟩, by decide +kernel⟩,
   ⟨tst [] fun d => { d with scan := some ⟨4, 64, 1000, 9⟩ }, 0, 1000, 3, ⟨4, 64, 1000, 9⟩, by decide +kernel⟩,
   ⟨tst [(0x1010_07, 1)] id, 0, ⟨.fd0, 3, 5, 7⟩, by decide +kernel⟩,
   ⟨tst [(0x1010_07, 1)] fun d => { d with test := some ⟨4, 0, 1, 8, 2, 3, 100, 5⟩ }, 0, ⟨.fd0, 3, 5, 7⟩,
    { Obs.quiet with rx := [List.replicate 70 true] }, ⟨4, 0, 1, 8, 2, 3, 100, 5⟩, by decide +kernel⟩⟩

theorem wit_Link_commands_complete_1 :
    (∃ (s : State) (dt : Nat) (p : Nat) (b : List Nat), Quiet s ∧ p < s.portCount ∧ s.dev.takes p = true ∧ p <
      s.dev.ports.length ∧ s.dev.rxBlock p = some b ∧ pointerGood (nthN b 0) = true) ∧
    (∃ (s : State) (dt : Nat) (p : Nat) (b : List Nat), Quiet s ∧ p < s.portCount ∧ s.dev.takes p = true ∧
      s.dev.rxBlock p = some b ∧ pointerGood (nthN b 0) = false) ∧
    (∃ (s : State) (dt : Nat) (p hdr : Nat), Quiet s ∧ p < s.portCount ∧ p < s.dev.ports.length ∧ s.dev.takes p =
      true ∧ (s.dev.port p).framed = true ∧ hdrGood (hdr % 2 ^ 64) = false) ∧
    (∃ (s : State) (dt : Nat) (p ty vc : Nat) (k : Pkt), Quiet s ∧ p < s.portCount ∧ s.dev.takes p = true ∧ 2 ≤ ty ∧
      ty < 16 ∧ (vc = 0 ∨ vc = 3) ∧ accepts (s.dev.role p) ty vc k.fieldA = false ∧ (s.dev.port p).inFrame k.place =
      true ∧ pktSound ty vc k = true) ∧
    (∃ (s : State) (dt : Nat) (p : Nat) (k : Pkt), Quiet s ∧ p < s.portCount ∧ p < s.dev.ports.length ∧ s.dev.takes
      p = true ∧ (s.dev.port p).flowSeen = false ∧ (s.dev.port p).inFrame k.place = true ∧ pktSound 1 0
      { k with fieldA := 1 } = true) ∧
    (∃ (s : State) (dt : Nat) (p : Nat), Quiet s ∧ p < s.portCount ∧ p < s.dev.ports.length ∧ s.dev.portSt p = 3) ∧
    (∃ (s : State) (dt : Nat) (p vc : Nat), Quiet s ∧ p < s.portCount ∧ s.dev.portSt p = 3 ∧ (s.dev.port p).blocked
      (vc % 4) = true ∧ (s.dev.port p).doneT = none ∧ (s.dev.port p).blockedT (vc % 4) + 25600 ≤ (s.ctx dt).t) ∧
    (∃ (s : State) (dt : Nat) (p vc : Nat) (h : TxEnt) (r : List TxEnt), Quiet s ∧ p < s.portCount ∧ p <
      s.dev.ports.length ∧ s.dev.portSt p = 3 ∧ (vc = 1 ∨ vc = 2) ∧ ((s.dev.port p).retry vc).unack = h :: r ∧ h.sent
      = true ∧ h.marked = false ∧ h.t + 20000 ≤ (s.ctx dt).t) ∧
    (∃ (s : State) (dt : Nat) (p : Nat), Quiet s ∧ p < s.portCount ∧ p < s.dev.ports.length ∧ s.dev.portSt p = 3 ∧
      s.dev.servesTime p = true ∧ ((s.dev.port p).syncT.all fun u => decide (u + s.dev.nat (linkK p 0x15) * 400000 ≤
      (s.ctx dt).t)) = true) ∧
    (∃ (s : State) (dt : Nat) (p : Nat) (k : Pkt), Quiet s ∧ p < s.portCount ∧ p < s.dev.ports.length ∧ s.dev.takes
      p = true ∧ s.dev.takesTime p = true ∧ (s.dev.port p).inFrame k.place = true ∧ pktSound 1 0
      { k with fieldA := 2 } = true) :=
  ⟨⟨tst [(0x3004_07, 3), (0x3004_04, 1), (0x3110_0C, 0)] fun d =>
    { d with lanes := List.replicate 48 { pm := true, block := some (9, true, [pointerWord 77]) } }, 0, 4,
    [pointerWord 77], by decide +kernel⟩,
   ⟨tst [(0x3004_07, 3), (0x3004_04, 1), (0x3110_0C, 0)] fun d =>
    { d with lanes := List.replicate 48 { pm := true, block := some (9, true, [78]) } }, 0, 4, [78],
    by decide +kernel⟩,
   ⟨tst [(0x3004_07, 3)] fun d =>
    { d with ports := List.replicate 32 { framed := true }, lanes := List.replicate 48 { pm := true } }, 0, 4, 5,
    by decide +kernel⟩,
   ⟨tst [(0x3004_07, 3)] fun d =>
    { d with ports := List.replicate 32 { framed := true }, lanes := List.replicate 48 { pm := true } }, 5, 4, 9, 0,
    sealed 9 0 0 0 0 [], by decide +kernel⟩,
   ⟨tst [(0x3004_07, 3)] fun d =>
    { d with ports := List.replicate 32 { framed := true }, lanes := List.replicate 48 { pm := true } }, 5, 4, sealed
    1 0 0 1 0 (zeros 16), by decide +kernel⟩,
   ⟨tst [(0x3003_07, 3)] fun d =>
    { d with ports := List.replicate 32 { framed := true }, lanes := List.replicate 48 { pm := true } }, 0, 3,
    by decide +kernel⟩,
   ⟨tst [(0x3003_07, 3)] fun d =>
    { d with ports := List.replicate 32 { flowSeen := true, mgmt := [⟨6, 1, 0, [], 0⟩] } }, 25600, 3, 1,
    by decide +kernel⟩,
   ⟨tst [(0x3003_07, 3)] fun d =>
    { d with ports := List.replicate 32 { vc1 := { unack := [⟨0, true, false, false, ⟨6, 1, 0, [], 0⟩, 0⟩] } } },
    20000, 3, 1, ⟨0, true, false, false, ⟨6, 1, 0, [], 0⟩, 0⟩, [], by decide +kernel⟩,
   ⟨tst [(0x3003_07, 3), (0x3003_02, 2), (0x3403_14, 1)] fun d =>
    { d with ports := List.replicate 32 { framed := true }, lanes := List.replicate 48 { pm := true } }, 0, 3,
    by decide +kernel⟩,
   ⟨tst [(0x3003_07, 3), (0x3003_02, 2), (0x1050_06, 2), (0x1050_08, 3)] fun d =>
    { d with ports := List.replicate 32 { framed := true, gotSync := some (0, 7), sentDreq := some (0, 9) }, lanes := List.replicate 48 { pm := true } },
    0, 3, sealed 1 0 0 2 0 (zeros 16), by decide +kernel⟩⟩

theorem wit_Link_commands_complete_2 :
    (∃ (s : State) (dt : Nat) (p t2 : Nat) (k : Pkt), Quiet s ∧ p < s.portCount ∧ p < s.dev.ports.length ∧
      s.dev.takes p = true ∧ s.dev.takesTime p = true ∧ (s.dev.port p).gotSync = some (fld k.payload 10 1, t2) ∧
      (s.dev.port p).inFrame k.place = true ∧ pktSound 1 0 { k with fieldA := 3 } = true) ∧
    (∃ (s : State) (dt : Nat) (p : Nat) (k : Pkt), Quiet s ∧ p < s.portCount ∧ p < s.dev.ports.length ∧ s.dev.takes
      p = true ∧ s.dev.servesTime p = true ∧ (s.dev.port p).inFrame k.place = true ∧ pktSound 1 0
      { k with fieldA := 4 } = true) ∧
    (∃ (s : State) (dt : Nat) (p t3 : Nat) (k : Pkt), Quiet s ∧ p < s.portCount ∧ p < s.dev.ports.length ∧
      s.dev.takes p = true ∧ s.dev.takesTime p = true ∧ (s.dev.port p).sentDreq = some (fld k.payload 10 1, t3) ∧
      (s.dev.port p).inFrame k.place = true ∧ pktSound 1 0 { k with fieldA := 5 } = true) ∧
    (∃ (s : State) (dt : Nat) (p : Nat) (k : Pkt), Quiet s ∧ p < s.portCount ∧ p < s.dev.ports.length ∧ s.dev.takes
      p = true ∧ s.dev.role p = 2 ∧ (s.dev.port p).inFrame k.place = true ∧ pktSound 8 3 k = true) ∧
    (∃ (s : State) (dt : Nat) (o : Org) (p : Nat), Quiet s ∧ p < 32 ∧ Accepts s dt o (linkK p 0x17) 1) :=
  ⟨⟨tst [(0x3003_07, 3), (0x3003_02, 2), (0x1050_06, 2), (0x1050_08, 3)] fun d =>
    { d with ports := List.replicate 32 { framed := true, gotSync := some (0, 7), sentDreq := some (0, 9) }, lanes := List.replicate 48 { pm := true } },
    0, 3, 7, sealed 1 0 0 3 0 (zeros 16), by decide +kernel⟩,
   ⟨tst [(0x3003_07, 3), (0x3003_02, 2), (0x3403_14, 1)] fun d =>
    { d with ports := List.replicate 32 { framed := true }, lanes := List.replicate 48 { pm := true } }, 0, 3, sealed
    1 0 0 4 0 (zeros 16), by decide +kernel⟩,
   ⟨tst [(0x3003_07, 3), (0x3003_02, 2), (0x1050_06, 2), (0x1050_08, 3)] fun d =>
    { d with ports := List.replicate 32 { framed := true, gotSync := some (0, 7), sentDreq := some (0, 9) }, lanes := List.replicate 48 { pm := true } },
    0, 3, 9, sealed 1 0 0 5 0 (zeros 16), by decide +kernel⟩,
   ⟨tst [(0x3003_07, 3), (0x3003_02, 2), (0x3403_14, 1)] fun d =>
    { d with ports := List.replicate 32 { framed := true }, lanes := List.replicate 48 { pm := true } }, 0, 3, sealed
    8 3 0 1 0 (zeros 16), by decide +kernel⟩,
   ⟨tst [(0x1010_07, 1), (0x3404_01, 5)] id, 0, ⟨.fd0, 3, 5, 7⟩, 4, by decide +kernel⟩⟩

theorem wit_Protocol_frames_complete_1 :
    (∃ (s : State) (dt : Nat) (f : Req) (x : Obs) (ty : Nat) (b : List Byte), Quiet s ∧ f.dest ≠ 255 ∧ (s.taken dt
      0x01 f).2 = true ∧ (s.taken dt 0x01 f).1.stored (s.ctx dt) ((s.taken dt 0x01 f).1.orgOf f) (canId f.prio 0x01
      f.dest f.src f.tag) f.data = none ∧ headerCodes f.data = [] ∧ (parseHdr f.data).key ≠ 0x9400_01 ∧ (s.taken dt
      0x01 f).1.readObj (s.ctx dt) (parseHdr f.data).key (parseHdr f.data).ty (bit (parseHdr f.data).flags 0) = .inr
      (ty, b) ∧ b.length ≤ 56 ∧ x.busy = false) ∧
    (∃ (s : State) (dt : Nat) (f : Req) (x : Obs) (base n : Nat) (r : Obj) (v : Val), Quiet s ∧ f.dest ≠ 255 ∧
      (s.taken dt 0x03 f).2 = true ∧ (s.taken dt 0x03 f).1.stored (s.ctx dt) ((s.taken dt 0x03 f).1.orgOf f) (canId
      f.prio 0x03 f.dest f.src f.tag) f.data = none ∧ headerCodes f.data = [] ∧ (parseHdr f.data).len ≤ 56 ∧ 8 +
      (parseHdr f.data).len ≤ f.data.length ∧ (s.taken dt 0x03 f).1.writeCodes (s.ctx dt) (parseHdr f.data).key
      (parseHdr f.data).ty ((f.data.drop 8).take (parseHdr f.data).len) false = [] ∧ lookup (s.ctx dt).s12 (parseHdr
      f.data).key = .row base n r ∧ r.acc = .rws ∧ decodeVal r.ty ((f.data.drop 8).take (parseHdr f.data).len) = some
      v ∧ x.busy = false) ∧
    (∃ (s : State) (dt : Nat) (f : Req) (ty : Nat) (b : List Byte), Quiet s ∧ f.dest ≠ 255 ∧ (s.taken dt 0x06 f).2 =
      true ∧ (s.taken dt 0x06 f).1.stored (s.ctx dt) ((s.taken dt 0x06 f).1.orgOf f) (canId f.prio 0x06 f.dest f.src
      f.tag) f.data = none ∧ headerCodes f.data = [] ∧ (parseHdr f.data).key ≠ 0x9400_01 ∧ (s.taken dt 0x06
      f).1.itp.segs.length < 4 ∧ (s.taken dt 0x06 f).1.readObj (s.ctx dt) (parseHdr f.data).key (parseHdr f.data).ty
      false = .inr (ty, b)) ∧
    (∃ (s : State) (dt : Nat) (f : Req), Quiet s ∧ f.dest ≠ 255 ∧ (s.taken dt 0x07 f).2 = true ∧ (s.taken dt 0x07
      f).1.stored (s.ctx dt) ((s.taken dt 0x07 f).1.orgOf f) (canId f.prio 0x07 f.dest f.src f.tag) f.data = none ∧
      headerCodes f.data = [] ∧ 12 ≤ f.data.length ∧ (parseHdr f.data).len = 0 ∧ fld f.data 8 4 ≤ 65536 ∧ (s.taken dt
      0x07 f).1.initCodes (s.ctx dt) (parseHdr f.data).key (parseHdr f.data).ty = [] ∧ (s.taken dt 0x07
      f).1.itp.segs.length < 4) ∧
    (∃ (s : State) (dt : Nat) (f : Req) (x : Obs) (y : Seg), Quiet s ∧ f.dest ≠ 255 ∧ (s.taken dt 0x09 f).2 = true ∧
      (s.taken dt 0x09 f).1.itp.segs.find? (fun y => y.is ((s.taken dt 0x09 f).1.orgOf f)) = some y ∧ y.write = true ∧
      y.err = false ∧ fld f.data 0 1 = y.next % 256 ∧ bit (fld f.data 1 1) 0 = false ∧ y.count + 1 < 16) ∧
    (∃ (s : State) (dt : Nat) (f : Req) (y : Seg), Quiet s ∧ f.dest ≠ 255 ∧ (s.taken dt 0x0A f).2 = true ∧ (s.taken
      dt 0x0A f).1.itp.segs.find? (fun y => y.is ((s.taken dt 0x0A f).1.orgOf f)) = some y ∧ y.write = false ∧ fld
      f.data 1 1 = 2) ∧
    (∃ (s : State) (dt : Nat) (n : Nat) (y : Seg), Quiet s ∧ s.dev.itp.segs[n]? = some y ∧ s.dev.listening = true ∧
      y.t + 40000000 ≤ (s.ctx dt).t) ∧
    (∃ (s : State) (dt : Nat) (f : Req) (y : Seg), Quiet s ∧ f.dest ≠ 255 ∧ (s.taken dt 0x05 f).2 = true ∧ (s.taken
      dt 0x05 f).1.itp.segs.find? (fun y => y.is ((s.taken dt 0x05 f).1.orgOf f)) = some y) ∧
    (∃ (s : State) (dt : Nat) (f : Req) (cls : Nat), Quiet s ∧ f.dest ≠ 255 ∧ (s.taken dt cls f).2 = true ∧ (s.taken
      dt cls f).1.stored (s.ctx dt) ((s.taken dt cls f).1.orgOf f) (canId f.prio cls f.dest f.src f.tag) f.data = none
      ∧ notRequest cls = false ∧ cls ∉ [1, 3, 5, 6, 7, 9, 10]) ∧
    (∃ (s : State) (dt : Nat) (f : Req), Quiet s ∧ f.dest = 255 ∧ f.fdExt = true ∧ s.dev.chanOn f.ch = true ∧
      s.dev.listening = true ∧ ((s.entry.leaveDoze (s.ctx dt)).dedupe (s.ctx dt) f (canId f.prio 0x14 f.dest f.src
      f.tag)).2 = true ∧ ((s.entry.leaveDoze (s.ctx dt)).dedupe (s.ctx dt) f (canId f.prio 0x14 f.dest f.src
      f.tag)).1.stored (s.ctx dt) (((s.entry.leaveDoze (s.ctx dt)).dedupe (s.ctx dt) f (canId f.prio 0x14 f.dest f.src
      f.tag)).1.orgOf f) (canId f.prio 0x14 f.dest f.src f.tag) f.data = none) :=
  ⟨⟨tst [(0x1010_07, 1)] id, 0, ⟨0, true, 2, 16, 5, 7, Hdr.bytes ⟨0, 0, 0x1000, 1, 0⟩⟩, Obs.quiet, 4, le 4
    0x0046_5246, by decide +kernel⟩,
   ⟨tst [(0x1010_07, 1)] id, 0, ⟨0, true, 2, 16, 5, 7, Hdr.bytes ⟨0, 2, 0x5100, 0x0E, 1⟩ ++ [3#8]⟩, Obs.quiet,
    0x5100, 0, ⟨0x0E, .u8, .rws, true, .num 0, [(0, 15)]⟩, .num 3, by decide +kernel⟩,
   ⟨tst [(0x1010_07, 1)] id, 0, ⟨0, true, 2, 16, 5, 7, Hdr.bytes ⟨0, 0, 0x1000, 1, 0⟩⟩, 4, le 4 0x0046_5246,
    by decide +kernel⟩,
   ⟨tst [(0x1010_07, 1)] id, 0, ⟨0, true, 2, 16, 5, 7, Hdr.bytes ⟨0, 12, 0x5100, 0x12, 0⟩ ++ le 4 48⟩,
    by decide +kernel⟩,
   ⟨tst [(0x1010_07, 1)] fun d =>
    { d with itp := { d.itp with segs := [{ org := ⟨.fd0, 2, 5, 7⟩, write := true, key := 0x5100_12, ty := 12, flags := 0, ity := 12, t := 0, total := 100, data := [] }] } },
    0, ⟨0, true, 2, 16, 5, 7, [0#8, 0#8] ++ zeros 62⟩, Obs.quiet,
    { org := ⟨.fd0, 2, 5, 7⟩, write := true, key := 0x5100_12, ty := 12, flags := 0, ity := 12, t := 0, total := 100, data := [] },
    by decide +kernel⟩,
   ⟨tst [(0x1010_07, 1)] fun d =>
    { d with itp := { d.itp with segs := [{ org := ⟨.fd0, 2, 5, 7⟩, write := false, key := 0x5100_12, ty := 12, flags := 0, ity := 12, t := 0, total := 100, data := [] }] } },
    0, ⟨0, true, 2, 16, 5, 7, [2#8, 2#8]⟩,
    { org := ⟨.fd0, 2, 5, 7⟩, write := false, key := 0x5100_12, ty := 12, flags := 0, ity := 12, t := 0, total := 100, data := [] },
    by decide +kernel⟩,
   ⟨tst [(0x1010_07, 1)] fun d =>
    { d with itp := { d.itp with segs := [{ org := ⟨.fd0, 2, 5, 7⟩, write := true, key := 0x5100_12, ty := 12, flags := 0, ity := 12, t := 0, total := 100, data := [] }] } },
    40000000, 0,
    { org := ⟨.fd0, 2, 5, 7⟩, write := true, key := 0x5100_12, ty := 12, flags := 0, ity := 12, t := 0, total := 100, data := [] },
    by decide +kernel⟩,
   ⟨tst [(0x1010_07, 1)] fun d =>
    { d with itp := { d.itp with segs := [{ org := ⟨.fd0, 2, 5, 7⟩, write := true, key := 0x5100_12, ty := 12, flags := 0, ity := 12, t := 0, total := 100, data := [] }] } },
    0, ⟨0, true, 2, 16, 5, 7, Hdr.bytes ⟨0, 12, 0x5100, 0x12, 2⟩ ++ [9#8, 0#8]⟩,
    { org := ⟨.fd0, 2, 5, 7⟩, write := true, key := 0x5100_12, ty := 12, flags := 0, ity := 12, t := 0, total := 100, data := [] },
    by decide +kernel⟩,
   ⟨tst [(0x1010_07, 1)] id, 0, ⟨0, true, 2, 16, 5, 7, zeros 8⟩, 0x0B, by decide +kernel⟩,
   ⟨tst [(0x1010_07, 1)] id, 0, ⟨0, true, 2, 255, 5, 7, []⟩, by decide +kernel⟩⟩

theorem wit_Protocol_frames_complete_2 :
    (∃ (s : State) (dt : Nat), Quiet s ∧ s.dev.listening = true ∧ s.dev.nat 0x1010_05 ≠ 0 ∧ s.dev.itp.hbT +
      s.dev.nat 0x1010_05 * 400000 ≤ (s.ctx dt).t) ∧
    (∃ (s : State) (dt : Nat) (ch : Nat), Quiet s ∧ ch < 2 ∧ s.dev.chanOn ch = true ∧ s.dev.ticking = true ∧ (if ch
      = 0 then s.dev.itp.can0 else s.dev.itp.can1).lastOff = none) ∧
    (∃ (s : State) (dt : Nat) (ch u : Nat), Quiet s ∧ ch < 2 ∧ s.dev.chanOn ch = true ∧ s.dev.ticking = true ∧ (if
      ch = 0 then s.dev.itp.can0 else s.dev.itp.can1).lastOff = some u ∧ (s.ctx dt).t ≤ u + 400000000) ∧
    (∃ (s : State) (dt : Nat) (x : Obs) (b : List Byte) (r : List (List Byte)), Quiet s ∧ s.dev.host.frames = b :: r
      ∧ s.dev.listening = true ∧ s.dev.hostOn = true ∧ frameOk b = false) ∧
    (∃ (s : State) (dt : Nat) (x : Obs) (b : List Byte) (r : List (List Byte)) (id ty : Nat) (data v : List Byte),
      Quiet s ∧ s.dev.host.frames = b :: r ∧ s.dev.listening = true ∧ s.dev.hostOn = true ∧ x.busy = false ∧ frameOk b
      = true ∧ 12 + fld b 4 2 ≤ b.length ∧ fld b (8 + fld b 4 2) 4 = crc32c (b.take (8 + fld b 4 2)) ∧ id = fld b 0 4
      ∧ data = (b.drop 8).take (fld b 4 2) ∧ bits id 13 8 = s.dev.itp.node ∧ bits id 21 5 = 0x01 ∧ (s.hosted dt
      r).stored (s.ctx dt) ⟨.host, bits id 26 3, bits id 5 8, bits id 0 5⟩ id data = none ∧ headerCodes data = [] ∧
      (parseHdr data).key ≠ 0x9400_01 ∧ (s.hosted dt r).readObj (s.ctx dt) (parseHdr data).key (parseHdr data).ty (bit
      (parseHdr data).flags 0) = .inr (ty, v) ∧ v.length ≤ 56) ∧
    (∃ (s : State) (dt : Nat) (x : Obs) (b : List Byte) (r : List (List Byte)), Quiet s ∧ s.dev.host.frames = b :: r
      ∧ s.dev.listening = true ∧ s.dev.hostOn = true ∧ frameOk b = true ∧ 12 + fld b 4 2 ≤ b.length ∧ fld b (8 + fld b
      4 2) 4 = crc32c (b.take (8 + fld b 4 2)) ∧ bits (fld b 0 4) 13 8 ≠ s.dev.itp.node ∧ bits (fld b 0 4) 13 8 ≠ 255) ∧
    (∃ (s : State) (dt : Nat) (p : Nat) (k : Pkt) (x : Obs), Quiet s ∧ p < s.portCount ∧ (s.entry.rxPacket p 6 1
      { k with fieldA := 1 }).2 = true ∧ s.dev.listening = true ∧ bit (s.dev.nat 0x1010_07) 3 = true ∧ frameOk
      k.payload = false) ∧
    (∃ (s : State) (dt : Nat) (p : Nat) (k : Pkt) (x : Obs), Quiet s ∧ p < s.portCount ∧ (s.entry.rxPacket p 6 1
      { k with fieldA := 1 }).2 = true ∧ s.dev.listening = true ∧ bit (s.dev.nat 0x1010_07) 3 = true ∧ frameOk
      k.payload = true ∧ bits (fld k.payload 0 4) 13 8 = 255 ∧ bits (fld k.payload 0 4) 21 5 = 0x14 ∧ s.dev.itp.resp =
      [] ∧ s.dev.itp.node ≠ 255) ∧
    (∃ (s : State) (dt : Nat) (a0 pc : Nat) (x : Obs), Quiet s ∧ s.dev.appActs = true ∧ (s.called pc).userBytes (a0
      % 2 ^ 32) 16 = false ∧ s.dev.listening = true ∧ x.busy = false) ∧
    (∃ (s : State) (dt : Nat) (a0 pc ty : Nat) (x : Obs) (b v : List Byte), Quiet s ∧ s.dev.appActs = true ∧
      (s.called pc).userBytes (a0 % 2 ^ 32) 16 = true ∧ b = memRead (s.called pc).core.mem (memAddr (a0 % 2 ^ 32)) 16
      ∧ fld b 0 1 = 1 ∧ fld b 1 1 < 2 ∧ fld b 6 2 = 0 ∧ fld b 8 4 ≤ 65536 ∧ fld b 4 2 * 256 + fld b 3 1 ≠ 0x9400_01 ∧
      (s.called pc).readObj (s.ctx dt) (fld b 4 2 * 256 + fld b 3 1) (fld b 2 1) (bit (fld b 1 1) 0) = .inr (ty, v) ∧
      v.length ≤ fld b 8 4 ∧ (s.called pc).userBytes (fld b 12 4) v.length = true ∧ s.dev.listening = true ∧ x.busy =
      false) :=
  ⟨⟨tst [(0x1010_05, 500)] id, 200000000, by decide +kernel⟩,
   ⟨tst [(0x1010_07, 1)] id, 0, 0, by decide +kernel⟩,
   ⟨tst [(0x1010_07, 1)] fun d => { d with itp := { d.itp with can0 := { lastOff := some 5 } } }, 0, 0, 5,
    by decide +kernel⟩,
   ⟨tst [(0x1010_07, 4), (0x7010_00, 0)] fun d => { d with host := { d.host with frames := [zeros 3] } }, 0,
    Obs.quiet, zeros 3, [], by decide +kernel⟩,
   ⟨tst [(0x1010_07, 4)] fun d => { d with host := { d.host with frames := [hostRead] } }, 0, Obs.quiet, hostRead,
    [], canId 2 1 16 5 7, 4, Hdr.bytes ⟨0, 0, 0x1000, 1, 0⟩, le 4 0x0046_5246, by decide +kernel⟩,
   ⟨tst [(0x1010_07, 4)] fun d =>
    { d with host := { d.host with frames := [le 4 0x2000 ++ le 4 0 ++ le 4 (crc32c (le 4 0x2000 ++ le 4 0))] } }, 0,
    Obs.quiet, le 4 0x2000 ++ le 4 0 ++ le 4 (crc32c (le 4 0x2000 ++ le 4 0)), [], by decide +kernel⟩,
   ⟨tst [(0x1010_07, 9), (0x3003_07, 3), (0x3003_02, 2)] fun d =>
    { d with ports := List.replicate 32 { framed := true }, lanes := List.replicate 48 { pm := true } }, 0, 3, sealed
    6 1 0 1 0 (zeros 3), Obs.quiet, by decide +kernel⟩,
   ⟨tst [(0x1010_07, 9), (0x3003_07, 3), (0x3003_02, 2)] fun d =>
    { d with ports := List.replicate 32 { framed := true }, lanes := List.replicate 48 { pm := true } }, 0, 3, sealed
    6 1 0 1 0 (le 4 (canId 2 0x14 255 5 7) ++ zeros 4), Obs.quiet, by decide +kernel⟩,
   ⟨tst [(0xA000_05, 2)] fun d => { d with core := { d.core with priv := 0 } }, 0, 0x7000_0000, 0x1000_0000,
    Obs.quiet, by decide +kernel⟩,
   ⟨tst [(0xA000_05, 2)] fun d =>
    { d with core := { d.core with priv := 0, mem := memWrite [] (memAddr 0x1000_0000) ([1#8, 0#8, 0#8, 1#8] ++ le 4 0x1000 ++ le 4 8 ++ le 4 0x1000_0100) } },
    0, 0x1000_0000, 0x1000_0000, 4, Obs.quiet, [1#8, 0#8, 0#8, 1#8] ++ le 4 0x1000 ++ le 4 8 ++ le 4 0x1000_0100, le 4
    0x0046_5246, by decide +kernel⟩⟩

theorem wit_Configuration_commands_complete_1 :
    (∃ (s : State) (dt : Nat) (o : Org), Quiet s ∧ Accepts s dt o 0x1030_01 1) ∧
    (∃ (s : State) (dt : Nat) (o : Org), Quiet s ∧ s.dev.itp.quoin.st = .none ∧ Accepts s dt o 0x1030_01 2) ∧
    (∃ (s : State) (dt : Nat) (o : Org), Quiet s ∧ Accepts s dt o 0x1030_01 3 ∧ (s.found dt o 0x1030_01
      3).quoinFault (s.ctx dt) ((s.found dt o 0x1030_01 3).itp.staged.filter fun e => (s.found dt o 0x1030_01
      3).inScope (s.found dt o 0x1030_01 3).itp.staged ((s.found dt o 0x1030_01 3).nat 0x1030_02) e.key) = none) ∧
    (∃ (s : State) (dt : Nat), Quiet s ∧ s.dev.itp.quoin.st = .validating ∧ s.entry.quoinFault (s.ctx dt)
      s.entry.itp.quoin.snap = none) ∧
    (∃ (s : State) (dt : Nat) (k code : Nat), Quiet s ∧ s.dev.itp.quoin.st = .validating ∧ s.dev.itp.quoin.restore =
      false ∧ s.entry.quoinFault (s.ctx dt) s.entry.itp.quoin.snap = some (k, code)) ∧
    (∃ (s : State) (dt : Nat), Quiet s ∧ s.dev.itp.quoin.st = .armed ∧ s.dev.itp.quoin.anchor = none ∧
      s.dev.itp.quoin.globals = false ∧ s.dev.itp.quoin.restore = false ∧ s.dev.itp.quoin.left = [] ∧
      s.dev.itp.restoring = [] ∧ s.dev.itp.quoin.ripe (s.ctx dt).t = true) ∧
    (∃ (s : State) (dt : Nat) (o : Org) (x : Obs), Quiet s ∧ s.dev.itp.quoin.st ≠ .armed ∧ x.busy = false ∧ x.cut =
      0 ∧ x.faults.length < 2 ∧ Accepts s dt o 0x1020_01 1 ∧ (s.found dt o 0x1020_01 1).payloadLen (s.ctx dt) ≤
      229344) ∧
    (∃ (s : State) (dt : Nat) (x : Obs) (d : Dev), Quiet s ∧ s.dev.itp.saveWait = true ∧ s.dev.itp.quoin.st ≠ .armed
      ∧ x.cut = 0 ∧ x.faults.length < 2 ∧ d =
      { s.entry with itp := { s.entry.itp with saveWait := false, saveSnap := none } } ∧ d.payloadLen (s.ctx dt) ≤
      229344) ∧
    (∃ (s : State) (dt : Nat) (o : Org), Quiet s ∧ Accepts s dt o 0x1020_02 1) ∧
    (∃ (s : State) (dt : Nat) (o : Org) (x : Obs), Quiet s ∧ x.busy = false ∧ x.cut = 0 ∧ Accepts s dt o 0x1020_02
      2) :=
  ⟨⟨tst [(0x1010_07, 1)] id, 0, ⟨.fd0, 3, 5, 7⟩, by decide +kernel⟩,
   ⟨tst [(0x1010_07, 1)] id, 0, ⟨.fd0, 3, 5, 7⟩, by decide +kernel⟩,
   ⟨tst [(0x1010_07, 1)] id, 0, ⟨.fd0, 3, 5, 7⟩, by decide +kernel⟩,
   ⟨tst [] fun d => { d with itp := { d.itp with quoin := { st := .validating } } }, 0, by decide +kernel⟩,
   ⟨tst [] fun d =>
    { d with itp := { d.itp with quoin := { st := .validating, snap := [⟨0x2110_03, .num 5, 1⟩] } } }, 0, 0x2110_03,
    5, by decide +kernel⟩,
   ⟨tst [] fun d => { d with itp := { d.itp with quoin := { st := .armed } } }, 400000, by decide +kernel⟩,
   ⟨{ tst [(0x1010_07, 1)] id with fuses := { s2412 := true } }, 0, ⟨.fd0, 3, 5, 7⟩, Obs.quiet, by decide +kernel⟩,
   ⟨{ tst [] (fun d => { d with itp := { d.itp with saveWait := true } }) with fuses := { s2412 := true } }, 0,
    Obs.quiet, (tst [] id).dev, by decide +kernel⟩,
   ⟨{ tst [(0x1010_07, 1)] id with fuses := { s2412 := true } }, 0, ⟨.fd0, 3, 5, 7⟩, by decide +kernel⟩,
   ⟨tst [(0x1010_07, 1)] id, 0, ⟨.fd0, 3, 5, 7⟩, Obs.quiet, by decide +kernel⟩⟩

theorem wit_Configuration_commands_complete_2 :
    (∃ (s : State) (dt : Nat) (o : Org) (v : Nat), Quiet s ∧ s.dev.flag 0x1060_01 = false ∧ Accepts s dt o 0x1060_01
      v) :=
  ⟨tst [(0x1010_07, 1)] id, 0, ⟨.fd0, 3, 5, 7⟩, 0x6F7A, by decide +kernel⟩

theorem wit_Capture_commands_complete :
    (∃ (s : State) (dt : Nat) (p ch : Nat) (k : Pkt), Quiet s ∧ p < s.portCount ∧ (s.entry.rxPacket p 2 0 k).2 =
      true ∧ s.dev.boundChan (s.ctx dt) p = some ch) ∧
    (∃ (s : State) (dt : Nat) (p ch i : Nat) (k : Pkt), Quiet s ∧ p < s.portCount ∧ (s.entry.rxPacket p 3 0 k).2 =
      true ∧ s.dev.boundChan (s.ctx dt) p = some ch ∧ (s.dev.port p).folioRx ≠ none ∧ (s.dev.chan ch).writing = some i
      ∧ i < (s.dev.chan ch).slots.length ∧ bits k.fieldA 13 3 = (((s.dev.chan ch).slots[i]?).getD {}).folio.no % 8 ∧
      bits k.fieldA 0 13 < (((s.dev.chan ch).slots[i]?).getD {}).folio.h ∧ k.fieldB < ceilDiv (lineBytes (((s.dev.chan
      ch).slots[i]?).getD {}).folio.w (((s.dev.chan ch).slots[i]?).getD {}).folio.fmt) 1024) ∧
    (∃ (s : State) (dt : Nat) (ch : Nat), Quiet s ∧ ch < s.count 24 12 ∧ s.dev.chanSt ch = 2 ∧ s.dev.inputOverdue
      (s.ctx dt) ch = true) ∧
    (∃ (s : State) (dt : Nat) (o : Org) (n : Nat), Quiet s ∧ n < 24 ∧ s.dev.chanOnline n = false ∧ Accepts s dt o
      (chanK n 0x01) 1 ∧ s.dev.videoDown = false) ∧
    (∃ (s : State) (dt : Nat) (o : Org) (n : Nat), Quiet s ∧ n < 24 ∧ s.dev.chanOnline n = true ∧ Accepts s dt o
      (chanK n 0x01) 0) ∧
    (∃ (s : State) (dt : Nat) (o : Org) (n : Nat), Quiet s ∧ n < 24 ∧ Accepts s dt o (chanK n 0x24) 1) :=
  ⟨⟨tst [(0x3003_07, 3), (0x3003_02, 0), (0x4002_0C, 1), (0x4002_02, 3), (0x4002_04, 64), (0x4002_05, 4), (0x4002_06,
    24), (0x4002_07, 60)] fun d =>
    { d with ports := List.replicate 32 { framed := true, folioRx := some 9 }, lanes := List.replicate 48 { pm := true } },
    3, 3, 2, (sealed 2 0 0 0 0 (le 4 9 ++ le 4 77 ++ le 4 5 ++ le 8 1000 ++ le 2 1 ++ [0#8, 1#8] ++ le 2 64 ++ le 2 4
    ++ le 2 5 ++ le 2 0 ++ le 4 60 ++ le 4 1 ++ [3#8, 0x10#8] ++ zeros 22)), by decide +kernel⟩,
   ⟨tst [(0x3003_07, 3), (0x3003_02, 0), (0x4002_0C, 1), (0x4002_02, 3), (0x4002_04, 64), (0x4002_05, 4), (0x4002_06,
    24), (0x4002_07, 60)] fun d =>
    { d with ports := List.replicate 32 { framed := true, folioRx := some 9 }, lanes := List.replicate 48 { pm := true }, chans := List.replicate 24 { slots := [{ st := 1, folio := { no := 9, w := 64, h := 4, total := 5, num := 60, den := 1, fmt := 3, colour := 0x10 } }, {}], writing := some 0 } },
    3, 3, 2, 0, (sealed 3 0 0 8194 0 (zeros 192)), by decide +kernel⟩,
   ⟨tst [(0x4002_0C, 2)] (fun d =>
    { d with chans := List.replicate 24 { last := some { w := 64, h := 4, total := 5, num := 60, den := 1, fmt := 3, colour := 0x10 } } }),
    30000000, 2, by decide +kernel⟩,
   ⟨tst [(0x1010_07, 1)] id, 3, ⟨.fd0, 3, 5, 7⟩, 2, by decide +kernel⟩,
   ⟨tst [(0x1010_07, 1), (0x4002_01, 1), (0x4002_0C, 2)] id, 3, ⟨.fd0, 3, 5, 7⟩, 2, by decide +kernel⟩,
   ⟨tst [(0x1010_07, 1), (0x4002_18, 7)] id, 3, ⟨.fd0, 3, 5, 7⟩, 2, by decide +kernel⟩⟩

theorem wit_Forme_commands_complete :
    (∃ (s : State) (dt n f : Nat), Quiet s ∧ n < s.count 24 12 ∧ n < s.dev.formes.length ∧ s.dev.formeRuns n = true
      ∧ s.dev.formeSt n ≠ 3 ∧ s.dev.itp.quoin.st ≠ .armed ∧ s.dev.itp.restoring = [] ∧ s.dev.formeFrameAt (s.ctx dt) n
      = some f) ∧
    (∃ (s : State) (dt n y : Nat) (bad again : List Nat), Quiet s ∧ n < s.count 24 12 ∧ n < s.dev.formes.length ∧
      s.dev.formeRuns n = true ∧ y < s.dev.nat (formeK n 4) ∧ (s.dev.forme n).fetch ≤ y ∧ s.dev.rowDue (s.ctx dt) n y
      = true) ∧
    (∃ (s : State) (dt : Nat) (n y : Nat) (missing : List Nat), Quiet s ∧ n < s.count 24 12 ∧ s.dev.formeRuns n =
      true ∧ (s.dev.forme n).nopic = false ∧ y < s.dev.nat (formeK n 4) ∧ n < s.dev.formes.length ∧ y = (s.dev.forme
      n).line) ∧
    (∃ (s : State) (dt wn t0 : Nat), Quiet s ∧ wn < 64 ∧ wn < s.dev.wins.length ∧ (s.dev.win wn).noSrc = true ∧
      s.dev.nat (winK wn 0x16) = 2 ∧ s.dev.holdSince wn = some t0 ∧ t0 + s.dev.nat (winK wn 0x17) * 400000 ≤ (s.ctx
      dt).t) ∧
    (∃ (s : State) (dt : Nat) (p n : Nat) (k : Pkt) (x : Sig), Quiet s ∧ p < s.portCount ∧ (s.entry.rxPacket p 7 3
      k).2 = true ∧ (formesOf (s.ctx dt)).find? (fun n => s.dev.formeRuns n && s.dev.nat (formeK n 2) = p &&
      s.dev.flag (key 0x5400 n 1)) = some n ∧ ((s.dev.forme n).hist.reverse).find? (fun x => x.no = fld k.payload 0 4)
      = some x ∧ x.src = fld k.payload 4 4 ∧ x.live = fld k.payload 8 4 ∧ x.sig = fld k.payload 12 4) :=
  ⟨⟨tst [(0x5002_11, 1), (0x5002_02, 3), (0x5002_03, 8), (0x5002_04, 4), (0x5002_05, 5), (0x5002_06, 60), (0x5002_07,
    1), (0x5002_08, 3), (0x5002_09, 1)] id, 5, 2, 0, by decide +kernel⟩,
   ⟨tst [(0x5002_11, 1), (0x5002_02, 3), (0x5002_03, 8), (0x5002_04, 4), (0x5002_05, 5), (0x5002_06, 60), (0x5002_07,
    1), (0x5002_08, 3)] id, 5, 2, 1, [], [7], by decide +kernel⟩,
   ⟨tst [(0x5002_11, 1), (0x5002_02, 3), (0x5002_03, 8), (0x5002_04, 4), (0x5002_05, 5), (0x5002_06, 60), (0x5002_07,
    1), (0x5002_08, 3)] (fun d =>
    { d with formes := List.replicate 24 { rows := [⟨1, []⟩], nopic := false, line := 1 } }), 5, 2, 1, [],
    by decide +kernel⟩,
   ⟨tst [(0x5107_16, 2), (0x5107_17, 3), (0x5107_03, 2)] (fun d =>
    { d with chans := List.replicate 24 { badT := some 1000 }, wins := List.replicate 64 { noSrc := true } }), 5, 7,
    1000, by decide +kernel⟩,
   ⟨tst [(0x5002_11, 1), (0x5002_02, 3), (0x5002_03, 8), (0x5002_04, 4), (0x5002_05, 5), (0x5002_06, 60), (0x5002_07,
    1), (0x5002_08, 3), (0x5402_01, 1), (0x3003_07, 3), (0x3003_02, 1)] fun d =>
    { d with ports := List.replicate 32 { framed := true }, lanes := List.replicate 48 { pm := true }, formes := List.replicate 24 { hist := [⟨9, 77, 5, 0x1234, 100⟩] } },
    5, 3, 2, (sealed 7 3 0 0 0 (le 4 9 ++ le 4 77 ++ le 4 5 ++ le 4 0x1234)), ⟨9, 77, 5, 0x1234, 100⟩,
    by decide +kernel⟩⟩

theorem wit_Audio_commands_complete :
    (∃ (s : State) (dt : Nat) (tdm bad again : List Nat) (i : Nat), Quiet s ∧ s.dev.nat 0x6300_06 ≠ 0 ∧ s.dev.pwr.st
      = .run ∧ i < 4 ∧ i < s.dev.audio.tdm.length ∧ s.dev.nat (tdmK i 0x02) = 0 ∧ (s.dev.pace (s.ctx dt)).tickDue
      (s.ctx dt) = true) ∧
    (∃ (s : State) (dt : Nat) (p ch : Nat) (k : Pkt) (ppb : Int), Quiet s ∧ p < s.portCount ∧ (s.entry.rxPacket p 4
      0 k).2 = true ∧ s.dev.boundChan (s.ctx dt) p = some ch ∧ s.dev.flag (capAudK ch 0x01) = true ∧ blockGood
      k.fieldB k.payload = true) ∧
    (∃ (s : State) (dt : Nat) (a : Nat), Quiet s ∧ a < 4 * s.count 24 12 ∧ s.dev.groupSt a = 1) ∧
    (∃ (s : State) (dt : Nat) (i : Nat), Quiet s ∧ i < 4 ∧ s.dev.nat (tdmK i 0x02) = 1 ∧ s.dev.nat (tdmK i 0x0E) =
      2) ∧
    (∃ (s : State) (dt : Nat) (a : Nat), Quiet s ∧ a < 4 * s.count 24 12 ∧ (s.dev.groupSt a = 1 ∨ s.dev.groupSt a =
      2 ∨ s.dev.groupSt a = 4) ∧ s.dev.groupOverdue (s.ctx dt) a = true) ∧
    (∃ (s : State) (dt : Nat) (n : Nat), Quiet s ∧ n < s.count 24 12 ∧ n < s.dev.audio.units.length ∧ audioN
      s.dev.audioRate ≤ (s.dev.aunit n).ts.length) ∧
    (∃ (s : State) (dt : Nat) (i n : Nat) (same : Bool) (words : List Nat), Quiet s ∧ i < 4 ∧ i <
      s.dev.audio.tdm.length ∧ s.dev.nat (tdmK i 0x02) ≠ 0 ∧ s.dev.nat (tdmK i 0x0E) ≠ 0) ∧
    (∃ (s : State) (dt i l : Nat), Quiet s ∧ i < 4 ∧ i < s.dev.audio.tdm.length ∧ s.dev.nat (tdmK i 0x02) = 1 ∧
      (s.dev.nat (tdmK i 0x0E) = 2 ∨ s.dev.nat (tdmK i 0x0E) = 3) ∧ (s.dev.atdm i).last = some l ∧ l * audioHz
      (s.dev.nat (tdmK i 0x03)) + 1600000000 ≤ (s.ctx dt).t * audioHz (s.dev.nat (tdmK i 0x03))) :=
  ⟨⟨tst [(0x6300_06, 3), (0x6201_02, 0)] (fun d => { d with audio := { d.audio with clk := (2, d.audio.clk.2) } }),
    5, List.range 64, [], [9], 1, by decide +kernel⟩,
   ⟨tst [(0x3003_07, 3), (0x3003_02, 0), (0x4002_0C, 1), (0x4002_02, 3), (0x4002_04, 64), (0x4002_05, 4), (0x4002_06,
    24), (0x4002_07, 60), (0x6002_01, 1)] fun d =>
    { d with ports := List.replicate 32 { framed := true, folioRx := some 9 }, lanes := List.replicate 48 { pm := true } },
    5, 3, 2, (sealed 4 0 0 0 1 ([2#8, 0xF#8, 1#8, 0#8] ++ zeros 28)), 100, by decide +kernel⟩,
   ⟨tst [(0x6000_04, 16)] id, 5, 1, by decide +kernel⟩,
   ⟨tst [(0x6201_02, 1), (0x6201_0E, 2)] id, 5, 1, by decide +kernel⟩,
   ⟨tst [(0x6000_04, 32)] id, 5, 1, by decide +kernel⟩,
   ⟨tst [] fun d => { d with audio := { d.audio with units := List.replicate 28 { ts := List.range 9 } } }, 5, 2,
    by decide +kernel⟩,
   ⟨tst [(0x6201_02, 1), (0x6201_0E, 1)] id, 5, 1, 512, false, [7], by decide +kernel⟩,
   ⟨tst [(0x6201_02, 1), (0x6201_0E, 3)] (fun d =>
    { d with audio := { d.audio with tdm := List.replicate 4 { last := some 0 } } }), 5, 1, 0, by decide +kernel⟩⟩

theorem wit_Title_port_commands_complete_1 :
    (∃ (s : State) (dt : Nat) (slot off len m id : Nat) (b : List Byte), Quiet s ∧ slot < 2 ∧ slot <
      s.dev.title.slots.length ∧ s.dev.slotSt slot = 2 ∧ off + len ≤ s.dev.titleTop ∧ len ≠ 0 ∧ (s.dev.tslot slot).pb
      = none ∧ (s.dev.tslot slot).flush = none ∧ (s.dev.tslot slot).readers = [] ∧ (s.dev.tslot slot).hit ⟨m, id, off,
      len⟩ = some b) ∧
    (∃ (s : State) (dt : Nat) (slot off m id : Nat) (data : List Byte), Quiet s ∧ slot < 2 ∧ slot <
      s.dev.title.slots.length ∧ s.dev.slotSt slot = 2 ∧ off + data.length ≤ s.dev.titleTop ∧ (s.dev.tslot slot).pb =
      none ∧ (s.dev.tslot slot).flush = none) ∧
    (∃ (s : State) (dt slot : Nat) (b : PageBuf), Quiet s ∧ slot < 2 ∧ (s.dev.tslot slot).flush = none ∧
      (s.dev.tslot slot).pb = some b ∧ b.t + s.dev.nat (titleK 0x10) * 400 ≤ (s.ctx dt).t) ∧
    (∃ (s : State) (dt : Nat) (data : List Byte) (stalls : Nat) (r : TReq) (b : PageBuf) (g : Flush), Quiet s ∧
      s.dev.title.cur = some (r, false) ∧ r.kind = .program ∧ (s.dev.tslot r.slot).pb = some b ∧ (s.dev.tslot
      r.slot).flush = some g ∧ s.dev.titleTxnDue (s.ctx dt) = true) ∧
    (∃ (s : State) (dt : Nat) (data : List Byte) (stalls : Nat) (r : TReq), Quiet s ∧ s.dev.title.cur = some (r,
      false) ∧ r.kind = .raw ∧ (parseTmpl s.dev.rawReq.1).write = false ∧ s.dev.titleTxnDue (s.ctx dt) = true) ∧
    (∃ (s : State) (dt : Nat) (slot status : Nat) (g : Flush), Quiet s ∧ slot < 2 ∧ (s.dev.tslot slot).flush = some
      g ∧ g.step = 4 ∧ (status % 2 ^ s.dev.nat (titleK 9)) &&& s.dev.nat (titleK 0x0C) = 0 ∧ (status % 2 ^ s.dev.nat
      (titleK 9)) &&& s.dev.nat (titleK 0x0A) = s.dev.nat (titleK 0x0B) &&& s.dev.nat (titleK 0x0A) ∧ s.dev.title.cur
      = none ∧ g.t0 + g.k * s.dev.nat (titleK 0x0D) * 400 ≤ (s.ctx dt).t) ∧
    (∃ (s : State) (dt : Nat) (slot status : Nat) (g : Flush), Quiet s ∧ slot < 2 ∧ (s.dev.tslot slot).flush = some
      g ∧ g.step = 4 ∧ (status % 2 ^ s.dev.nat (titleK 9)) &&& s.dev.nat (titleK 0x0C) = 0 ∧ (status % 2 ^ s.dev.nat
      (titleK 9)) &&& s.dev.nat (titleK 0x0A) ≠ s.dev.nat (titleK 0x0B) &&& s.dev.nat (titleK 0x0A) ∧ g.k * s.dev.nat
      (titleK 0x0D) < 10000 ∧ s.dev.title.cur = none ∧ g.t0 + g.k * s.dev.nat (titleK 0x0D) * 400 ≤ (s.ctx dt).t) ∧
    (∃ (s : State) (dt : Nat) (r : TReq), Quiet s ∧ s.dev.title.cur = some (r, false) ∧ r.kind ≠ .program ∧ r.kind ≠
      .writeEnable ∧ r.kind ≠ .raw ∧ s.dev.tprdyDue (s.ctx dt) = true) ∧
    (∃ (s : State) (dt : Nat) (r : TReq), Quiet s ∧ s.dev.title.cur = some (r, false) ∧ r.kind ≠ .program ∧ r.kind ≠
      .writeEnable ∧ r.kind ≠ .raw ∧ s.dev.strobeDue (s.ctx dt) = true) ∧
    (∃ (s : State) (dt : Nat) (o : Org) (slots : Bool) (v : Nat), Quiet s ∧ Accepts s dt o (if slots then titleK
      0x02 else titleK 0x01) v) :=
  ⟨⟨{ (tst [(0x7000_12, 2)] fun d => { d with title := { d.title with slots := [{ pf := [(0, zeros 64)] }, {}] } }) with dev := { (tst [(0x7000_12, 2)] fun d => { d with title := { d.title with slots := [{ pf := [(0, zeros 64)] }, {}] } }).dev.setB 0x7000_05 (zeros 5 ++ [0x30#8] ++ zeros 10) with out := [] } },
    3, 0, 4, 4, 1, 2, zeros 4, by decide +kernel⟩,
   ⟨{ (tst [(0x7000_12, 2)] fun d => { d with title := { d.title with slots := [{}, {}] } }) with dev := { (tst [(0x7000_12, 2)] fun d => { d with title := { d.title with slots := [{}, {}] } }).dev.setB 0x7000_05 (zeros 5 ++ [0x30#8] ++ zeros 10) with out := [] } },
    3, 0, 4, 1, 2, [9#8], by decide +kernel⟩,
   ⟨tst [(0x7000_12, 2), (0x7000_10, 10)] (fun d =>
    { d with title := { d.title with slots := [{ pb := some ⟨0, List.replicate 256 (some 7#8), 0⟩ }, {}] } }), 3, 0,
    ⟨0, List.replicate 256 (some 7#8), 0⟩, by decide +kernel⟩,
   ⟨tst [(0x7000_12, 2)] fun d =>
    { d with title := { d.title with slots := [{ pb := some ⟨0, List.replicate 256 (some 7#8), 0⟩, flush := some {} }, {}], cur := some (⟨0, .program⟩, false) } },
    3, [], 0, ⟨0, .program⟩, ⟨0, List.replicate 256 (some 7#8), 0⟩, {}, by decide +kernel⟩,
   ⟨tst [(0x7000_12, 2)] fun d => { d with title := { d.title with cur := some (⟨0, .raw⟩, false) } }, 3, [7#8], 2,
    ⟨0, .raw⟩, by decide +kernel⟩,
   ⟨tst [(0x7000_12, 2), (0x7000_09, 8), (0x7000_0A, 1), (0x7000_0B, 0), (0x7000_0C, 0)] fun d =>
    { d with title := { d.title with slots := [{ pb := some ⟨0, List.replicate 256 (some 7#8), 0⟩, flush := some { step := 4, k := 1 } }, {}] } },
    3, 0, 0, { step := 4, k := 1 }, by decide +kernel⟩,
   ⟨tst [(0x7000_12, 2), (0x7000_09, 8), (0x7000_0A, 1), (0x7000_0B, 0), (0x7000_0C, 0)] fun d =>
    { d with title := { d.title with slots := [{ pb := some ⟨0, List.replicate 256 (some 7#8), 0⟩, flush := some { step := 4, k := 1 } }, {}] } },
    3, 0, 1, { step := 4, k := 1 }, by decide +kernel⟩,
   ⟨tst [(0x7000_12, 2)] (fun d =>
    { d with title := { d.title with cur := some (⟨0, .ident⟩, false), waits := true } }), 3000000, ⟨0, .ident⟩,
    by decide +kernel⟩,
   ⟨tst [(0x7000_12, 2)] (fun d =>
    { d with title := { d.title with cur := some (⟨0, .ident⟩, false), strobes := true } }), 3000000, ⟨0, .ident⟩,
    by decide +kernel⟩,
   ⟨tst [(0x1010_07, 1)] id, 3, ⟨.fd0, 3, 5, 7⟩, true, 2, by decide +kernel⟩⟩

theorem wit_Title_port_commands_complete_2 :
    (∃ (s : State) (dt : Nat) (o : Org) (v i : Nat), Quiet s ∧ i < 2 ∧ bit v i = true ∧ Accepts s dt o (titleK 0x20)
      v) ∧
    (∃ (s : State) (dt : Nat) (o : Org) (v i : Nat), Quiet s ∧ i < 2 ∧ bit v i = true ∧ (s.dev.tslot i).pb ≠ none ∧
      Accepts s dt o (titleK 0x16) v) ∧
    (∃ (s : State) (dt : Nat) (o : Org), Quiet s ∧ Accepts s dt o (titleK 0x18) 1) ∧
    (∃ (s : State) (dt : Nat) (o : Org), Quiet s ∧ Accepts s dt o (titleK 0x1B) 1) :=
  ⟨⟨tst [(0x1010_07, 1), (0x7000_12, 2)] id, 3, ⟨.fd0, 3, 5, 7⟩, 1, 0, by decide +kernel⟩,
   ⟨tst [(0x1010_07, 1), (0x7000_12, 2)] fun d =>
    { d with title := { d.title with slots := [{ pb := some ⟨0, List.replicate 256 (some 7#8), 0⟩ }, {}] } }, 3,
    ⟨.fd0, 3, 5, 7⟩, 1, 0, by decide +kernel⟩,
   ⟨{ tst [(0x1010_07, 1), (0x7000_12, 2)] id with dev := (tst [(0x1010_07, 1), (0x7000_12, 2)] id).dev.setB 0x7000_17 ([0x9F#8, 0#8, 0#8, 0#8, 8#8] ++ zeros 2 ++ [8#8] ++ zeros 8 ++ zeros 8 ++ le 2 4 ++ zeros 2) },
    3, ⟨.fd0, 3, 5, 7⟩, by decide +kernel⟩,
   ⟨tst [(0x1010_07, 1)] id, 3, ⟨.fd0, 3, 5, 7⟩, by decide +kernel⟩⟩

theorem wit_Host_port_commands_complete :
    (∃ (s : State) (dt : Nat) (hdr : List Byte), Quiet s ∧ s.dev.hostOn = true ∧ s.dev.host.op = 0 ∧ hdr.length = 4
      ∧ fld hdr 1 1 = 255 - fld hdr 0 1 ∧ fld hdr 2 2 = 0 ∧ (fld hdr 0 1 = 0xA1 ∨ fld hdr 0 1 = 0xA2 ∨ fld hdr 0 1 =
      0xA3)) ∧
    (∃ (s : State) (dt : Nat) (hdr : List Byte), Quiet s ∧ s.dev.hostOn = true ∧ s.dev.host.op = 0 ∧ fld hdr 1 1 ≠
      255 - fld hdr 0 1) ∧
    (∃ (s : State) (dt : Nat) (bytes : List Byte), Quiet s ∧ s.dev.hostOn = true ∧ s.dev.host.op = 2 ∧
      s.dev.host.lowT = none ∧ s.dev.host.mode = 0) ∧
    (∃ (s : State) (dt : Nat) (n : Nat), Quiet s ∧ s.dev.hostOn = true ∧ (s.dev.host.op = 3 ∨ s.dev.host.op = 4)) ∧
    (∃ (s : State) (dt : Nat) (n : Nat), Quiet s ∧ s.dev.hostOn = true ∧ s.dev.host.op = 3 ∧ s.dev.host.cur = none ∧
      s.dev.itp.hostQ = []) ∧
    (∃ (s : State) (dt : Nat), Quiet s ∧ s.dev.hostOn = true ∧ s.dev.host.op = 6) ∧
    (∃ (s : State) (dt : Nat) (n : Nat), Quiet s ∧ s.dev.hostRuns = true ∧ s.dev.host.op ≠ 0) ∧
    (∃ (s : State) (dt : Nat) (n : Nat), Quiet s ∧ s.dev.hostIdle (s.ctx dt) = true) ∧
    (∃ (s : State) (dt : Nat), Quiet s ∧ s.dev.hostOn = true ∧ s.dev.host.mode ≠ 0 ∧ s.dev.host.buf ≠ [] ∧
      s.dev.host.wordT + s.dev.nat 0x7010_03 * 400 ≤ (s.ctx dt).t) ∧
    (∃ (s : State) (dt : Nat) (o : Org), Quiet s ∧ Accepts s dt o 0x7010_0F 1) :=
  ⟨⟨tst [(0x1010_07, 4)] id, 3, [0xA2#8, 0x5D#8, 0#8, 0#8], by decide +kernel⟩,
   ⟨tst [(0x1010_07, 4)] id, 3, [0xA2#8, 0x5C#8, 0#8, 0#8], by decide +kernel⟩,
   ⟨tst [(0x1010_07, 4)] fun d => { d with host := { d.host with op := 2, mode := 0 } }, 3, zeros 6,
    by decide +kernel⟩,
   ⟨tst [(0x1010_07, 4)] fun d => { d with host := { d.host with op := 3 } }, 3, 2, by decide +kernel⟩,
   ⟨tst [(0x1010_07, 4)] fun d => { d with host := { d.host with op := 3 } }, 3, 2, by decide +kernel⟩,
   ⟨tst [(0x1010_07, 4)] fun d => { d with host := { d.host with op := 6 } }, 3, by decide +kernel⟩,
   ⟨tst [(0x1010_07, 4)] fun d => { d with host := { d.host with op := 4 } }, 3, 0, by decide +kernel⟩,
   ⟨tst [(0x1010_07, 4)] (fun d => { d with host := { d.host with op := 4 } }), 400000000, 0, by decide +kernel⟩,
   ⟨tst [(0x1010_07, 4)] (fun d => { d with host := { d.host with mode := 1, buf := zeros 4 } }), 400000000,
    by decide +kernel⟩,
   ⟨tst [(0x1010_07, 1), (0x7010_06, 3)] id, 3, ⟨.fd0, 3, 5, 7⟩, by decide +kernel⟩⟩

theorem wit_Streaming_commands_complete_1 :
    (∃ (s : State) (dt : Nat) (o : Org) (v : Nat), Quiet s ∧ Accepts s dt o (cacheK 0x01) v) ∧
    (∃ (s : State) (dt : Nat) (o : Org) (v i : Nat), Quiet s ∧ i < 2 ∧ bit v i = true ∧ Accepts s dt o (cacheK 0x0D)
      v) ∧
    (∃ (s : State) (dt : Nat) (o : Org) (n : Nat), Quiet s ∧ n < 32 ∧ Accepts s dt o (strK n 0x01) 1) ∧
    (∃ (s : State) (dt : Nat) (o : Org) (n : Nat), Quiet s ∧ n < 32 ∧ s.dev.streamSt n ≠ 0 ∧ Accepts s dt o (strK n
      0x01) 2) ∧
    (∃ (s : State) (dt : Nat) (o : Org) (n v : Nat), Quiet s ∧ n < 32 ∧ Accepts s dt o (strK n 0x05) v) ∧
    (∃ (s : State) (dt : Nat) (o : Org) (n v : Nat), Quiet s ∧ n < 32 ∧ Accepts s dt o (strK n 0x1A) v) ∧
    (∃ (s : State) (dt : Nat) (n : Nat), Quiet s ∧ n < 32 ∧ s.dev.streamSt n = 1 ∧ 4096 ≤ (s.dev.stream
      n).hdr.length ∧ s.dev.headerOk (s.dev.nat (strK n 2)) (s.dev.stream n).hdr = false ∧ (s.dev.stream n).again =
      false) ∧
    (∃ (s : State) (dt : Nat) (n : Nat), Quiet s ∧ n < 32 ∧ s.dev.streamSt n = 1 ∧ 4096 ≤ (s.dev.stream
      n).hdr.length ∧ s.dev.headerOk (s.dev.nat (strK n 2)) (s.dev.stream n).hdr = true ∧ s.dev.nat (strK n 3) < fld
      (s.dev.stream n).hdr 0x10 4 ∧ (s.dev.nat (strK n 4) = 0 ∨ s.dev.nat (strK n 3) + s.dev.nat (strK n 4) ≤ fld
      (s.dev.stream n).hdr 0x10 4)) ∧
    (∃ (s : State) (dt n mem m : Nat) (e : CEnt), Quiet s ∧ n < 32 ∧ s.dev.streamSt n = 2 ∧ s.dev.readPos n <
      (s.dev.stream n).stop ∧ s.dev.cache.entry (s.dev.blockTag n (s.dev.readPos n)) (s.dev.flag (strK n 7)) = some e
      ∧ s.dev.leaderPos n = some m ∧ s.dev.readPos n - m < s.dev.nat (strK n 0x19) ∧ mem ≠ 2) ∧
    (∃ (s : State) (dt n m : Nat) (e : CEnt), Quiet s ∧ n < 32 ∧ s.dev.streamSt n = 2 ∧ s.dev.readPos n <
      (s.dev.stream n).stop ∧ s.dev.cache.entry (s.dev.blockTag n (s.dev.readPos n)) (s.dev.flag (strK n 7)) = some e
      ∧ s.dev.leaderPos n = some m ∧ s.dev.readPos n - m < s.dev.nat (strK n 0x19)) :=
  ⟨⟨tst [(0x1010_07, 1)] id, 3, ⟨.fd0, 3, 5, 7⟩, 1, by decide +kernel⟩,
   ⟨tst [(0x1010_07, 1)] fun d => { d with cache := { ents := [⟨0, ⟨0, 0, false, 3⟩, 0, [], false⟩] } }, 3, ⟨.fd0, 3,
    5, 7⟩, 1, 0, by decide +kernel⟩,
   ⟨tst [(0x1010_07, 1), (0x7100_01, 1), (0x7100_02, 64), (0x7000_12, 2), (0x7203_05, 8)] id, 3, ⟨.fd0, 3, 5, 7⟩, 3,
    by decide +kernel⟩,
   ⟨tst [(0x1010_07, 1), (0x7203_01, 2)] id, 3, ⟨.fd0, 3, 5, 7⟩, 3, by decide +kernel⟩,
   ⟨tst [(0x1010_07, 1)] id, 3, ⟨.fd0, 3, 5, 7⟩, 3, 9, by decide +kernel⟩,
   ⟨tst [(0x1010_07, 1), (0x7203_0C, 8)] id, 3, ⟨.fd0, 3, 5, 7⟩, 3, 8, by decide +kernel⟩,
   ⟨tst [(0x7203_01, 1)] fun d => { d with streams := List.replicate 32 { hdr := zeros 4096 } }, 3, 3,
    by decide +kernel⟩,
   ⟨{ tst [(0x7203_01, 1)] (fun d => { d with streams := List.replicate 32 { hdr := testHeader } }) with dev := (tst [(0x7203_01, 1)] (fun d => { d with streams := List.replicate 32 { hdr := testHeader } })).dev.setB 0x7000_05 (zeros 5 ++ [0x30#8] ++ zeros 10) },
    3, 3, by decide +kernel⟩,
   ⟨tst [(0x7203_01, 2), (0x7203_0B, 8), (0x7203_19, 4), (0x7203_06, 16), (0x3003_07, 3)] (fun d =>
    { d with cache := { ents := [⟨0, ⟨0, 0, false, 0⟩, 0, [], false⟩] }, streams := List.replicate 32 { stop := 9 } }),
    3, 3, 1, 0, ⟨0, ⟨0, 0, false, 0⟩, 0, [], false⟩, by decide +kernel⟩,
   ⟨tst [(0x7203_01, 2), (0x7203_0B, 8), (0x7203_19, 4), (0x7203_06, 16), (0x3003_07, 3)] (fun d =>
    { d with cache := { ents := [⟨0, ⟨0, 0, false, 0⟩, 0, [], false⟩] }, streams := List.replicate 32 { stop := 9 } }),
    3, 3, 0, ⟨0, ⟨0, 0, false, 0⟩, 0, [], false⟩, by decide +kernel⟩⟩

theorem wit_Streaming_commands_complete_2 :
    (∃ (s : State) (dt : Nat) (n : Nat), Quiet s ∧ n < 32 ∧ s.dev.streamSt n = 4 ∧ s.dev.title.cur = none) ∧
    (∃ (s : State) (dt : Nat) (p : Nat) (k : Pkt) (bad again : List Nat), Quiet s ∧ p < s.portCount ∧ p <
      s.dev.ports.length ∧ (s.entry.rxPacket p 6 1 { k with fieldA := 2 }).2 = true ∧ fld k.payload 2 1 < 32 ∧ 1 ≤ fld
      k.payload 3 1 ∧ fld k.payload 3 1 ≤ 16 ∧ k.payload.length = 8 + 8 * fld k.payload 3 1) ∧
    (∃ (s : State) (dt : Nat) (bad again : List Nat), Quiet s ∧ s.dev.flag (cacheK 1) = true ∧ s.dev.rst.fmOff =
      false ∧ s.dev.videoDown = false ∧ s.dev.cycleDue (s.ctx dt) = true) ∧
    (∃ (s : State) (dt : Nat) (slot num mem : Nat) (page : Bool) (f : Fill1), Quiet s ∧ slot < 2 ∧
      s.dev.cache.fills.find? (fun f => f.tag.slot = slot && f.tag.page = page && f.tag.num = num) = some f ∧ f.waits
      = false ∧ 4096 ≤ f.data.length) ∧
    (∃ (s : State) (dt : Nat) (p : Nat) (q : QPkt) (r : List QPkt), Quiet s ∧ p < s.portCount ∧ s.dev.portSt p = 3 ∧
      (s.dev.port p).safe = q :: r ∧ 0 < (s.dev.port p).credit 3) ∧
    (∃ (s : State) (dt : Nat) (p : Nat), Quiet s ∧ p < s.portCount ∧ s.dev.portSt p = 3 ∧ (s.dev.port p).safe = [] ∧
      (s.dev.port p).ctl = [] ∧ (s.dev.port p).iso = [] ∧ (s.dev.port p).mgmt = [] ∧ (s.dev.port p).dueOf 1 = none ∧
      (s.dev.port p).dueOf 2 = none ∧ (s.dev.port p).mayNew 2 = false) ∧
    (∃ (s : State) (dt : Nat), Quiet s ∧ s.dev.sampleDue (s.ctx dt) = true) ∧
    (∃ (s : State) (dt : Nat) (o : Org), Quiet s ∧ Accepts s dt o 0x7400_07 1) :=
  ⟨⟨tst [(0x7203_01, 4)] id, 3, 3, by decide +kernel⟩,
   ⟨tst [(0x3003_07, 3), (0x3003_02, 2)] fun d =>
    { d with ports := List.replicate 32 { framed := true }, lanes := List.replicate 48 { pm := true } }, 3, 3, (sealed
    6 1 0 2 0 ([1#8, 0#8, 3#8, 1#8] ++ zeros 12)), [], [0], by decide +kernel⟩,
   ⟨tst [(0x7100_01, 1)] fun d => { d with cache := { ents := [⟨0, ⟨0, 0, false, 3⟩, 0, [], false⟩] } }, 3, [0], [],
    by decide +kernel⟩,
   ⟨tst [] fun d => { d with cache := { fills := [⟨⟨0, 0, false, 3⟩, 8192, zeros 4096, false, false⟩] } }, 3, 0, 3,
    2, false, ⟨⟨0, 0, false, 3⟩, 8192, zeros 4096, false, false⟩, by decide +kernel⟩,
   ⟨tst [(0x3003_07, 3)] fun d =>
    { d with ports := List.replicate 32 { safe := [⟨8, 1, 0, zeros 16, 0⟩], flowSeen := true, lims := [0, 0, 0, 5] } },
    3, 3, ⟨8, 1, 0, zeros 16, 0⟩, [], by decide +kernel⟩,
   ⟨tst [(0x3003_07, 3)] id, 3, 3, by decide +kernel⟩,
   ⟨tst [] id, 3, by decide +kernel⟩,
   ⟨tst [(0x1010_07, 1)] id, 3, ⟨.fd0, 3, 5, 7⟩, by decide +kernel⟩⟩

theorem wit_Bus_and_register_commands_complete_1 :
    (∃ (s : State) (dt master id addr len mem : Nat) (wd : Option (List Byte)) (user parity : Bool), Quiet s ∧
      s.dev.coreOn = true ∧ 1 ≤ master ∧ master < 4 ∧ id < idsOf master ∧ len ≠ 0 ∧ (master ≠ 1 ∨ ¬(tgtNo ⟨master, id,
      addr % 2 ^ 32, len, wd, false, user && decide (master ≤ 1), s.dev.core.remap, [], false⟩ = 1 ∨ tgtNo ⟨master,
      id, addr % 2 ^ 32, len, wd, false, user && decide (master ≤ 1), s.dev.core.remap, [], false⟩ = 2))) ∧
    (∃ (s : State) (dt id addr len mem : Nat) (user parity : Bool), Quiet s ∧ s.dev.coreOn = true ∧ id < 4 ∧ len ≠ 0
      ∧ busRoute ⟨1, id, addr % 2 ^ 32, len, none, false, user, s.dev.core.remap, [], false⟩ = .mem ∧ (tgtNo ⟨1, id,
      addr % 2 ^ 32, len, none, false, user, s.dev.core.remap, [], false⟩ = 1 ∨ tgtNo ⟨1, id, addr % 2 ^ 32, len,
      none, false, user, s.dev.core.remap, [], false⟩ = 2) ∧ mem ≠ 2) ∧
    (∃ (s : State) (dt id addr len mem : Nat) (b : List Byte) (user parity : Bool), Quiet s ∧ s.dev.coreOn = true ∧
      id < 4 ∧ len ≠ 0 ∧ busRoute ⟨1, id, addr % 2 ^ 32, len, some b, false, user, s.dev.core.remap, [], false⟩ = .mem
      ∧ (tgtNo ⟨1, id, addr % 2 ^ 32, len, some b, false, user, s.dev.core.remap, [], false⟩ = 1 ∨ tgtNo ⟨1, id, addr
      % 2 ^ 32, len, some b, false, user, s.dev.core.remap, [], false⟩ = 2)) ∧
    (∃ (s : State) (dt id addr len mem : Nat) (wd : Option (List Byte)) (b : List Byte) (user parity : Bool), Quiet
      s ∧ s.dev.coreOn = true ∧ id < 2 ∧ len ≠ 0 ∧ s.dev.buffered (addr % 2 ^ 32) len = some b) ∧
    (∃ (s : State) (dt master id mem : Nat) (ext b : List Byte) (vacant : Bool) (r : BusReq), Quiet s ∧ busRoute r =
      .mem ∧ r.wdata = some b ∧ s.dev.answers master id = some r) ∧
    (∃ (s : State) (dt master id mem : Nat) (ext : List Byte) (vacant : Bool) (r : BusReq), Quiet s ∧ busRoute r =
      .mem ∧ r.wdata = none ∧ s.dev.answers master id = some r ∧ mem ≠ 2) ∧
    (∃ (s : State) (dt : Nat) (n v : Nat) (user : Bool), Quiet s ∧ s.dev.coreOn = true ∧ n < 8 ∧ n <
      s.dev.core.dma.length) ∧
    (∃ (s : State) (dt : Nat) (n v : Nat) (user : Bool), Quiet s ∧ s.dev.coreOn = true ∧ n < 8 ∧ (s.dev.dmaCh n).st
      = 1) ∧
    (∃ (s : State) (dt : Nat) (n m : Nat) (ext put : List Byte) (beat : Nat) (vacant : Bool), Quiet s ∧ s.dev.coreOn
      = true ∧ s.dev.dmaPick = some n ∧ (s.dev.dmaCh n).loaded = true ∧ bit (s.dev.dmaCh n).flags 0 = false ∧ bit
      (s.dev.dmaCh n).flags 1 = false ∧ m = min (s.dev.dmaCh n).burst (s.dev.dmaCh n).remain ∧ m ≠ 0 ∧ put = memRead
      s.dev.core.mem (memAddr (s.dev.dmaCh n).src) m ∧ busRoute (s.dev.dmaReq n (s.dev.dmaCh n).src m none) = .mem ∧
      busRoute (s.dev.dmaReq n (s.dev.dmaCh n).dst m (some put)) = .mem) ∧
    (∃ (s : State) (dt : Nat) (v : Nat) (user : Bool), Quiet s ∧ s.dev.coreOn = true ∧ bit v 0 = true) :=
  ⟨⟨tst [] id, 3, 1, 0, 0x1000_0000, 4, 0, none, false, false, by decide +kernel⟩,
   ⟨tst [] id, 3, 0, 0x0801_0000, 4, 1, false, false, by decide +kernel⟩,
   ⟨tst [] id, 3, 0, 0x0801_0000, 4, 0, [1#8, 2#8, 3#8, 4#8], false, false, by decide +kernel⟩,
   ⟨tst [] (fun d => { d with core := { d.core with fetchBuf := some (0x1000_0000, zeros 16) } }), 3, 0, 0x1000_0004,
    4, 0, none, zeros 4, false, false, by decide +kernel⟩,
   ⟨tst [] (fun d =>
    { d with core := { d.core with issued := [⟨2, 0, 0x1000_0000, 4, some [1#8, 2#8, 3#8, 4#8], false, false, false, [], false⟩] } }),
    3, 2, 0, 0, [], [1#8, 2#8, 3#8, 4#8], false, ⟨2, 0, 0x1000_0000, 4, some [1#8, 2#8, 3#8, 4#8], false, false,
    false, [], false⟩, by decide +kernel⟩,
   ⟨tst [] (fun d =>
    { d with core := { d.core with issued := [⟨1, 0, 0x1000_0000, 4, none, false, false, false, [], false⟩] } }), 3,
    1, 0, 3, [], false, ⟨1, 0, 0x1000_0000, 4, none, false, false, false, [], false⟩, by decide +kernel⟩,
   ⟨tst [] id, 3, 2, 9, true, by decide +kernel⟩,
   ⟨tst [] fun d => { d with core := { d.core with dma := List.replicate 8 { st := 1 } } }, 3, 2, 9, true,
    by decide +kernel⟩,
   ⟨tst [] fun d =>
    { d with core := { d.core with mem := memWrite [] 0x1000_0000 [1#8, 2#8], dma := modifyAt (fun _ => { st := 1, ctl := 1, src := 0x1000_0000, dst := 0x1000_0100, remain := 2, loaded := true }) 2 (List.replicate 8 {}) } },
    3, 2, 2, [], [1#8, 2#8], 0, false, by decide +kernel⟩,
   ⟨tst [] fun d => { d with core := { d.core with icache := [(0x180_0000, [])] } }, 3, 1, true, by decide +kernel⟩⟩

theorem wit_Bus_and_register_commands_complete_2 :
    (∃ (s : State) (dt : Nat) (v : Nat), Quiet s ∧ s.dev.coreOn = true) ∧
    (∃ (s : State) (dt : Nat) (v : Nat), Quiet s ∧ s.dev.coreOn = true ∧ bit v 8 = true) ∧
    (∃ (s : State) (dt : Nat) (a v : Nat) (user : Bool), Quiet s ∧ s.dev.coreOn = true ∧ a < 8) ∧
    (∃ (s : State) (dt : Nat) (o : Org) (a sub v : Nat) (user : Bool), Quiet s ∧ a < 8 ∧ 1 ≤ sub ∧ sub ≤ 5 ∧ Accepts
      s dt o (apK a sub) v) ∧
    (∃ (s : State) (dt : Nat) (n v x : Nat) (b user : Bool), Quiet s ∧ s.dev.coreOn = true ∧ n < 4 ∧
      s.dev.core.cmp[n]? = some x ∧ s.dev.core.armed[n]? = some b) ∧
    (∃ (s : State) (dt : Nat) (n x : Nat), Quiet s ∧ n < 4 ∧ s.dev.ticking = true ∧ s.dev.core.armed[n]? = some true
      ∧ s.dev.core.cmp[n]? = some x ∧ x ≤ (s.ctx dt).t) ∧
    (∃ (s : State) (dt : Nat), Quiet s ∧ s.dev.coreOn = true) ∧
    (∃ (s : State) (dt : Nat) (v : Nat), Quiet s ∧ s.dev.coreOn = true ∧ s.dev.tracing = true ∧ bit (s.dev.nat
      0xA200_03) 3 = true ∧ s.dev.trace.branches = [] ∧ s.dev.nat 0xA200_02 ≠ 1 ∧ s.dev.evc.mask = 0) ∧
    (∃ (s : State) (dt : Nat) (v : Nat) (user : Bool), Quiet s ∧ s.dev.coreOn = true) ∧
    (∃ (s : State) (dt : Nat) (v : Nat), Quiet s ∧ s.dev.coreOn = true) :=
  ⟨⟨tst [] id, 3, 1, by decide +kernel⟩,
   ⟨tst [] fun d => { d with core := { d.core with errInfo := 0x100 } }, 3, 0x100, by decide +kernel⟩,
   ⟨tst [] id, 3, 2, 0x1503, true, by decide +kernel⟩,
   ⟨tst [(0x1010_07, 1)] id, 3, ⟨.fd0, 3, 5, 7⟩, 2, 3, 20, false, by decide +kernel⟩,
   ⟨tst [] id, 3, 2, 7, 2 ^ 64 - 1, false, true, by decide +kernel⟩,
   ⟨tst [] fun d => { d with core := { d.core with armed := [false, false, true, false], cmp := [0, 0, 77, 0] } }, 3,
    2, 77, by decide +kernel⟩,
   ⟨tst [] id, 3, by decide +kernel⟩,
   ⟨tst [(0xA200_01, 1), (0xA200_03, 8), (0xA200_02, 0)] id, 3, 7, by decide +kernel⟩,
   ⟨tst [] id, 3, 7, true, by decide +kernel⟩,
   ⟨tst [] id, 3, 7, by decide +kernel⟩⟩

theorem wit_Bus_and_register_commands_complete_3 :
    (∃ (s : State) (dt : Nat) (pc : Nat), Quiet s ∧ s.dev.tracing = true ∧ s.dev.nat 0xA200_04 ≤ s.dev.trace.since ∧
      bit (s.dev.nat 0xA200_03) 4 = false ∧ s.dev.evc.mask = 0) ∧
    (∃ (s : State) (dt : Nat) (n pc : Nat), Quiet s ∧ s.dev.tracing = true ∧ n ≠ 0 ∧ s.dev.nat 0xA200_02 ≠ 1 ∧
      s.dev.evc.mask = 0) ∧
    (∃ (s : State) (dt : Nat) (o : Org), Quiet s ∧ s.dev.evc.mask = 0 ∧ Accepts s dt o 0xA200_08 1) :=
  ⟨⟨tst [(0xA200_01, 1), (0xA200_03, 0), (0xA200_04, 100)] fun d =>
    { d with trace := { d.trace with since := 200 } }, 3, 0x1000_0040, by decide +kernel⟩,
   ⟨tst [(0xA200_01, 1), (0xA200_02, 0)] id, 3, 4, 0x1000_0040, by decide +kernel⟩,
   ⟨tst [(0x1010_07, 1)] fun d => { d with trace := { d.trace with wrapped := true, ovf := 3 } }, 3, ⟨.fd0, 3, 5, 7⟩,
    by decide +kernel⟩⟩

theorem wit_Application_and_debug_commands_complete_1 :
    (∃ (s : State) (dt : Nat), Quiet s ∧ s.dev.coreOn = true) ∧
    (∃ (s : State) (dt : Nat) (cause epc tval : Nat), Quiet s ∧ s.dev.appActs = true) ∧
    (∃ (s : State) (dt : Nat), Quiet s ∧ s.dev.coreOn = true ∧ s.dev.core.halted = false) ∧
    (∃ (s : State) (dt : Nat) (pc : Nat) (u : UserCtx) (r : List UserCtx), Quiet s ∧ s.dev.appActs = true ∧
      s.dev.evc.mask = 0 ∧ s.dev.core.ctxs = u :: r) ∧
    (∃ (s : State) (dt : Nat) (pc : Nat), Quiet s ∧ s.dev.appActs = true ∧ s.dev.evc.mask = 0) ∧
    (∃ (s : State) (dt : Nat) (a7 pc : Nat), Quiet s ∧ s.dev.appActs = true ∧ a7 ≠ 0x4D42 ∧ a7 ≠ 0x4D43 ∧ a7 ≠
      0x4D44) ∧
    (∃ (s : State) (dt : Nat) (o : Org) (x : Obs) (y : Image), Quiet s ∧ s.dev.nat 0xA000_01 = 5 ∧ parseImage 5
      (s.dev.raw 0xA000_06) = .inl y ∧ s.dev.evc.mask = 0 ∧ Accepts s dt o 0xA000_04 1 ∧ x.busy = false) ∧
    (∃ (s : State) (dt : Nat) (o : Org), Quiet s ∧ (s.dev.nat 0xA000_05 = 1 ∨ s.dev.nat 0xA000_05 = 2) ∧ Accepts s
      dt o 0xA000_04 2) ∧
    (∃ (s : State) (dt : Nat) (o : Org) (b : List Byte), Quiet s ∧ AcceptsB s dt o 0xA000_06 b) ∧
    (∃ (s : State) (dt : Nat) (pc priv : Nat) (x : List Nat), Quiet s ∧ s.dev.debugOn = true ∧ s.dev.core.halted =
      false) :=
  ⟨⟨tst [] id, 3, by decide +kernel⟩,
   ⟨tst [(0xA000_05, 2)] id, 3, 2, 0x1000_0000, 0, by decide +kernel⟩,
   ⟨tst [] id, 3, by decide +kernel⟩,
   ⟨tst [(0xA000_05, 2)] fun d => { d with core := { d.core with ctxs := [⟨0x1000_0100, List.replicate 32 5, 2⟩] } },
    3, 0x1000_0000, ⟨0x1000_0100, List.replicate 32 5, 2⟩, [], by decide +kernel⟩,
   ⟨tst [(0xA000_05, 2)] id, 3, 0x1000_0000, by decide +kernel⟩,
   ⟨tst [(0xA000_05, 2)] id, 3, 0, 0x1000_0000, by decide +kernel⟩,
   ⟨{ tst [(0x1010_07, 1), (0xA000_01, 5)] id with dev := (tst [(0x1010_07, 1), (0xA000_01, 5)] id).dev.setB 0xA000_06 testImage },
    3, ⟨.fd0, 3, 5, 7⟩, Obs.quiet, ⟨0, 4, 0x1000_0000, 0, 0, 0x1000_1000, [1#8, 2#8, 3#8, 4#8]⟩, by decide +kernel⟩,
   ⟨tst [(0x1010_07, 1), (0xA000_05, 2)] id, 3, ⟨.fd0, 3, 5, 7⟩, by decide +kernel⟩,
   ⟨tst [(0x1010_07, 1)] id, 3, ⟨.fd0, 3, 5, 7⟩, testImage, by decide +kernel⟩,
   ⟨tst [] id, 3, 0x1000_0040, 0, [], by decide +kernel⟩⟩

theorem wit_Application_and_debug_commands_complete_2 :
    (∃ (s : State) (dt : Nat), Quiet s ∧ s.dev.debugOn = true ∧ s.dev.core.halted = true ∧ s.dev.evc.mask = 0) ∧
    (∃ (s : State) (dt : Nat), Quiet s ∧ s.dev.debugOn = true ∧ s.dev.rst.stage = .up) ∧
    (∃ (s : State) (dt : Nat) (wd : Nat) (after : Option (List Nat)), Quiet s ∧ s.dev.debugOn = true ∧
      s.dev.core.halted = true ∧ s.dev.core.dbg.cmderr = 0 ∧ wd / 2 ^ 24 % 256 = 0 ∧ bit wd 17 = true ∧ bits wd 20 3 =
      2 ∧ bit wd 16 = false ∧ bit wd 18 = false ∧ 0x1001 ≤ bits wd 0 16 ∧ bits wd 0 16 < 0x1020) ∧
    (∃ (s : State) (dt : Nat) (wd : Nat) (after : Option (List Nat)), Quiet s ∧ s.dev.debugOn = true ∧
      s.dev.core.halted = true ∧ s.dev.core.dbg.cmderr = 0 ∧ wd / 2 ^ 24 % 256 = 0 ∧ bit wd 17 = true ∧ bits wd 20 3 =
      2 ∧ bit wd 16 = true ∧ bit wd 18 = false ∧ 0x1001 ≤ bits wd 0 16 ∧ bits wd 0 16 < 0x1020 ∧ bits wd 0 16 - 0x1000
      < s.dev.core.x.length) ∧
    (∃ (s : State) (dt size addr data mem : Nat) (ext : List Byte) (vacant : Bool), Quiet s ∧ s.dev.debugOn = true ∧
      (size = 1 ∨ size = 2 ∨ size = 4) ∧ addr % size = 0 ∧ busRoute ⟨3, 0, addr % 2 ^ 32, size, some (le size data),
      false, false, s.dev.core.remap, s.dev.core.apw, false⟩ = .mem) ∧
    (∃ (s : State) (dt size addr data mem : Nat) (ext : List Byte) (vacant : Bool), Quiet s ∧ s.dev.debugOn = true ∧
      (size = 1 ∨ size = 2 ∨ size = 4) ∧ addr % size = 0 ∧ busRoute ⟨3, 0, addr % 2 ^ 32, size, none, false, false,
      s.dev.core.remap, s.dev.core.apw, false⟩ = .mem ∧ mem ≠ 2) ∧
    (∃ (s : State) (dt : Nat) (n kind addr data pc priv : Nat) (x : List Nat), Quiet s ∧ s.dev.coreOn = true ∧
      s.dev.debugOn = true ∧ s.dev.core.halted = false ∧ s.dev.trigMatch n kind addr data priv = true ∧ bits
      (((s.dev.core.dbg.trigs[n]?).getD {}).tdata1) 12 4 = 1) ∧
    (∃ (s : State) (dt : Nat) (pc priv : Nat) (x : List Nat), Quiet s ∧ s.dev.debugOn = true ∧ s.dev.core.halted =
      true) ∧
    (∃ (s : State) (dt : Nat), Quiet s ∧ s.dev.tapOn = true) ∧
    (∃ (s : State) (dt : Nat) (cap load : List Bool), Quiet s ∧ s.dev.tapOn = true) :=
  ⟨⟨tst [] fun d => { d with core := { d.core with halted := true } }, 3, by decide +kernel⟩,
   ⟨tst [] id, 3, by decide +kernel⟩,
   ⟨tst [] fun d => { d with core := { d.core with halted := true, x := List.replicate 32 9 } }, 3, 0x0022_1005,
    none, by decide +kernel⟩,
   ⟨tst [] fun d => { d with core := { d.core with halted := true, x := List.replicate 32 9 } }, 3, 0x0023_1005,
    none, by decide +kernel⟩,
   ⟨tst [] id, 3, 4, 0x1000_0000, 0x1234_5678, 0, [], false, by decide +kernel⟩,
   ⟨tst [] id, 3, 4, 0x1000_0000, 0, 0, [], false, by decide +kernel⟩,
   ⟨tst [] fun d =>
    { d with core := { d.core with dbg := { d.core.dbg with trigs := [{ tdata1 := 0x2000_104C, tdata2 := 64 }, {}, {}, {}] } } },
    3, 0, 0, 64, 0, 64, 0, [], by decide +kernel⟩,
   ⟨tst [] fun d => { d with core := { d.core with halted := true } }, 3, 0x1000_0044, 0, [], by decide +kernel⟩,
   ⟨tst [] id, 3, by decide +kernel⟩,
   ⟨tst [] id, 3, [true], [false], by decide +kernel⟩⟩

theorem wit_Application_and_debug_commands_complete_3 :
    (∃ (s : State) (dt : Nat) (load : List Bool), Quiet s ∧ s.dev.tapOn = true ∧ s.dev.core.dbg.extest = false) ∧
    (∃ (s : State) (dt : Nat) (v : Nat), Quiet s ∧ s.dev.tapOn = true ∧ s.dev.rst.fuses.noDebug = true) ∧
    (∃ (s : State) (dt : Nat) (v : Nat), Quiet s ∧ s.dev.tapOn = true ∧ s.dev.rst.fuses.noDebug = false ∧ bit v 16 =
      true) ∧
    (∃ (s : State) (dt : Nat) (a v pc priv : Nat) (x : List Nat) (ext : List Byte) (after : Option (List Nat)),
      Quiet s ∧ s.dev.tapOn = true ∧ s.dev.debugOn = true) ∧
    (∃ (s : State) (dt : Nat) (v pc priv : Nat) (x : List Nat) (ext : List Byte) (after : Option (List Nat)), Quiet
      s ∧ s.dev.tapOn = true ∧ s.dev.debugOn = true) ∧
    (∃ (s : State) (dt : Nat) (ir : Nat), Quiet s ∧ s.dev.tapOn = true ∧ ir % 32 ∉ [1, 2, 3, 0x10, 0x11]) ∧
    (∃ (s : State) (dt : Nat), Quiet s ∧ s.dev.tapOn = true) :=
  ⟨⟨tst [] id, 3, [false], by decide +kernel⟩,
   ⟨tst [] fun d => { d with rst := { d.rst with fuses := { noDebug := true } } }, 3, 0, by decide +kernel⟩,
   ⟨tst [] id, 3, 0x10000, by decide +kernel⟩,
   ⟨tst [] id, 3, 0x11, 0, 0, 0, [], [], none, by decide +kernel⟩,
   ⟨tst [] id, 3, 77, 0, 0, [], [], none, by decide +kernel⟩,
   ⟨tst [] id, 3, 31, by decide +kernel⟩,
   ⟨tst [] id, 3, by decide +kernel⟩⟩

theorem wit_Watchdog_event_log_commands_complete_1 :
    (∃ (s : State) (dt : Nat) (n v : Nat), Quiet s ∧ s.dev.coreOn = true ∧ n < 2 ∧ (s.dev.wd n).lock = false ∧ 100 ≤
      v ∧ v ≤ 10000000) ∧
    (∃ (s : State) (dt : Nat) (n v : Nat), Quiet s ∧ s.dev.coreOn = true ∧ n < 2 ∧ (s.dev.wd n).lock = false ∧ v <
      256 ∧ (bits v 5 3 = 0 ∨ bits v 2 3 < bits v 5 3)) ∧
    (∃ (s : State) (dt : Nat) (v : Nat), Quiet s ∧ s.dev.coreOn = true ∧ s.dev.wd0.lock = false) ∧
    (∃ (s : State) (dt : Nat) (o : Org), Quiet s ∧ Accepts s dt o (wdK 0 0x01) 1) ∧
    (∃ (s : State) (dt : Nat) (o : Org), Quiet s ∧ Accepts s dt o (wdK 1 0x01) 1) ∧
    (∃ (s : State) (dt : Nat), Quiet s ∧ s.dev.listening = true ∧ s.dev.wd0.run = true ∧ s.dev.wd0.frozen = none ∧
      s.dev.wd0.set.p ≤ s.dev.wd0.count (s.ctx dt).t + 5 ∧ s.dev.wd0.set.opens ≤ s.dev.wd0.count (s.ctx dt).t ∧
      s.dev.wd0.count (s.ctx dt).t ≤ s.dev.wd0.limit) ∧
    (∃ (s : State) (dt : Nat) (n : Nat), Quiet s ∧ n < 2 ∧ (s.dev.wd n).run = true ∧ (s.dev.wd n).frozen = none ∧
      (s.dev.wd n).set.e ≠ 0 ∧ (s.dev.wd n).warned = false ∧ (s.dev.wd n).set.warnAt ≤ (s.dev.wd n).count (s.ctx
      dt).t) ∧
    (∃ (s : State) (dt : Nat) (pc priv : Nat), Quiet s ∧ s.dev.wdDue (s.ctx dt) 0 = true ∧ s.dev.wdDue (s.ctx dt) 1
      = false) ∧
    (∃ (s : State) (dt : Nat) (pc priv : Nat), Quiet s ∧ s.dev.rst.stage = .up ∧ s.dev.pwr.st = .run ∧ s.dev.wdDue
      (s.ctx dt) 0 = false ∧ s.dev.wdDue (s.ctx dt) 1 = true) ∧
    (∃ (s : State) (dt : Nat) (o : Org) (n : Nat), Quiet s ∧ n < 2 ∧ Accepts s dt o (wdK n 0x0D) 1) :=
  ⟨⟨tst [] id, 3, 0, 5000, by decide +kernel⟩,
   ⟨tst [] id, 3, 0, 0x84, by decide +kernel⟩,
   ⟨tst [] id, 3, 5000, by decide +kernel⟩,
   ⟨tst [(0x1010_07, 1)] id, 3, ⟨.fd0, 3, 5, 7⟩, by decide +kernel⟩,
   ⟨tst [(0x1010_07, 1)] id, 3, ⟨.fd0, 3, 5, 7⟩, by decide +kernel⟩,
   ⟨tst [] fun d => { d with wd0 := { run := true, set := { t := 1000, w := 0, e := 4, p := 500 }, t0 := 3800000 } },
    3, by decide +kernel⟩,
   ⟨tst [] fun d => { d with wd1 := { run := true, set := { t := 1000, w := 0, e := 4, p := 500 }, t0 := 3700000 } },
    3, 1, by decide +kernel⟩,
   ⟨tst [] fun d => { d with wd0 := { run := true, set := { t := 1000, w := 0, e := 4, p := 500 }, t0 := 0 } }, 3,
    0x1000_0000, 0, by decide +kernel⟩,
   ⟨tst [] fun d => { d with wd1 := { run := true, set := { t := 1000, w := 0, e := 4, p := 500 }, t0 := 0 } }, 3,
    0x1000_0000, 0, by decide +kernel⟩,
   ⟨tst [(0x1010_07, 1)] id, 3, ⟨.fd0, 3, 5, 7⟩, 1, by decide +kernel⟩⟩

theorem wit_Watchdog_event_log_commands_complete_2 :
    (∃ (s : State) (dt : Nat) (k v : Nat), Quiet s ∧ s.dev.coreOn = true ∧ k < 3 ∧ s.dev.nat 0x6300_06 ≠ 2) ∧
    (∃ (s : State) (dt : Nat) (o : Org), Quiet s ∧ s.dev.nat 0x6300_06 ≠ 2 ∧ Accepts s dt o 0x9200_07 1) ∧
    (∃ (s : State) (dt : Nat) (m : EvMsg) (r : List EvMsg), Quiet s ∧ s.dev.nat 0x6300_06 ≠ 2 ∧ s.dev.log.fifo = m
      :: r ∧ s.dev.writerTakes (s.ctx dt) = true) ∧
    (∃ (s : State) (dt : Nat) (o : Org) (x : Obs), Quiet s ∧ s.dev.log.good ≠ [] ∧ s.dev.newestCopy = none ∧ x.bad <
      2 ∧ Accepts s dt o 0x9400_07 1 ∧ x.busy = false) ∧
    (∃ (s : State) (dt : Nat) (o : Org), Quiet s ∧ Accepts s dt o 0x9400_0A 1) :=
  ⟨⟨tst [] fun d => { d with evc := { d.evc with pend := 6 } }, 3, 0, 2, by decide +kernel⟩,
   ⟨tst [(0x1010_07, 1), (0x9200_04, 4)] id, 3, ⟨.fd0, 3, 5, 7⟩, by decide +kernel⟩,
   ⟨tst [] fun d => { d with log := { d.log with fifo := [⟨7, false, 1, 100, 5⟩] } }, 3, ⟨7, false, 1, 100, 5⟩, [],
    by decide +kernel⟩,
   ⟨tst [(0x1010_07, 1)] fun d => { d with log := { d.log with recs := [⟨1, 7, 0, 1, 100, zeros 12, false⟩] } }, 3,
    ⟨.fd0, 3, 5, 7⟩, Obs.quiet, by decide +kernel⟩,
   ⟨tst [(0x1010_07, 1)] fun d =>
    { d with log := { d.log with recs := [⟨1, 7, 0, 1, 100, zeros 12, false⟩], next := 2 } }, 3, ⟨.fd0, 3, 5, 7⟩,
    by decide +kernel⟩⟩

theorem wit_Power_commands_complete_1 :
    (∃ (s : State) (dt : Nat), Quiet s ∧ s.dev.mayDoze = true ∧ (s.dev.tslot 0).pb = none ∧ (s.dev.tslot 1).pb =
      none) ∧
    (∃ (s : State) (dt : Nat), Quiet s ∧ s.dev.pwr.st = .doze) ∧
    (∃ (s : State) (dt : Nat) (o : Org) (x : Obs), Quiet s ∧ Accepts s dt o 0x8000_02 1 ∧ x.busy = false) ∧
    (∃ (s : State) (dt : Nat) (o : Org) (x : Obs), Quiet s ∧ Accepts s dt o 0x8000_02 2 ∧ x.busy = false) ∧
    (∃ (s : State) (dt : Nat) (src us : Nat), Quiet s ∧ s.dev.pwr.st = .standby ∧ s.dev.pwr.seq = .none ∧
      s.dev.pwr.hib = false ∧ s.dev.wakes src ≠ 0) ∧
    (∃ (s : State) (dt : Nat) (src slow : Nat), Quiet s ∧ s.dev.pwr.st = .hibernate ∧ src &&& s.dev.nat 0x8000_04
      &&& 0x1001 ≠ 0) ∧
    (∃ (s : State) (dt : Nat) (slow : Nat), Quiet s ∧ s.dev.pwr.st = .hibernate ∧ bit (s.dev.nat 0x8000_04) 12 =
      true ∧ s.dev.nat 0x8000_08 ≠ 0 ∧ s.dev.nat 0x8000_08 * 400000000 ≤ 11851 * (slow + 1)) ∧
    (∃ (s : State) (dt : Nat) (o : Org), Quiet s ∧ Accepts s dt o 0x8000_0C 1) ∧
    (∃ (s : State) (dt : Nat) (o : Org), Quiet s ∧ Accepts s dt o 0x8000_0C 2) ∧
    (∃ (s : State) (dt : Nat) (r : Nat), Quiet s ∧ r < 16 ∧ r < s.dev.pwr.rails.length ∧ (s.dev.rail r).pen = true ∧
      s.dev.railSt r = 1) :=
  ⟨⟨tst [(0x8000_03, 1)] id, 3, by decide +kernel⟩,
   ⟨tst [(0x8000_01, 1)] fun d => { d with pwr := { d.pwr with st := .doze } }, 3, by decide +kernel⟩,
   ⟨tst [(0x1010_07, 1)] id, 3, ⟨.fd0, 3, 5, 7⟩, Obs.quiet, by decide +kernel⟩,
   ⟨tst [(0x1010_07, 1)] id, 3, ⟨.fd0, 3, 5, 7⟩, Obs.quiet, by decide +kernel⟩,
   ⟨tst [] fun d => { d with pwr := { d.pwr with st := .standby } }, 3, 64, 180, by decide +kernel⟩,
   ⟨tst [(0x8000_04, 1)] fun d => { d with pwr := { d.pwr with st := .hibernate } }, 3, 1, 3, by decide +kernel⟩,
   ⟨tst [(0x8000_04, 0x1000), (0x8000_08, 60)] (fun d => { d with pwr := { d.pwr with st := .hibernate } }), 3,
    2100000, by decide +kernel⟩,
   ⟨tst [(0x1010_07, 1)] id, 3, ⟨.fd0, 3, 5, 7⟩, by decide +kernel⟩,
   ⟨tst [(0x1010_07, 1)] id, 3, ⟨.fd0, 3, 5, 7⟩, by decide +kernel⟩,
   ⟨tst [(0x8102_0F, 1)] fun d => { d with pwr := { d.pwr with rails := List.replicate 16 { pen := true } } }, 3, 2,
    by decide +kernel⟩⟩

theorem wit_Power_commands_complete_2 :
    (∃ (s : State) (dt : Nat), Quiet s ∧ s.dev.pwr.seq = .up ∧ s.dev.pwr.wait = .onDelay ∧ (∀ j ∈ List.range 16,
      s.dev.pwr.step < j → s.dev.ups j = []) ∧ s.dev.pwr.dueT ≤ (s.ctx dt).t) ∧
    (∃ (s : State) (dt : Nat), Quiet s ∧ s.dev.pwr.wait = .offDelay ∧ s.dev.pwr.seq = .down ∧ (∀ j, j ≤
      s.dev.pwr.step → s.dev.downs j = []) ∧ s.dev.pwr.dueT ≤ (s.ctx dt).t) ∧
    (∃ (s : State) (dt : Nat), Quiet s ∧ s.dev.pgLate (s.ctx dt) = true ∧ s.dev.pwr.retried = false) ∧
    (∃ (s : State) (dt : Nat), Quiet s ∧ s.dev.pgLate (s.ctx dt) = true ∧ s.dev.pwr.retried = true) ∧
    (∃ (s : State) (dt : Nat) (r : Nat), Quiet s ∧ r < 16 ∧ s.dev.nat (railK r 6) ≠ 0 ∧ s.dev.railSt r = 2 ∧
      s.dev.nat (railK r 7) = 0) ∧
    (∃ (s : State) (dt : Nat) (o : Org) (r : Nat), Quiet s ∧ r < 16 ∧ Accepts s dt o (railK r 0x13) 1) ∧
    (∃ (s : State) (dt : Nat) (n : Nat), Quiet s ∧ n < 8 ∧ n < s.dev.pwr.seats.length ∧ s.dev.powered = true ∧
      s.dev.seatReady n = true ∧ (∀ j, j < n → s.dev.seatReady j = false) ∧ (∀ t0 ∈ s.dev.pwr.lastRise, t0 + s.dev.nat
      0x8000_12 * 400000 ≤ (s.ctx dt).t)) ∧
    (∃ (s : State) (dt : Nat) (n : Nat), Quiet s ∧ n < 8 ∧ (s.dev.seat n).en = true ∧ (s.dev.seat n).blank = true ∧
      (s.dev.seat n).riseT + (s.dev.seat n).set.blank * 400000 ≤ (s.ctx dt).t) ∧
    (∃ (s : State) (dt n t0 : Nat), Quiet s ∧ n < 8 ∧ (s.dev.seat n).en = true ∧ (s.dev.seat n).blank = false ∧
      (s.dev.seat n).overT = some t0 ∧ t0 + (s.dev.seat n).set.trip * 400 ≤ (s.ctx dt).t) ∧
    (∃ (s : State) (dt : Nat) (n : Nat), Quiet s ∧ n < 8 ∧ s.dev.nat (seatK n 0x0A) = 3 ∧ (s.dev.seat n).tripT +
      (s.dev.seat n).set.retry * 400000 ≤ (s.ctx dt).t) :=
  ⟨⟨tst [] fun d => { d with pwr := { d.pwr with seq := .up, wait := .onDelay, step := 3 } }, 3, by decide +kernel⟩,
   ⟨tst [] fun d => { d with pwr := { d.pwr with seq := .down, wait := .offDelay, step := 0 } }, 3,
    by decide +kernel⟩,
   ⟨tst [(0x8102_01, 1), (0x8102_06, 1), (0x8102_02, 3), (0x8102_05, 5), (0x8102_0F, 1)] (fun d =>
    { d with pwr := { d.pwr with seq := .up, wait := .pg, step := 3 } }), 3, by decide +kernel⟩,
   ⟨tst [(0x8102_01, 1), (0x8102_06, 1), (0x8102_02, 3), (0x8102_05, 5), (0x8102_0F, 1)] (fun d =>
    { d with pwr := { d.pwr with seq := .up, wait := .pg, step := 3, retried := true } }), 3, by decide +kernel⟩,
   ⟨tst [(0x8102_0F, 2), (0x8102_06, 1), (0x8102_07, 0)] fun d =>
    { d with pwr := { d.pwr with rails := List.replicate 16 { pg := true } } }, 3, 2, by decide +kernel⟩,
   ⟨tst [(0x1010_07, 1), (0x8102_0F, 4)] fun d =>
    { d with pwr := { d.pwr with rails := List.replicate 16 { noPoll := true } } }, 3, ⟨.fd0, 3, 5, 7⟩, 2,
    by decide +kernel⟩,
   ⟨tst [(0x8201_01, 1), (0x8201_0A, 1), (0x8201_02, 16), (0x8000_0C, 2)] id, 3, 1, by decide +kernel⟩,
   ⟨tst [] (fun d =>
    { d with pwr := { d.pwr with seats := List.replicate 8 { en := true, blank := true, set := { blank := 5 } } } }),
    3, 1, by decide +kernel⟩,
   ⟨tst [] (fun d => { d with pwr := { d.pwr with seats := List.replicate 8 { en := true, overT := some 7 } } }), 3,
    1, 7, by decide +kernel⟩,
   ⟨tst [(0x8201_0A, 3)] (fun d =>
    { d with pwr := { d.pwr with seats := List.replicate 8 { set := { retry := 1 } } } }), 3, 1, by decide +kernel⟩⟩

theorem wit_Power_commands_complete_3 :
    (∃ (s : State) (dt : Nat) (rd : List (Nat × Nat × Nat × Nat)) (r wd : Nat), Quiet s ∧ r < 16 ∧ s.dev.powered =
      true ∧ s.dev.nat (railK r 0x0A) ≠ 0 ∧ (s.dev.rail r).noPoll = false ∧ s.dev.pwr.poll = [] ∧ s.dev.pwr.pollT +
      s.dev.nat 0x8000_11 * 400000 ≤ (s.ctx dt).t ∧ (∀ j ∈ List.range 3, ∃ y ∈ rd.find? (fun y => y.1 = r && y.2.1 =
      j), y.2.2.2 < 2) ∧ (∃ y ∈ rd.find? (fun y => y.1 = r && y.2.1 = 2), y.2.2.1 = wd)) ∧
    (∃ (s : State) (dt : Nat) (rd : List (Nat × Nat × Nat)) (r wd e : Nat), Quiet s ∧ r < 16 ∧ s.dev.powered = true
      ∧ s.dev.nat (railK r 0x0A) ≠ 0 ∧ rd.find? (fun x => x.1 = r) = some (r, wd, e) ∧ e < 2) ∧
    (∃ (s : State) (dt mv errs : Nat) (rest : List (Nat × Nat × Nat × Nat)), Quiet s ∧ s.dev.powered = true ∧
      s.dev.pwr.st = .run ∧ s.dev.flag 0x8400_01 = true ∧ s.dev.avsOk = true ∧ (s.dev.rail (s.dev.nat
      0x8400_02)).noPoll = false ∧ s.dev.pwr.avsT + 400000 ≤ (s.ctx dt).t) ∧
    (∃ (s : State) (dt : Nat) (n code : Nat), Quiet s ∧ n < 16 ∧ n < s.dev.pwr.adc.length ∧ s.dev.powered = true ∧
      s.dev.adcNext = some n ∧ s.dev.pwr.adcT + 400 ≤ (s.ctx dt).t) ∧
    (∃ (s : State) (dt : Nat) (n : Nat), Quiet s ∧ n < 7 ∧ s.dev.ticking = true ∧ bit s.dev.pwr.supOut n = false ∧
      s.dev.videoDown = false) ∧
    (∃ (s : State) (dt : Nat) (n : Nat), Quiet s ∧ n < 7 ∧ bit s.dev.pwr.supOut n = true) ∧
    (∃ (s : State) (dt : Nat) (n : Nat), Quiet s ∧ (n = 0 ∨ n = 4) ∧ s.dev.pwr.st ≠ .hibernate ∧ s.dev.rst.stage ≠
      .off) ∧
    (∃ (s : State) (dt : Nat), Quiet s) ∧
    (∃ (s : State) (dt : Nat) (l again : List Int), Quiet s ∧ s.dev.powered = true ∧ l.length = 8 ∧ (∀ i ∈
      List.range 8, s.dev.outlier l i ((l[i]?).getD 0) = false) ∧ s.dev.pwr.thT + 400000 ≤ (s.ctx dt).t) ∧
    (∃ (s : State) (dt : Nat) (o : Org) (out : Bool) (v : Nat), Quiet s ∧ Accepts s dt o (if out then 0x8000_14 else
      0x8000_13) v) :=
  ⟨⟨tst [(0x8102_0A, 64)] id, 400000000, [(2, 0, 4096, 0), (2, 1, 5, 0), (2, 2, 3, 1)], 2, 3, by decide +kernel⟩,
   ⟨tst [(0x8102_0A, 64)] id, 3, [(2, 3, 0)], 2, 3, 0, by decide +kernel⟩,
   ⟨tst [(0x8400_01, 1), (0x8400_02, 2), (0x8102_0A, 64), (0x8102_0C, 800), (0x8102_0E, 1)] id, 400000, 790, 0, [],
    by decide +kernel⟩,
   ⟨tst [(0x8300_01, 8)] id, 3, 3, 777, by decide +kernel⟩,
   ⟨tst [(0x9000_01, 1)] id, 3, 2, by decide +kernel⟩,
   ⟨tst [] fun d => { d with pwr := { d.pwr with supOut := 4 }, saf := { d.saf with conds := [(5, 2)] } }, 3, 2,
    by decide +kernel⟩,
   ⟨tst [] id, 3, 4, by decide +kernel⟩,
   ⟨tst [] id, 3, by decide +kernel⟩,
   ⟨tst [] id, 3, [200, 201, 202, 203, 204, 205, 206, 207], [], by decide +kernel⟩,
   ⟨tst [(0x1010_07, 1)] id, 3, ⟨.fd0, 3, 5, 7⟩, true, 5, by decide +kernel⟩⟩

theorem wit_Power_commands_complete_4 :
    (∃ (s : State) (dt : Nat) (g : Nat) (high : Bool), Quiet s ∧ g < 16) :=
  ⟨tst [] id, 3, 3, true, by decide +kernel⟩

theorem wit_Safety_and_reset_commands_complete_1 :
    (∃ (s : State) (dt : Nat), Quiet s ∧ s.dev.ticking = true ∧ s.dev.flag 0x9010_03 = true ∧ (0x0B, 0) ∉
      s.dev.saf.conds) ∧
    (∃ (s : State) (dt : Nat), Quiet s ∧ s.dev.ticking = true) ∧
    (∃ (s : State) (dt : Nat) (o : Org), Quiet s ∧ s.dev.safety ≠ 1 ∧ s.dev.nat 0x9000_06 = 0 ∧ s.dev.saf.detT ≠
      some (s.ctx dt).t ∧ s.dev.nat 0x9000_07 % 256 = 1 ∧ s.dev.nat 0x9000_08 % 256 ≠ 2 ∧ Accepts s dt o 0x9000_02 1) ∧
    (∃ (s : State) (dt : Nat), Quiet s ∧ s.dev.rst.stage = .up ∧ s.dev.ticking = true ∧ s.dev.nat 0x9000_09 +
      s.dev.nat 0x9010_02 * 400000000 ≤ (s.ctx dt).t) ∧
    (∃ (s : State) (dt : Nat), Quiet s ∧ s.dev.ticking = true) ∧
    (∃ (s : State) (dt : Nat), Quiet s ∧ s.dev.ticking = true) ∧
    (∃ (s : State) (dt : Nat) (ms a b e : Nat) (bad ev : List Nat), Quiet s ∧ s.dev.ticking = true) ∧
    (∃ (s : State) (dt : Nat), Quiet s ∧ s.dev.ticking = true) ∧
    (∃ (s : State) (dt : Nat), Quiet s ∧ s.dev.ticking = true) ∧
    (∃ (s : State) (dt : Nat) (o : Org), Quiet s ∧ Accepts s dt o 0x9300_0A 1) :=
  ⟨⟨tst [(0x9000_01, 1), (0x9010_03, 1)] id, 3, by decide +kernel⟩,
   ⟨tst [] fun d => { d with saf := { d.saf with reqLow := true, conds := [(0x0B, 0)] } }, 3, by decide +kernel⟩,
   ⟨tst [(0x1010_07, 1), (0x9000_07, 1)] id, 3, ⟨.fd0, 3, 5, 7⟩, by decide +kernel⟩,
   ⟨tst [(0x9010_02, 60)] id, 2000000000000, by decide +kernel⟩,
   ⟨tst [] id, 3, by decide +kernel⟩,
   ⟨tst [] id, 3, by decide +kernel⟩,
   ⟨tst [] id, 3, 900, 2, 0, 1, [], [1], by decide +kernel⟩,
   ⟨tst [(0x9000_01, 1)] id, 3, by decide +kernel⟩,
   ⟨tst [(0x9000_01, 1)] id, 3, by decide +kernel⟩,
   ⟨tst [(0x1010_07, 1), (0x9300_02, 5)] id, 3, ⟨.fd0, 3, 5, 7⟩, by decide +kernel⟩⟩

theorem wit_Safety_and_reset_commands_complete_2 :
    (∃ (s : State) (dt : Nat) (ns slow : Nat), Quiet s ∧ 10000 ≤ ns ∧ s.dev.rst.stage ≠ .off ∧ s.dev.rst.stage ≠
      .inReset) ∧
    (∃ (s : State) (dt : Nat) (o : Org), Quiet s ∧ Accepts s dt o 0x1041_01 0x7C3A) ∧
    (∃ (s : State) (dt : Nat) (o : Org), Quiet s ∧ Accepts s dt o 0x1041_01 0x7C3B) ∧
    (∃ (s : State) (dt : Nat) (b : BootObs), Quiet s ∧ s.dev.rst.stage = .released ∧ s.dev.rst.scope = 3 ∧ b.rom <
      2) ∧
    (∃ (s : State) (dt : Nat) (b : BootObs), Quiet s ∧ s.dev.rst.stage = .released ∧ s.dev.rst.scope ≠ 3 ∧ b.fuse <
      2 ∧ b.rom < 2) ∧
    (∃ (s : State) (dt : Nat) (o : Org) (x : Obs), Quiet s ∧ Accepts s dt o 0x1041_02 0x7C3C ∧ x.busy = false) ∧
    (∃ (s : State) (dt : Nat) (o : Org) (b : List Byte) (x : Obs), Quiet s ∧ x.bad < 2 ∧ fld b 2 1 = 1 ∧ AcceptsB s
      dt o 0x1041_03 b ∧ x.busy = false) ∧
    (∃ (s : State) (dt : Nat) (o : Org), Quiet s ∧ Accepts s dt o 0x1040_0C 1) ∧
    (∃ (s : State) (dt : Nat) (slow : Nat), Quiet s ∧ s.dev.rst.stage = .inReset ∧ s.dev.core.dbg.extest = false) :=
  ⟨⟨tst [] id, 3, 20000, 4, by decide +kernel⟩,
   ⟨tst [(0x1010_07, 1)] id, 3, ⟨.fd0, 3, 5, 7⟩, by decide +kernel⟩,
   ⟨tst [(0x1010_07, 1)] id, 3, ⟨.fd0, 3, 5, 7⟩, by decide +kernel⟩,
   ⟨tst [] fun d => { d with rst := { d.rst with stage := .released, scope := 3 } }, 3000000, bootObs,
    by decide +kernel⟩,
   ⟨State.reset, 3000000, bootObs, by decide +kernel⟩,
   ⟨tst [(0x1010_07, 1), (0x1040_0A, 1)] id, 3, ⟨.fd0, 3, 5, 7⟩, Obs.quiet, by decide +kernel⟩,
   ⟨tst [(0x1010_07, 1)] id, 3, ⟨.fd0, 3, 5, 7⟩, [0x5E#8, 0xF0#8, 1#8, 0#8] ++ zeros 8, Obs.quiet, by decide +kernel⟩,
   ⟨tst [(0x1010_07, 1)] id, 3, ⟨.fd0, 3, 5, 7⟩, by decide +kernel⟩,
   ⟨tst [] fun d => { d with rst := { d.rst with stage := .inReset } }, 3, 4, by decide +kernel⟩⟩

theorem wit_Software_events_raise :
    (∃ (s : State) (dt : Nat) (v : Nat), Quiet s ∧ s.dev.coreOn = true ∧ 94 < s.dev.evc.raises.length ∧ 94 <
      s.dev.evc.details.length) ∧
    (∃ (s : State) (dt : Nat) (v : Nat), Quiet s ∧ s.dev.coreOn = true ∧ 95 < s.dev.evc.raises.length ∧ 95 <
      s.dev.evc.details.length) ∧
    (∃ (s : State) (dt : Nat) (o : Org) (v : Nat), Quiet s ∧ v < 2 ∧ 95 < s.dev.evc.details.length ∧ Accepts s dt o
      0x9200_06 v) :=
  ⟨⟨tst [] id, 3, 5, by decide +kernel⟩,
   ⟨tst [] id, 3, 5, by decide +kernel⟩,
   ⟨tst [(0x1010_07, 1)] id, 3, ⟨.fd0, 3, 5, 7⟩, 1, by decide +kernel⟩⟩

theorem wit_Watchdog_service :
    (∃ (s : State) (dt : Nat) (n v : Nat), Quiet s ∧ s.dev.coreOn = true ∧ n < 2 ∧ (s.dev.wd n).run = true ∧
      (s.dev.wd n).key1 = false ∧ v % 2 ^ 32 = 0x3C5A ∧ (s.dev.wd n).count (s.ctx dt).t ≤ (s.dev.wd n).limit) ∧
    (∃ (s : State) (dt : Nat) (n v : Nat), Quiet s ∧ s.dev.coreOn = true ∧ n < 2 ∧ (s.dev.wd n).run = true ∧
      (s.dev.wd n).key1 = true ∧ v % 2 ^ 32 = 0xC3A5 ∧ (s.dev.wd n).set.opens ≤ (s.dev.wd n).count (s.ctx dt).t ∧
      (s.dev.wd n).count (s.ctx dt).t ≤ (s.dev.wd n).limit) ∧
    (∃ (s : State) (dt : Nat) (n v : Nat), Quiet s ∧ s.dev.coreOn = true ∧ n < 2 ∧ (s.dev.wd n).run = true ∧
      (s.dev.wd n).key1 = true ∧ v % 2 ^ 32 = 0xC3A5 ∧ (s.dev.wd n).set.opens ≤ (s.dev.wd n).count (s.ctx dt).t ∧
      (s.dev.wdSet n).ok n = true ∧ (s.dev.wd n).count (s.ctx dt).t ≤ (s.dev.wd n).limit) ∧
    (∃ (s : State) (dt : Nat) (n v : Nat), Quiet s ∧ s.dev.coreOn = true ∧ n < 2 ∧ (s.dev.wd n).run = true ∧
      (s.dev.wd n).key1 = true ∧ v % 2 ^ 32 = 0xC3A5 ∧ (s.dev.wd n).count (s.ctx dt).t < (s.dev.wd n).set.opens) :=
  ⟨⟨tst [] fun d => { d with wd0 := { run := true }, wd1 := { run := true } }, 3, 1, 0x3C5A, by decide +kernel⟩,
   ⟨tst [] fun d => { d with wd0 := { run := true, key1 := true }, wd1 := { run := true, key1 := true } }, 3, 1,
    0xC3A5, by decide +kernel⟩,
   ⟨tst [] fun d => { d with wd0 := { run := true, key1 := true }, wd1 := { run := true, key1 := true } }, 3, 1,
    0xC3A5, by decide +kernel⟩,
   ⟨tst [] fun d => { d with wd1 := { run := true, key1 := true, t0 := 4000000, set := { w := 4 } } }, 0, 1, 0xC3A5,
    by decide +kernel⟩⟩

theorem wit_Log_sequence :
    (∃ (l : Log), l.next < 2 ^ 32) ∧
    (∃ (d : Dev), 1 ∉ d.rst.want) :=
  ⟨⟨{}, by decide⟩,
   ⟨({} : Dev).wantReset 5, by decide⟩⟩

theorem wit_Log_clear_empties_the_log :
    (∃ (s : State) (dt : Nat) (o : Org), Quiet s ∧ s.dev.nat 0x6300_06 ≠ 2 ∧ Accepts s dt o 0x9400_0A 1) :=
  ⟨tst [(0x1010_07, 1)] fun d =>
    { d with log := { d.log with recs := [⟨1, 3, 0, 0, 5, zeros 12, false⟩], next := 2, fifo := [⟨4, false, 0, 6, 1⟩] } },
    3, ⟨.fd0, 3, 5, 7⟩, by decide +kernel⟩

theorem wit_Events_after_a_reset :
    (∃ (d : Dev), d.rst.want ≠ [] ∧ (d.rst.stage = .up ∨ (d.rst.stage = .released ∧ d.rst.scope = 3) ∨ ∃ w ∈
      d.rst.want, w ≤ 4)) ∧
    (∃ (s : State) (dt : Nat) (b : BootObs), Quiet s ∧ s.dev.rst.stage = .released ∧ s.dev.rst.scope = 3 ∧ b.rom <
      2) :=
  ⟨⟨(tst [] fun d => d.wantReset 5).dev, by decide +kernel⟩,
   ⟨tst [] fun d => { d with rst := { d.rst with stage := .released, scope := 3 } }, 0, bootObs, by decide +kernel⟩⟩

theorem wit_Simultaneous_reset_sources :
    (∃ (d : Dev) (w : Nat) (ws : List Nat), d.rst.want = w :: ws ∧ 1 ∉ d.rst.want ∧ ¬ (9 ≤ ws.foldl min w ∧
      d.rst.stage = .released ∧ d.rst.scope < 3) ∧ ¬ (5 ≤ ws.foldl min w ∧ (d.rst.stage = .dead ∨ d.rst.stage =
      .inReset ∨ d.rst.stage = .off))) :=
  ⟨(tst [] fun d => (d.wantReset 9).wantReset 6).dev, 6, [9], by decide +kernel⟩

theorem wit_Capture_outlives_control_reset_and_doze :
    (∃ (s : State) (dt : Nat) (o : Org), Quiet s ∧ Accepts s dt o 0x1041_01 0x7C3A) ∧
    (∃ (s : State) (dt : Nat) (o : Org), Quiet s ∧ Accepts s dt o 0x1041_01 0x7C3B) ∧
    (∃ (s : State) (dt : Nat), Quiet s ∧ s.dev.mayDoze = true) ∧
    (∃ (s : State) (dt : Nat), Quiet s ∧ s.dev.pwr.st = .doze) :=
  ⟨⟨tst [(0x1010_07, 1), (0x4003_18, 5)] fun d =>
    { d with chans := List.replicate 24 { slots := [{ st := 1 }], writing := some 0 } }, 3, ⟨.fd0, 3, 5, 7⟩,
    by decide +kernel⟩,
   ⟨tst [(0x1010_07, 1), (0x4003_18, 5)] fun d =>
    { d with chans := List.replicate 24 { slots := [{ st := 1 }], writing := some 0 } }, 3, ⟨.fd0, 3, 5, 7⟩,
    by decide +kernel⟩,
   ⟨tst [(0x8000_03, 1), (0x4003_18, 5)] fun d => { d with core := { d.core with waiting := true } }, 9000000,
    by decide +kernel⟩,
   ⟨tst [(0x4003_18, 5)] fun d =>
    { d with chans := List.replicate 24 { slots := [{ st := 1 }], writing := some 0 }, pwr := { d.pwr with st := .doze } },
    3, by decide +kernel⟩⟩

theorem wit_Automatic_reference_choice :
    (∃ (d : Dev), d.nat 0x2110_01 = 1) :=
  ⟨(tst [(0x2110_01, 1)] id).dev, by decide +kernel⟩

theorem wit_New_sample_replaces_the_slew_target :
    (∃ (d : Dev) (old x : Int) (e : Nat), d.clk.target = some old ∧ d.clk.seen = true ∧ e = d.nat 0x1050_0F ∧ x ≠
      d.offset ∧ (x - d.offset).natAbs ≤ d.nat 0x1050_04 * 400) :=
  ⟨(tst [] fun d => { d with clk := { d.clk with target := some 5, seen := true } }).dev, 5, 7, 0,
    by decide +kernel⟩

theorem wit_Invalid_snapshot_is_held :
    (∃ (s : State) (dt : Nat) (o : Org) (y : Nat), Quiet s ∧ y < 4 ∧ y < s.dev.syns.length ∧ 26 <
      s.dev.evc.raises.length ∧ s.dev.synValid y (s.dev.shadowSet y) = false ∧ (s.dev.syn y).held = false ∧ Accepts s
      dt o (synK y 0x09) 1) ∧
    (∃ (s : State) (dt : Nat) (o : Org) (y : Nat), Quiet s ∧ y < 4 ∧ y < s.dev.syns.length ∧ s.dev.synValid y
      (s.dev.shadowSet y) = false ∧ (s.dev.syn y).held = true ∧ Accepts s dt o (synK y 0x09) 1) :=
  ⟨⟨tst [(0x1010_07, 1), (0x2201_07, 1)] id, 0, ⟨.fd0, 3, 5, 7⟩, 1, by decide +kernel⟩,
   ⟨tst [(0x1010_07, 1), (0x2201_07, 1)] fun d => { d with syns := List.replicate 4 { held := true } }, 0, ⟨.fd0, 3,
    5, 7⟩, 1, by decide +kernel⟩⟩

theorem wit_Bad_host_frames_are_discarded :
    (∃ (s : State) (dt : Nat) (x : Obs) (b : List Byte) (r : List (List Byte)), Quiet s ∧ s.dev.host.frames = b :: r
      ∧ s.dev.listening = true ∧ s.dev.hostOn = true ∧ (2 ^ 29 ≤ fld b 0 4 ∨ 64 < fld b 4 2 ∨ fld b 6 2 ≠ 0 ∨ fld b (8
      + fld b 4 2) 4 ≠ crc32c (b.take (8 + fld b 4 2))) ∧ x.busy = false) :=
  ⟨tst [(0x1010_07, 4)] fun d => { d with host := { d.host with frames := [zeros 12] } }, 0, Obs.quiet, zeros 12,
    [], by decide +kernel⟩

theorem wit_Cartridge_identifier_decides_the_slot :
    (∃ (s : State) (dt : Nat) (r : TReq) (data : List Byte) (stalls : Nat), Quiet s ∧ s.dev.title.cur = some (r,
      false) ∧ r.kind = .ident ∧ r.slot < 2 ∧ r.slot < s.dev.title.slots.length ∧ (s.dev.tslot r.slot).ident = [data]
      ∧ (s.dev.tslot r.slot).closing = false ∧ s.dev.powered = true ∧ data.length = 8 ∧ s.dev.titleTxnDue (s.ctx dt) =
      true ∧ s.dev.slotSt r.slot = 1) :=
  ⟨tst [(0x7000_01, 1), (0x7000_02, 1), (0x7000_12, 1)] fun d =>
    { d with title := { d.title with cur := some (⟨0, .ident⟩, false), slots := [{ ident := [le 8 77] }, {}] } }, 0,
    ⟨0, .ident⟩, le 8 77, 0, by decide +kernel⟩

theorem wit_Bad_audio_blocks_are_discarded :
    (∃ (s : State) (dt : Nat) (p ch : Nat) (k : Pkt) (ppb : Int), Quiet s ∧ p < s.portCount ∧ (s.entry.rxPacket p 4
      0 k).2 = true ∧ s.dev.boundChan (s.ctx dt) p = some ch ∧ s.dev.flag (capAudK ch 0x01) = true ∧ (6 < fld
      k.payload 0 1 ∨ fld k.payload 2 1 = 0 ∨ 32 < fld k.payload 2 1 ∨ k.payload.length ≠ 16 + 16 * fld k.payload 2 1)
      ∧ s.dev.nat 0x6300_06 ≠ 2) :=
  ⟨tst [(0x3003_07, 3), (0x3003_02, 0), (0x4002_0C, 1), (0x4002_02, 3), (0x4002_04, 64), (0x4002_05, 4), (0x4002_06,
    24), (0x4002_07, 60), (0x6002_01, 1)] fun d =>
    { d with ports := List.replicate 32 { framed := true, folioRx := some 9 }, lanes := List.replicate 48 { pm := true } },
    5, 3, 2, (sealed 4 0 0 0 1 ([7#8, 0xF#8, 1#8, 0#8] ++ zeros 28)), 100, by decide +kernel⟩

theorem wit_Invalid_folio_opens_no_frame :
    (∃ (s : State) (dt : Nat) (p ch : Nat) (k : Pkt), Quiet s ∧ p < s.portCount ∧ ch < s.dev.chans.length ∧
      (s.entry.rxPacket p 2 0 k).2 = true ∧ s.dev.boundChan (s.ctx dt) p = some ch ∧ (parseFolio k.payload).w = 0 ∨
      (parseFolio k.payload).h = 0 ∨ (parseFolio k.payload).total = 0 ∨ (parseFolio k.payload).den = 0 ∨ (parseFolio
      k.payload).total < (parseFolio k.payload).h ∨ 960 < fld k.payload 30 2) ∧
    (∃ (s : State) (dt : Nat) (p ch : Nat) (k : Pkt), Quiet s ∧ p < s.portCount ∧ (s.entry.rxPacket p 2 0 k).2 =
      true ∧ s.dev.boundChan (s.ctx dt) p = some ch ∧ (parseFolio k.payload).w ≠ 0 ∧ (parseFolio k.payload).h ≠ 0 ∧
      (parseFolio k.payload).den ≠ 0 ∧ (parseFolio k.payload).h ≤ (parseFolio k.payload).total ∧ fld k.payload 30 2 ≤
      960 ∧ s.dev.folioFits ch (parseFolio k.payload) = true) :=
  ⟨⟨tst [(0x3003_07, 3), (0x3003_02, 0), (0x4002_0C, 1), (0x4002_02, 3), (0x4002_04, 64), (0x4002_05, 4), (0x4002_06,
    24), (0x4002_07, 60)] fun d =>
    { d with ports := List.replicate 32 { framed := true, folioRx := some 9 }, lanes := List.replicate 48 { pm := true } },
    3, 3, 2, (sealed 2 0 0 0 0 (le 4 9 ++ le 4 77 ++ le 4 5 ++ le 8 1000 ++ le 2 1 ++ [0#8, 1#8] ++ le 2 0 ++ le 2 4
    ++ le 2 5 ++ le 2 0 ++ le 4 60 ++ le 4 1 ++ [3#8, 0x10#8] ++ zeros 22)), by decide +kernel⟩,
   ⟨tst [(0x3003_07, 3), (0x3003_02, 0), (0x4002_0C, 1), (0x4002_02, 3), (0x4002_04, 64), (0x4002_05, 4), (0x4002_06,
    24), (0x4002_07, 60)] fun d =>
    { d with ports := List.replicate 32 { framed := true, folioRx := some 9 }, lanes := List.replicate 48 { pm := true } },
    3, 3, 2, (sealed 2 0 0 0 0 (le 4 9 ++ le 4 77 ++ le 4 5 ++ le 8 1000 ++ le 2 1 ++ [0#8, 1#8] ++ le 2 64 ++ le 2 4
    ++ le 2 5 ++ le 2 0 ++ le 4 60 ++ le 4 1 ++ [3#8, 0x10#8] ++ zeros 22)), by decide +kernel⟩⟩

theorem wit_Queue_front_runs :
    (∃ (s : State), s.pending = []) :=
  ⟨State.reset, by decide⟩

theorem wit_Commands_leave_the_queue :
    (∃ (i : Instr) (s t : State), exec i s = .next t) :=
  ⟨.slewStep 3, State.reset, _, rfl⟩

theorem wit_Well_formed_commands_complete_on_the_S2424 :
    (∃ (i : Instr) (s : State), i.wf = true ∧ s.fuses.s2412 = false) :=
  ⟨.portEnable 3 ⟨.fd0, 3, 5, 7⟩ 2, State.reset, by decide⟩

theorem wit_Steps_keep_the_machine_safe :
    (∃ (s t : State), (s.dev.Settled ∧ s.dev.SafeOutputs ∧ s.dev.GatedOutputs) ∧ step s = .next t) ∧
    (∃ (i : Instr) (s t : State), exec i s = .next t) :=
  ⟨⟨State.reset, State.reset, ⟨⟨rfl, rfl, rfl, rfl, by decide +kernel⟩, (fun h => by cases h), (fun i _ _ _ =>
    Nat.zero_testBit i)⟩, rfl⟩,
   ⟨.heartbeat 3, State.reset, _, rfl⟩⟩

theorem wit_Local_time_never_runs_back :
    (∃ (i : Instr) (s t : State), (∀ dt, i ≠ .powerOn dt) ∧ exec i s = .next t) ∧
    (∃ (s : State), Quiet s) :=
  ⟨⟨.heartbeat 3, State.reset, _, ⟨(fun _ h => nomatch h), rfl⟩⟩,
   ⟨State.reset, by decide⟩⟩

theorem wit_Fuses_only_blow :
    (∃ (i : Instr) (s t : State), exec i s = .next t) :=
  ⟨.heartbeat 3, State.reset, _, rfl⟩

theorem wit_Staged_writes :
    (∃ (s : State) (dt : Nat) (f : Req) (x : Obs) (base n : Nat) (r : Obj) (v : Val), Quiet s ∧ f.dest ≠ 255 ∧
      (s.taken dt 0x03 f).2 = true ∧ (s.taken dt 0x03 f).1.stored (s.ctx dt) ((s.taken dt 0x03 f).1.orgOf f) (canId
      f.prio 0x03 f.dest f.src f.tag) f.data = none ∧ headerCodes f.data = [] ∧ (parseHdr f.data).len ≤ 56 ∧ 8 +
      (parseHdr f.data).len ≤ f.data.length ∧ (s.taken dt 0x03 f).1.writeCodes (s.ctx dt) (parseHdr f.data).key
      (parseHdr f.data).ty ((f.data.drop 8).take (parseHdr f.data).len) false = [] ∧ lookup (s.ctx dt).s12 (parseHdr
      f.data).key = .row base n r ∧ r.acc = .rws ∧ decodeVal r.ty ((f.data.drop 8).take (parseHdr f.data).len) = some
      v ∧ x.busy = false) :=
  ⟨tst [(0x1010_07, 1)] fun d =>
    { d with itp := { d.itp with quoin := { st := .armed }, staged := [⟨0x5100_0E, .num 1, 0⟩] } }, 0, ⟨0, true, 2,
    16, 5, 7, Hdr.bytes ⟨0, 2, 0x5100, 0x0E, 1⟩ ++ [3#8]⟩, Obs.quiet, 0x5100, 0, ⟨0x0E, .u8, .rws, true, .num 0, [(0,
    15)]⟩, .num 3, by decide +kernel⟩

theorem wit_Access_classes_refuse :
    (∃ (c : Ctx) (k base n : Nat) (o : Obj), lookup c.s12 k = .row base n o ∧ o.acc = .ro) ∧
    (∃ (c : Ctx) (k base n : Nat) (o : Obj), lookup c.s12 k = .row base n o ∧ o.acc = .wo) :=
  ⟨⟨⟨0, 0, false, {}, 0⟩, 0x1000_01, 0x1000, 0, ⟨0x01, .u32, .ro, false, .num 0x0046_5246, []⟩, by decide +kernel⟩,
   ⟨⟨0, 0, false, {}, 0⟩, 0x1041_03, 0x1041, 0, ⟨0x03, .dom, .wo, false, .bytes [], [(12, 12)]⟩, by decide +kernel⟩⟩

theorem wit_Route_entries :
    (∃ (c : Ctx), c.s12 = false) ∧
    (∃ (w k : Nat), w < 64 ∧ k < 16) :=
  ⟨⟨⟨0, 0, false, {}, 0⟩, rfl⟩,
   ⟨63, 15, by decide⟩⟩

theorem wit_Bus_accesses_store_their_own_bytes :
    (∃ (s : State) (dt master id mem : Nat) (ext b : List Byte) (vacant : Bool) (r : BusReq), Quiet s ∧ busRoute r =
      .mem ∧ r.wdata = some b ∧ s.dev.answers master id = some r) ∧
    (∃ (s : State) (dt size addr data mem : Nat) (ext : List Byte) (vacant : Bool), Quiet s ∧ s.dev.debugOn = true ∧
      (size = 1 ∨ size = 2 ∨ size = 4) ∧ addr % size = 0 ∧ busRoute ⟨3, 0, addr % 2 ^ 32, size, some (le size data),
      false, false, s.dev.core.remap, s.dev.core.apw, false⟩ = .mem) ∧
    (∃ (s : State) (dt master id mem : Nat) (ext : List Byte) (vacant : Bool) (r : BusReq), Quiet s ∧ busRoute r =
      .mem ∧ r.wdata = none ∧ s.dev.answers master id = some r ∧ mem ≠ 2) ∧
    (∃ (s : State) (dt size addr data mem : Nat) (ext : List Byte) (vacant : Bool), Quiet s ∧ s.dev.debugOn = true ∧
      (size = 1 ∨ size = 2 ∨ size = 4) ∧ addr % size = 0 ∧ busRoute ⟨3, 0, addr % 2 ^ 32, size, none, false, false,
      s.dev.core.remap, s.dev.core.apw, false⟩ = .mem ∧ mem ≠ 2) ∧
    (∃ (s : State) (dt id addr len mem : Nat) (b : List Byte) (user parity : Bool), Quiet s ∧ s.dev.coreOn = true ∧
      id < 4 ∧ len ≠ 0 ∧ busRoute ⟨1, id, addr % 2 ^ 32, len, some b, false, user, s.dev.core.remap, [], false⟩ = .mem
      ∧ (tgtNo ⟨1, id, addr % 2 ^ 32, len, some b, false, user, s.dev.core.remap, [], false⟩ = 1 ∨ tgtNo ⟨1, id, addr
      % 2 ^ 32, len, some b, false, user, s.dev.core.remap, [], false⟩ = 2)) ∧
    (∃ (s : State) (dt id addr len mem : Nat) (user parity : Bool), Quiet s ∧ s.dev.coreOn = true ∧ id < 4 ∧ len ≠ 0
      ∧ busRoute ⟨1, id, addr % 2 ^ 32, len, none, false, user, s.dev.core.remap, [], false⟩ = .mem ∧ (tgtNo ⟨1, id,
      addr % 2 ^ 32, len, none, false, user, s.dev.core.remap, [], false⟩ = 1 ∨ tgtNo ⟨1, id, addr % 2 ^ 32, len,
      none, false, user, s.dev.core.remap, [], false⟩ = 2) ∧ mem ≠ 2) :=
  ⟨⟨tst [] (fun d =>
    { d with core := { d.core with issued := [⟨2, 0, 0x1000_0000, 4, some [1#8, 2#8, 3#8, 4#8], false, false, false, [], false⟩] } }),
    3, 2, 0, 0, [], [1#8, 2#8, 3#8, 4#8], false, ⟨2, 0, 0x1000_0000, 4, some [1#8, 2#8, 3#8, 4#8], false, false,
    false, [], false⟩, by decide +kernel⟩,
   ⟨tst [] id, 3, 4, 0x1000_0000, 0x1234_5678, 0, [], false, by decide +kernel⟩,
   ⟨tst [] (fun d =>
    { d with core := { d.core with issued := [⟨1, 0, 0x1000_0000, 4, none, false, false, false, [], false⟩] } }), 3,
    1, 0, 3, [], false, ⟨1, 0, 0x1000_0000, 4, none, false, false, false, [], false⟩, by decide +kernel⟩,
   ⟨tst [] id, 3, 4, 0x1000_0000, 0, 0, [], false, by decide +kernel⟩,
   ⟨tst [] id, 3, 0, 0x0801_0000, 4, 0, [1#8, 2#8, 3#8, 4#8], false, false, by decide +kernel⟩,
   ⟨tst [] id, 3, 0, 0x0801_0000, 4, 1, false, false, by decide +kernel⟩⟩

theorem wit_Failing_ports_discard_their_packets :
    (∃ (s : State) (dt : Nat) (p : Nat), Quiet s ∧ p < s.portCount ∧ p < s.dev.ports.length ∧ (s.dev.portSt p = 4 ∨
      s.dev.portSt p = 6) ∧ (s.dev.port p).begT + 800000 ≤ (s.ctx dt).t) ∧
    (∃ (s : State) (dt : Nat) (p : Nat), Quiet s ∧ p < s.portCount ∧ p < s.dev.ports.length ∧ s.dev.portSt p = 2 ∧
      (s.dev.port p).attempt ≠ 1 ∧ (s.dev.port p).begT + 20000000 ≤ (s.ctx dt).t) :=
  ⟨⟨tst [(0x3003_07, 4)] (fun d => { d with ports := List.replicate 32 { mgmt := [⟨6, 1, 0, [], 5⟩] } }), 800000, 3,
    by decide +kernel⟩,
   ⟨tst [(0x3003_07, 2)] (fun d =>
    { d with ports := List.replicate 32 { attempt := 2, mgmt := [⟨6, 1, 0, [], 5⟩] } }), 20000000, 3,
    by decide +kernel⟩⟩

theorem wit_Bad_block_pointers_are_counted :
    (∃ (s : State) (dt p : Nat) (b : List Nat), Quiet s ∧ p < s.portCount ∧ s.dev.takes p = true ∧ s.dev.saf.entered
      = false ∧ s.dev.rxBlock p = some b ∧ bits (nthN b 0) 0 16 + bits (nthN b 0) 16 16 ≠ 65535) :=
  ⟨tst [(0x3003_07, 3), (0x3003_04, 1), (0x310C_0C, 0)] (fun d =>
    { d with lanes := List.replicate 48 { pm := true, block := some (9, true, [78]) } }), 0, 3, [78],
    by decide +kernel⟩

theorem wit_Safety_outlives_control_reset_halt_and_doze :
    (∃ (s : State) (dt : Nat) (o : Org), Quiet s ∧ s.dev.pins = s.dev.settlePins.pins ∧ s.dev.saf.entered = false ∧
      Accepts s dt o 0x1041_01 0x7C3A) ∧
    (∃ (s : State) (dt : Nat) (pc priv : Nat) (x : List Nat), Quiet s ∧ s.dev.pins = s.dev.settlePins.pins ∧
      s.dev.saf.entered = false) ∧
    (∃ (s : State) (dt : Nat), Quiet s ∧ s.dev.pins = s.dev.settlePins.pins ∧ s.dev.saf.entered = false) ∧
    (∃ (s : State) (dt : Nat), Quiet s ∧ s.dev.pins = s.dev.settlePins.pins ∧ s.dev.saf.entered = false) ∧
    (∃ (s : State) (dt : Nat) (v : Nat), Quiet s ∧ s.dev.core.halted = true) :=
  ⟨⟨tst [(0x1010_07, 1), (0x9000_01, 2), (0x8000_03, 1)] fun d =>
    ({ d with saf := { d.saf with conds := [(5, 2)] } }).settlePins, 3, ⟨.fd0, 3, 5, 7⟩, by decide +kernel⟩,
   ⟨tst [(0x1010_07, 1), (0x9000_01, 2), (0x8000_03, 1)] fun d =>
    ({ d with saf := { d.saf with conds := [(5, 2)] } }).settlePins, 3, 0x1000_0000, 3, List.replicate 32 0,
    by decide +kernel⟩,
   ⟨tst [(0x1010_07, 1), (0x9000_01, 2), (0x8000_03, 1)] fun d =>
    ({ d with saf := { d.saf with conds := [(5, 2)] } }).settlePins, 3, by decide +kernel⟩,
   ⟨tst [(0x1010_07, 1), (0x9000_01, 2), (0x8000_03, 1)] fun d =>
    ({ d with saf := { d.saf with conds := [(5, 2)] }, pwr := { d.pwr with st := .doze } }).settlePins, 3,
    by decide +kernel⟩,
   ⟨tst [(0x9000_01, 2)] fun d => { d with core := { d.core with halted := true } }, 3, 0x5AFE_0001,
    by decide +kernel⟩⟩

theorem wit_Frame_of_access :
    (∃ (i : Instr) (s t : State), familyOf i = .access ∧ RunsUp i s t) :=
  ⟨.heartbeat 0, tst [] id, _, rfl, ⟨rfl, rfl, rfl⟩, rfl, rfl, rfl, by decide +kernel⟩

theorem wit_Frame_of_timebase :
    (∃ (i : Instr) (s t : State), familyOf i = .timebase ∧ RunsUp i s t) :=
  ⟨.slewStep 0, tst [] id, _, rfl, ⟨rfl, rfl, rfl⟩, rfl, rfl, rfl, by decide +kernel⟩

theorem wit_Frame_of_genlock :
    (∃ (i : Instr) (s t : State), familyOf i = .genlock ∧ RunsUp i s t) :=
  ⟨.genlockLocked 0, tst [] id, _, rfl, ⟨rfl, rfl, rfl⟩, rfl, rfl, rfl, by decide +kernel⟩

theorem wit_Frame_of_synthesis :
    (∃ (i : Instr) (s t : State), familyOf i = .synthesis ∧ RunsUp i s t) :=
  ⟨.glideEnd 0 0, tst [] id, _, rfl, ⟨rfl, rfl, rfl⟩, rfl, rfl, rfl, by decide +kernel⟩

theorem wit_Frame_of_lanes :
    (∃ (i : Instr) (s t : State), familyOf i = .lanes ∧ RunsUp i s t) :=
  ⟨.eyeScanPointEnd 0 0 0, tst [] id, _, rfl, ⟨rfl, rfl, rfl⟩, rfl, rfl, rfl, by decide +kernel⟩

theorem wit_Frame_of_links :
    (∃ (i : Instr) (s t : State), familyOf i = .links ∧ RunsUp i s t) :=
  ⟨.flowPeriodic 0 0, tst [] id, _, rfl, ⟨rfl, rfl, rfl⟩, rfl, rfl, rfl, by decide +kernel⟩

theorem wit_Frame_of_video :
    (∃ (i : Instr) (s t : State), familyOf i = .video ∧ RunsUp i s t) :=
  ⟨.holdTimeEnd 0 0, tst [] id, _, rfl, ⟨rfl, rfl, rfl⟩, rfl, rfl, rfl, by decide +kernel⟩

theorem wit_Frame_of_audio :
    (∃ (i : Instr) (s t : State), familyOf i = .audio ∧ RunsUp i s t) :=
  ⟨.deviceAudioTick 0 [] [] [], tst [] id, _, rfl, ⟨rfl, rfl, rfl⟩, rfl, rfl, rfl, by decide +kernel⟩

theorem wit_Frame_of_ports_and_streams :
    (∃ (i : Instr) (s t : State), familyOf i = .ports ∧ RunsUp i s t) ∧
    (∃ (i : Instr) (s t : State), familyOf i = .streams ∧ RunsUp i s t) :=
  ⟨⟨.hpselNRise 0 0, tst [] id, _, rfl, ⟨rfl, rfl, rfl⟩, rfl, rfl, rfl, by decide +kernel⟩,
   ⟨.titleStreamStopped 0 0, tst [] id, _, rfl, ⟨rfl, rfl, rfl⟩, rfl, rfl, rfl, by decide +kernel⟩⟩

theorem wit_Frame_of_core :
    (∃ (i : Instr) (s t : State), familyOf i = .core ∧ RunsUp i s t) :=
  ⟨.timer 0 0, tst [] id, _, rfl, ⟨rfl, rfl, rfl⟩, rfl, rfl, rfl, by decide +kernel⟩

theorem wit_Frame_of_events :
    (∃ (i : Instr) (s t : State), familyOf i = .events ∧ RunsUp i s t) :=
  ⟨.earlyWarning 0 0, tst [] id, _, rfl, ⟨rfl, rfl, rfl⟩, rfl, rfl, rfl, by decide +kernel⟩

theorem wit_Frame_of_power :
    (∃ (i : Instr) (s t : State), familyOf i = .power ∧ RunsUp i s t) :=
  ⟨.gpioInput 0 0 true, tst [] id, _, rfl, ⟨rfl, rfl, rfl⟩, rfl, rfl, rfl, by decide +kernel⟩

theorem wit_Instances_stay_apart :
    (∃ (i : Instr) (s t : State), (∃ dt y, i = .glideEnd dt y) ∧ RunsUp i s t) ∧
    (∃ (i : Instr) (s t : State), (∃ dt y, i = .missingEdge dt y) ∧ RunsUp i s t) ∧
    (∃ (i : Instr) (s t : State), (∃ dt y, i = .markPulse dt y) ∧ RunsUp i s t) ∧
    (∃ (i : Instr) (s t : State), (∃ dt y h, i = .framingError dt y h) ∧ RunsUp i s t) ∧
    (∃ (i : Instr) (s t : State), (∃ dt y, i = .holdTimeEnd dt y) ∧ RunsUp i s t) ∧
    (∃ (i : Instr) (s t : State), (∃ dt y, i = .captureInputLost dt y) ∧ RunsUp i s t) ∧
    (∃ (i : Instr) (s t : State), (∃ dt y, i = .audioInputLost dt y) ∧ RunsUp i s t) ∧
    (∃ (i : Instr) (s t : State), (∃ dt y, i = .earlyWarning dt y) ∧ RunsUp i s t) :=
  ⟨⟨.glideEnd 0 0, tst [] id, _, ⟨0, 0, rfl⟩, ⟨rfl, rfl, rfl⟩, rfl, rfl, rfl, by decide +kernel⟩,
   ⟨.missingEdge 0 0, tst [] id, _, ⟨0, 0, rfl⟩, ⟨rfl, rfl, rfl⟩, rfl, rfl, rfl, by decide +kernel⟩,
   ⟨.markPulse 0 0, tst [] id, _, ⟨0, 0, rfl⟩, ⟨rfl, rfl, rfl⟩, rfl, rfl, rfl, by decide +kernel⟩,
   ⟨.framingError 0 0 0, tst [] id, _, ⟨0, 0, 0, rfl⟩, ⟨rfl, rfl, rfl⟩, rfl, rfl, rfl, by decide +kernel⟩,
   ⟨.holdTimeEnd 0 0, tst [] id, _, ⟨0, 0, rfl⟩, ⟨rfl, rfl, rfl⟩, rfl, rfl, rfl, by decide +kernel⟩,
   ⟨.captureInputLost 0 0, tst [] id, _, ⟨0, 0, rfl⟩, ⟨rfl, rfl, rfl⟩, rfl, rfl, rfl, by decide +kernel⟩,
   ⟨.audioInputLost 0 0, tst [] id, _, ⟨0, 0, rfl⟩, ⟨rfl, rfl, rfl⟩, rfl, rfl, rfl, by decide +kernel⟩,
   ⟨.earlyWarning 0 0, tst [] id, _, ⟨0, 0, rfl⟩, ⟨rfl, rfl, rfl⟩, rfl, rfl, rfl, by decide +kernel⟩⟩
end

/-!
SUPPORT. The statements on the whole machine: which commands complete, local time, and the state the power-on reset leaves.
-/
namespace Sys2Proof.Machine

/-! ## Which commands complete (Table 0.1, R2) -/

/-- Every command answers a next state, or stops because the variant lacks the unit it names. -/
theorem exec_next_or_absentUnit (i : Instr) (s : State) :
    (∃ t, exec i s = .next t) ∨ exec i s = .fault .absentUnit := by
  obtain ⟨dt, f, h⟩ | h | ⟨dt, rfl⟩ := exec_acts i s
  · exact .inl ⟨_, h⟩
  · exact .inr h
  · exact .inl ⟨_, rfl⟩

/-- An event completes where the variant has the unit it names. -/
theorem State.actOn_next (s : State) {present : Bool} {dt : Nat} {f : Ctx → Dev → Dev} (h : present = true) :
    ∃ t, s.actOn present dt f = .next t := by
  subst h
  exact ⟨_, rfl⟩

theorem State.count_of_s2424 {s : State} (h : s.fuses.s2412 = false) (n24 n12 : Nat) : s.count n24 n12 = n24 := by
  simp [State.count, h]

theorem State.portCount_of_s2424 {s : State} (h : s.fuses.s2412 = false) : s.portCount = 32 := count_of_s2424 h 32 16

theorem State.laneCount_of_s2424 {s : State} (h : s.fuses.s2412 = false) : s.laneCount = 48 := count_of_s2424 h 48 24

/-- A command that names no unit of the variant completes on every state; an event that names a unit, where that lies
within the spec's range, on the S2424. -/
theorem exec_next_of_wf {i : Instr} {s : State} (hw : i.wf = true) (hs : s.fuses.s2412 = false) :
    ∃ t, exec i s = .next t := by
  cases i with
  | managementItp | signalDetect | cdrLock | dfeConvergence | trainingAttemptTimeout | retrainTimeout
  | failedPortReturn | blockPointer | framingError | packetRejected | flow | flowPeriodic | creditTimeout
  | ackTimeout | timeSyncPeriod | timeSync | timeFollow | timeDreq | timeDrsp | safeNotice | folio | videoLine
  | audioBlock | echo | repairRequest | packetEnd =>
    simp only [Instr.wf, Bool.and_eq_true, decide_eq_true_eq] at hw
    exact s.actOn_next (by simp [State.portCount_of_s2424 hs, hw])
  | laneMarker | signalLost | adaptationUpdate =>
    simp only [Instr.wf, Bool.and_eq_true, decide_eq_true_eq] at hw
    exact s.actOn_next (by simp [State.laneCount_of_s2424 hs, hw])
  | quadPllLock | quadPllUnlock | captureInputLost | audioInputLost | audioBlockSend | formeFrameStart | rowFetch
  | rowLaunch =>
    simp only [Instr.wf, Bool.and_eq_true, decide_eq_true_eq] at hw
    exact s.actOn_next (by simp [State.count_of_s2424 hs, hw])
  | asrcLock dt a =>
    simp only [Instr.wf, Bool.and_eq_true, decide_eq_true_eq] at hw
    obtain ⟨-, ha⟩ := hw
    exact s.actOn_next (by simp [State.count_of_s2424 hs]; omega)
  | canFdBusOff | referenceEdge | missingEdge | frequencyGateEnd | waitToRestoreEnd | markPulse | bandSearchDone
  | synthesizerLocked | lockingTimeout | synthesizerLockLost | synthesizerReferenceLost | gatedTimeout | glideEnd
  | profileUpdate | holdTimeEnd | tdmFrameSync | audioTdmClockLost | windowRead | windowWrite | coalesceTimeEnd
  | statusPoll | fillComplete | headerCheck | streamEnqueue | titleStreamStopped | seatenRise | inrushBlankingEnd
  | seatFault | retryDelayEnd | pgGood | railFault | adcConversion | supplyOutOfRange | supplyBackInWindow
  | brownout | gpioInput | earlyWarning | evcAck | dmaEnable | dmaDisable | tmrCmphi | timer | wdgCtl | wdgSvc
  | apwCtl =>
    simp only [Instr.wf, Bool.and_eq_true, decide_eq_true_eq] at hw
    exact s.actOn_next (by simp [hw])
  | _ => exact ⟨_, rfl⟩

/-! ## Local time (R131, R134) -/

theorem State.time_le_tau (s : State) (dt : Nat) : s.time ≤ s.tau dt := by
  unfold State.tau
  split <;> omega

/-- The frame of every command only adds to local time: the ticks passed, and those AON counted (R163). -/
theorem State.time_le_of_act {s t : State} {dt : Nat} {f : Ctx → Dev → Dev} (h : s.act dt f = .next t) :
    s.time ≤ t.time := by
  cases h
  exact le_trans (s.time_le_tau dt) (Nat.le_add_right _ _)

/-- Every command but POWER_ON leaves local time at least where it was. -/
theorem exec_time_le {i : Instr} {s t : State} (hp : ∀ dt, i ≠ .powerOn dt) (h : exec i s = .next t) :
    s.time ≤ t.time := by
  obtain ⟨dt, f, ha⟩ | ha | ⟨dt, rfl⟩ := exec_acts i s
  · exact State.time_le_of_act (ha.symm.trans h)
  · exact nomatch ha.symm.trans h
  · exact absurd rfl (hp dt)

/-! ## What the end of a command leaves of the ITP's state (R760) -/

/-- What queueing frames for the host may write of the ITP's state. -/
def Dev.HostQOf (d x : Dev) : Prop := ∃ q, x.itp = { d.itp with hostQ := q }

/-- The ITP's state and that of resets are as they were. -/
def Dev.ItpRstOf (d x : Dev) : Prop := x.itp = d.itp ∧ x.rst = d.rst

theorem Dev.ItpRstOf.trans {d x y : Dev} (h : d.ItpRstOf x) (g : x.ItpRstOf y) : d.ItpRstOf y :=
  ⟨g.1.trans h.1, g.2.trans h.2⟩

theorem Dev.HostQOf.quoin {d x : Dev} (h : d.HostQOf x) : x.itp.quoin = d.itp.quoin := by
  obtain ⟨_, e⟩ := h
  rw [e]

theorem Dev.toHost_hostQ (d : Dev) (kept front : Bool) (m : Msg) : d.HostQOf (d.toHost kept front m) := by
  unfold Dev.toHost
  exact ite_pred d.HostQOf ⟨_, rfl⟩ (ite_pred d.HostQOf ⟨_, rfl⟩ (ite_pred d.HostQOf ⟨_, rfl⟩
    (ite_pred d.HostQOf ⟨_, rfl⟩ ⟨_, Dev.setN_itp ..⟩)))

theorem Dev.sendEvents_hostQ (d : Dev) : d.HostQOf d.sendEvents := by
  unfold Dev.sendEvents
  refine foldl_pred d.HostQOf _ ?_ _ ⟨_, rfl⟩
  rintro x m ⟨q, hx⟩
  obtain ⟨q', hq⟩ := (x.sendBoth ⟨1, 0x10, 255, none, evBytes m⟩).toHost_hostQ false false ⟨1, 0x10, 255, none, evBytes m⟩
  exact ⟨q', hq.trans (by rw [Dev.sendBoth_itp, hx])⟩

theorem Dev.safeNotices_itpRst (d : Dev) (c : Ctx) (w : Nat) (h : d.rst.want = []) : d.ItpRstOf (d.safeNotices c w) := by
  obtain ⟨_, e⟩ := d.safeNotices_eta c w h
  rw [e]
  exact ⟨rfl, rfl⟩

theorem Dev.settleSeats_itpRst (d : Dev) : d.ItpRstOf d.settleSeats := by
  obtain ⟨_, _, e⟩ := d.settleSeats_eta
  rw [e]
  exact ⟨rfl, rfl⟩

theorem Dev.settleAudio_itpRst (d : Dev) (c : Ctx) : d.ItpRstOf (d.settleAudio c) := by
  obtain ⟨_, _, _, e⟩ := d.settleAudio_eta c
  rw [e]
  exact ⟨rfl, rfl⟩

theorem Dev.dispatch_itp (d : Dev) (c : Ctx) : (d.dispatch c).itp = d.itp := by
  obtain ⟨_, _, e⟩ := d.dispatch_eta c
  rw [e]

/-- Where no reset is asked for, what ends a command changes nothing of the ITP's state but the frames for the host. -/
theorem Dev.settle_hostQ (d : Dev) (c : Ctx) (h : d.rst.want = []) : d.HostQOf (d.settle c) := by
  unfold Dev.settle
  extract_lets n0 f0 d1 d2 d3 d4
  have h0 : d.ItpRstOf n0 := d.safeNotices_itpRst c _ h
  clear_value n0
  have h1 : d.ItpRstOf d1 := ite_pred d.ItpRstOf ⟨h0.1, h0.2⟩ ⟨rfl, rfl⟩
  have h2 : d.ItpRstOf d2 := (h1.trans d1.settleSeats_itpRst).trans (d1.settleSeats.settleAudio_itpRst c)
  have h3 : d3.itp = d.itp := by
    show (Dev.dispatch (Dev.takeReset d2 c) c).itp = d.itp
    rw [Dev.takeReset_none d2 c (by rw [h2.2, h]), Dev.dispatch_itp, h2.1]
  clear_value d3
  have h4 : d3.HostQOf d4 := ite_pred d3.HostQOf d3.sendEvents_hostQ ⟨_, rfl⟩
  obtain ⟨q, hq⟩ := h4
  exact ⟨q, by rw [← h3]; exact hq⟩

/-- A command whose effect asks for no reset leaves the ITP's state as its effect does, but for the frames for the host. -/
theorem State.act_hostQ (s : State) (dt : Nat) (f : Ctx → Dev → Dev) (h : (f (s.ctx dt) s.entry).rst.want = []) :
    ∃ t, s.act dt f = .next t ∧ (f (s.ctx dt) s.entry).HostQOf t.dev := by
  obtain ⟨q, hq⟩ := Dev.settle_hostQ _ (s.ctx dt) h
  refine ⟨_, rfl, q, ?_⟩
  dsimp only
  exact hq

/-! ## SLEW_STEP (R148) -/

/-- SLEW_STEP runs in the frame of every command, and its effect writes neither the ITP's state nor that of resets. -/
theorem exec_slewStep_itpRst (dt : Nat) (s : State) :
    ∃ f, exec (.slewStep dt) s = s.act dt f ∧ ∀ c (d : Dev), d.ItpRstOf (f c d) := by
  refine ⟨_, show exec (.slewStep dt) s = execSlewStep dt s from rfl, fun c d => ?_⟩
  dsimp only
  cases d.clk.target with
  | none => exact ⟨rfl, rfl⟩
  | some g =>
    have hI (o : Int) : d.ItpRstOf (d.setI 0x1050_03 o) := ⟨Dev.setI_itp .., Dev.setI_rst ..⟩
    refine ite_pred d.ItpRstOf ⟨rfl, rfl⟩ (ite_pred d.ItpRstOf ?_ (hI _))
    exact (hI _).trans ⟨Dev.setN_itp .., Dev.setN_rst ..⟩

/-- A step of the slew leaves the quoin, its quoin time in local ticks included, as it is. -/
theorem slewStep_keeps_quoin (dt : Nat) (s : State) (h : Quiet s) :
    Completes (.slewStep dt) s fun t => t.dev.itp.quoin = s.dev.itp.quoin := by
  obtain ⟨f, he, hf⟩ := exec_slewStep_itpRst dt s
  obtain ⟨hwant, -, -⟩ := h
  obtain ⟨hi, hr⟩ := hf (s.ctx dt) s.entry
  obtain ⟨t, ht, hq⟩ := s.act_hostQ dt f (by rw [hr]; exact hwant)
  exact ⟨t, he.trans ht, hq.quoin.trans (congrArg Itp.quoin hi)⟩

/-! ## The machine right after the power-on reset (R28, R875, R877) -/

theorem reset_settled : State.reset.dev.Settled := ⟨rfl, rfl, rfl, rfl, rfl⟩

theorem reset_safeOutputs : State.reset.dev.SafeOutputs := by
  intro h
  exact absurd h Bool.false_ne_true

theorem reset_gatedOutputs : State.reset.dev.GatedOutputs := by
  intro i _ _ _
  have hsyn : State.reset.dev.pins.syn = 0 := rfl
  rw [hsyn]
  exact Nat.zero_testBit i

/-! ## The obligations -/

/-- Settles O35: `exec_acts` gives the three answers a command has; a well-formed one names a unit the S2424 has. -/
theorem wellFormedCommandsCompleteOnTheS2424 : Obligations.Well_formed_commands_complete_on_the_S2424 :=
  ⟨exec_next_or_absentUnit, fun _ _ => exec_next_of_wf⟩

/-- Settles O38: the frame of every command only adds ticks; SLEW_STEP writes the timebase alone, and what ends it changes
of the ITP's state only the frames for the host. -/
theorem localTimeNeverRunsBack : Obligations.Local_time_never_runs_back :=
  ⟨fun _ _ _ => exec_time_le, fun _ _ => ⟨_, rfl, rfl⟩, slewStep_keeps_quoin⟩

/-- Settles O36: the pins of `State.reset` are those its state asks for, SAFE_N low and every synthesizer output still. -/
theorem resetIsASafeMachine : Obligations.Reset_is_a_safe_machine :=
  ⟨reset_settled, reset_safeOutputs, reset_gatedOutputs⟩

/-- Settles O40: the reset state read field by field, its objects at their defaults; POWER_ON answers that state with the
MRAM and the fuses of the old one. -/
theorem powerOnState : Obligations.Power_on_state := by
  unfold Obligations.Power_on_state
  refine ⟨⟨rfl, rfl, rfl, rfl, rfl, rfl, rfl, rfl, rfl, rfl, rfl, rfl, rfl, ?ports, ?synths, rfl, rfl, rfl, rfl⟩,
    fun dt s => ⟨_, rfl, rfl, rfl, rfl, rfl, rfl, rfl, rfl, rfl, rfl, rfl, rfl, rfl⟩⟩
  case ports => decide
  case synths => decide

end Sys2Proof.Machine

/-!
SUPPORT. Frames: what an event, a message and the end of every command leave as it was, part by part, and the frame of a
command from that of its effect.
-/
namespace Sys2Proof.Machine

/-! ## Reading an object -/

/-- An object's value lies in the object store alone. -/
theorem Dev.get_of_obj {d x : Dev} (h : x.obj = d.obj) (k : Nat) : x.get k = d.get k := by
  unfold Dev.get
  rw [h]

theorem Dev.nat_of_get {d x : Dev} {k : Nat} (h : x.get k = d.get k) : x.nat k = d.nat k := by
  unfold Dev.nat Dev.int
  rw [h]

theorem Dev.flag_of_get {d x : Dev} {k : Nat} (h : x.get k = d.get k) : x.flag k = d.flag k := by
  unfold Dev.flag Dev.int
  rw [h]

theorem Dev.get_setN_ne (d : Dev) (k j n : Nat) (h : j ≠ k) : (d.setN k n).get j = d.get j := d.get_set_ne k j _ h

theorem Dev.get_inc_ne (d : Dev) (k j : Nat) (h : j ≠ k) : (d.inc k).get j = d.get j := d.get_set_ne k j _ h

theorem Dev.nat_inc_same (d : Dev) (k : Nat) : (d.inc k).nat k = (d.nat k + 1) % 2 ^ 32 := d.nat_setN_same k _

/-- A raise counts in no object but those of dropped messages and records. -/
theorem Dev.get_raiseF (d : Dev) (c : Ctx) (b : Bool) (ev n k : Nat) (h4 : k ≠ 0x9200_04) (h5 : k ≠ 0x9200_05)
    (hl : k ≠ 0x9400_05) : (d.raiseF c b ev n).get k = d.get k := by
  unfold Dev.raiseF
  extract_lets r e0 m e1 e2 d1 d2
  let P (x : Dev) : Prop := x.get k = d.get k
  have h1 : P d1 := rfl
  have h2 : P d2 := ite_pred P (ite_pred P (d1.get_inc_ne _ k h4) (ite_pred P (d1.get_inc_ne _ k h5) rfl)) h1
  clear_value d2
  refine ite_pred P (ite_pred P ?_ h2) h2
  exact (Dev.get_inc_ne _ _ k hl).trans h2

/-! ## Frames: the parts a change leaves as they are -/

theorem SameFields.refl (p : Part) (d : Dev) : SameFields p d d := by
  cases p <;> simp [SameFields]

theorem SameFields.trans {p : Part} {d x y : Dev} (h : SameFields p d x) (g : SameFields p x y) : SameFields p d y := by
  cases p <;> simp_all [SameFields]

/-- From `d` to `x` no part changes but those listed. -/
def Dev.Keeps (l : List Part) (d x : Dev) : Prop := ∀ p, p ∉ l → Same p d x

namespace Dev.Keeps

variable {l m : List Part} {d x y : Dev}

theorem refl (l : List Part) (d : Dev) : d.Keeps l d := fun p _ => ⟨.refl p d, fun _ _ => rfl⟩

theorem trans (h : d.Keeps l x) (g : x.Keeps l y) : d.Keeps l y := fun p hp =>
  ⟨(h p hp).1.trans (g p hp).1, fun k hk => ((g p hp).2 k hk).trans ((h p hp).2 k hk)⟩

/-- `trans` from the last change back. -/
theorem after (g : x.Keeps l y) (h : d.Keeps l x) : d.Keeps l y := h.trans g

/-- A change of fields alone. -/
theorem of_fields (ho : x.obj = d.obj) (h : ∀ p, p ∉ l → SameFields p d x) : d.Keeps l x := fun p hp =>
  ⟨h p hp, fun k _ => Dev.get_of_obj ho k⟩

/-- A change that writes of the objects only some without a part. -/
theorem of_get (hk : ∀ k, partOfKey k ≠ none → x.get k = d.get k) (h : ∀ p, p ∉ l → SameFields p d x) : d.Keeps l x :=
  fun p hp => ⟨h p hp, fun k hkp => hk k (by simp [hkp])⟩

/-- An object's new value changes the object's part alone. -/
theorem set_of_mem (d : Dev) (k : Nat) (v : Val) (h : ∀ p ∈ partOfKey k, p ∈ l) : d.Keeps l (d.set k v) := by
  refine fun p hp => ⟨?_, fun j hj => d.get_set_ne k j v ?_⟩
  · rw [Dev.set_eta]
    exact .refl p d
  · rintro rfl
    exact hp (h p hj)

/-- The new value of an object of no part. -/
theorem set_of_none (d : Dev) (k : Nat) (v : Val) (h : partOfKey k = none) : d.Keeps l (d.set k v) :=
  set_of_mem d k v (by simp [h])

/-- The new value of an object of a part that is listed. -/
theorem set_of_part (d : Dev) (k : Nat) (v : Val) {p : Part} (h : partOfKey k = some p) (hp : p ∈ l) : d.Keeps l (d.set k v) :=
  set_of_mem d k v (by simp [h, hp])

/-- The fields of no part. -/
theorem unparted (d : Dev) (t : Trace) (e : Evc) (g : Log) (u : List Out) (pn : Pins) :
    d.Keeps l { d with trace := t, evc := e, log := g, out := u, pins := pn } :=
  of_fields rfl fun p _ => SameFields.refl p d

theorem foldl {α : Type} {f : Dev → α → Dev} {r : List α} (h : ∀ (b : Dev), ∀ a ∈ r, b.Keeps l (f b a)) (d : Dev) :
    d.Keeps l (r.foldl f d) :=
  List.foldlRecOn (motive := d.Keeps l) r f (refl l d) fun _ hb a ha => hb.trans (h _ a ha)

end Dev.Keeps


/-! ## The frame of an event -/

variable {l : List Part}

theorem Dev.raiseF_keeps (d : Dev) (c : Ctx) (b : Bool) (ev n : Nat) : d.Keeps l (d.raiseF c b ev n) := by
  refine .of_get (fun k hk => d.get_raiseF c b ev n k ?_ ?_ ?_) fun p _ => ?_
  · rintro rfl; exact hk (by decide)
  · rintro rfl; exact hk (by decide)
  · rintro rfl; exact hk (by decide)
  · obtain ⟨o, e, g, h⟩ := d.raiseF_eta c b ev n
    rw [h]
    exact .refl p d

theorem Dev.raise_keeps (d : Dev) (c : Ctx) (ev n : Nat) : d.Keeps l (d.raise c ev n) := d.raiseF_keeps c _ ev n

theorem Dev.raiseClr_keeps (d : Dev) (c : Ctx) (ev n : Nat) : d.Keeps l (d.raiseClr c ev n) := d.raiseF_keeps c _ ev n

/-! ## The frame of sending -/

theorem Dev.sendBoth_keeps (d : Dev) (m : Msg) : d.Keeps l (d.sendBoth m) := by
  rw [Dev.sendBoth_same]
  exact .of_fields rfl fun p _ => .refl p d

/-- The frames for the host are in no part. -/
theorem Dev.Keeps.hostQ (d : Dev) (q : List HostMsg) : d.Keeps l { d with itp := { d.itp with hostQ := q } } :=
  .of_fields rfl fun p _ => SameFields.refl p d

theorem Dev.toHost_keeps (d : Dev) (kept front : Bool) (m : Msg) : d.Keeps l (d.toHost kept front m) := by
  unfold Dev.toHost
  exact ite_pred (d.Keeps l) (.refl _ d) (ite_pred (d.Keeps l) (.hostQ d _) (ite_pred (d.Keeps l) (.hostQ d _)
    (ite_pred (d.Keeps l) (.refl _ d) (.set_of_none d _ _ rfl))))

theorem Dev.sendEvents_keeps (d : Dev) : d.Keeps l d.sendEvents := by
  unfold Dev.sendEvents
  refine (Keeps.unparted d d.trace _ d.log d.out d.pins).trans (.foldl (fun b m _ => ?_) _)
  exact (b.sendBoth_keeps _).trans (Dev.toHost_keeps _ _ _ _)

/-! ## The part of an object of one unit -/

theorem key_div (base n sub : Nat) (h : sub < 256) : key base n sub / 256 = base + n := by
  unfold key
  omega

theorem key_mod (base n sub : Nat) (h : sub < 256) : key base n sub % 256 = sub := by
  unfold key
  omega

/-- All units of a table lie in the part of its first (but in the blocks 0x10 and 0x70, split by index). -/
theorem partOf_add (b n : Nat) (hn : n < 256) (h10 : b ≠ 0x10) (h70 : b ≠ 0x70) :
    partOf (256 * b + n) = partOf (256 * b) := by
  have h1 : (256 * b + n) / 256 = b := by omega
  have h2 : 256 * b / 256 = b := by omega
  unfold partOf
  rw [h1, h2]
  split <;> simp_all

theorem partOfKey_key (b n sub : Nat) (hn : n < 256) (hs : sub < 256) (h10 : b ≠ 0x10) (h70 : b ≠ 0x70) (h62 : b ≠ 0x62)
    (h63 : b ≠ 0x63) : partOfKey (key (256 * b) n sub) = partOf (256 * b) := by
  have hk : key (256 * b) n sub ≠ 0x6300_06 := by unfold key; omega
  have hd : key (256 * b) n sub / 65536 = b := by unfold key; omega
  simp [partOfKey, hk, hd, h62, key_div _ _ _ hs, partOf_add b n hn h10 h70]

theorem partOfKey_seat {s : Nat} (h : s < 8) : partOfKey (key 0x8200 s 0x0A) = none :=
  partOfKey_key 0x82 s 0x0A (by omega) (by decide) (by decide) (by decide) (by decide) (by decide)

/-- The states of the TDM ports are in no part. -/
theorem partOfKey_tdm {t : Nat} (h : t < 256) : partOfKey (key 0x6200 t 0x0E) = none := by
  have h1 : key 0x6200 t 0x0E / 65536 = 0x62 := by unfold key; omega
  have h2 : key 0x6200 t 0x0E % 256 = 0x0E := key_mod _ _ _ (by decide)
  simp [partOfKey, h1, h2]

/-! ## The frame of what ends a command -/

theorem Dev.settleSeats_keeps (d : Dev) : d.Keeps l d.settleSeats := by
  unfold Dev.settleSeats
  refine ite_pred (d.Keeps l) (.foldl (fun b s hs => ?_) _) (.refl _ d)
  dsimp only
  exact ite_pred (b.Keeps l) (.after (.set_of_none _ _ _ (partOfKey_seat (List.mem_range.mp hs)))
    (.of_fields rfl fun p _ => SameFields.refl p b)) (.refl _ b)

theorem Dev.settleAudio_keeps (d : Dev) (c : Ctx) : d.Keeps l (d.settleAudio c) := by
  unfold Dev.settleAudio
  refine ite_pred (d.Keeps l) ?_ (.refl _ d)
  refine (Keeps.set_of_none d _ _ rfl).trans ((Dev.raise_keeps _ c _ _).trans (.foldl (fun b t ht => ?_) _))
  refine ite_pred (b.Keeps l) (.set_of_none b _ _ (partOfKey_tdm ?_)) (.refl _ b)
  have := List.mem_range.mp ht
  omega

/-- The registers of the hart are in no part. -/
theorem Dev.Keeps.core (d : Dev) (k : Core) (t : Trace) (hm : k.mem = d.core.mem) (hf : k.fmem = d.core.fmem) :
    d.Keeps l { d with core := k, trace := t } :=
  .of_fields rfl fun p _ => by cases p <;> simp [SameFields, hm, hf]

theorem Dev.dispatch_keeps (d : Dev) (c : Ctx) : d.Keeps l (d.dispatch c) := by
  unfold Dev.dispatch
  refine ite_pred (d.Keeps l) (.refl _ d) ?_
  cases d.irqClaim with
  | none => exact .refl _ d
  | some p =>
    obtain ⟨lvl, ev⟩ := p
    refine ite_pred (d.Keeps l) (.core d _ _ rfl rfl) ?_
    obtain ⟨t, h⟩ := d.trcTrap_eta true 11 (if d.core.waiting then d.core.userPc else Config.free c.seed 2103 % 2 ^ 32)
    dsimp only
    rw [h]
    exact .core d _ _ rfl rfl

theorem Dev.settlePins_keeps (d : Dev) : d.Keeps l d.settlePins :=
  .unparted d d.trace d.evc d.log d.out _

/-- Where no reset is asked for, a command ends with the notices of an entry to SAFE, and what follows changes no part. -/
theorem Dev.settle_split (d : Dev) (c : Ctx) (h : d.rst.want = []) :
    ∃ n, d.NoticesOf n ∧ (d.saf.entered = false → n = d) ∧ ∀ l, n.Keeps l (d.settle c) := by
  unfold Dev.settle
  extract_lets n0 f0 d1 d2 d3 d4
  have hn : d.NoticesOf d1 := by
    obtain ⟨ps, e⟩ := d.safeNotices_eta c (d.nat 0x9000_03) h
    refine ite_pred d.NoticesOf ⟨ps, { d.saf with entered := false }, ?_⟩ ⟨_, _, rfl⟩
    simp only [n0, e, f0]
  refine ⟨d1, hn, fun he => by simp [d1, he], fun l => ?_⟩
  have h2 : d1.Keeps l d2 := d1.settleSeats_keeps.trans (d1.settleSeats.settleAudio_keeps c)
  have hw : d2.rst.want = [] := by
    obtain ⟨_, _, e1⟩ := hn
    rw [(d1.settleSeats_itpRst.trans (d1.settleSeats.settleAudio_itpRst c)).2, e1]
    exact h
  have h3 : d2.Keeps l d3 := by
    show d2.Keeps l (Dev.dispatch (Dev.takeReset d2 c) c)
    rw [Dev.takeReset_none d2 c hw]
    exact d2.dispatch_keeps c
  have h4 : d3.Keeps l d4 := ite_pred (d3.Keeps l) d3.sendEvents_keeps (.refl _ d3)
  exact ((h2.trans h3).trans h4).trans d4.settlePins_keeps

/-- What ends a command that asks for no reset changes no part, but the ports and the collector where SAFE is entered. -/
theorem Dev.settle_keeps (d : Dev) (c : Ctx) (h : d.rst.want = [])
    (hl : d.saf.entered = true → .links ∈ l ∧ .collector ∈ l) : d.Keeps l (d.settle c) := by
  obtain ⟨n, hn, hd, hk⟩ := d.settle_split c h
  cases he : d.saf.entered with
  | false =>
    rw [hd he] at hk
    exact hk l
  | true =>
    obtain ⟨hp, hs⟩ := hl he
    obtain ⟨ps, sf, rfl⟩ := hn
    refine .after (hk l) (.of_fields rfl fun p hp' => ?_)
    cases p <;> simp_all [SameFields]

/-- What ends a command that asks for no reset writes no object of a part. -/
theorem Dev.settle_get (d : Dev) (c : Ctx) (h : d.rst.want = []) {k : Nat} (hk : partOfKey k ≠ none) :
    (d.settle c).get k = d.get k := by
  obtain ⟨n, ⟨ps, sf, rfl⟩, -, hs⟩ := d.settle_split c h
  obtain ⟨p, hp⟩ := Option.ne_none_iff_exists'.mp hk
  exact ((hs [] p (by simp)).2 k hp).trans rfl

/-! ## A command that leaves the device up has asked for no reset -/

theorem Dev.sendMarker_rst (d : Dev) (p : Nat) (a b : Bool) : (d.sendMarker p a b).rst = d.rst := by
  unfold Dev.sendMarker
  extract_lets x d1
  have h1 : d1.rst = d.rst := by
    refine foldl_pred (fun y : Dev => y.rst = d.rst) _ ?_ _ rfl
    exact fun _ _ h => h
  exact h1

theorem Dev.openBlock_rst (d : Dev) (p n : Nat) : (d.openBlock p n).rst = d.rst := by
  unfold Dev.openBlock
  exact ite_pred (fun x : Dev => x.rst = d.rst) (d.sendMarker_rst p false true) rfl

theorem Dev.putWords_rst (d : Dev) (p : Nat) (on : Bool) (ws : List Nat) : (d.putWords p on ws).rst = d.rst := by
  induction ws generalizing d on with
  | nil => rfl
  | cons w r ih => exact (ih _ true).trans (d.openBlock_rst p _)

theorem Dev.sendPkt_rst (d : Dev) (p vc seq : Nat) (q : QPkt) : (d.sendPkt p vc seq q).rst = d.rst := by
  unfold Dev.sendPkt
  let P (x : Dev) : Prop := x.rst = d.rst
  extract_lets d1 d2
  have h1 : P d1 := Dev.putWords_rst ..
  have h2 : P d2 := ite_pred P h1 h1
  exact ite_pred P h2 ((Dev.addTo_rst ..).trans h2)

theorem Dev.safeNotices_rst (d : Dev) (c : Ctx) (w : Nat) : (d.safeNotices c w).rst = d.rst := by
  unfold Dev.safeNotices
  refine foldl_pred (fun x : Dev => x.rst = d.rst) _ (fun x p hx => ?_) _ rfl
  exact ite_pred (fun y : Dev => y.rst = d.rst) hx
    (ite_pred (fun y : Dev => y.rst = d.rst) ((Dev.sendPkt_rst ..).trans hx) hx)

/-- A reset that is taken leaves the device not up (R876, R878, R879). -/
theorem Dev.takeReset_up (d : Dev) (c : Ctx) (h : (d.takeReset c).rst.stage = .up) : d.rst.want = [] := by
  revert h
  unfold Dev.takeReset
  split
  · intro _
    assumption
  · intro h
    exfalso
    revert h
    extract_lets cause early stuck
    split
    · next hb =>
      intro (h : d.rst.stage = .up)
      simp [early, stuck, h] at hb
    · split
      · exact fun h => nomatch h
      · intro h
        rw [Dev.restoreConds, Dev.setN_rst] at h
        have hst : (if cause = 3 then Stage.inReset else Stage.released) = .up := h
        split at hst <;> contradiction

theorem Dev.sendEvents_rst (d : Dev) : d.sendEvents.rst = d.rst := by
  obtain ⟨_, _, _, _, h⟩ := d.sendEvents_eta
  rw [h]

theorem Dev.dispatch_rst (d : Dev) (c : Ctx) : (d.dispatch c).rst = d.rst := by
  obtain ⟨_, _, h⟩ := d.dispatch_eta c
  rw [h]

/-- A command that leaves the device up has asked for no reset. -/
theorem Dev.settle_up (d : Dev) (c : Ctx) (h : (d.settle c).rst.stage = .up) : d.rst.want = [] ∧ d.rst.stage = .up := by
  revert h
  unfold Dev.settle
  extract_lets n0 f0 d1 d2 d3 d4
  intro (h : d4.rst.stage = .up)
  have h4 : d4.rst = (d2.takeReset c).rst :=
    (ite_pred (fun x : Dev => x.rst = d3.rst) d3.sendEvents_rst rfl).trans (Dev.dispatch_rst _ c)
  have h0 : n0.rst = d.rst := d.safeNotices_rst c _
  clear_value n0
  have h1 : d1.rst = d.rst := ite_pred (fun x : Dev => x.rst = d.rst) h0 rfl
  have h2 : d2.rst = d.rst := ((d1.settleSeats_itpRst.trans (d1.settleSeats.settleAudio_itpRst c)).2).trans h1
  rw [h4] at h
  have hw : d2.rst.want = [] := d2.takeReset_up c h
  rw [Dev.takeReset_none d2 c hw] at h
  rw [h2] at h hw
  exact ⟨hw, h⟩

/-! ## The frame of a command -/

/-- Of the reset and start-up's state, only history, counts and loaded fuses are in a part. -/
theorem Dev.Keeps.rst (d : Dev) (r : Rst) (hh : r.hist = d.rst.hist) (hc : r.counts = d.rst.counts)
    (hf : r.fuses = d.rst.fuses) : d.Keeps l { d with rst := r } :=
  .of_fields rfl fun p _ => by cases p <;> simp [SameFields, hh, hc, hf]

/-- The device a command leaves: its effect, settled, with no fuse to burn and no ticks to skip. -/
theorem State.act_dev {s t : State} {dt : Nat} {f : Ctx → Dev → Dev} (h : s.act dt f = .next t) :
    t.dev = { (f (s.ctx dt) s.entry).settle (s.ctx dt) with
      rst := { ((f (s.ctx dt) s.entry).settle (s.ctx dt)).rst with burn := none, skip := 0 } } := by
  unfold State.act at h
  rw [← Host.Outcome.next.inj h]
  simp only [State.entry]

/-- A command whose effect changes no part but those listed, where it leaves the device up, changes no other, if the
ports are listed beside the collector: the entry to SAFE sends its notices. -/
theorem State.act_keeps {s t : State} {dt : Nat} {f : Ctx → Dev → Dev} {l : List Part} (he : s.dev.saf.entered = false)
    (ht : s.act dt f = .next t) (hup : t.dev.rst.stage = .up) (hl : .collector ∈ l → .links ∈ l)
    (hf : (f (s.ctx dt) s.entry).rst.stage = .up → s.entry.Keeps l (f (s.ctx dt) s.entry)) : s.dev.Keeps l t.dev := by
  have hd := State.act_dev ht
  generalize f (s.ctx dt) s.entry = e at hd hf
  have hup' : (e.settle (s.ctx dt)).rst.stage = .up := by rw [hd] at hup; exact hup
  obtain ⟨hw, hs⟩ := e.settle_up (s.ctx dt) hup'
  have h0 : s.dev.Keeps l s.entry := .unparted s.dev s.dev.trace s.dev.evc s.dev.log [] s.dev.pins
  have h1 : s.entry.Keeps l e := hf hs
  have h2 : e.Keeps l (e.settle (s.ctx dt)) := by
    refine e.settle_keeps _ hw fun hen => ?_
    by_cases hc : Part.collector ∈ l
    · exact ⟨hl hc, hc⟩
    · have hsaf : s.dev.saf = e.saf := (h1 .collector hc).1
      rw [← hsaf, he] at hen
      contradiction
  rw [hd]
  generalize e.settle (s.ctx dt) = x at h2
  exact ((h0.trans h1).trans h2).trans (Dev.Keeps.rst x _ rfl rfl rfl)

end Sys2Proof.Machine

/-!
SUPPORT. What a completed command leaves of the device its effect made; and a state in which the frame of the access
commands fails.
-/
namespace Sys2Proof.Machine

/-! ## A command that completes -/

theorem Dev.sendCan_out (d : Dev) (ch : Nat) (m : Msg) : d.out ⊆ (d.sendCan ch m).out := by
  unfold Dev.sendCan
  exact ite_pred (fun x : Dev => d.out ⊆ x.out) (List.subset_append_left _ _) (List.Subset.refl _)

theorem Dev.sendEvents_out (d : Dev) : d.out ⊆ d.sendEvents.out := by
  unfold Dev.sendEvents
  refine foldl_pred (fun x : Dev => d.out ⊆ x.out) _ (fun x m hx => ?_) _ (List.Subset.refl _)
  rw [Dev.toHost_out]
  exact List.Subset.trans hx (List.Subset.trans (Dev.sendCan_out x 0 _) (Dev.sendCan_out _ 1 _))

/-- What ends a command takes back nothing that it has sent. -/
theorem Dev.settle_out (d : Dev) (c : Ctx) (h : d.rst.want = []) : d.out ⊆ (d.settle c).out := by
  unfold Dev.settle
  extract_lets n0 f0 d1 d2 d3 d4
  have h1 : d1.out = d.out ∧ d1.rst = d.rst := by
    have hn : d.PortsOf n0 := d.safeNotices_eta c _ h
    clear_value n0
    obtain ⟨ps, rfl⟩ := hn
    exact ite_pred (fun x : Dev => x.out = d.out ∧ x.rst = d.rst) ⟨rfl, rfl⟩ ⟨rfl, rfl⟩
  clear_value d1
  have h2 : d2.out = d1.out ∧ d2.rst = d1.rst := by
    obtain ⟨o, p, e⟩ := d1.settleSeats_eta
    obtain ⟨_, _, _, g⟩ := d1.settleSeats.settleAudio_eta c
    have hd2 : d2 = d1.settleSeats.settleAudio c := rfl
    rw [hd2, g, e]
    exact ⟨rfl, rfl⟩
  clear_value d2
  have h3 : d3.out = d2.out := by
    have hd3 : d3 = (d2.takeReset c).dispatch c := rfl
    obtain ⟨_, _, e⟩ := d2.dispatch_eta c
    rw [hd3, Dev.takeReset_none d2 c (by rw [h2.2, h1.2, h]), e]
  clear_value d3
  have h4 : d3.out ⊆ d4.out := ite_pred (fun x : Dev => d3.out ⊆ x.out) d3.sendEvents_out (List.Subset.refl _)
  rw [h3, h2.1, h1.1] at h4
  exact h4

/-- What a completed command leaves of the device its effect made: the objects of every part, the ITP's state but for
the frames for the host, the banks, the host port, the stage; and all that was sent. -/
structure Dev.EndsAs (d x : Dev) : Prop where
  get : ∀ k, partOfKey k ≠ none → x.get k = d.get k
  itp : d.HostQOf x
  bankA : x.bankA = d.bankA
  bankB : x.bankB = d.bankB
  host : x.host = d.host
  stage : x.rst.stage = d.rst.stage
  out : d.out ⊆ x.out

/-- A command whose effect asks for no reset completes. -/
theorem State.act_ends (s : State) (dt : Nat) (f : Ctx → Dev → Dev) (h : (f (s.ctx dt) s.entry).rst.want = []) :
    ∃ t, s.act dt f = .next t ∧ (f (s.ctx dt) s.entry).EndsAs t.dev := by
  obtain ⟨t, ht⟩ : ∃ t, s.act dt f = .next t := ⟨_, rfl⟩
  refine ⟨t, ht, ?_⟩
  have hd := State.act_dev ht
  generalize f (s.ctx dt) s.entry = e at hd h
  have hq := e.settle_hostQ (s.ctx dt) h
  have hg := fun k => e.settle_get (s.ctx dt) h (k := k)
  have ho := e.settle_out (s.ctx dt) h
  have heta := e.settle_eta (s.ctx dt) h
  generalize e.settle (s.ctx dt) = x at hd hq hg ho heta
  obtain ⟨_, _, _, _, _, _, _, _, _, _, _, rfl⟩ := heta
  rw [hd]
  exact ⟨fun k hk => (Dev.get_of_obj rfl k).trans (hg k hk), hq, rfl, rfl, rfl, rfl, ho⟩

/-! ## The frame of SEG_TRANSFER_TIMEOUT (R81) fails: a transfer on a port the device does not have -/

/-- A device that is up, with one open transfer, overdue, whose path names port 3,072. No table of the spec has the
objects of such a port: the model takes it for a trunk by what stands at the key 0x3000 + p.02, and counts the ABORT it
cannot send (R391) at 0x3400 + p.0A, which is the key of the setting 0x4000.0A of capture channel 0. -/
def strayTransfer : State where
  time := 40000000
  dev :=
    { obj := [(portK 0xC00 0x02, .num 2)]
      itp := { segs := [{ org := ⟨.vc1 0xC00, 0, 0, 0⟩, write := false, key := 0, ty := 0, flags := 0, ity := 0, t := 0,
                          total := 0, data := [] }] }
      rst := { stage := .up } }

/-- Its timeout completes, leaves the device up, and changes the setting from its default, 2,000. -/
theorem exec_strayTransfer : ∃ t, exec (.segTransferTimeout 0 0) strayTransfer = .next t ∧
    t.dev.rst.stage = .up ∧ t.dev.get 0x4000_0A = .num 2001 := by
  obtain ⟨f, hf⟩ : ∃ f, exec (.segTransferTimeout 0 0) strayTransfer = strayTransfer.act 0 f ∧
      (f (strayTransfer.ctx 0) strayTransfer.entry).rst.want = [] ∧
      (f (strayTransfer.ctx 0) strayTransfer.entry).rst.stage = .up ∧
      (f (strayTransfer.ctx 0) strayTransfer.entry).get 0x4000_0A = .num 2001 :=
    ⟨_, show exec (.segTransferTimeout 0 0) strayTransfer = execSegTransferTimeout 0 0 strayTransfer from rfl, rfl, rfl,
      rfl⟩
  obtain ⟨he, hw, hs, hg⟩ := hf
  obtain ⟨t, ht, hend⟩ := strayTransfer.act_ends 0 f hw
  exact ⟨t, he.trans ht, hend.stage.trans hs, (hend.get _ (by decide)).trans hg⟩

/-- Refutes O48: the timeout of `strayTransfer` counts in an object of the capture. -/
theorem not_frameOfAccess : ¬ Obligations.Frame_of_access := by
  unfold Obligations.Frame_of_access
  intro h
  obtain ⟨t, ht, hup, hget⟩ := exec_strayTransfer
  have hs : Same .capture strayTransfer.dev t.dev :=
    h (.segTransferTimeout 0 0) strayTransfer t rfl ⟨⟨rfl, rfl, rfl⟩, rfl, rfl, ht, hup⟩ .capture (by decide)
  have h0 : strayTransfer.dev.get 0x4000_0A = .num 2000 := rfl
  have h1 : t.dev.get 0x4000_0A = strayTransfer.dev.get 0x4000_0A := hs.2 0x4000_0A rfl
  rw [hget, h0] at h1
  exact absurd h1 (by decide)

end Sys2Proof.Machine

/-!
SUPPORT. The frames of what the clock root, the timebase and the safety collector do (ch 2, R854 to R859).
-/
namespace Sys2Proof.Machine

variable {l : List Part}

/-! ## The frames of a field -/

theorem Dev.Keeps.clk (d : Dev) (x : Clk) (h : .timebase ∈ l) : d.Keeps l { d with clk := x } :=
  .of_fields rfl fun p hp => by cases p <;> simp_all [SameFields]

theorem Dev.Keeps.saf (d : Dev) (x : Saf) (h : .collector ∈ l) : d.Keeps l { d with saf := x } :=
  .of_fields rfl fun p hp => by cases p <;> simp_all [SameFields]

theorem Dev.Keeps.pwr (d : Dev) (x : Pwr) (h : .power ∈ l) : d.Keeps l { d with pwr := x } :=
  .of_fields rfl fun p hp => by cases p <;> simp_all [SameFields]

theorem Dev.Keeps.ports (d : Dev) (x : List Port) (h : .links ∈ l) : d.Keeps l { d with ports := x } :=
  .of_fields rfl fun p hp => by cases p <;> simp_all [SameFields]

/-- The requests that wait, the records of frames and of answers, and what is queued for the host, are in no part. -/
theorem Dev.Keeps.itp (d : Dev) (w : List Wait) (n : Nat) (h : List Rx) (r : List Resp) (q : List HostMsg) :
    d.Keeps l { d with itp := { d.itp with waiting := w, turn := n, hist := h, resp := r, hostQ := q } } :=
  .of_fields rfl fun p _ => SameFields.refl p d

/-! ## The frame of a detection (R854 to R859) -/

theorem Dev.recordEntry_keeps (d : Dev) (c : Ctx) (w : Nat) (h : .collector ∈ l) : d.Keeps l (d.recordEntry c w) :=
  ((Keeps.set_of_part d _ _ rfl h).trans (Keeps.set_of_part _ _ _ rfl h)).trans (Keeps.set_of_part _ _ _ rfl h)

theorem Dev.emergency_keeps (d : Dev) (c : Ctx) (cls ev w : Nat) : d.Keeps l (d.emergency c cls ev w) :=
  (d.sendBoth_keeps _).trans (Dev.toHost_keeps _ _ _ _)

theorem Dev.enterSafe_keeps (d : Dev) (c : Ctx) (w : Nat) (h : .collector ∈ l) : d.Keeps l (d.enterSafe c w) := by
  unfold Dev.enterSafe
  extract_lets _ d1 _ _ d2 d3
  have h1 : d.Keeps l d1 := .saf d _ h
  have h2 : d.Keeps l d2 := (h1.trans (.set_of_part _ 0x9000_01 _ rfl h)).trans (.saf _ _ h)
  have h3 : d.Keeps l d3 := (h2.trans (Dev.recordEntry_keeps _ c w h)).trans (.set_of_part _ _ _ rfl h)
  exact ite_pred (d.Keeps l) ((h3.trans (.set_of_part _ _ _ rfl h)).trans (Dev.raise_keeps _ c _ _)) h1

theorem Dev.detect_keeps (d : Dev) (c : Ctx) (code inst : Nat) (h : .collector ∈ l) : d.Keeps l (d.detect c code inst) := by
  unfold Dev.detect
  extract_lets cls word _ d1 had n0 n1 d2 d3 d4 d5 _ d6 _ d7 _ d8
  have h2 : d.Keeps l d2 := (Keeps.saf d _ h).trans (.set_of_part _ _ _ rfl h)
  have h3 : d.Keeps l d3 := ite_pred (d.Keeps l) (h2.trans (Dev.enterSafe_keeps _ c word h)) h2
  have h4 : d.Keeps l d4 := ite_pred (d.Keeps l) (h3.trans (.set_of_part _ _ _ rfl h)) h3
  have h5 : d.Keeps l d5 := ite_pred (d.Keeps l) (h4.trans (.set_of_part _ _ _ rfl h)) h4
  have h6 : d.Keeps l d6 := ite_pred (d.Keeps l) h5 (h5.trans (.saf _ _ h))
  have h7 : d.Keeps l d7 := ite_pred (d.Keeps l) h6
    (ite_pred (d.Keeps l) (h6.trans (.saf _ _ h)) (h6.trans (Dev.emergency_keeps _ c cls _ word)))
  have h8 : d.Keeps l d8 := ite_pred (d.Keeps l) (h7.trans (.saf _ _ h)) h7
  refine ite_pred (d.Keeps l) ?_ h8
  exact ((h8.trans (.set_of_part _ 0x9300_03 _ rfl h)).trans (Dev.recordEntry_keeps _ c word h)).trans (.rst _ _ rfl rfl rfl)

theorem Dev.endCond_keeps (d : Dev) (code inst : Nat) (h : .collector ∈ l) : d.Keeps l (d.endCond code inst) := by
  unfold Dev.endCond
  have h1 := Keeps.saf d { d.saf with conds := d.saf.conds.filter fun p => p ≠ (code, inst) } h
  exact ite_pred (d.Keeps l) h1 (h1.trans (.set_of_part _ _ _ rfl h))

/-! ## The frame of the clock monitor and of the root PLL (ch 2) -/

theorem Dev.transient_keeps (d : Dev) (h : .collector ∈ l) : d.Keeps l d.transient := .set_of_part d _ _ rfl h

theorem Dev.alarmed_keeps (d : Dev) (n b : Nat) (h : .timebase ∈ l) : d.Keeps l (d.alarmed n b) :=
  ite_pred (d.Keeps l) (.refl l d) ((Keeps.set_of_part d _ _ rfl h).trans (.set_of_part _ _ _ rfl h))

theorem Dev.loseImo_keeps (d : Dev) (c : Ctx) (ht : .timebase ∈ l) (hs : .collector ∈ l) : d.Keeps l (d.loseImo c) :=
  ((((Keeps.set_of_part d 0x2000_03 _ rfl ht).trans (.clk _ _ ht)).trans (Dev.alarmed_keeps _ _ _ ht)).trans
    (Dev.raise_keeps _ c _ _)).trans (Dev.detect_keeps _ c _ _ hs)

theorem Dev.endGenlockConds_keeps (d : Dev) (hs : .collector ∈ l) : d.Keeps l d.endGenlockConds :=
  ite_pred (d.Keeps l) ((Dev.endCond_keeps d _ _ hs).trans (Dev.endCond_keeps _ _ _ hs)) (.refl l d)

theorem Dev.cmonGate_keeps (d : Dev) (c : Ctx) (counts : List Nat) (hz : Nat) (ht : .timebase ∈ l) (hs : .collector ∈ l) :
    d.Keeps l (d.cmonGate c counts hz) := by
  have h1 : d.Keeps l (d.setN 0x2000_06 hz) := .set_of_part d _ _ rfl ht
  refine ite_pred (d.Keeps l) (.refl l d) (ite_pred (d.Keeps l) (h1.trans (Dev.loseImo_keeps _ c ht hs)) ?_)
  extract_lets old bad d1 back _ d2 now _ fresh d4 d5 d6
  have h2 : d.Keeps l d2 := ite_pred (d.Keeps l)
    (((h1.trans (.clk _ _ ht)).trans (Dev.endCond_keeps _ _ _ hs)).trans (Dev.raiseClr_keeps _ c _ _)) h1
  have h4 : d.Keeps l d4 := (h2.trans (.set_of_part _ 0x2000_03 _ rfl ht)).trans (Dev.alarmed_keeps _ _ _ ht)
  have h5 : d.Keeps l d5 := ite_pred (d.Keeps l) ((h4.trans (Dev.raise_keeps _ c _ _)).trans (Dev.detect_keeps _ c _ _ hs)) h4
  have h6 : d.Keeps l d6 := ite_pred (d.Keeps l)
    ((h5.trans (Dev.raiseClr_keeps _ c _ _)).trans (Dev.endGenlockConds_keeps _ hs)) h5
  exact ite_pred (d.Keeps l)
    (((h6.trans (.saf _ _ hs)).trans (Dev.raise_keeps _ c _ _)).trans (Dev.detect_keeps _ c _ _ hs)) h6

theorem Dev.rootLocked_keeps (d : Dev) (c : Ctx) (us : Nat) (ht : .timebase ∈ l) (hs : .collector ∈ l) :
    d.Keeps l (d.rootLocked c us) := by
  unfold Dev.rootLocked
  extract_lets d1
  have h1 : d.Keeps l d1 := ite_pred (d.Keeps l) (.refl l d) (d.transient_keeps hs)
  exact (((h1.trans (.set_of_part _ 0x2000_01 _ rfl ht)).trans (.set_of_part _ 0x2000_02 _ rfl ht)).trans
    (.set_of_part _ 0x2000_07 _ rfl ht)).trans (.clk _ _ ht)

/-! ## The frame of a master sample (R148 to R157) -/

theorem Dev.restartTimeout_keeps (d : Dev) (c : Ctx) (ht : .timebase ∈ l) : d.Keeps l (d.restartTimeout c) := .clk d _ ht

theorem Dev.stepOffset_keeps (d : Dev) (c : Ctx) (x : Int) (fresh : Bool) (ht : .timebase ∈ l) :
    d.Keeps l (d.stepOffset c x fresh) := by
  unfold Dev.stepOffset
  extract_lets old _ _ d1 d2
  have h1 : d.Keeps l d1 := (Keeps.set_of_part d 0x1050_03 _ rfl ht).trans (.clk _ _ ht)
  have h2 : d.Keeps l d2 := ((h1.trans (.set_of_part _ 0x1050_02 _ rfl ht)).trans (.set_of_part _ 0x1050_0D _ rfl ht)).trans
    (.set_of_part _ 0x1050_0B _ rfl ht)
  exact h2.trans (Dev.raise_keeps _ c _ _)

theorem Dev.takeSample_keeps (d : Dev) (c : Ctx) (x : Int) (m : Nat) (ht : .timebase ∈ l) : d.Keeps l (d.takeSample c x m) := by
  unfold Dev.takeSample
  extract_lets err first newEpoch d1 _ d2
  have h1 : d.Keeps l d1 := (Keeps.set_of_part d 0x1050_0E _ rfl ht).trans (.set_of_part _ 0x1050_0F _ rfl ht)
  have h2 : d.Keeps l d2 := (h1.trans (.clk _ _ ht)).trans (Dev.restartTimeout_keeps _ c ht)
  refine ite_pred (d.Keeps l) (h2.trans (Dev.stepOffset_keeps _ c x true ht)) (ite_pred (d.Keeps l)
    (h2.trans (Dev.stepOffset_keeps _ c x false ht)) (ite_pred (d.Keeps l) ?_ ?_))
  · exact (h2.trans (.set_of_part _ 0x1050_0B _ rfl ht)).trans (.clk _ _ ht)
  · exact (h2.trans (.set_of_part _ 0x1050_0B _ rfl ht)).trans (.clk _ _ ht)

theorem Dev.timeFrame_keeps (d : Dev) (c : Ctx) (f : Req) (age : Nat) (ht : .timebase ∈ l) : d.Keeps l (d.timeFrame c f age) := by
  unfold Dev.timeFrame
  have h1 : d.Keeps l (d.capture c f age) := .clk d _ ht
  refine ite_pred (d.Keeps l) h1 ?_
  cases d.timeSample c f age with
  | none => exact h1
  | some x => exact h1.trans (Dev.takeSample_keeps _ c x _ ht)

/-! ## The frame of receiving (R86, R792) -/

theorem Dev.TraceOf.keeps {d x : Dev} (h : d.TraceOf x) : d.Keeps l x := by
  obtain ⟨t, rfl⟩ := h
  exact .unparted d t d.evc d.log d.out d.pins

theorem Dev.TraceOf.trans {d x y : Dev} (h : d.TraceOf x) (g : x.TraceOf y) : d.TraceOf y := by
  obtain ⟨t, rfl⟩ := h
  obtain ⟨u, rfl⟩ := g
  exact ⟨u, rfl⟩

theorem Dev.trcSync_eta (d : Dev) (c : Ctx) (reason : Nat) : d.TraceOf (d.trcSync c reason) := by
  unfold Dev.trcSync
  refine ite_pred d.TraceOf ?_ ⟨_, rfl⟩
  extract_lets d1 _ d2
  have h1 : d.TraceOf d1 := d.trc_eta _
  have h2 : d.TraceOf d2 := h1.trans ⟨_, rfl⟩
  exact ite_pred d.TraceOf (h2.trans (d2.trc_eta _)) h2

/-- Waking the trace writes the trace alone. -/
theorem Dev.trcWake_eta (d : Dev) (c : Ctx) (why : Nat) : d.TraceOf (d.trcWake c why) := by
  unfold Dev.trcWake
  extract_lets _ d1
  have h1 : d.TraceOf d1 := ⟨_, rfl⟩
  exact (h1.trans (d1.trc_eta _)).trans (Dev.trcSync_eta _ c 2)

theorem Dev.leaveDoze_keeps (d : Dev) (c : Ctx) (hp : .power ∈ l) : d.Keeps l (d.leaveDoze c) := by
  refine ite_pred (d.Keeps l) ?_ (.refl l d)
  exact ((Keeps.set_of_part d 0x8000_01 _ rfl hp).trans (.pwr _ _ hp)).trans (Dev.trcWake_eta _ c 0).keeps

theorem Dev.dedupe_keeps (d : Dev) (c : Ctx) (f : Req) (id : Nat) (hb : .bus ∈ l) : d.Keeps l (d.dedupe c f id).1 := by
  have hist (h : List Rx) : d.Keeps l { d with itp := { d.itp with hist := h } } := .itp d d.itp.waiting d.itp.turn h _ _
  unfold Dev.dedupe
  refine ite_pred (fun x : Dev × Bool => d.Keeps l x.1) (.refl l d) ?_
  extract_lets win hist' cand mark
  split
  · exact (hist _).trans (.set_of_part _ 0x1010_09 _ rfl hb)
  · split
    · exact ((hist _).trans (.set_of_part _ 0x1010_0A _ rfl hb)).trans (Dev.raise_keeps _ c _ _)
    · exact hist _

end Sys2Proof.Machine

/-!
SUPPORT. Answers and write requests: what they write, and the frame of a write request of a number.
-/
namespace Sys2Proof.Machine

variable {l : List Part}

/-! ## The wire (Tables 1.9, 1.10) -/

@[simp] theorem Hdr.bytes_length (h : Hdr) : h.bytes.length = 8 := by simp [Hdr.bytes]

/-- The header of a message that begins with one. -/
theorem parseHdr_bytes (h : Hdr) (b : List Byte) (hf : h.flags < 256) (ht : h.ty < 256) (hi : h.idx < 65536)
    (hs : h.sub < 256) (hl : h.len < 256) : parseHdr (h.bytes ++ b) = h := by
  obtain ⟨flags, ty, idx, sub, len⟩ := h
  dsimp only at hf ht hi hs hl
  simp [parseHdr, Hdr.bytes, fld, le, unle, byte]
  omega

theorem drop_hdr_bytes (h : Hdr) (b : List Byte) : (h.bytes ++ b).drop 8 = b := by
  rw [List.drop_left' h.bytes_length]

/-- A number's bytes are at most 8. -/
theorem encodeVal_num_length (ty : Ty) (n : Int) : (encodeVal ty (.num n)).length ≤ 8 := by
  cases ty <;> simp [encodeVal, Ty.size]

theorem Ty.code_lt (ty : Ty) : ty.code < 256 := by
  cases ty <;> decide

theorem headerCodes_bytes (h : Hdr) (b : List Byte) (hf : h.flags < 2) : headerCodes (h.bytes ++ b) = [] := by
  obtain ⟨flags, ty, idx, sub, len⟩ := h
  dsimp only at hf
  have : flags % 256 < 2 := by omega
  simp [headerCodes, Hdr.bytes, fld, le, unle, byte, this]
  exact if_neg (by omega)

/-! ## Sending to an origin -/

/-- Whether the path of a request comes from a port that is UP: packets for it are queued, not counted as dropped. -/
def Dev.Reaches (d : Dev) (p : Path) : Prop := ∀ n, p = .vc1 n → d.portSt n = 3

/-- What an answer may write where its path reaches: the response store, the frames for the host, the ports, what is
sent. -/
def Dev.AnswerOf (d x : Dev) : Prop :=
  ∃ r q ps u, x = { d with itp := { d.itp with resp := r, hostQ := q }, ports := ps, out := u }

namespace Dev.AnswerOf

variable {d x y : Dev}

theorem refl (d : Dev) : d.AnswerOf d := ⟨_, _, _, _, rfl⟩

theorem trans (h : d.AnswerOf x) (g : x.AnswerOf y) : d.AnswerOf y := by
  obtain ⟨r, q, ps, u, rfl⟩ := h
  obtain ⟨r', q', ps', u', rfl⟩ := g
  exact ⟨r', q', ps', u', rfl⟩

theorem obj (h : d.AnswerOf x) : x.obj = d.obj := by
  obtain ⟨_, _, _, _, rfl⟩ := h
  rfl

theorem rst (h : d.AnswerOf x) : x.rst = d.rst := by
  obtain ⟨_, _, _, _, rfl⟩ := h
  rfl

theorem keeps (h : d.AnswerOf x) (hl : .links ∈ l) : d.Keeps l x := by
  obtain ⟨r, q, ps, u, rfl⟩ := h
  exact ((Keeps.itp d d.itp.waiting d.itp.turn d.itp.hist r q).trans (.ports _ ps hl)).trans
    (.unparted _ d.trace d.evc d.log u d.pins)

end Dev.AnswerOf

theorem Dev.sendCan_answerOf (d : Dev) (ch : Nat) (m : Msg) : d.AnswerOf (d.sendCan ch m) := by
  rw [Dev.sendCan_same]
  exact ⟨_, _, _, _, rfl⟩

theorem Dev.sendBoth_answerOf (d : Dev) (m : Msg) : d.AnswerOf (d.sendBoth m) := by
  rw [Dev.sendBoth_same]
  exact ⟨_, _, _, _, rfl⟩

/-- A response to the host that finds no place is dropped and counted nowhere. -/
theorem Dev.toHost_answerOf (d : Dev) (m : Msg) : d.AnswerOf (d.toHost true false m) := by
  unfold Dev.toHost
  simp only [Bool.true_and, Bool.not_true, Bool.false_and, Bool.false_eq_true, if_false, if_true]
  exact ite_pred d.AnswerOf (.refl d) (ite_pred d.AnswerOf ⟨_, _, _, _, rfl⟩ (.refl d))

theorem Dev.queueMgmt_answerOf (d : Dev) (p : Nat) (q : QPkt) (h : d.portSt p = 3) : d.AnswerOf (d.queueMgmt p q) := by
  unfold Dev.queueMgmt
  rw [h]
  exact ite_pred d.AnswerOf (.refl d) ⟨_, _, _, _, rfl⟩

theorem Dev.sendTo_answerOf (d : Dev) (c : Ctx) (p : Path) (m : Msg) (h : d.Reaches p) : d.AnswerOf (d.sendTo c p m) := by
  cases p with
  | fd0 => exact ite_pred d.AnswerOf (d.sendBoth_answerOf m) (d.sendCan_answerOf 0 m)
  | fd1 => exact ite_pred d.AnswerOf (d.sendBoth_answerOf m) (d.sendCan_answerOf 1 m)
  | host => exact d.toHost_answerOf m
  | vc1 n => exact ite_pred d.AnswerOf (d.queueMgmt_answerOf n _ (h n rfl)) (.refl d)
  | mailbox => exact .refl d

theorem Dev.answer_answerOf (d : Dev) (c : Ctx) (o : Org) (id : Nat) (data : List Byte) (m : Msg) (h : d.Reaches o.path) :
    d.AnswerOf (d.answer c o id data m) :=
  AnswerOf.trans ⟨_, _, _, _, rfl⟩ (Dev.sendTo_answerOf _ c o.path m h)

theorem Dev.again_answerOf (d : Dev) (c : Ctx) (r : Resp) (h : d.Reaches r.path) : d.AnswerOf (d.again c r) :=
  AnswerOf.trans ⟨_, _, _, _, rfl⟩ (Dev.sendTo_answerOf _ c r.path r.ans h)

/-- A kept answer goes back the way its request came. -/
theorem Dev.stored_path {d : Dev} {c : Ctx} {o : Org} {id : Nat} {data : List Byte} {r : Resp}
    (h : d.stored c o id data = some r) : r.path = o.path := by
  have := List.find?_some h
  simp only [Bool.and_eq_true, decide_eq_true_eq] at this
  tauto

/-! ## The frame of a write request -/

/-- Bytes that spell a value of the object's type take effect as that value. -/
theorem Dev.acceptBytes_some {c : Ctx} {k base n : Nat} {r : Obj} {b : List Byte} {v : Val} (d : Dev) (x : Obs)
    (hk : lookup c.s12 k = .row base n r) (hv : decodeVal r.ty b = some v) :
    d.acceptBytes c k b x = d.applyWrite c base n r v x := by
  simp only [Dev.acceptBytes, hk, hv]

theorem Dev.acceptBytes_none {c : Ctx} {k base n : Nat} {r : Obj} {b : List Byte} (d : Dev) (x : Obs)
    (hk : lookup c.s12 k = .row base n r) (hv : decodeVal r.ty b = none) : d.acceptBytes c k b x = d := by
  simp only [Dev.acceptBytes, hk, hv]

/-- What a write of any accepted value to an object leaves as it was, from any device where the resets stand as `d`'s. -/
def Dev.WriteKeeps (d : Dev) (l : List Part) (c : Ctx) (base n : Nat) (r : Obj) (x : Obs) : Prop :=
  ∀ e : Dev, e.rst = d.rst → ∀ v, e.Keeps l (e.applyWrite c base n r v x)

section
variable {d e : Dev} {c : Ctx} {k base n : Nat} {r : Obj} {x : Obs}

theorem Dev.WriteKeeps.acceptBytes (hw : d.WriteKeeps l c base n r x) (hk : lookup c.s12 k = .row base n r)
    (he : e.rst = d.rst) (b : List Byte) : e.Keeps l (e.acceptBytes c k b x) := by
  cases hv : decodeVal r.ty b with
  | none =>
    rw [e.acceptBytes_none x hk hv]
    exact .refl l e
  | some v =>
    rw [e.acceptBytes_some x hk hv]
    exact hw e he v

theorem Dev.mailReturn_keeps (d : Dev) (code : Nat) : d.Keeps l (d.mailReturn code) :=
  (Keeps.core d _ d.trace rfl rfl).trans (.unparted _ d.trace d.evc d.log _ d.pins)

theorem Dev.WriteKeeps.mailPut (hw : d.WriteKeeps l c base n r x) (hk : lookup c.s12 k = .row base n r)
    (he : e.rst = d.rst) (ty : Nat) (b : List Byte) : e.Keeps l (e.mailPut c k ty b x) := by
  unfold Dev.mailPut
  cases firstCode (e.writeCodes c k ty b false) with
  | some code => exact e.mailReturn_keeps code
  | none => exact (e.mailReturn_keeps 0).trans (hw.acceptBytes (e := e.mailReturn 0) hk he b)

theorem Dev.WriteKeeps.writeReq (hw : d.WriteKeeps l c base n r x) (hk : lookup c.s12 k = .row base n r)
    (he : e.rst = d.rst) (hl : .links ∈ l) {o : Org} (ho : e.Reaches o.path) (id : Nat) {data : List Byte}
    (hd : (parseHdr data).key = k) : e.Keeps l (e.writeReq c o id data x) := by
  unfold Dev.writeReq
  extract_lets h b short
  have ha (m : Msg) : e.AnswerOf (e.answer c o id data m) := e.answer_answerOf c o id data m ho
  cases firstCode (headerCodes data ++ (if short then [0x0004] else []) ++ e.writeCodes c h.key h.ty b false) with
  | some code => exact (ha _).keeps hl
  | none => exact ((ha _).keeps hl).trans (hw.acceptBytes (by rw [hd]; exact hk) ((ha _).rst.trans he) b)

theorem Dev.WriteKeeps.serveFrame (hw : d.WriteKeeps l c base n r x) (hk : lookup c.s12 k = .row base n r)
    (he : e.rst = d.rst) (hl : .links ∈ l) {o : Org} (ho : e.Reaches o.path) (id : Nat) {data : List Byte}
    (hd : (parseHdr data).key = k) : e.Keeps l (e.serveFrame c o 0x03 id data x) := by
  unfold Dev.serveFrame
  cases h : e.stored c o id data with
  | some a => exact (e.again_answerOf c a (by rw [Dev.stored_path h]; exact ho)).keeps hl
  | none => exact hw.writeReq hk he hl ho id hd

end

/-! ## A write request of a number -/

/-- The waiting request that a write of a number from an origin is (R67, R76, R104). -/
def Dev.writeWait (d : Dev) (o : Org) (k : Nat) (r : Obj) (v : Int) (x : Obs) : Wait :=
  ⟨o, if o.path = .mailbox then .write k r.ty.code (encodeVal r.ty (.num v))
    else .frame 0x03 (d.reqId o) (reqData k r.ty.code (encodeVal r.ty (.num v))), x⟩

/-- Where it is heard, a write of a number arrives as an expedited request. -/
theorem Dev.request_num {d : Dev} {c : Ctx} {o : Org} {k base n : Nat} {r : Obj} (v : Int) (x : Obs)
    (hk : lookup false k = .row base n r) (h : d.hears o = true) :
    d.request c o k (.num v) x = (d.leaveDoze c).arrive c ((d.leaveDoze c).writeWait o k r v x) := by
  have hb : ¬ 56 < (encodeVal r.ty (.num v)).length := by
    have := encodeVal_num_length r.ty v
    omega
  unfold Dev.request Dev.writeWait
  by_cases hm : o.path = .mailbox
  · simp [h, hk, hm]
  · simp only [h, hk, hm, hb, Bool.not_true, Bool.false_eq_true, if_false]
    rfl

/-- With none waiting, a request waits while the agent is busy, and else is served at once (R108, R109). -/
theorem Dev.arrive_first {d : Dev} {c : Ctx} {w : Wait} (h : d.itp.waiting = []) :
    d.arrive c w = if w.x.busy then { d with itp := { d.itp with waiting := [w] } }
      else (d.turnFrom w.org.path).serveJob c w := by
  unfold Dev.arrive
  cases hb : w.x.busy
  · simp [h]
  · simp [h]

/-- The key of the object a write request names. -/
theorem parseHdr_reqData {k : Nat} (ty : Ty) (b : List Byte) (hk : k < 2 ^ 24) (hb : b.length < 256) :
    parseHdr (reqData k ty.code b) = ⟨0, ty.code, k / 256, k % 256, b.length⟩ :=
  parseHdr_bytes _ b (Nat.zero_lt_succ 255) ty.code_lt (by simp only; omega) (by simp only; omega) hb

theorem reqData_key {k : Nat} (ty : Ty) (b : List Byte) (hk : k < 2 ^ 24) (hb : b.length < 256) :
    (parseHdr (reqData k ty.code b)).key = k := by
  rw [parseHdr_reqData ty b hk hb]
  exact Nat.div_add_mod' k 256

/-! ## What reaching the service changes (R86, R109, R792) -/

/-- What waking, the record of frames heard and the turn of a path may change. -/
structure Dev.AwakeOf (d x : Dev) : Prop where
  eta : ∃ o p t h n, x = { d with obj := o, pwr := p, trace := t, itp := { d.itp with hist := h, turn := n } }
  get : ∀ k, k ≠ 0x8000_01 → x.get k = d.get k
  listening : x.listening = d.listening

namespace Dev.AwakeOf

variable {d x y : Dev}

theorem refl (d : Dev) : d.AwakeOf d := ⟨⟨_, _, _, _, _, rfl⟩, fun _ _ => rfl, rfl⟩

theorem trans (h : d.AwakeOf x) (g : x.AwakeOf y) : d.AwakeOf y := by
  obtain ⟨⟨o, p, t, r, n, rfl⟩, hk, hl⟩ := h
  obtain ⟨⟨o', p', t', r', n', rfl⟩, gk, gl⟩ := g
  exact ⟨⟨o', p', t', r', n', rfl⟩, fun k h => (gk k h).trans (hk k h), gl.trans hl⟩

theorem rst (h : d.AwakeOf x) : x.rst = d.rst := by
  obtain ⟨_, _, _, _, _, e⟩ := h.eta
  rw [e]

theorem itp (h : d.AwakeOf x) : ∃ r n, x.itp = { d.itp with hist := r, turn := n } := by
  obtain ⟨_, _, _, r, n, e⟩ := h.eta
  exact ⟨r, n, by rw [e]⟩

end Dev.AwakeOf

theorem Dev.leaveDoze_awake (d : Dev) (c : Ctx) : d.AwakeOf (d.leaveDoze c) := by
  unfold Dev.leaveDoze
  split
  · next h =>
    obtain ⟨t, e⟩ := Dev.trcWake_eta { (d.setN 0x8000_01 0) with pwr := { d.pwr with st := .run } } c 0
    rw [e, Dev.setN, Dev.set_eta]
    exact ⟨⟨_, _, _, _, _, rfl⟩, fun k hk => (Dev.get_of_obj rfl k).trans (d.get_set_ne 0x8000_01 k _ hk),
      by simp [Dev.listening, h]⟩
  · exact .refl d

theorem Dev.turnFrom_awake (d : Dev) (p : Path) : d.AwakeOf (d.turnFrom p) := ⟨⟨_, _, _, _, _, rfl⟩, fun _ _ => rfl, rfl⟩

/-- A path that a request was heard on reaches, also once the device is awake. -/
theorem Dev.reaches_of_hears {d : Dev} {o : Org} (c : Ctx) (h : d.hears o = true) : (d.leaveDoze c).Reaches o.path := by
  intro p hp
  have hport : d.portSt p = 3 := by
    simp only [Dev.hears, hp, Dev.takes, Bool.and_eq_true, decide_eq_true_eq] at h
    exact h.2.2.1
  have hk : portK p 0x07 ≠ 0x8000_01 := by
    unfold portK key
    omega
  exact (Dev.nat_of_get ((d.leaveDoze_awake c).get _ hk)).trans hport

/-- The frame of a write request of a number: beside what the write itself may change, the ports and the power state. -/
theorem Dev.WriteKeeps.request {d : Dev} {c : Ctx} {k base n : Nat} {r : Obj} {x : Obs} (hw : d.WriteKeeps l c base n r x)
    (hk : ∀ b, lookup b k = .row base n r) (hk24 : k < 2 ^ 24) (hl : .links ∈ l) (hp : .power ∈ l)
    (hq : d.itp.waiting = []) (o : Org) (v : Int) : d.Keeps l (d.request c o k (.num v) x) := by
  cases h : d.hears o with
  | false =>
    rw [Dev.request, h]
    exact .refl l d
  | true =>
    rw [Dev.request_num v x (hk false) h]
    have h1 : d.Keeps l (d.leaveDoze c) := d.leaveDoze_keeps c hp
    have hr : (d.leaveDoze c).rst = d.rst := (d.leaveDoze_awake c).rst
    have hq1 : (d.leaveDoze c).itp.waiting = [] := by
      obtain ⟨_, _, e⟩ := (d.leaveDoze_awake c).itp
      rw [e]
      exact hq
    have ho := Dev.reaches_of_hears c h
    generalize d.leaveDoze c = e at h1 hr hq1 ho
    rw [Dev.arrive_first hq1]
    have ht : e.Keeps l (e.turnFrom o.path) := .itp e e.itp.waiting _ e.itp.hist e.itp.resp e.itp.hostQ
    refine h1.trans (ite_pred (e.Keeps l) (.itp e _ e.itp.turn e.itp.hist e.itp.resp e.itp.hostQ) (ht.trans ?_))
    refine ite_pred (Keeps l _) (.refl l _) ?_
    have hb : (encodeVal r.ty (.num v)).length < 256 := by
      have := encodeVal_num_length r.ty v
      omega
    unfold Dev.writeWait
    by_cases hm : o.path = .mailbox
    · simp only [hm, if_true]
      exact hw.mailPut (e := e.turnFrom .mailbox) (hk _) hr _ _
    · simp only [hm, if_false]
      exact hw.serveFrame (e := e.turnFrom o.path) (hk _) hr hl ho _ (reqData_key r.ty _ hk24 hb)

end Sys2Proof.Machine

/-!
SUPPORT. The frame of the clock root and timebase commands (ch 2), from the frames of what each does.
-/
namespace Sys2Proof.Machine

variable {l : List Part}

/-! ## Synthesizers whose reference is back (Table 4.2) -/

theorem Dev.Keeps.syns (d : Dev) (x : List Syn) (h : .synths ∈ l) : d.Keeps l { d with syns := x } :=
  .of_fields rfl fun p hp => by cases p <;> simp_all [SameFields]

theorem partOfKey_synK {s sub : Nat} (h : s < 256) (hs : sub < 256) : partOfKey (synK s sub) = some .synths :=
  partOfKey_key 0x22 s sub h hs (by decide) (by decide) (by decide) (by decide)

/-- The tables of the synthesizers' profiles stand 16 indices above those of the synthesizers. -/
theorem partOfKey_profK {s sub : Nat} (h : s < 240) (hs : sub < 256) : partOfKey (profK s sub) = some .synths := by
  have hk : profK s sub = synK (16 + s) sub := by
    unfold profK synK key
    omega
  rw [hk]
  exact partOfKey_synK (by omega) hs

theorem Dev.synSearch_keeps (d : Dev) {s : Nat} (h : s < 240) (hl : .synths ∈ l) : d.Keeps l (d.synSearch s) := by
  have hk {x : Dev} {sub n : Nat} (hs : sub < 256) : x.Keeps l (x.setN (synK s sub) n) :=
    .set_of_part x _ _ (partOfKey_synK (by omega) hs) hl
  have hp {x : Dev} {sub n : Nat} (hs : sub < 256) : x.Keeps l (x.setN (profK s sub) n) :=
    .set_of_part x _ _ (partOfKey_profK h hs) hl
  unfold Dev.synSearch
  extract_lets d1
  have h1 : d.Keeps l d1 := ite_pred (d.Keeps l) (hk (by decide)) (.refl l d)
  have h2 : d1.Keeps l ((d1.setSyn s 1).unalign s) := ((hk (by decide)).trans (.syns _ _ hl)).trans (hk (by decide))
  generalize (d1.setSyn s 1).unalign s = d2 at h2
  have h3 : d2.Keeps l (d2.profIdle s) := (((hp (by decide)).trans (hp (by decide))).trans
    (.set_of_part _ _ _ (partOfKey_profK h (by decide)) hl)).trans (.syns _ _ hl)
  exact ((h1.trans h2).trans h3).trans (.syns _ _ hl)

theorem Dev.gclkBack_keeps (d : Dev) (hl : .synths ∈ l) : d.Keeps l d.gclkBack := by
  refine .foldl (fun b s hs => ?_) d
  have := List.mem_range.mp hs
  exact ite_pred (b.Keeps l) (b.synSearch_keeps (by omega) hl) (.refl l b)

/-! ## The write of a timebase object -/

theorem Dev.changeSource_keeps (d : Dev) (c : Ctx) (h : .timebase ∈ l) : d.Keeps l (d.changeSource c) :=
  ((Keeps.clk d _ h).trans (.set_of_part _ 0x1050_0B _ rfl h)).trans (Dev.restartTimeout_keeps _ c h)

theorem Dev.judgeTimePair_keeps (d : Dev) (c : Ctx) (h : .timebase ∈ l) : d.Keeps l (d.judgeTimePair c) :=
  ite_pred (d.Keeps l) (.refl l d) (ite_pred (d.Keeps l) ((Keeps.clk d _ h).trans (Dev.raise_keeps _ c _ _))
    ((Keeps.clk d _ h).trans (Dev.raiseClr_keeps _ c _ _)))

theorem Dev.writeTimebase_keeps (d : Dev) (c : Ctx) (sub : Nat) (v : Val)
    (hk : partOfKey (0x1050_00 + sub) = some .timebase) (h : .timebase ∈ l) : d.Keeps l (d.writeTimebase c sub v) := by
  have h1 : d.Keeps l (d.set (0x1050_00 + sub) v) := .set_of_part d _ v hk h
  unfold Dev.writeTimebase
  extract_lets _ _ _ d1 d2 d3
  have h2 : d.Keeps l d2 := ite_pred (d.Keeps l) h1 (h1.trans (d1.changeSource_keeps c h))
  have h3 : d.Keeps l d3 := ite_pred (d.Keeps l) h1 (h1.trans (d1.changeSource_keeps c h))
  exact ite_pred (d.Keeps l) (h2.trans (d2.judgeTimePair_keeps c h))
    (ite_pred (d.Keeps l) (h3.trans (d3.judgeTimePair_keeps c h)) h1)

theorem Dev.judgeServe_keeps (d : Dev) (c : Ctx) (h : .links ∈ l) : d.Keeps l (d.judgeServe c) := by
  refine .foldl (fun b p _ => ?_) d
  have h1 : b.Keeps l (b.modPort p fun x => { x with serveHeld := b.flag (linkK p 0x14) && !b.servesTime p }) :=
    .ports b _ h
  exact ite_pred (b.Keeps l) (.refl l b) (ite_pred (b.Keeps l) (h1.trans (Dev.raise_keeps _ c _ _))
    (h1.trans (Dev.raiseClr_keeps _ c _ _)))

/-- What writing the timebase leaves of the reset and start-up's state: all. -/
theorem Dev.writeTimebase_rst (d : Dev) (c : Ctx) (sub : Nat) (v : Val) : (d.writeTimebase c sub v).rst = d.rst := by
  let P (x : Dev) : Prop := x.rst = d.rst
  have hs (x : Dev) (h : P x) : P (x.changeSource c) := (Dev.setN_rst _ _ _).trans h
  have hj (x : Dev) (h : P x) : P (x.judgeTimePair c) :=
    ite_pred P h (ite_pred P ((Dev.raise_rst _ c _ _).trans h) ((Dev.raiseClr_rst _ c _ _).trans h))
  have h1 : P (d.set (0x1050_00 + sub) v) := d.set_rst _ v
  exact ite_pred P (hj _ (ite_pred P h1 (hs _ h1))) (ite_pred P (hj _ (ite_pred P h1 (hs _ h1))) h1)

theorem Dev.judgeServe_rst (d : Dev) (c : Ctx) : (d.judgeServe c).rst = d.rst := by
  let P (x : Dev) : Prop := x.rst = d.rst
  refine foldl_pred P _ (fun x p hx => ?_) _ rfl
  exact ite_pred P hx (ite_pred P ((Dev.raise_rst _ c _ _).trans hx) ((Dev.raiseClr_rst _ c _ _).trans hx))

/-! ## No set held aside -/

theorem Dev.dropAside_none {d : Dev} (k : Nat) (h : d.rst.aside = []) : d.dropAside k = d := by
  unfold Dev.dropAside
  simp [h]

theorem Dev.retryAside_none {d : Dev} (c : Ctx) (h : d.rst.aside = []) : d.retryAside c = d := by
  unfold Dev.retryAside
  simp [h]

/-- Where no set is held aside after it, the effect of a direct write or a command is all there is of it. -/
theorem Dev.applyWrite_direct {d : Dev} {c : Ctx} {base n : Nat} {r : Obj} {v : Val} {x : Obs} (hr : r.acc ≠ .rws)
    (h : (d.writeObj c base n r.sub v x).rst.aside = []) : d.applyWrite c base n r v x = d.writeObj c base n r.sub v x := by
  unfold Dev.applyWrite
  simp only [if_neg hr]
  rw [Dev.dropAside_none _ h, ite_self, Dev.retryAside_none _ h]

theorem Dev.writeObj_timebase_keeps {d : Dev} {c : Ctx} {n sub : Nat} {v : Val} {x : Obs}
    (hk : partOfKey (0x1050_00 + sub) = some .timebase) (ht : .timebase ∈ l) (hl : .links ∈ l) :
    d.Keeps l (d.writeObj c 0x1050 n sub v x) :=
  (d.writeTimebase_keeps c sub v hk ht).trans (Dev.judgeServe_keeps _ c hl)

theorem Dev.writeObj_timebase_rst (d : Dev) (c : Ctx) (n sub : Nat) (v : Val) (x : Obs) :
    (d.writeObj c 0x1050 n sub v x).rst = d.rst :=
  (Dev.judgeServe_rst _ c).trans (d.writeTimebase_rst c sub v)

/-- The frame of a change of source or trunk port (R141). -/
theorem Dev.sourceRequest_keeps {d : Dev} (c : Ctx) (o : Org) (port : Bool) (v : Int) (x : Obs) (ha : d.rst.aside = [])
    (hq : d.itp.waiting = []) : d.Keeps [.timebase, .links, .power]
      (d.request c o (if port then 0x1050_08 else 0x1050_06) (.num v) x) := by
  obtain ⟨r, hk, hacc, hpart⟩ : ∃ r, (∀ b, lookup b (if port then 0x1050_08 else 0x1050_06) = .row 0x1050 0 r) ∧
      r.acc ≠ .rws ∧ partOfKey (0x1050_00 + r.sub) = some .timebase := by
    cases port with
    | false => exact ⟨_, fun b => by cases b <;> rfl, by decide, rfl⟩
    | true => exact ⟨_, fun b => by cases b <;> rfl, by decide, rfl⟩
  refine Dev.WriteKeeps.request (fun e he w => ?_) hk (by split <;> decide) (by decide) (by decide) hq o v
  rw [Dev.applyWrite_direct hacc (by rw [Dev.writeObj_timebase_rst, he]; exact ha)]
  exact Dev.writeObj_timebase_keeps hpart (by decide) (by decide)

/-! ## The effects of the other commands -/

theorem Dev.rootLocked_rst (d : Dev) (c : Ctx) (us : Nat) : (d.rootLocked c us).rst = d.rst := by
  have h : (if d.clk.pllTries = 0 then d else d.transient).rst = d.rst :=
    ite_pred (fun x : Dev => x.rst = d.rst) rfl (d.inc_rst _)
  unfold Dev.rootLocked
  simp only [Dev.setN_rst]
  exact h

variable {dt : Nat} {s t : State}

theorem time_keeps {f : Req} {age : Nat} {err : Bool} (h : RunsUp (.time dt f age err) s t) :
    s.dev.Keeps [.bus, .timebase, .power] t.dev := by
  obtain ⟨-, he, -, ht, hup⟩ := h
  replace ht : execTime dt f age err s = .next t := ht
  refine State.act_keeps he ht hup (by decide) fun _ => ?_
  have h1 : s.entry.Keeps [.bus, .timebase, .power] (s.entry.timeFrame (s.ctx dt) f age) :=
    Dev.timeFrame_keeps _ _ f age (by decide)
  refine ite_pred (s.entry.Keeps _) (.refl _ _) (ite_pred (s.entry.Keeps _) h1 (h1.trans ?_))
  exact (Dev.leaveDoze_keeps _ _ (by decide)).trans (Dev.dedupe_keeps _ _ f _ (by decide))

theorem cmonGateEnd_keeps {counts : List Nat} {hz : Nat} (h : RunsUp (.cmonGateEnd dt counts hz) s t) :
    s.dev.Keeps [.timebase, .synths, .links, .formes, .collector] t.dev := by
  obtain ⟨-, he, -, ht, hup⟩ := h
  replace ht : execCmonGateEnd dt counts hz s = .next t := ht
  refine State.act_keeps he ht hup (by decide) fun _ => ?_
  have h1 : s.entry.Keeps [.timebase, .synths, .links, .formes, .collector] (s.entry.cmonGate (s.ctx dt) counts hz) :=
    Dev.cmonGate_keeps _ _ counts hz (by decide) (by decide)
  exact ite_pred (s.entry.Keeps _) (h1.trans (Dev.gclkBack_keeps _ (by decide))) h1

theorem monitorOscillatorLost_keeps (h : RunsUp (.monitorOscillatorLost dt) s t) :
    s.dev.Keeps [.timebase, .links, .formes, .collector] t.dev := by
  obtain ⟨-, he, -, ht, hup⟩ := h
  replace ht : execMonitorOscillatorLost dt s = .next t := ht
  exact State.act_keeps he ht hup (by decide) fun _ =>
    ite_pred (s.entry.Keeps _) (.refl _ _) (Dev.loseImo_keeps _ _ (by decide) (by decide))

theorem rootPllLock_keeps {us slow : Nat} (h : RunsUp (.rootPllLock dt us slow) s t) :
    s.dev.Keeps [.timebase, .links, .formes, .collector] t.dev := by
  obtain ⟨-, he, -, ht, hup⟩ := h
  replace ht : execRootPllLock dt us slow s = .next t := ht
  refine State.act_keeps he ht hup (by decide) fun _ => ?_
  have h1 : s.entry.Keeps [.timebase, .links, .formes, .collector] (s.entry.rootLocked (s.ctx dt) us) :=
    Dev.rootLocked_keeps _ _ us (by decide) (by decide)
  have hr : (s.entry.rootLocked (s.ctx dt) us).rst = s.entry.rst := Dev.rootLocked_rst _ _ us
  refine ite_pred (s.entry.Keeps _) (h1.trans ?_) (.refl _ _)
  exact .rst _ _ (by rw [hr]) (by rw [hr]) (by rw [hr])

theorem rootPllLockFailure_keeps (h : RunsUp (.rootPllLockFailure dt) s t) :
    s.dev.Keeps [.timebase, .links, .formes, .collector] t.dev := by
  obtain ⟨-, he, -, ht, hup⟩ := h
  replace ht : execRootPllLockFailure dt s = .next t := ht
  refine State.act_keeps he ht hup (by decide) ?_
  dsimp only
  split
  · exact fun _ => .refl _ _
  · split
    · exact fun _ => (Dev.Keeps.set_of_part _ 0x2000_01 _ rfl (by decide)).trans (.clk _ _ (by decide))
    · -- the device stays in reset: it is not up
      exact fun h => nomatch h

theorem slewStep_keeps (h : RunsUp (.slewStep dt) s t) : s.dev.Keeps [.timebase] t.dev := by
  obtain ⟨-, he, -, ht, hup⟩ := h
  replace ht : execSlewStep dt s = .next t := ht
  refine State.act_keeps he ht hup (by decide) fun _ => ?_
  cases s.entry.clk.target with
  | none =>
    exact .refl _ _
  | some g =>
    have h1 (o : Int) (k : Clk) : s.entry.Keeps [.timebase] { s.entry.setI 0x1050_03 o with clk := k } :=
      (Dev.Keeps.set_of_part _ 0x1050_03 _ rfl (by decide)).trans (.clk _ _ (by decide))
    have h2 (o : Int) (k k' : Clk) : s.entry.Keeps [.timebase]
        { ({ s.entry.setI 0x1050_03 o with clk := k } : Dev).setN 0x1050_0B 3 with clk := k' } :=
      ((h1 o k).trans (.set_of_part _ 0x1050_0B _ rfl (by decide))).trans (.clk _ _ (by decide))
    exact ite_pred (s.entry.Keeps _) (.refl _ _) (ite_pred (s.entry.Keeps _) (h2 _ _ _) (h1 _ _))

theorem masterTimeLost_keeps (h : RunsUp (.masterTimeLost dt) s t) : s.dev.Keeps [.timebase] t.dev := by
  obtain ⟨-, he, -, ht, hup⟩ := h
  replace ht : execMasterTimeLost dt s = .next t := ht
  refine State.act_keeps he ht hup (by decide) fun _ => ite_pred (s.entry.Keeps _) (.refl _ _) ?_
  exact ((Dev.Keeps.set_of_part _ 0x1050_0B _ rfl (by decide)).trans (.clk _ _ (by decide))).trans
    (Dev.raise_keeps _ _ _ _)

theorem timeSourceChange_keeps {o : Org} {port : Bool} {v : Nat} (h : RunsUp (.timeSourceChange dt o port v) s t) :
    s.dev.Keeps [.timebase, .links, .power] t.dev := by
  obtain ⟨⟨-, ha, hq⟩, he, -, ht, hup⟩ := h
  replace ht : s.req dt o (if port then 0x1050_08 else 0x1050_06) v Obs.quiet = .next t := ht
  unfold State.req at ht
  exact State.act_keeps he ht hup (by decide) fun _ => Dev.sourceRequest_keeps _ o port v _ ha hq

/-- Settles O49, command by command. -/
theorem frameOfTimebase : Obligations.Frame_of_timebase := by
  unfold Obligations.Frame_of_timebase
  intro i s t hi h
  cases i with
  | time => exact time_keeps h
  | cmonGateEnd => exact cmonGateEnd_keeps h
  | monitorOscillatorLost => exact monitorOscillatorLost_keeps h
  | rootPllLock => exact rootPllLock_keeps h
  | rootPllLockFailure => exact rootPllLockFailure_keeps h
  | slewStep => exact slewStep_keeps h
  | masterTimeLost => exact masterTimeLost_keeps h
  | timeSourceChange => exact timeSourceChange_keeps h
  | _ => nomatch hi

end Sys2Proof.Machine

/-!
SUPPORT. Requests on their way to the service and answered: a frame that is taken, an expedited request served at once, the
answer kept, a write to a staged object.
-/
namespace Sys2Proof.Machine

/-! ## The objects with a staged value (R31, R38) -/

/-- The tables with RWS objects: blocks that lie in one part each, without the states of the audio clocks. -/
theorem dictionary_rws : ∀ f ∈ dictionary, ∀ o ∈ f.tbl, o.acc = .rws →
    f.base / 256 ∈ [0x21, 0x50, 0x51, 0x54, 0x61, 0x63, 0x73] ∧ f.base % 256 + f.n24 ≤ 256 ∧ f.n12 ≤ f.n24 ∧
      o.sub < 256 ∧ (f.base = 0x6300 → o.sub ≠ 6) := by
  decide +kernel

/-- A row that is found is one of the dictionary's, but for the access of WD1's enable, which is a command. -/
theorem mem_of_lookup {s12 : Bool} {k base n : Nat} {r : Obj} (h : lookup s12 k = .row base n r) (hr : r.acc ≠ .cmd) :
    ∃ f ∈ dictionary, f.base = base ∧ n < max f.n24 f.n12 ∧ r ∈ f.tbl := by
  unfold lookup at h
  split at h
  · contradiction
  · next f m hf =>
    split at h
    · contradiction
    · split at h
      · next o ho =>
        obtain ⟨rfl, rfl, rfl⟩ := Lookup.row.inj h
        unfold famOf at hf
        split at hf
        · contradiction
        · split at hf
          · next g hg =>
            obtain ⟨rfl, rfl⟩ := Prod.mk.inj (Option.some.inj hf)
            have hlt := List.find?_some hg
            simp only [Bool.and_eq_true, decide_eq_true_eq] at hlt
            refine ⟨g, List.mem_of_find?_eq_some hg, rfl, by split at hlt <;> omega, ?_⟩
            unfold Fam.row at ho
            split at ho
            · split at ho
              · next o' ho' =>
                split at ho
                · exact absurd (by rw [← Option.some.inj ho]) hr
                · rw [← Option.some.inj ho]
                  exact List.mem_of_find?_eq_some ho'
              · contradiction
            · contradiction
          · contradiction
      · contradiction

theorem partOf_staged {h : Nat} (hb : h / 256 ∈ [0x21, 0x50, 0x51, 0x54, 0x61, 0x63, 0x73]) : partOf h ≠ none := by
  unfold partOf
  simp only [List.mem_cons, List.not_mem_nil, or_false] at hb
  obtain e | e | e | e | e | e | e := hb <;> simp [e]

/-- An object with a staged value is in a part, and is not the power state. -/
theorem partOfKey_rws {s12 : Bool} {k base n : Nat} {r : Obj} (h : lookup s12 k = .row base n r) (hr : r.acc = .rws) :
    partOfKey (key base n r.sub) ≠ none ∧ key base n r.sub ≠ 0x8000_01 := by
  obtain ⟨f, hf, rfl, hn, hmem⟩ := mem_of_lookup h (by rw [hr]; decide)
  obtain ⟨hb, hi, h12, hs, h6⟩ := dictionary_rws f hf r hmem hr
  have hdiv : (f.base + n) / 256 = f.base / 256 := by omega
  have hne : f.base / 256 ≠ 0x62 ∧ f.base / 256 ≠ 0x80 := ⟨by rintro e; simp [e] at hb, by rintro e; simp [e] at hb⟩
  have hk : key f.base n r.sub / 65536 = f.base / 256 := by
    unfold key
    omega
  have h63 : key f.base n r.sub ≠ 0x6300_06 := by
    intro e
    refine h6 ?_ ?_ <;> unfold key at e <;> omega
  refine ⟨?_, fun e => hne.2 (by rw [← hk, e])⟩
  unfold partOfKey
  rw [hk, key_div _ _ _ hs]
  simp only [h63, hne.1, decide_false, Bool.false_and, Bool.or_self, Bool.false_eq_true, if_false]
  exact partOf_staged (by rw [hdiv]; exact hb)

/-! ## A frame that is taken (R67, R68, R86) -/

theorem Dev.dedupe_awake {d : Dev} {c : Ctx} {f : Req} {id : Nat} (h : (d.dedupe c f id).2 = true) :
    d.AwakeOf (d.dedupe c f id).1 := by
  revert h
  unfold Dev.dedupe
  split
  · exact fun _ => .refl d
  · extract_lets win hist cand mark
    split
    · exact fun h => nomatch h
    · split
      · exact fun h => nomatch h
      · exact fun _ => ⟨⟨_, _, _, _, _, rfl⟩, fun _ _ => rfl, rfl⟩

theorem Dev.canIn_awake {d : Dev} {c : Ctx} {cls : Nat} {f : Req} (h : (d.canIn c cls f).2 = true) :
    d.AwakeOf (d.canIn c cls f).1 ∧ d.listening = true := by
  revert h
  unfold Dev.canIn
  split
  · exact fun h => nomatch h
  · next hn =>
    simp only [Bool.or_eq_true, Bool.not_eq_true', decide_eq_true_eq, not_or, Bool.not_eq_false] at hn
    exact fun h => ⟨(d.leaveDoze_awake c).trans (Dev.dedupe_awake h), hn.1.2⟩

/-- With none waiting, no reset asked for and the agent serving, an expedited request is served at once (R108, R109). -/
theorem Dev.serve_expedited (d : Dev) {c : Ctx} {o : Org} {cls id : Nat} {data : List Byte} {x : Obs}
    (hq : d.itp.waiting = []) (hw : d.rst.want = []) (hl : d.listening = true) (hc : cls = 0x01 ∨ cls = 0x03)
    (hb : x.busy = false) : d.serve c o cls id data x = (d.turnFrom o.path).serveFrame c o cls id data x := by
  have ha : d.serve c o cls id data x = d.arrive c ⟨o, .frame cls id data, x⟩ := by
    rcases hc with rfl | rfl <;> rfl
  rw [ha, Dev.arrive_first hq, hb]
  have hl' : (d.turnFrom o.path).listening = true := hl
  have hw' : (d.turnFrom o.path).rst.want = [] := hw
  simp [Dev.serveJob, hl', hw']

section
variable {s : State} {dt cls : Nat} {f : Req}

/-- The device as the service of a taken frame finds it. -/
theorem State.taken_awake (h : (s.taken dt cls f).2 = true) :
    s.entry.AwakeOf (s.taken dt cls f).1 ∧ (s.taken dt cls f).1.listening = true := by
  obtain ⟨ha, hl⟩ := Dev.canIn_awake (d := s.entry) (c := s.ctx dt) (cls := cls) (f := f) h
  have ht : s.entry.AwakeOf (s.taken dt cls f).1 := ite_pred s.entry.AwakeOf (ha.trans (Dev.turnFrom_awake _ _)) ha
  exact ⟨ht, ht.listening.trans hl⟩

/-- A taken frame that is no expedited request is served as it comes. -/
theorem State.canFrame_taken (x : Obs) (hd : f.dest ≠ 255) (h : (s.taken dt cls f).2 = true) (h1 : cls ≠ 0x01)
    (h3 : cls ≠ 0x03) : s.entry.canFrame (s.ctx dt) cls f x =
      (s.taken dt cls f).1.serve (s.ctx dt) ((s.taken dt cls f).1.orgOf f) cls
        (canId f.prio cls f.dest f.src f.tag) f.data x := by
  have ht : s.taken dt cls f = s.entry.canIn (s.ctx dt) cls f := by
    unfold State.taken
    simp [h1, h3]
  rw [ht] at h ⊢
  unfold Dev.canFrame
  simp only [if_neg hd, h, if_true]

/-- A taken expedited request that nothing keeps waiting is served at once (R108, R109). -/
theorem State.canFrame_expedited {x : Obs} (hq : Quiet s) (hd : f.dest ≠ 255) (h : (s.taken dt cls f).2 = true)
    (hc : cls = 0x01 ∨ cls = 0x03) (hb : x.busy = false) : s.entry.canFrame (s.ctx dt) cls f x =
      (s.taken dt cls f).1.serveFrame (s.ctx dt) ((s.taken dt cls f).1.orgOf f) cls (canId f.prio cls f.dest f.src f.tag)
        f.data x := by
  obtain ⟨hwant, -, hwait⟩ := hq
  obtain ⟨ha, hl⟩ := Dev.canIn_awake (d := s.entry) (c := s.ctx dt) (cls := cls) (f := f) h
  have ht : (s.taken dt cls f).1 =
      (s.entry.canIn (s.ctx dt) cls f).1.turnFrom ((s.entry.canIn (s.ctx dt) cls f).1.canPath f.ch) := by
    unfold State.taken
    rcases hc with rfl | rfl <;> rfl
  have hserved : (s.entry.canIn (s.ctx dt) cls f).2 = true := h
  rw [ht]
  unfold Dev.canFrame
  simp only [if_neg hd, hserved, if_true]
  have hw : (s.entry.canIn (s.ctx dt) cls f).1.itp.waiting = [] := by
    obtain ⟨_, _, e⟩ := ha.itp
    rw [e]
    exact hwait
  have hr := ha.rst
  have hls := ha.listening.trans hl
  generalize (s.entry.canIn (s.ctx dt) cls f).1 = e at hw hr hls
  exact e.serve_expedited hw (by rw [hr]; exact hwant) hls hc hb

end

/-! ## The answer kept (R90) -/

theorem Dev.queueMgmt_itpRst (d : Dev) (p : Nat) (q : QPkt) : d.ItpRstOf (d.queueMgmt p q) :=
  ite_pred d.ItpRstOf ⟨rfl, rfl⟩ (ite_pred d.ItpRstOf ⟨Dev.inc_itp .., Dev.inc_rst ..⟩ ⟨rfl, rfl⟩)

/-- Sending writes of the ITP's state the frames for the host alone, and asks for no reset. -/
theorem Dev.sendTo_hostQ (d : Dev) (c : Ctx) (p : Path) (m : Msg) :
    d.HostQOf (d.sendTo c p m) ∧ (d.sendTo c p m).rst = d.rst := by
  let P (x : Dev) : Prop := d.HostQOf x ∧ x.rst = d.rst
  have hb : P (d.sendBoth m) := by
    rw [Dev.sendBoth_same]
    exact ⟨⟨_, rfl⟩, rfl⟩
  have hc (ch : Nat) : P (d.sendCan ch m) := by
    rw [Dev.sendCan_same]
    exact ⟨⟨_, rfl⟩, rfl⟩
  cases p with
  | fd0 => exact ite_pred P hb (hc 0)
  | fd1 => exact ite_pred P hb (hc 1)
  | host => exact ⟨d.toHost_hostQ true false m, (d.toHost_answerOf m).rst⟩
  | vc1 n =>
    obtain ⟨hi, hr⟩ := d.queueMgmt_itpRst n ⟨6, 1, 0, d.itpFrame m, c.t⟩
    exact ite_pred P ⟨⟨_, hi⟩, hr⟩ ⟨⟨_, rfl⟩, rfl⟩
  | mailbox => exact ⟨⟨_, rfl⟩, rfl⟩

/-- The answer to a request is kept; of the ITP's state else only the frames for the host change. -/
theorem Dev.answer_itp (d : Dev) (c : Ctx) (o : Org) (id : Nat) (data : List Byte) (m : Msg) :
    (∃ l q, (d.answer c o id data m).itp = { d.itp with
        resp := l ++ [⟨o.path, o.src, o.tag, id, data, m, c.t⟩], hostQ := q }) ∧
      (d.answer c o id data m).rst = d.rst := by
  unfold Dev.answer
  extract_lets l _ d1
  obtain ⟨⟨q, hq⟩, hr⟩ := d1.sendTo_hostQ c o.path m
  exact ⟨⟨l, q, hq⟩, hr⟩

theorem Dev.answer_kept (d : Dev) (c : Ctx) (o : Org) (id : Nat) (data : List Byte) (m : Msg) :
    ⟨o.path, o.src, o.tag, id, data, m, c.t⟩ ∈ (d.answer c o id data m).itp.resp := by
  obtain ⟨⟨l, q, e⟩, -⟩ := d.answer_itp c o id data m
  simp [e]

/-- What completes a command leaves the answers kept, the transfers, the staged set, the quoin as its effect made them. -/
theorem Dev.EndsAs.of_itp {d x : Dev} (h : d.EndsAs x) {α : Type} (f : Itp → α)
    (hf : ∀ i q, f { i with hostQ := q } = f i) : f x.itp = f d.itp := by
  obtain ⟨q, e⟩ := h.itp
  rw [e, hf]

/-- A command completes with what its effect leaves, where that asks for no reset. -/
theorem completes_of_effect {i : Instr} {s : State} {dt : Nat} {f : Ctx → Dev → Dev} {e : Dev} {P : State → Prop}
    (hx : exec i s = s.act dt f) (hf : f (s.ctx dt) s.entry = e) (hw : e.rst.want = [])
    (hP : ∀ t : State, e.EndsAs t.dev → P t) : Completes i s P := by
  subst hf
  obtain ⟨t, ht, he⟩ := s.act_ends dt f hw
  exact ⟨t, hx.trans ht, hP t he⟩

/-! ## An accepted write of a staged object (R38) -/

theorem Dev.serveFrame_write {d : Dev} {c : Ctx} {o : Org} {id : Nat} {data : List Byte} (x : Obs)
    (h : d.stored c o id data = none) : d.serveFrame c o 0x03 id data x = d.writeReq c o id data x := by
  simp only [Dev.serveFrame, h]

/-- A write that no rule refuses is answered and takes effect (R56). -/
theorem Dev.writeReq_accepted {d : Dev} {c : Ctx} {data : List Byte} (o : Org) (id : Nat) (x : Obs)
    (hh : headerCodes data = []) (hl : (parseHdr data).len ≤ 56) (hd : 8 + (parseHdr data).len ≤ data.length)
    (hc : d.writeCodes c (parseHdr data).key (parseHdr data).ty ((data.drop 8).take (parseHdr data).len) false = []) :
    d.writeReq c o id data x =
      (d.answer c o id data (reply o 0x04
        (Hdr.bytes ⟨0, (parseHdr data).ty, (parseHdr data).idx, (parseHdr data).sub, 0⟩))).acceptBytes c (parseHdr data).key
        ((data.drop 8).take (parseHdr data).len) x := by
  have hs : (decide (56 < (parseHdr data).len) || decide (data.length < 8 + (parseHdr data).len)) = false := by
    simp
    omega
  unfold Dev.writeReq
  simp only [hh, hs, hc, Bool.false_eq_true, if_false, List.append_nil, firstCode, List.foldl_nil]

theorem Dev.applyWrite_staged {d : Dev} {c : Ctx} {base n : Nat} {r : Obj} (v : Val) (x : Obs) (hr : r.acc = .rws) :
    d.applyWrite c base n r v x = d.stage (key base n r.sub) v := by
  simp only [Dev.applyWrite, hr, if_true]

/-- A staged object has one entry, with the value last written (R38). -/
theorem Dev.stage_staged (d : Dev) (k : Nat) (v : Val) :
    ((d.stage k v).itp.staged.filter fun e => e.key = k).map (fun e => e.val) = [v] := by
  simp [Dev.stage, List.filter_append, List.filter_filter]

theorem Dev.orgOf_reaches (d : Dev) (f : Req) : d.Reaches (d.orgOf f).path := by
  intro p hp
  simp only [Dev.orgOf, Dev.canPath] at hp
  split at hp <;> contradiction

/-- An accepted WRITE_REQ of a staged object: the request's answer is kept, the value staged. -/
theorem writeReq_completes {s : State} {dt : Nat} {f : Req} {x : Obs} {base n : Nat} {r : Obj} {v : Val} {P : State → Prop}
    (hq : Quiet s) (hd : f.dest ≠ 255) (ht : (s.taken dt 0x03 f).2 = true)
    (hst : (s.taken dt 0x03 f).1.stored (s.ctx dt) ((s.taken dt 0x03 f).1.orgOf f) (canId f.prio 0x03 f.dest f.src f.tag)
      f.data = none)
    (hh : headerCodes f.data = []) (hl : (parseHdr f.data).len ≤ 56) (hlen : 8 + (parseHdr f.data).len ≤ f.data.length)
    (hc : (s.taken dt 0x03 f).1.writeCodes (s.ctx dt) (parseHdr f.data).key (parseHdr f.data).ty
      ((f.data.drop 8).take (parseHdr f.data).len) false = [])
    (hk : lookup (s.ctx dt).s12 (parseHdr f.data).key = .row base n r) (hr : r.acc = .rws)
    (hv : decodeVal r.ty ((f.data.drop 8).take (parseHdr f.data).len) = some v) (hb : x.busy = false)
    (hP : ∀ (t : State) (id : Nat) (m : Msg), m.cls = 0x04 →
      Dev.EndsAs (((s.taken dt 0x03 f).1.answer (s.ctx dt) ((s.taken dt 0x03 f).1.orgOf f) id f.data m).stage
        (key base n r.sub) v) t.dev → P t) : Completes (.writeReq dt f x) s P := by
  have hx : exec (.writeReq dt f x) s = execWriteReq dt f x s := rfl
  have hf := State.canFrame_expedited (x := x) hq hd ht (.inr rfl) hb
  obtain ⟨ha, -⟩ := State.taken_awake ht
  rw [Dev.serveFrame_write x hst] at hf
  generalize (s.taken dt 0x03 f).1 = e at *
  have he := e.writeReq_accepted (e.orgOf f) (canId f.prio 0x03 f.dest f.src f.tag) x hh hl hlen hc
  rw [he, Dev.acceptBytes_some _ x hk hv, Dev.applyWrite_staged v x hr] at hf
  refine completes_of_effect hx hf ?_ fun t => hP t _ _ rfl
  exact (congrArg Rst.want (((e.answer_itp _ _ _ _ _).2).trans ha.rst)).trans hq.1

/-- Settles O41. -/
theorem stagedWrites : Obligations.Staged_writes := by
  unfold Obligations.Staged_writes
  intro s dt f x base n r v hq hd ht hst hh hl hlen hc hk hr hv hb
  refine writeReq_completes hq hd ht hst hh hl hlen hc hk hr hv hb fun t id m _ he => ?_
  obtain ⟨ha, -⟩ := State.taken_awake ht
  obtain ⟨hpart, hne⟩ := partOfKey_rws hk hr
  generalize (s.taken dt 0x03 f).1 = e at *
  have hans := e.answer_answerOf (s.ctx dt) (e.orgOf f) id f.data m (e.orgOf_reaches f)
  obtain ⟨⟨l, q, hitp⟩, -⟩ := e.answer_itp (s.ctx dt) (e.orgOf f) id f.data m
  generalize e.answer (s.ctx dt) (e.orgOf f) id f.data m = a at *
  refine ⟨?_, ?_, ?_⟩
  · rw [he.of_itp Itp.staged fun _ _ => rfl]
    exact a.stage_staged _ v
  · calc t.dev.get (key base n r.sub) = a.get (key base n r.sub) := he.get _ hpart
      _ = e.get (key base n r.sub) := Dev.get_of_obj hans.obj _
      _ = s.dev.get (key base n r.sub) := ha.get _ hne
  · obtain ⟨_, _, hi⟩ := ha.itp
    rw [he.of_itp Itp.quoin fun _ _ => rfl]
    show a.itp.quoin = _
    rw [hitp, hi]
    rfl

end Sys2Proof.Machine

/-!
SUPPORT. The transfer protocol on CAN FD: requests answered, transfers opened, carried on and dropped, HEARTBEAT and bus-off
(R67 to R97, R118).
-/
namespace Sys2Proof.Machine

/-! ## A request that is answered -/

/-- What completes an answered request has kept the answer. -/
theorem completes_of_answer {i : Instr} {s : State} {dt : Nat} {f : Ctx → Dev → Dev} {d : Dev} {c : Ctx} {o : Org} {id : Nat}
    {data : List Byte} {m : Msg} {P : State → Prop} (hx : exec i s = s.act dt f)
    (hf : f (s.ctx dt) s.entry = d.answer c o id data m) (hw : d.rst.want = [])
    (hP : ∀ t : State, (d.answer c o id data m).EndsAs t.dev →
      ⟨o.path, o.src, o.tag, id, data, m, c.t⟩ ∈ t.dev.itp.resp → P t) : Completes i s P := by
  refine completes_of_effect hx hf ?_ fun t ht => hP t ht ?_
  · rw [(d.answer_itp c o id data m).2]
    exact hw
  · rw [ht.of_itp Itp.resp fun _ _ => rfl]
    exact d.answer_kept c o id data m

theorem State.taken_want {s : State} {dt cls : Nat} {f : Req} (hq : Quiet s) (h : (s.taken dt cls f).2 = true) :
    (s.taken dt cls f).1.rst.want = [] := by
  rw [(State.taken_awake h).1.rst]
  exact hq.1

theorem Dev.beforeRead_ne {d : Dev} {k : Nat} (h : k ≠ 0x9400_01) : d.beforeRead k = d := by
  simp only [Dev.beforeRead, if_neg h]

/-- A READ_REQ of an object that gives a value is answered with it (R70, R71). -/
theorem Dev.readReq_value {d : Dev} {c : Ctx} {data b : List Byte} {ty : Nat} (o : Org) (id : Nat)
    (hh : headerCodes data = []) (hk : (parseHdr data).key ≠ 0x9400_01)
    (hr : d.readObj c (parseHdr data).key (parseHdr data).ty (bit (parseHdr data).flags 0) = .inr (ty, b))
    (hb : b.length ≤ 56) :
    ∃ h : Hdr, d.readReq c o id data = d.answer c o id data (reply o 0x02 (h.bytes ++ b)) := by
  refine ⟨⟨b2n (bit (parseHdr data).flags 0), ty, (parseHdr data).idx, (parseHdr data).sub, b.length⟩, ?_⟩
  unfold Dev.readReq
  simp only [Dev.beforeRead_ne hk, hr, hh, if_neg (Nat.not_lt.mpr hb), List.append_nil, firstCode, List.foldl_nil]

theorem Dev.serveFrame_read {d : Dev} {c : Ctx} {o : Org} {id : Nat} {data : List Byte} (x : Obs)
    (h : d.stored c o id data = none) : d.serveFrame c o 0x01 id data x = d.readReq c o id data := by
  simp only [Dev.serveFrame, h]

theorem Dev.serveFrame_segRead {d : Dev} {c : Ctx} {o : Org} {id : Nat} {data : List Byte} (x : Obs)
    (h : d.stored c o id data = none) : d.serveFrame c o 0x06 id data x = d.segReadInit c o id data := by
  simp only [Dev.serveFrame, h]

theorem Dev.serveFrame_segWrite {d : Dev} {c : Ctx} {o : Org} {id : Nat} {data : List Byte} (x : Obs)
    (h : d.stored c o id data = none) : d.serveFrame c o 0x07 id data x = d.segWriteInit c o id data := by
  simp only [Dev.serveFrame, h]

/-- A request of a class that is none of the protocol's is refused (R69). -/
theorem Dev.serveFrame_unknown {d : Dev} {c : Ctx} {o : Org} {cls id : Nat} {data : List Byte} (x : Obs)
    (h : d.stored c o id data = none) (hc : cls ∉ [1, 3, 6, 7]) :
    d.serveFrame c o cls id data x = d.refuse c o id data 0x000D := by
  simp only [List.mem_cons, List.not_mem_nil, or_false, not_or] at hc
  obtain ⟨h1, h3, h6, h7⟩ := hc
  simp [Dev.serveFrame, h]

/-- A frame of no open transfer's classes, a request and not an expedited one, is served as it comes. -/
theorem Dev.serve_direct {d : Dev} {c : Ctx} {o : Org} {cls id : Nat} {data : List Byte} {x : Obs}
    (hn : notRequest cls = false) (hc : cls ∉ [1, 3, 5, 9, 10]) :
    d.serve c o cls id data x = d.serveFrame c o cls id data x := by
  simp only [List.mem_cons, List.not_mem_nil, or_false, not_or] at hc
  obtain ⟨h1, h3, h5, h9, h10⟩ := hc
  simp [Dev.serve, hn, h1, h3, h5, h9, h10]

/-! ## Transfers -/

/-- Opening a transfer puts it behind the others, and answers. -/
theorem Dev.segOpen_segs (d : Dev) (c : Ctx) (o : Org) (id : Nat) (data : List Byte) (y : Seg) :
    y ∈ (d.segOpen c o id data y).itp.segs ∧ (d.segOpen c o id data y).rst = d.rst := by
  unfold Dev.segOpen
  extract_lets e h
  obtain ⟨⟨_, _, hi⟩, hr⟩ := e.answer_itp c o id data (reply o 0x08 (h.bytes ++ le 4 y.total ++ [16#8]))
  refine ⟨?_, hr⟩
  rw [hi]
  exact List.mem_append_right _ (List.mem_singleton_self y)

/-- A segmented read of an object that gives a value opens a transfer with the value (R83). -/
theorem Dev.segReadInit_opens {d : Dev} {c : Ctx} {data b : List Byte} {ty : Nat} (o : Org) (id : Nat)
    (hh : headerCodes data = []) (hk : (parseHdr data).key ≠ 0x9400_01) (hn : d.itp.segs.length < 4)
    (hr : d.readObj c (parseHdr data).key (parseHdr data).ty false = .inr (ty, b)) :
    ∃ y : Seg, d.segReadInit c o id data = d.segOpen c o id data y ∧ y.org = o ∧ y.write = false ∧ y.data = b := by
  refine ⟨{
    org := o, write := false, key := (parseHdr data).key, ty := ty, flags := (parseHdr data).flags,
    ity := (parseHdr data).ty, t := c.t, total := b.length, data := b }, ?_, rfl, rfl, rfl⟩
  unfold Dev.segReadInit
  simp only [Dev.beforeRead_ne hk, hr, hh, Dev.segsFull, if_neg (Nat.not_le.mpr hn), List.append_nil, firstCode,
    List.foldl_nil]

/-- A segmented write that no rule refuses at its init opens a transfer of its length (R76, R82). -/
theorem Dev.segWriteInit_opens {d : Dev} {c : Ctx} {data : List Byte} (o : Org) (id : Nat) (hh : headerCodes data = [])
    (hl : 12 ≤ data.length) (h0 : (parseHdr data).len = 0) (ht : fld data 8 4 ≤ 65536)
    (hc : d.initCodes c (parseHdr data).key (parseHdr data).ty = []) (hn : d.itp.segs.length < 4) :
    ∃ y : Seg, d.segWriteInit c o id data = d.segOpen c o id data y ∧ y.org = o ∧ y.write = true ∧
      y.total = fld data 8 4 ∧ y.data = [] := by
  refine ⟨{
    org := o, write := true, key := (parseHdr data).key, ty := (parseHdr data).ty, flags := (parseHdr data).flags,
    ity := (parseHdr data).ty, t := c.t, total := fld data 8 4, data := [] }, ?_, rfl, rfl, rfl, rfl⟩
  have hbad : (decide (data.length < 12) || decide ((parseHdr data).len ≠ 0) || decide (65536 < fld data 8 4)) = false := by
    simp [h0]
    omega
  unfold Dev.segWriteInit
  simp only [hh, hbad, hc, Dev.segsFull, if_neg (Nat.not_le.mpr hn), Bool.false_eq_true, if_false, List.append_nil,
    firstCode, List.foldl_nil]

/-- A dropped transfer is not among those open. -/
theorem Dev.segDrop_segs (d : Dev) (y : Seg) : ∀ x ∈ (d.segDrop y).itp.segs, x.is y.org = false := by
  intro x hx
  have := (List.mem_filter.mp hx).2
  simpa using this

/-- A frame that belongs to an open transfer (R84). -/
theorem Dev.segIn_of_find {d : Dev} {o : Org} {y : Seg} (c : Ctx) (cls : Nat) (data : List Byte) (x : Obs)
    (h : d.itp.segs.find? (fun y => y.is o) = some y) :
    d.segIn c o cls data x =
      if cls = 0x05 then d.segDrop y
      else if y.write && cls = 0x09 then d.segDataIn c y data x
      else if !y.write && cls = 0x0A then d.segAckIn c y (fld data 0 1) (fld data 1 1)
      else d := by
  simp only [Dev.segIn, h]

/-- A transfer with the next frame of its block added (R77). -/
def Seg.plus (y : Seg) (data : List Byte) : Seg :=
  { y with
    count := y.count + 1, next := y.next + 1
    data := (y.data ++ (data.drop 2).take 62 ++ zeros (62 - ((data.drop 2).take 62).length)).take 65598 }

/-- The next frame of a block, neither its last nor the transfer's, is added (R77, R80). -/
theorem Dev.segDataIn_next {d : Dev} {c : Ctx} {y : Seg} {data : List Byte} (x : Obs) (he : y.err = false)
    (hs : fld data 0 1 = y.next % 256) (hl : bit (fld data 1 1) 0 = false) (hn : y.count + 1 < 16) :
    d.segDataIn c y data x = d.segSet c (y.plus data) := by
  unfold Dev.segDataIn Seg.plus
  simp [he, hs, hl, hn]

theorem Dev.segSet_mem {d : Dev} {o : Org} {y z : Seg} (c : Ctx) (h : d.itp.segs.find? (fun y => y.is o) = some y)
    (hz : z.org = y.org) : { z with t := c.t } ∈ (d.segSet c z).itp.segs := by
  refine List.mem_map.mpr ⟨y, List.mem_of_find?_eq_some h, ?_⟩
  have : y.is z.org = true := by simp [Seg.is, hz]
  simp [this]

/-! ## The commands -/

section
variable {s : State} {dt : Nat} {f : Req}

theorem readReq_completes {x : Obs} {ty : Nat} {b : List Byte} (hq : Quiet s) (hd : f.dest ≠ 255)
    (ht : (s.taken dt 0x01 f).2 = true)
    (hst : (s.taken dt 0x01 f).1.stored (s.ctx dt) ((s.taken dt 0x01 f).1.orgOf f) (canId f.prio 0x01 f.dest f.src f.tag)
      f.data = none)
    (hh : headerCodes f.data = []) (hk : (parseHdr f.data).key ≠ 0x9400_01)
    (hr : (s.taken dt 0x01 f).1.readObj (s.ctx dt) (parseHdr f.data).key (parseHdr f.data).ty
      (bit (parseHdr f.data).flags 0) = .inr (ty, b))
    (hb : b.length ≤ 56) (hx : x.busy = false) :
    Completes (.readReq dt f x) s fun t => ∃ r ∈ t.dev.itp.resp, r.src = f.src ∧ r.tag = f.tag ∧ r.t = (s.ctx dt).t ∧
      r.ans.cls = 0x02 ∧ r.ans.data.drop 8 = b := by
  have hf := State.canFrame_expedited (x := x) hq hd ht (.inl rfl) hx
  obtain ⟨h, hans⟩ := Dev.readReq_value ((s.taken dt 0x01 f).1.orgOf f) (canId f.prio 0x01 f.dest f.src f.tag) hh hk hr hb
  rw [Dev.serveFrame_read x hst, hans] at hf
  refine completes_of_answer (show exec (.readReq dt f x) s = execReadReq dt f x s from rfl) hf (State.taken_want hq ht)
    fun t _ hmem => ⟨_, hmem, rfl, rfl, rfl, rfl, drop_hdr_bytes h b⟩

theorem segReadInit_completes {ty : Nat} {b : List Byte} (hq : Quiet s) (hd : f.dest ≠ 255)
    (ht : (s.taken dt 0x06 f).2 = true)
    (hst : (s.taken dt 0x06 f).1.stored (s.ctx dt) ((s.taken dt 0x06 f).1.orgOf f) (canId f.prio 0x06 f.dest f.src f.tag)
      f.data = none)
    (hh : headerCodes f.data = []) (hk : (parseHdr f.data).key ≠ 0x9400_01) (hn : (s.taken dt 0x06 f).1.itp.segs.length < 4)
    (hr : (s.taken dt 0x06 f).1.readObj (s.ctx dt) (parseHdr f.data).key (parseHdr f.data).ty false = .inr (ty, b)) :
    Completes (.segReadInit dt f) s fun t => ∃ x ∈ t.dev.itp.segs, x.org.src = f.src ∧ x.org.tag = f.tag ∧ x.write = false ∧
      x.data = b := by
  have hf := State.canFrame_taken Obs.quiet hd ht (by decide) (by decide)
  obtain ⟨y, hopen, ho, hw, hdata⟩ :=
    Dev.segReadInit_opens ((s.taken dt 0x06 f).1.orgOf f) (canId f.prio 0x06 f.dest f.src f.tag) hh hk hn hr
  rw [Dev.serve_direct (by decide) (by decide), Dev.serveFrame_segRead _ hst, hopen] at hf
  obtain ⟨hmem, hrst⟩ := Dev.segOpen_segs (s.taken dt 0x06 f).1 (s.ctx dt) ((s.taken dt 0x06 f).1.orgOf f)
    (canId f.prio 0x06 f.dest f.src f.tag) f.data y
  refine completes_of_effect (show exec (.segReadInit dt f) s = execSegReadInit dt f s from rfl) hf
    (by rw [hrst]; exact State.taken_want hq ht) fun t he => ⟨y, ?_, by rw [ho]; rfl, by rw [ho]; rfl, hw, hdata⟩
  rw [he.of_itp Itp.segs fun _ _ => rfl]
  exact hmem

theorem segWriteInit_completes (hq : Quiet s) (hd : f.dest ≠ 255) (ht : (s.taken dt 0x07 f).2 = true)
    (hst : (s.taken dt 0x07 f).1.stored (s.ctx dt) ((s.taken dt 0x07 f).1.orgOf f) (canId f.prio 0x07 f.dest f.src f.tag)
      f.data = none)
    (hh : headerCodes f.data = []) (hl : 12 ≤ f.data.length) (h0 : (parseHdr f.data).len = 0) (htot : fld f.data 8 4 ≤ 65536)
    (hc : (s.taken dt 0x07 f).1.initCodes (s.ctx dt) (parseHdr f.data).key (parseHdr f.data).ty = [])
    (hn : (s.taken dt 0x07 f).1.itp.segs.length < 4) :
    Completes (.segWriteInit dt f) s fun t => ∃ x ∈ t.dev.itp.segs, x.org.src = f.src ∧ x.org.tag = f.tag ∧ x.write = true ∧
      x.total = fld f.data 8 4 ∧ x.data = [] := by
  have hf := State.canFrame_taken Obs.quiet hd ht (by decide) (by decide)
  obtain ⟨y, hopen, ho, hw, htotal, hdata⟩ :=
    Dev.segWriteInit_opens ((s.taken dt 0x07 f).1.orgOf f) (canId f.prio 0x07 f.dest f.src f.tag) hh hl h0 htot hc hn
  rw [Dev.serve_direct (by decide) (by decide), Dev.serveFrame_segWrite _ hst, hopen] at hf
  obtain ⟨hmem, hrst⟩ := Dev.segOpen_segs (s.taken dt 0x07 f).1 (s.ctx dt) ((s.taken dt 0x07 f).1.orgOf f)
    (canId f.prio 0x07 f.dest f.src f.tag) f.data y
  refine completes_of_effect (show exec (.segWriteInit dt f) s = execSegWriteInit dt f s from rfl) hf
    (by rw [hrst]; exact State.taken_want hq ht) fun t he => ⟨y, ?_, by rw [ho]; rfl, by rw [ho]; rfl, hw, htotal, hdata⟩
  rw [he.of_itp Itp.segs fun _ _ => rfl]
  exact hmem

theorem segData_completes {x : Obs} {y : Seg} (hq : Quiet s) (hd : f.dest ≠ 255) (ht : (s.taken dt 0x09 f).2 = true)
    (hy : (s.taken dt 0x09 f).1.itp.segs.find? (fun y => y.is ((s.taken dt 0x09 f).1.orgOf f)) = some y)
    (hw : y.write = true) (he : y.err = false) (hs : fld f.data 0 1 = y.next % 256) (hl : bit (fld f.data 1 1) 0 = false)
    (hn : y.count + 1 < 16) :
    Completes (.segData dt f x) s fun t => { y.plus f.data with t := (s.ctx dt).t } ∈ t.dev.itp.segs := by
  have hf := State.canFrame_taken x hd ht (by decide) (by decide)
  have hserve (e : Dev) (c : Ctx) (o : Org) (id : Nat) : e.serve c o 0x09 id f.data x = e.segIn c o 0x09 f.data x := rfl
  rw [hserve, Dev.segIn_of_find _ _ _ _ hy] at hf
  simp only [hw] at hf
  replace hf := hf.trans (Dev.segDataIn_next x he hs hl hn)
  refine completes_of_effect (show exec (.segData dt f x) s = execSegData dt f x s from rfl) hf (State.taken_want hq ht)
    fun t hend => ?_
  rw [hend.of_itp Itp.segs fun _ _ => rfl]
  exact Dev.segSet_mem _ hy rfl

theorem segAck_completes {y : Seg} (hq : Quiet s) (hd : f.dest ≠ 255) (ht : (s.taken dt 0x0A f).2 = true)
    (hy : (s.taken dt 0x0A f).1.itp.segs.find? (fun y => y.is ((s.taken dt 0x0A f).1.orgOf f)) = some y)
    (hw : y.write = false) (h2 : fld f.data 1 1 = 2) :
    Completes (.segAck dt f) s fun t => ∀ x ∈ t.dev.itp.segs, x.is y.org = false := by
  have hf := State.canFrame_taken Obs.quiet hd ht (by decide) (by decide)
  have hserve (e : Dev) (c : Ctx) (o : Org) (id : Nat) :
    e.serve c o 0x0A id f.data Obs.quiet = e.segIn c o 0x0A f.data Obs.quiet := rfl
  rw [hserve, Dev.segIn_of_find _ _ _ _ hy] at hf
  simp only [hw, h2] at hf
  have hdrop : ∀ e : Dev, e.segAckIn (s.ctx dt) y (fld f.data 0 1) 2 = e.segDrop y := fun _ => rfl
  refine completes_of_effect (show exec (.segAck dt f) s = execSegAck dt f s from rfl) (hf.trans (hdrop _))
    (State.taken_want hq ht) fun t hend => ?_
  rw [hend.of_itp Itp.segs fun _ _ => rfl]
  exact Dev.segDrop_segs _ y

theorem abort_completes {y : Seg} (hq : Quiet s) (hd : f.dest ≠ 255) (ht : (s.taken dt 0x05 f).2 = true)
    (hy : (s.taken dt 0x05 f).1.itp.segs.find? (fun y => y.is ((s.taken dt 0x05 f).1.orgOf f)) = some y) :
    Completes (.abort dt f) s fun t => ∀ x ∈ t.dev.itp.segs, x.is y.org = false := by
  have hf := State.canFrame_taken Obs.quiet hd ht (by decide) (by decide)
  have hserve (e : Dev) (c : Ctx) (o : Org) (id : Nat) :
    e.serve c o 0x05 id f.data Obs.quiet = e.segIn c o 0x05 f.data Obs.quiet := rfl
  rw [hserve, Dev.segIn_of_find _ _ _ _ hy, if_pos rfl] at hf
  refine completes_of_effect (show exec (.abort dt f) s = execAbort dt f s from rfl) hf (State.taken_want hq ht) fun t hend => ?_
  rw [hend.of_itp Itp.segs fun _ _ => rfl]
  exact Dev.segDrop_segs _ y

theorem segTransferTimeout_completes {n : Nat} {y : Seg} (hq : Quiet s) (hy : s.dev.itp.segs[n]? = some y)
    (hl : s.dev.listening = true) (ht : y.t + 40000000 ≤ (s.ctx dt).t) :
    Completes (.segTransferTimeout dt n) s fun t => ∀ x ∈ t.dev.itp.segs, x.is y.org = false := by
  have hy' : s.entry.itp.segs[n]? = some y := hy
  have hl' : s.entry.listening = true := hl
  obtain ⟨⟨q, hi⟩, hr⟩ := (s.entry.segDrop y).sendTo_hostQ (s.ctx dt) y.org.path
    (reply y.org 0x05 (abortBytes y.hdr 0x000A))
  refine completes_of_effect (e := s.entry.segAbort (s.ctx dt) y 0x000A)
    (show exec (.segTransferTimeout dt n) s = execSegTransferTimeout dt n s from rfl) ?_ ?_ fun t hend => ?_
  · simp only [hy', hl', Bool.true_and, decide_eq_true_eq, if_pos ht]
  · exact (congrArg Rst.want hr).trans hq.1
  · rw [hend.of_itp Itp.segs fun _ _ => rfl]
    unfold Dev.segAbort Dev.segSend
    rw [hi]
    exact s.entry.segDrop_segs y

theorem unknownServiceClass_completes {cls : Nat} (hq : Quiet s) (hd : f.dest ≠ 255) (ht : (s.taken dt cls f).2 = true)
    (hst : (s.taken dt cls f).1.stored (s.ctx dt) ((s.taken dt cls f).1.orgOf f) (canId f.prio cls f.dest f.src f.tag)
      f.data = none) (hn : notRequest cls = false) (hc : cls ∉ [1, 3, 5, 6, 7, 9, 10]) :
    Completes (.unknownServiceClass dt cls f) s fun t => ∃ r ∈ t.dev.itp.resp, r.src = f.src ∧ r.tag = f.tag ∧
      r.ans.cls = 0x05 ∧ r.ans.data.drop 8 = le 2 0x000D := by
  simp only [List.mem_cons, List.not_mem_nil, or_false, not_or] at hc
  obtain ⟨h1, h3, h5, h6, h7, h9, h10⟩ := hc
  have hf := State.canFrame_taken Obs.quiet hd ht h1 h3
  rw [Dev.serve_direct hn (by simp [h1, h3, h5, h9, h10]), Dev.serveFrame_unknown _ hst (by simp [h1, h3, h6, h7])] at hf
  exact completes_of_answer (show exec (.unknownServiceClass dt cls f) s = execUnknownServiceClass dt cls f s from rfl) hf
    (State.taken_want hq ht) fun t _ hmem => ⟨_, hmem, rfl, rfl, rfl, drop_hdr_bytes _ _⟩

/-- IDENTIFY_REQ is answered with the identity of the device (R97). -/
theorem Dev.identify_new {d : Dev} {c : Ctx} {o : Org} {id : Nat} {data : List Byte} (h : d.stored c o id data = none) :
    d.identify c o id data = d.answer c o id data (reply o 0x15 ([byte (if c.s12 then 12 else 24), byte d.itp.node] ++
      le 2 Config.dictionaryVersion ++ le 8 Config.serial ++ le 4 Config.agentVersion)) := by
  simp only [Dev.identify, h]

theorem identifyReq_completes (hq : Quiet s) (hd : f.dest = 255) (hx : f.fdExt = true) (hon : s.dev.chanOn f.ch = true)
    (hl : s.dev.listening = true)
    (ht : ((s.entry.leaveDoze (s.ctx dt)).dedupe (s.ctx dt) f (canId f.prio 0x14 f.dest f.src f.tag)).2 = true)
    (hst : ((s.entry.leaveDoze (s.ctx dt)).dedupe (s.ctx dt) f (canId f.prio 0x14 f.dest f.src f.tag)).1.stored (s.ctx dt)
      (((s.entry.leaveDoze (s.ctx dt)).dedupe (s.ctx dt) f (canId f.prio 0x14 f.dest f.src f.tag)).1.orgOf f)
      (canId f.prio 0x14 f.dest f.src f.tag) f.data = none) :
    Completes (.identifyReq dt f) s fun t => ∃ r ∈ t.dev.itp.resp, r.src = f.src ∧ r.tag = f.tag ∧ r.ans.cls = 0x15 ∧
      r.ans.data = [byte (if s.fuses.s2412 then 12 else 24), byte s.dev.itp.node] ++ le 2 Config.dictionaryVersion ++
      le 8 Config.serial ++ le 4 Config.agentVersion := by
  have hon' : s.entry.chanOn f.ch = true := hon
  have hl' : s.entry.listening = true := hl
  have ha := (s.entry.leaveDoze_awake (s.ctx dt)).trans (Dev.dedupe_awake ht)
  have hf : s.entry.canFrame (s.ctx dt) 0x14 f Obs.quiet =
      ((s.entry.leaveDoze (s.ctx dt)).dedupe (s.ctx dt) f (canId f.prio 0x14 f.dest f.src f.tag)).1.identify (s.ctx dt)
        (((s.entry.leaveDoze (s.ctx dt)).dedupe (s.ctx dt) f (canId f.prio 0x14 f.dest f.src f.tag)).1.orgOf f)
        (canId f.prio 0x14 f.dest f.src f.tag) f.data := by
    unfold Dev.canFrame
    simp [hd, hx, hon', hl', hd ▸ ht]
  rw [Dev.identify_new hst] at hf
  generalize ((s.entry.leaveDoze (s.ctx dt)).dedupe (s.ctx dt) f (canId f.prio 0x14 f.dest f.src f.tag)).1 = e at *
  refine completes_of_answer (show exec (.identifyReq dt f) s = execIdentifyReq dt f s from rfl) hf
    (by rw [ha.rst]; exact hq.1) fun t _ hmem => ⟨_, hmem, rfl, rfl, rfl, ?_⟩
  obtain ⟨_, _, hi⟩ := ha.itp
  have hnode : e.itp.node = s.dev.itp.node := by
    rw [hi]
    rfl
  simp only [reply, hnode]
  rfl

theorem heartbeat_completes (hq : Quiet s) (hl : s.dev.listening = true) (h0 : s.dev.nat 0x1010_05 ≠ 0)
    (ht : s.dev.itp.hbT + s.dev.nat 0x1010_05 * 400000 ≤ (s.ctx dt).t) :
    Completes (.heartbeat dt) s fun t => t.dev.itp.hbCount = (s.dev.itp.hbCount + 1) % 2 ^ 32 := by
  have hl' : s.entry.listening = true := hl
  have h0' : s.entry.nat 0x1010_05 ≠ 0 := h0
  have ht' : s.entry.itp.hbT + s.entry.nat 0x1010_05 * 400000 ≤ (s.ctx dt).t := ht
  refine completes_of_effect (e := s.entry.heartbeat (s.ctx dt) s.entry.hbState)
    (show exec (.heartbeat dt) s = execHeartbeat dt s from rfl) ?_ ?_ fun t hend => ?_
  · simp only [hl', h0', ht', ne_eq, not_false_eq_true, decide_true, Bool.and_self, if_true]
  · exact (congrArg Rst.want (Dev.sendBoth_answerOf _ _).rst).trans hq.1
  · rw [hend.of_itp Itp.hbCount fun _ _ => rfl]
    unfold Dev.heartbeat
    rw [Dev.sendBoth_same]
    rfl

end

/-! ## Bus-off (R25, R118) -/

/-- A CAN FD channel's state. -/
def Itp.can (i : Itp) (ch : Nat) : CanCh := if ch = 0 then i.can0 else i.can1

/-- The device with a CAN FD channel in another state. -/
def Dev.putCan (d : Dev) (ch : Nat) (y : CanCh) : Dev :=
  if ch = 0 then { d with itp := { d.itp with can0 := y } } else { d with itp := { d.itp with can1 := y } }

theorem Dev.putCan_can (d : Dev) (ch : Nat) (y : CanCh) : (d.putCan ch y).itp.can ch = y := by
  unfold Dev.putCan Itp.can
  split <;> rfl

theorem Dev.putCan_rst (d : Dev) (ch : Nat) (y : CanCh) : (d.putCan ch y).rst = d.rst :=
  ite_pred (fun x : Dev => x.rst = d.rst) rfl rfl

theorem Dev.putCan_obj (d : Dev) (ch : Nat) (y : CanCh) : (d.putCan ch y).obj = d.obj :=
  ite_pred (fun x : Dev => x.obj = d.obj) rfl rfl

theorem State.actOn_act {s : State} {b : Bool} {dt : Nat} {f : Ctx → Dev → Dev} (h : b = true) :
    s.actOn b dt f = s.act dt f := by
  subst h
  rfl

section
variable {s : State} {dt ch : Nat}

theorem canFdBusOff_recovers (hq : Quiet s) (hch : ch < 2) (hon : s.dev.chanOn ch = true) (ht : s.dev.ticking = true)
    (hlast : (s.dev.itp.can ch).lastOff = none) :
    Completes (.canFdBusOff dt ch) s fun t => (t.dev.itp.can ch).lastOff = some (s.ctx dt).t ∧
      t.dev.nat 0x9300_04 = (s.dev.nat 0x9300_04 + 1) % 2 ^ 32 := by
  have hon' : s.entry.chanOn ch = true := hon
  have ht' : s.entry.ticking = true := ht
  have hlast' : (if ch = 0 then s.entry.itp.can0 else s.entry.itp.can1).lastOff = none := hlast
  have hx : exec (.canFdBusOff dt ch) s = execCanFdBusOff dt ch s := rfl
  refine completes_of_effect (e := (s.entry.putCan ch { s.entry.itp.can ch with lastOff := some (s.ctx dt).t }).transient)
    (hx.trans (State.actOn_act (decide_eq_true hch))) ?_ ?_ fun t hend => ⟨?_, ?_⟩
  · simp only [hlast', hon', ht', Bool.not_true, Bool.or_self, Bool.false_eq_true, if_false]
    rfl
  · unfold Dev.transient
    rw [Dev.inc_rst, Dev.putCan_rst]
    exact hq.1
  · rw [hend.of_itp (fun i => i.can ch) fun _ _ => rfl]
    unfold Dev.transient
    rw [Dev.inc_itp, Dev.putCan_can]
  · rw [Dev.nat_of_get (hend.get 0x9300_04 (by decide))]
    unfold Dev.transient
    rw [Dev.nat_inc_same, Dev.nat_of_get (Dev.get_of_obj (Dev.putCan_obj _ ch _) _)]
    rfl

theorem canFdBusOff_loses {u : Nat} (hq : Quiet s) (hch : ch < 2) (hon : s.dev.chanOn ch = true)
    (ht : s.dev.ticking = true) (hlast : (s.dev.itp.can ch).lastOff = some u) (hu : (s.ctx dt).t ≤ u + 400000000) :
    Completes (.canFdBusOff dt ch) s fun t => (t.dev.itp.can ch).lost = true := by
  have hon' : s.entry.chanOn ch = true := hon
  have ht' : s.entry.ticking = true := ht
  have hlast' : (if ch = 0 then s.entry.itp.can0 else s.entry.itp.can1).lastOff = some u := hlast
  have hx : exec (.canFdBusOff dt ch) s = execCanFdBusOff dt ch s := rfl
  refine completes_of_effect
    (e := (s.entry.putCan ch { s.entry.itp.can ch with lost := true, cleared := false, lastOff := some u }).raise
      (s.ctx dt) 29 ch)
    (hx.trans (State.actOn_act (decide_eq_true hch))) ?_ ?_ fun t hend => ?_
  · simp only [hlast', hon', ht', decide_eq_true hu, Bool.not_true, Bool.or_self, Bool.false_eq_true, if_false, if_true]
    rfl
  · rw [Dev.raise_rst, Dev.putCan_rst]
    exact hq.1
  · rw [hend.of_itp (fun i => i.can ch) fun _ _ => rfl, Dev.raise_itp, Dev.putCan_can]

end

end Sys2Proof.Machine

/-!
SUPPORT. Messages by the host port, on VC1 and by the application's mailbox (R98 to R105), and the settling of O6.
-/
namespace Sys2Proof.Machine

variable {s : State} {dt : Nat} {x : Obs}

/-! ## Host frames (R98, R100) -/

/-- What the end of a stretch of the host port may change. -/
structure Dev.UnstretchOf (d x : Dev) : Prop where
  eta : ∃ o h, x = { d with obj := o, host := h }
  get : ∀ k, k ≠ 0x7010_0C → x.get k = d.get k
  frames : x.host.frames = d.host.frames

theorem Dev.hostUnstretch_of (d : Dev) (c : Ctx) : d.UnstretchOf (d.hostUnstretch c) := by
  have hrefl : d.UnstretchOf d := ⟨⟨_, _, rfl⟩, fun _ _ => rfl, rfl⟩
  unfold Dev.hostUnstretch
  cases d.host.lowT with
  | none => exact hrefl
  | some t0 =>
    refine ite_pred d.UnstretchOf hrefl ⟨?_, fun k hk => Dev.get_set_ne _ _ k _ hk, ?_⟩
    · rw [Dev.setN, Dev.set_eta]
      exact ⟨_, _, rfl⟩
    · rw [Dev.setN_host]
      rfl

/-- The device once the oldest host frame is out of the receive buffers; `r`: the frames behind it. -/
def State.unloaded (s : State) (dt : Nat) (r : List (List Byte)) : Dev :=
  (s.entry.modHost fun h => { h with frames := r }).hostUnstretch (s.ctx dt)

section
variable {r : List (List Byte)}

theorem State.unloaded_frames : (s.unloaded dt r).host.frames = r := (Dev.hostUnstretch_of _ _).frames

theorem State.unloaded_get {k : Nat} (hk : k ≠ 0x7010_0C) : (s.unloaded dt r).get k = s.dev.get k :=
  (Dev.hostUnstretch_of _ _).get k hk

/-- Taking a frame out of the buffers changes of the rest nothing. -/
theorem State.unloaded_eta : (s.unloaded dt r).itp = s.dev.itp ∧ (s.unloaded dt r).rst = s.dev.rst ∧
    (s.unloaded dt r).listening = s.dev.listening := by
  obtain ⟨⟨_, _, e⟩, -, -⟩ := Dev.hostUnstretch_of (s.entry.modHost fun h => { h with frames := r }) (s.ctx dt)
  rw [State.unloaded, e]
  exact ⟨rfl, rfl, rfl⟩

/-- HOST_FRAME, where the agent serves and the port is on: the frame is taken out, and its message carried to the agent
or counted. -/
theorem exec_hostFrame {b : List Byte} (hb : s.dev.host.frames = b :: r) (hl : s.dev.listening = true)
    (ho : s.dev.hostOn = true) : ∃ g, exec (.hostFrame dt x) s = s.act dt g ∧ g (s.ctx dt) s.entry =
      if frameOk b && (decide (12 + fld b 4 2 ≤ b.length) && fld b (8 + fld b 4 2) 4 = crc32c (b.take (8 + fld b 4 2)))
      then (s.unloaded dt r).carried (s.ctx dt) .host b x else (s.unloaded dt r).inc 0x1010_0B := by
  refine ⟨_, show exec (.hostFrame dt x) s = execHostFrame dt x s from rfl, ?_⟩
  have hb' : s.entry.host.frames = b :: r := hb
  have hl' : s.entry.listening = true := hl
  have ho' : s.entry.hostOn = true := ho
  simp only [hb', hl', ho', Bool.not_true, Bool.or_self, Bool.false_eq_true, if_false]
  rfl

theorem hostFrame_broken {b : List Byte} (hq : Quiet s) (hb : s.dev.host.frames = b :: r) (hl : s.dev.listening = true)
    (ho : s.dev.hostOn = true) (hbad : frameOk b = false) :
    Completes (.hostFrame dt x) s fun t => t.dev.host.frames = r ∧
      t.dev.nat 0x1010_0B = (s.dev.nat 0x1010_0B + 1) % 2 ^ 32 := by
  obtain ⟨g, hx, hf⟩ := exec_hostFrame (x := x) (dt := dt) hb hl ho
  rw [hbad, Bool.false_and, if_neg Bool.false_ne_true] at hf
  obtain ⟨-, hr, -⟩ := State.unloaded_eta (s := s) (dt := dt) (r := r)
  refine completes_of_effect hx hf (by rw [Dev.inc_rst, hr]; exact hq.1) fun t he => ⟨?_, ?_⟩
  · rw [he.host, Dev.inc_host, State.unloaded_frames]
  · rw [Dev.nat_of_get (he.get 0x1010_0B (by decide)), Dev.nat_inc_same, Dev.nat_of_get (State.unloaded_get (by decide))]

theorem hostFrame_elsewhere {b : List Byte} (hq : Quiet s) (hb : s.dev.host.frames = b :: r) (hl : s.dev.listening = true)
    (ho : s.dev.hostOn = true) (hok : frameOk b = true) (hlen : 12 + fld b 4 2 ≤ b.length)
    (hcrc : fld b (8 + fld b 4 2) 4 = crc32c (b.take (8 + fld b 4 2))) (hn : bits (fld b 0 4) 13 8 ≠ s.dev.itp.node)
    (h255 : bits (fld b 0 4) 13 8 ≠ 255) :
    Completes (.hostFrame dt x) s fun t => t.dev.host.frames = r ∧ t.dev.nat 0x1010_0B = s.dev.nat 0x1010_0B := by
  obtain ⟨g, hx, hf⟩ := exec_hostFrame (x := x) (dt := dt) hb hl ho
  rw [hok, decide_eq_true hlen, decide_eq_true hcrc, Bool.true_and, Bool.true_and, if_pos rfl] at hf
  obtain ⟨hi, hr, -⟩ := State.unloaded_eta (s := s) (dt := dt) (r := r)
  have ha := (s.unloaded dt r).leaveDoze_awake (s.ctx dt)
  have hcar : (s.unloaded dt r).carried (s.ctx dt) .host b x = (s.unloaded dt r).leaveDoze (s.ctx dt) := by
    obtain ⟨_, _, e⟩ := ha.itp
    unfold Dev.carried
    simp only [e, hi, if_neg hn, if_neg h255]
  rw [hcar] at hf
  refine completes_of_effect hx hf (by rw [ha.rst, hr]; exact hq.1) fun t he => ⟨?_, ?_⟩
  · obtain ⟨_, _, _, _, _, e⟩ := ha.eta
    rw [he.host, e]
    exact State.unloaded_frames
  · rw [Dev.nat_of_get (he.get 0x1010_0B (by decide)), Dev.nat_of_get (ha.get _ (by decide)),
      Dev.nat_of_get (State.unloaded_get (by decide))]

theorem hostFrame_read {b data v : List Byte} {id ty : Nat} (hq : Quiet s) (hb : s.dev.host.frames = b :: r)
    (hl : s.dev.listening = true) (ho : s.dev.hostOn = true) (hx : x.busy = false) (hok : frameOk b = true)
    (hlen : 12 + fld b 4 2 ≤ b.length) (hcrc : fld b (8 + fld b 4 2) 4 = crc32c (b.take (8 + fld b 4 2)))
    (hid : id = fld b 0 4) (hdata : data = (b.drop 8).take (fld b 4 2)) (hn : bits id 13 8 = s.dev.itp.node)
    (hcls : bits id 21 5 = 0x01)
    (hst : (s.hosted dt r).stored (s.ctx dt) ⟨.host, bits id 26 3, bits id 5 8, bits id 0 5⟩ id data = none)
    (hh : headerCodes data = []) (hk : (parseHdr data).key ≠ 0x9400_01)
    (hr : (s.hosted dt r).readObj (s.ctx dt) (parseHdr data).key (parseHdr data).ty (bit (parseHdr data).flags 0) =
      .inr (ty, v))
    (hv : v.length ≤ 56) :
    Completes (.hostFrame dt x) s fun t => t.dev.host.frames = r ∧ ∃ a ∈ t.dev.itp.resp, a.path = .host ∧
      a.src = bits id 5 8 ∧ a.tag = bits id 0 5 ∧ a.ans.cls = 0x02 ∧ a.ans.data.drop 8 = v := by
  obtain ⟨g, hexec, hf⟩ := exec_hostFrame (x := x) (dt := dt) hb hl ho
  rw [hok, decide_eq_true hlen, decide_eq_true hcrc, Bool.true_and, Bool.true_and, if_pos rfl] at hf
  obtain ⟨hi, hrst, hls⟩ := State.unloaded_eta (s := s) (dt := dt) (r := r)
  have ha := (s.unloaded dt r).leaveDoze_awake (s.ctx dt)
  have hw : ((s.unloaded dt r).leaveDoze (s.ctx dt)).rst.want = [] := by
    rw [ha.rst, hrst]
    exact hq.1
  have hwait : ((s.unloaded dt r).leaveDoze (s.ctx dt)).itp.waiting = [] := by
    obtain ⟨_, _, e⟩ := ha.itp
    rw [e, hi]
    exact hq.2.2
  have hcar : (s.unloaded dt r).carried (s.ctx dt) .host b x = (s.hosted dt r).serveFrame (s.ctx dt)
      ⟨.host, bits id 26 3, bits id 5 8, bits id 0 5⟩ 0x01 id data x := by
    have hnode : bits id 13 8 = ((s.unloaded dt r).leaveDoze (s.ctx dt)).itp.node := by
      obtain ⟨_, _, e⟩ := ha.itp
      rw [hn, e, hi]
    unfold Dev.carried
    simp only [← hid, ← hdata, hcls, if_pos hnode]
    exact Dev.serve_expedited _ hwait hw (ha.listening.trans (hls.trans hl)) (.inl rfl) hx
  obtain ⟨h, hans⟩ := Dev.readReq_value ⟨.host, bits id 26 3, bits id 5 8, bits id 0 5⟩ id hh hk hr hv
  rw [hcar, Dev.serveFrame_read x hst, hans] at hf
  refine completes_of_answer hexec hf hw fun t he hmem => ⟨?_, _, hmem, rfl, rfl, rfl, rfl, drop_hdr_bytes h v⟩
  rw [he.host]
  obtain ⟨_, _, _, _, e⟩ := (s.hosted dt r).answer_answerOf (s.ctx dt) ⟨.host, bits id 26 3, bits id 5 8, bits id 0 5⟩ id data
    (reply ⟨.host, bits id 26 3, bits id 5 8, bits id 0 5⟩ 0x02 (h.bytes ++ v)) (fun _ h => nomatch h)
  obtain ⟨_, _, _, _, _, e'⟩ := ha.eta
  rw [e]
  show ((s.unloaded dt r).leaveDoze (s.ctx dt)).host.frames = r
  rw [e']
  exact State.unloaded_frames

end

/-! ## Management packets (R102, R103) -/

/-- What receiving a packet may change: the ports, and objects of the link tables and behind them. -/
structure Dev.RxOf (d x : Dev) : Prop where
  eta : ∃ o ps, x = { d with obj := o, ports := ps }
  get : ∀ k, k < 0x3400_00 → x.get k = d.get k

namespace Dev.RxOf

variable {d y : Dev}

theorem refl (d : Dev) : d.RxOf d := ⟨⟨_, _, rfl⟩, fun _ _ => rfl⟩

theorem trans {z : Dev} (h : d.RxOf y) (g : y.RxOf z) : d.RxOf z := by
  obtain ⟨⟨o, ps, rfl⟩, hk⟩ := h
  obtain ⟨⟨o', ps', rfl⟩, gk⟩ := g
  exact ⟨⟨o', ps', rfl⟩, fun k h => (gk k h).trans (hk k h)⟩

theorem modPort (h : d.RxOf y) (p : Nat) (f : Port → Port) : d.RxOf (y.modPort p f) :=
  h.trans ⟨⟨_, _, rfl⟩, fun _ _ => rfl⟩

theorem setN (h : d.RxOf y) (p sub n : Nat) : d.RxOf (y.setN (linkK p sub) n) := by
  refine h.trans ⟨?_, fun k hk => y.get_setN_ne _ k n ?_⟩
  · rw [Dev.setN, Dev.set_eta]
    exact ⟨_, _, rfl⟩
  · unfold linkK key
    omega

theorem rst (h : d.RxOf y) : y.rst = d.rst := by
  obtain ⟨_, _, e⟩ := h.eta
  rw [e]

theorem itp (h : d.RxOf y) : y.itp = d.itp := by
  obtain ⟨_, _, e⟩ := h.eta
  rw [e]

theorem listening (h : d.RxOf y) : y.listening = d.listening := by
  obtain ⟨_, _, e⟩ := h.eta
  rw [e]
  rfl

end Dev.RxOf

theorem Dev.rxRetried_of {d y : Dev} (h : d.RxOf y) (p vc : Nat) (sound : Bool) (k : Pkt) :
    d.RxOf (y.rxRetried p vc sound k).1 := by
  let P (r : Dev × Bool) : Prop := d.RxOf r.1
  unfold Dev.rxRetried
  exact ite_pred P ((h.modPort p _).modPort p _)
    (ite_pred P h (ite_pred P (h.modPort p _) (((h.modPort p _).setN p 3 _).modPort p _)))

/-- What a MANAGEMENT packet changes as it is received. -/
theorem Dev.rxPacket_management (d : Dev) (p : Nat) (k : Pkt) : d.RxOf (d.rxPacket p 6 1 k).1 := by
  let P (r : Dev × Bool) : Prop := d.RxOf r.1
  unfold Dev.rxPacket
  refine ite_pred P (.refl d) ?_
  extract_lets sound d1 d2 d3 r
  have h2 : d.RxOf d2 := ite_pred d.RxOf ((RxOf.refl d).modPort p _) (((RxOf.refl d).modPort p _).setN p 0x13 _)
  have h3 : d.RxOf d3 := ite_pred d.RxOf h2 (h2.setN p 2 _)
  have hr : P r := Dev.rxRetried_of h3 p 1 sound k
  exact ite_pred P hr (ite_pred P hr (RxOf.setN hr p 9 _))

section
variable {p : Nat} {k : Pkt}

/-- MANAGEMENT_ITP, where its packet is delivered, the agent serves and the path is on: the message is carried to the agent
or counted. -/
theorem exec_managementItp (hp : p < s.portCount) (hd : (s.entry.rxPacket p 6 1 { k with fieldA := 1 }).2 = true)
    (hl : s.dev.listening = true) (hb : bit (s.dev.nat 0x1010_07) 3 = true) :
    ∃ (g : Ctx → Dev → Dev) (e : Dev), exec (.managementItp dt p k x) s = s.act dt g ∧ s.entry.RxOf e ∧
      g (s.ctx dt) s.entry =
        if !frameOk k.payload || (bits (fld k.payload 0 4) 13 8 ≠ e.itp.node && bits (fld k.payload 0 4) 13 8 ≠ 255)
        then e.inc 0x1010_0C else e.carried (s.ctx dt) (.vc1 p) k.payload x := by
  have hx : exec (.managementItp dt p k x) s = execManagementItp dt p k x s := rfl
  have ho := s.entry.rxPacket_management p { k with fieldA := 1 }
  have hl' : (s.entry.rxPacket p 6 1 { k with fieldA := 1 }).1.listening = true := ho.listening.trans hl
  have hb' : bit ((s.entry.rxPacket p 6 1 { k with fieldA := 1 }).1.nat 0x1010_07) 3 = true := by
    rw [Dev.nat_of_get (ho.get _ (by decide))]
    exact hb
  refine ⟨_, (s.entry.rxPacket p 6 1 { k with fieldA := 1 }).1, hx.trans (State.actOn_act (decide_eq_true hp)), ho, ?_⟩
  simp only [hd, hl', hb', Bool.not_true, Bool.or_self, Bool.false_eq_true, if_false]

theorem managementItp_broken (hq : Quiet s) (hp : p < s.portCount)
    (hd : (s.entry.rxPacket p 6 1 { k with fieldA := 1 }).2 = true) (hl : s.dev.listening = true)
    (hb : bit (s.dev.nat 0x1010_07) 3 = true) (hbad : frameOk k.payload = false) :
    Completes (.managementItp dt p k x) s fun t => t.dev.nat 0x1010_0C = (s.dev.nat 0x1010_0C + 1) % 2 ^ 32 := by
  obtain ⟨g, e, hx, ho, hf⟩ := exec_managementItp (x := x) (dt := dt) hp hd hl hb
  simp only [hbad, Bool.not_false, Bool.true_or, if_true] at hf
  refine completes_of_effect hx hf (by rw [Dev.inc_rst, ho.rst]; exact hq.1) fun t he => ?_
  rw [Dev.nat_of_get (he.get 0x1010_0C (by decide)), Dev.nat_inc_same, Dev.nat_of_get (ho.get _ (by decide))]
  rfl

theorem managementItp_identify (hq : Quiet s) (hp : p < s.portCount)
    (hd : (s.entry.rxPacket p 6 1 { k with fieldA := 1 }).2 = true) (hl : s.dev.listening = true)
    (hb : bit (s.dev.nat 0x1010_07) 3 = true) (hok : frameOk k.payload = true)
    (hdest : bits (fld k.payload 0 4) 13 8 = 255) (hcls : bits (fld k.payload 0 4) 21 5 = 0x14) (hresp : s.dev.itp.resp = [])
    (hnode : s.dev.itp.node ≠ 255) :
    Completes (.managementItp dt p k x) s fun t => ∃ r ∈ t.dev.itp.resp, r.path = .vc1 p ∧ r.ans.cls = 0x15 := by
  obtain ⟨g, e, hx, ho, hf⟩ := exec_managementItp (x := x) (dt := dt) hp hd hl hb
  simp only [hok, hdest, Bool.not_true, Bool.false_or, ne_eq, not_true_eq_false, decide_false, Bool.and_false,
    Bool.false_eq_true, if_false] at hf
  have ha := e.leaveDoze_awake (s.ctx dt)
  have hi : (e.leaveDoze (s.ctx dt)).itp.node = s.dev.itp.node ∧ (e.leaveDoze (s.ctx dt)).itp.resp = [] := by
    obtain ⟨_, _, h⟩ := ha.itp
    rw [h, ho.itp]
    exact ⟨rfl, hresp⟩
  obtain ⟨hn, hr⟩ := hi
  have hst (o : Org) (id : Nat) (data : List Byte) : (e.leaveDoze (s.ctx dt)).stored (s.ctx dt) o id data = none := by
    unfold Dev.stored
    rw [hr]
    rfl
  have hcar : e.carried (s.ctx dt) (.vc1 p) k.payload x = (e.leaveDoze (s.ctx dt)).identify (s.ctx dt)
      ⟨.vc1 p, bits (fld k.payload 0 4) 26 3, bits (fld k.payload 0 4) 5 8, bits (fld k.payload 0 4) 0 5⟩ (fld k.payload 0 4)
      ((k.payload.drop 8).take (fld k.payload 4 2)) := by
    unfold Dev.carried
    simp only [hdest, hcls, hn, if_neg (Ne.symm hnode), if_true]
  rw [hcar, Dev.identify_new (hst _ _ _)] at hf
  exact completes_of_answer hx hf (by rw [ha.rst, ho.rst]; exact hq.1) fun t _ hmem => ⟨_, hmem, rfl, rfl⟩

end

/-! ## The mailbox (R104, R105) -/

/-- A call from user mode writes the trace and where the hart stands. -/
theorem Dev.ecall_eta (d : Dev) (pc : Nat) : ∃ t a u, d.ecall pc =
    { d with trace := t, core := { d.core with pc := a, userPc := u, priv := 0 } } := by
  obtain ⟨t, h⟩ := d.trcTrap_eta false 8 (pc % 2 ^ 32)
  unfold Dev.ecall
  rw [h]
  exact ⟨_, _, _, rfl⟩

theorem Dev.mailReturn_out (d : Dev) (code : Nat) : .ret code ∈ (d.mailReturn code).out :=
  List.mem_append_right _ (List.mem_singleton_self _)

section
variable {a0 pc : Nat}

/-- MAILBOX, where the application executes, the agent serves and nothing keeps the call waiting: the call is served. -/
theorem exec_mailbox (hq : Quiet s) (ha : s.dev.appActs = true) (hl : s.dev.listening = true) (hb : x.busy = false) :
    ∃ g, exec (.mailbox dt a0 pc x) s = s.act dt g ∧
      g (s.ctx dt) s.entry = (s.called pc).mailCall (s.ctx dt) (a0 % 2 ^ 32) x ∧ (s.called pc).rst.want = [] := by
  have ha' : s.entry.appActs = true := ha
  obtain ⟨_, _, _, e⟩ := s.entry.ecall_eta pc
  have hwant : (s.called pc).rst.want = [] := by
    unfold State.called
    rw [e]
    exact hq.1
  have hls : (s.called pc).listening = true := by
    unfold State.called
    rw [e]
    exact hl
  have hwait : (s.entry.ecall pc).itp.waiting = [] := by
    rw [e]
    exact hq.2.2
  refine ⟨_, show exec (.mailbox dt a0 pc x) s = execMailbox dt a0 pc x s from rfl, ?_, hwant⟩
  simp only [ha', Bool.not_true, Bool.false_eq_true, if_false]
  rw [Dev.arrive_first hwait, hb, if_neg Bool.false_ne_true]
  show (s.called pc).serveJob (s.ctx dt) ⟨⟨.mailbox, 0, 0, 0⟩, .call (a0 % 2 ^ 32), x⟩ = _
  simp [Dev.serveJob, hls, hwant]

/-- A call that returns a code sends it. -/
theorem mailbox_returns {code : Nat} {d : Dev} (hq : Quiet s) (ha : s.dev.appActs = true) (hl : s.dev.listening = true)
    (hb : x.busy = false) (hc : (s.called pc).mailCall (s.ctx dt) (a0 % 2 ^ 32) x = d.mailReturn code)
    (hd : d.rst = (s.called pc).rst) :
    Completes (.mailbox dt a0 pc x) s fun t => .ret code ∈ t.dev.out := by
  obtain ⟨g, hx, hf, hw⟩ := exec_mailbox (dt := dt) (a0 := a0) (pc := pc) hq ha hl hb
  refine completes_of_effect hx (hf.trans hc) ?_ fun t he => he.out (d.mailReturn_out code)
  show d.rst.want = []
  rw [hd]
  exact hw

theorem mailbox_badBlock (hq : Quiet s) (ha : s.dev.appActs = true)
    (hu : (s.called pc).userBytes (a0 % 2 ^ 32) 16 = false) (hl : s.dev.listening = true) (hb : x.busy = false) :
    Completes (.mailbox dt a0 pc x) s fun t => .ret 0x0005 ∈ t.dev.out := by
  refine mailbox_returns hq ha hl hb (d := s.called pc) ?_ rfl
  unfold Dev.mailCall
  simp only [hu, Bool.not_false, if_true]

/-- A read request block whose value fits into a buffer of the application's. -/
theorem Dev.mailRead_value {d : Dev} {c : Ctx} {b v : List Byte} {ty : Nat} (a : Nat) (h1 : fld b 1 1 < 2)
    (h6 : fld b 6 2 = 0) (h8 : fld b 8 4 ≤ 65536) (hk : fld b 4 2 * 256 + fld b 3 1 ≠ 0x9400_01)
    (hr : d.readObj c (fld b 4 2 * 256 + fld b 3 1) (fld b 2 1) (bit (fld b 1 1) 0) = .inr (ty, v))
    (hv : v.length ≤ fld b 8 4) (hu : d.userBytes (fld b 12 4) v.length = true) :
    d.mailRead c a b = ((d.store (a + 8) (le 4 v.length)).store (fld b 12 4) v).mailReturn 0 := by
  have hlong : decide (fld b 8 4 < v.length) = false := decide_eq_false (Nat.not_lt.mpr hv)
  unfold Dev.mailRead
  simp only [Dev.beforeRead_ne hk, hr, hlong, hu, h1, h6, if_neg (Nat.not_lt.mpr h8), decide_true, Bool.and_self, Bool.not_true,
    Bool.not_false, Bool.and_false, Bool.false_eq_true, if_true, if_false, List.append_nil, List.isEmpty_nil, firstCode,
    List.foldl_nil]

theorem mailbox_read {ty : Nat} {b v : List Byte} (hq : Quiet s) (ha : s.dev.appActs = true)
    (hu : (s.called pc).userBytes (a0 % 2 ^ 32) 16 = true)
    (hblk : b = memRead (s.called pc).core.mem (memAddr (a0 % 2 ^ 32)) 16) (h0 : fld b 0 1 = 1) (h1 : fld b 1 1 < 2)
    (h6 : fld b 6 2 = 0) (h8 : fld b 8 4 ≤ 65536) (hk : fld b 4 2 * 256 + fld b 3 1 ≠ 0x9400_01)
    (hr : (s.called pc).readObj (s.ctx dt) (fld b 4 2 * 256 + fld b 3 1) (fld b 2 1) (bit (fld b 1 1) 0) = .inr (ty, v))
    (hv : v.length ≤ fld b 8 4) (hbuf : (s.called pc).userBytes (fld b 12 4) v.length = true) (hl : s.dev.listening = true)
    (hb : x.busy = false) : Completes (.mailbox dt a0 pc x) s fun t => .ret 0 ∈ t.dev.out := by
  have hcall : (s.called pc).mailCall (s.ctx dt) (a0 % 2 ^ 32) x = (s.called pc).mailRead (s.ctx dt) (a0 % 2 ^ 32) b := by
    unfold Dev.mailCall
    simp only [← hblk, h0, hu, Bool.not_true, Bool.false_eq_true, if_false, if_true]
  rw [Dev.mailRead_value _ h1 h6 h8 hk hr hv hbuf] at hcall
  exact mailbox_returns hq ha hl hb hcall rfl

end

/-! ## The transfer protocol -/

theorem Dev.stage_mem (d : Dev) (k : Nat) (v : Val) : ⟨k, v, d.itp.serial + 1⟩ ∈ (d.stage k v).itp.staged :=
  List.mem_append_right _ (List.mem_singleton_self _)

/-- Settles O6, command by command. -/
theorem protocolFramesComplete : Obligations.Protocol_frames_complete := by
  unfold Obligations.Protocol_frames_complete
  refine ⟨fun s dt f x ty b => readReq_completes, ?writeReq, fun s dt f ty b => segReadInit_completes,
    fun s dt f => segWriteInit_completes, fun s dt f x y => segData_completes, fun s dt f y => segAck_completes,
    fun s dt n y => segTransferTimeout_completes, fun s dt f y => abort_completes,
    fun s dt f cls => unknownServiceClass_completes, fun s dt f => identifyReq_completes, fun s dt => heartbeat_completes,
    fun s dt ch => canFdBusOff_recovers, fun s dt ch u => canFdBusOff_loses, fun s dt x b r => hostFrame_broken,
    fun s dt x b r id ty data v => hostFrame_read, fun s dt x b r => hostFrame_elsewhere,
    fun s dt p k x => managementItp_broken, fun s dt p k x => managementItp_identify,
    fun s dt a0 pc x => mailbox_badBlock, fun s dt a0 pc ty x b v => mailbox_read⟩
  case writeReq =>
    intro s dt f x base n r v hq hd ht hst hh hl hlen hc hk hr hv hb
    refine writeReq_completes hq hd ht hst hh hl hlen hc hk hr hv hb fun t id m hm he => ?_
    have hans := Dev.answer_kept (s.taken dt 0x03 f).1 (s.ctx dt) ((s.taken dt 0x03 f).1.orgOf f) id f.data m
    generalize (s.taken dt 0x03 f).1.answer (s.ctx dt) ((s.taken dt 0x03 f).1.orgOf f) id f.data m = a at he hans
    have hstaged := he.of_itp Itp.staged fun _ _ => rfl
    have hresp := he.of_itp Itp.resp fun _ _ => rfl
    exact ⟨⟨_, hstaged ▸ a.stage_mem (key base n r.sub) v, rfl, rfl⟩, _, hresp ▸ hans, rfl, rfl, hm⟩

end Sys2Proof.Machine

/-!
SUPPORT. A write request of a number that is heard and accepted: its effect is that of the write on the device as the model
says it is found.
-/
namespace Sys2Proof.Machine

variable {s : State} {dt k base n : Nat} {o : Org} {v : Int} {x : Obs} {r : Obj}

/-! ## The device as an accepted write finds it -/

/-- What waking and the answer of an accepted write may change, as the write's effect sees it: neither the resets nor an
object but the power state, and of the ITP's state no more than the records, the turn and the frames for the host. -/
structure Dev.FoundOf (d x : Dev) : Prop where
  get : ∀ k, k ≠ 0x8000_01 → x.get k = d.get k
  itp : ∃ h n p q, x.itp = { d.itp with hist := h, turn := n, resp := p, hostQ := q }
  rst : x.rst = d.rst

theorem Dev.AwakeOf.found {d x y : Dev} (h : d.AwakeOf x) (ho : y.obj = x.obj)
    (hi : ∃ p q, y.itp = { x.itp with resp := p, hostQ := q }) (hr : y.rst = x.rst) : d.FoundOf y := by
  obtain ⟨a, b, e⟩ := h.itp
  obtain ⟨p, q, e'⟩ := hi
  exact ⟨fun k hk => (Dev.get_of_obj ho k).trans (h.get k hk), ⟨a, b, p, q, by rw [e', e]⟩, hr.trans h.rst⟩

theorem Dev.FoundOf.of_itp {d y : Dev} (h : d.FoundOf y) {α : Type} (f : Itp → α)
    (hf : ∀ i a b p q, f { i with hist := a, turn := b, resp := p, hostQ := q } = f i) : f y.itp = f d.itp := by
  obtain ⟨_, _, _, _, e⟩ := h.itp
  rw [e, hf]

/-- The device before the answer: awake, the path having had its turn. -/
theorem State.heard_awake : s.entry.AwakeOf (s.heard dt o n) :=
  ite_pred s.entry.AwakeOf ((s.entry.leaveDoze_awake _).trans (Dev.turnFrom_awake _ _)) (s.entry.leaveDoze_awake _)

/-- A number's bytes are few enough for an expedited request. -/
theorem State.heard_num (ty : Ty) : s.heard dt o (encodeVal ty (.num v)).length = s.heard dt o 8 := by
  have := encodeVal_num_length ty v
  unfold State.heard
  simp only [show (encodeVal ty (.num v)).length ≤ 56 by omega, show 8 ≤ 56 by decide]

theorem State.heard_eq : s.heard dt o 8 = (s.entry.leaveDoze (s.ctx dt)).turnFrom o.path := by
  unfold State.heard
  simp

/-- What `Accepts` says of a number. -/
theorem Accepts.spec (h : Accepts s dt o k v) (hk : lookup (s.ctx dt).s12 k = .row base n r) :
    s.entry.hears o = true ∧ decodeVal r.ty (encodeVal r.ty (.num v)) = some (.num v) ∧
      (s.heard dt o 8).writeCodes (s.ctx dt) k r.ty.code (encodeVal r.ty (.num v)) false = [] ∧
      (o.path ≠ .mailbox → (s.heard dt o 8).stored (s.ctx dt) o ((s.heard dt o 8).reqId o)
        (reqData k r.ty.code (encodeVal r.ty (.num v))) = none) := by
  have hlen := encodeVal_num_length r.ty v
  unfold Accepts State.accepts at h
  rw [hk] at h
  simp only [State.heard_num, Bool.and_eq_true, Bool.or_eq_true, decide_eq_true_eq, List.isEmpty_iff,
    Option.isNone_iff_eq_none] at h
  obtain ⟨hh, ⟨hv, hc⟩, hs⟩ := h
  refine ⟨hh, hv, hc, fun hm => ?_⟩
  obtain (hs | hs) | hs := hs
  · exact absurd hs hm
  · omega
  · exact hs

theorem State.found_mailbox (hk : lookup (s.ctx dt).s12 k = .row base n r) (hm : o.path = .mailbox) :
    s.found dt o k v = (s.heard dt o 8).mailReturn 0 := by
  simp only [State.found, hk, hm, if_true]

theorem State.found_frame (hk : lookup (s.ctx dt).s12 k = .row base n r) (hm : o.path ≠ .mailbox) :
    s.found dt o k v = (s.heard dt o 8).answer (s.ctx dt) o ((s.heard dt o 8).reqId o)
      (reqData k r.ty.code (encodeVal r.ty (.num v))) (reply o 0x04 (Hdr.bytes ⟨0, r.ty.code, k / 256, k % 256, 0⟩)) := by
  simp only [State.found, hk, hm, if_false]

/-- The device an accepted write of a number finds. -/
theorem State.found_of (hk : lookup (s.ctx dt).s12 k = .row base n r) (hh : s.entry.hears o = true) :
    s.entry.FoundOf (s.found dt o k v) := by
  have ha : s.entry.AwakeOf (s.heard dt o 8) := State.heard_awake
  by_cases hm : o.path = .mailbox
  · rw [State.found_mailbox hk hm]
    exact ha.found rfl ⟨_, _, rfl⟩ rfl
  · rw [State.found_frame hk hm]
    have hreach : (s.heard dt o 8).Reaches o.path := by
      rw [State.heard_eq]
      exact Dev.reaches_of_hears (s.ctx dt) hh
    generalize s.heard dt o 8 = e at ha hreach
    have hans := e.answer_answerOf (s.ctx dt) o (e.reqId o) (reqData k r.ty.code (encodeVal r.ty (.num v)))
      (reply o 0x04 (Hdr.bytes ⟨0, r.ty.code, k / 256, k % 256, 0⟩)) hreach
    generalize e.answer (s.ctx dt) o (e.reqId o) (reqData k r.ty.code (encodeVal r.ty (.num v)))
      (reply o 0x04 (Hdr.bytes ⟨0, r.ty.code, k / 256, k % 256, 0⟩)) = y at hans
    obtain ⟨p, q, _, _, rfl⟩ := hans
    exact ha.found rfl ⟨p, q, rfl⟩ rfl

theorem Accepts.found (h : Accepts s dt o k v) (hk : lookup (s.ctx dt).s12 k = .row base n r) :
    s.entry.FoundOf (s.found dt o k v) := by
  obtain ⟨hh, -⟩ := Accepts.spec h hk
  exact State.found_of hk hh

/-! ## An accepted write takes effect -/

/-- A waiting write of a number that is accepted takes effect on the device found. -/
theorem Dev.serveJob_accepted (hk : ∀ b, lookup b k = .row base n r) (hk24 : k < 2 ^ 24) (ha : Accepts s dt o k v)
    (hw : (s.heard dt o 8).rst.want = []) :
    (s.heard dt o 8).serveJob (s.ctx dt) ((s.heard dt o 8).writeWait o k r v x) =
      (s.found dt o k v).applyWrite (s.ctx dt) base n r (.num v) x := by
  obtain ⟨hh, hv, hc, hst⟩ := Accepts.spec ha (hk _)
  have hl : (s.heard dt o 8).listening = true := by
    rw [State.heard_awake.listening]
    simp only [Dev.hears, Bool.and_eq_true] at hh
    exact hh.1
  have hlen := encodeVal_num_length r.ty v
  unfold Dev.serveJob
  rw [hl, hw, List.isEmpty_nil, Bool.not_true, Bool.or_self, if_neg Bool.false_ne_true]
  by_cases hm : o.path = .mailbox
  · rw [State.found_mailbox (hk _) hm]
    simp only [Dev.writeWait, hm, if_true, Dev.mailPut, hc, firstCode, List.foldl_nil]
    exact Dev.acceptBytes_some _ x (hk _) hv
  · rw [State.found_frame (hk _) hm]
    simp only [Dev.writeWait, hm, if_false]
    rw [Dev.serveFrame_write x (hst hm)]
    have hp := parseHdr_reqData (k := k) r.ty (encodeVal r.ty (.num v)) hk24 (by omega)
    have hkey := reqData_key (k := k) r.ty (encodeVal r.ty (.num v)) hk24 (by omega)
    have hb : ((reqData k r.ty.code (encodeVal r.ty (.num v))).drop 8).take (encodeVal r.ty (.num v)).length =
        encodeVal r.ty (.num v) := by
      rw [reqData, drop_hdr_bytes, List.take_length]
    have hhdr : headerCodes (reqData k r.ty.code (encodeVal r.ty (.num v))) = [] := headerCodes_bytes _ _ Nat.zero_lt_two
    have hsize : 8 + (encodeVal r.ty (.num v)).length ≤ (reqData k r.ty.code (encodeVal r.ty (.num v))).length := by
      rw [reqData, List.length_append, Hdr.bytes_length]
    generalize reqData k r.ty.code (encodeVal r.ty (.num v)) = data at hp hkey hb hhdr hsize
    rw [Dev.writeReq_accepted o _ x hhdr (by rw [hp]; dsimp only; omega) (by rw [hp]; exact hsize)
      (by rw [hkey, hp, hb]; exact hc), hkey, hp, hb]
    exact Dev.acceptBytes_some _ x (hk _) hv

/-- An accepted write of a number, with no request before it and the agent free, takes effect at once on the device found. -/
theorem Dev.request_accepted (hq : Quiet s) (hk : ∀ b, lookup b k = .row base n r) (hk24 : k < 2 ^ 24)
    (ha : Accepts s dt o k v) (hb : x.busy = false) :
    s.entry.request (s.ctx dt) o k (.num v) x = (s.found dt o k v).applyWrite (s.ctx dt) base n r (.num v) x := by
  obtain ⟨hh, -, -, -⟩ := Accepts.spec ha (hk _)
  have haw := s.entry.leaveDoze_awake (s.ctx dt)
  have hwait : (s.entry.leaveDoze (s.ctx dt)).itp.waiting = [] := by
    obtain ⟨_, _, e⟩ := haw.itp
    rw [e]
    exact hq.2.2
  have hjob : (s.entry.leaveDoze (s.ctx dt)).writeWait o k r v x = (s.heard dt o 8).writeWait o k r v x := by
    rw [State.heard_eq]
    rfl
  rw [Dev.request_num v x (hk false) hh, Dev.arrive_first hwait, show (Dev.writeWait _ o k r v x).x.busy = false from hb,
    if_neg Bool.false_ne_true, hjob, show (Dev.writeWait _ o k r v x).org = o from rfl, ← State.heard_eq]
  exact Dev.serveJob_accepted hk hk24 ha (by rw [State.heard_awake.rst]; exact hq.1)

/-- A command that is the accepted write of a number to an object without a staged value completes with what the owning
block makes of the device found. -/
theorem completes_of_request {i : Instr} {P : State → Prop} {e : Dev} (hx : exec i s = s.req dt o k v x) (hq : Quiet s)
    (hb : x.busy = false) (ha : Accepts s dt o k v) (hk : ∀ b, lookup b k = .row base n r) (hk24 : k < 2 ^ 24)
    (hacc : r.acc ≠ .rws) (he : (s.found dt o k v).writeObj (s.ctx dt) base n r.sub (.num v) x = e)
    (hr : e.rst = (s.found dt o k v).rst) (hP : ∀ t : State, e.EndsAs t.dev → P t) : Completes i s P := by
  have hf := Accepts.found ha (hk _)
  obtain ⟨hwant, haside, hwait⟩ := hq
  refine completes_of_effect (f := fun c d => d.request c o k (.num v) x) hx ?_ (by rw [hr, hf.rst]; exact hwant) hP
  show s.entry.request (s.ctx dt) o k (.num v) x = e
  rw [Dev.request_accepted ⟨hwant, haside, hwait⟩ hk hk24 ha hb, Dev.applyWrite_direct hacc, he]
  rw [he, hr, hf.rst]
  exact haside

end Sys2Proof.Machine

/-!
SUPPORT. The quoin, save, restore and freeze commands (R38 to R66, R114, R944), and the settling of O7.
-/
namespace Sys2Proof.Machine

variable {s : State} {dt : Nat} {o : Org} {x : Obs}

/-! ## The objects of the commands -/

theorem lookup_1030_01 : ∃ r, (∀ b, lookup b 0x1030_01 = .row 0x1030 0 r) ∧ r.acc ≠ .rws ∧ r.sub = 1 :=
  ⟨_, fun b => by cases b <;> rfl, by decide, rfl⟩

theorem lookup_1020_01 : ∃ r, (∀ b, lookup b 0x1020_01 = .row 0x1020 0 r) ∧ r.acc ≠ .rws ∧ r.sub = 1 :=
  ⟨_, fun b => by cases b <;> rfl, by decide, rfl⟩

theorem lookup_1020_02 : ∃ r, (∀ b, lookup b 0x1020_02 = .row 0x1020 0 r) ∧ r.acc ≠ .rws ∧ r.sub = 2 :=
  ⟨_, fun b => by cases b <;> rfl, by decide, rfl⟩

theorem lookup_1060_01 : ∃ r, (∀ b, lookup b 0x1060_01 = .row 0x1060 0 r) ∧ r.acc ≠ .rws :=
  ⟨_, fun b => by cases b <;> rfl, by decide⟩

/-! ## Quoin commands (R43, R48, R51) -/

theorem Dev.EndsAs.nat {d y : Dev} (h : d.EndsAs y) {k : Nat} (hk : partOfKey k ≠ none) : y.nat k = d.nat k :=
  Dev.nat_of_get (h.get k hk)

theorem Dev.FoundOf.nat {d y : Dev} (h : d.FoundOf y) {k : Nat} (hk : k ≠ 0x8000_01) : y.nat k = d.nat k :=
  Dev.nat_of_get (h.get k hk)

theorem Dev.nat_raise (d : Dev) (c : Ctx) (ev n : Nat) {k : Nat} (hk : k < 0x2000_00) : (d.raise c ev n).nat k = d.nat k :=
  Dev.nat_of_get (d.get_raiseF c _ ev n k (by omega) (by omega) (by omega))

/-- A quoin command's write completes with the quoin command. -/
theorem completes_of_quoinCommand {i : Instr} {v : Int} {P : State → Prop} {e : Dev}
    (hx : exec i s = s.req dt o 0x1030_01 v Obs.quiet) (hq : Quiet s) (ha : Accepts s dt o 0x1030_01 v)
    (he : (s.found dt o 0x1030_01 v).quoinCommand (s.ctx dt) (.num v) = e) (hr : e.rst = (s.found dt o 0x1030_01 v).rst)
    (hP : ∀ t : State, s.entry.FoundOf (s.found dt o 0x1030_01 v) → e.EndsAs t.dev → P t) : Completes i s P := by
  obtain ⟨r, hk, hacc, hs⟩ := lookup_1030_01
  refine completes_of_request hx hq rfl ha hk (by decide) hacc ?_ hr fun t => hP t (Accepts.found ha (hk _))
  rw [hs]
  exact he

theorem Dev.commit_eta (d : Dev) (scope qt : Nat) (restore : Bool) :
    ∃ q : Quoin, d.commit scope qt restore =
        ({ d with itp := { d.itp with quoin := q } } : Dev).setN 0x1030_04 (quoinWord 1 0 0) ∧
      q.st = .validating ∧ q.restore = restore :=
  ⟨_, rfl, rfl, rfl⟩

theorem commit_completes (hq : Quiet s) (ha : Accepts s dt o 0x1030_01 1) :
    Completes (.commit dt o) s fun t => t.dev.itp.quoin.st = .validating ∧ t.dev.nat 0x1030_04 = quoinWord 1 0 0 ∧
      t.dev.itp.staged = s.dev.itp.staged := by
  obtain ⟨q, hc, hst, -⟩ := (s.found dt o 0x1030_01 1).commit_eta ((s.found dt o 0x1030_01 1).nat 0x1030_02)
    ((s.found dt o 0x1030_01 1).quoinLocal (s.ctx dt)) false
  refine completes_of_quoinCommand (show exec (.commit dt o) s = execCommit dt o s from rfl) hq ha hc (Dev.setN_rst _ _ _)
    fun t hf he => ⟨?_, ?_, ?_⟩
  · rw [he.of_itp Itp.quoin fun _ _ => rfl, Dev.setN_itp]
    exact hst
  · rw [he.nat (by decide), Dev.nat_setN_same]
  · rw [he.of_itp Itp.staged fun _ _ => rfl, Dev.setN_itp]
    exact hf.of_itp Itp.staged fun _ _ _ _ _ => rfl

/-- Whether an entry lies in a scope depends on the objects of the windows alone. -/
theorem Dev.FoundOf.inScope {d y : Dev} (h : d.FoundOf y) (l : List Ent) (scope k : Nat) :
    y.inScope l scope k = d.inScope l scope k := by
  have hi : y.int (k / 256 * 256 + 2) = d.int (k / 256 * 256 + 2) := by
    unfold Dev.int
    rw [h.get _ (by omega)]
  have hv : (y.after l).nat (k / 256 * 256 + 2) = (d.after l).nat (k / 256 * 256 + 2) := by
    unfold View.nat Dev.after
    dsimp only
    rw [hi]
  have ho : y.ownerOf l k = d.ownerOf l k := by
    simp only [Dev.ownerOf, hv]
  unfold Dev.inScope
  rw [ho]

theorem discard_completes (hq : Quiet s) (hst : s.dev.itp.quoin.st = .none) (ha : Accepts s dt o 0x1030_01 2) :
    Completes (.discard dt o) s fun t => t.dev.nat 0x1030_04 = quoinWord 5 0 0 ∧ t.dev.itp.staged =
      s.dev.itp.staged.filter fun e => !s.dev.inScope s.dev.itp.staged (s.dev.nat 0x1030_02) e.key := by
  obtain ⟨r, hk, -, -⟩ := lookup_1030_01
  have hf := Accepts.found ha (hk _)
  have hst' : (s.found dt o 0x1030_01 2).itp.quoin.st = .none :=
    (congrArg Quoin.st (hf.of_itp Itp.quoin fun _ _ _ _ _ => rfl)).trans hst
  have hstaged : (s.found dt o 0x1030_01 2).itp.staged = s.dev.itp.staged := hf.of_itp Itp.staged fun _ _ _ _ _ => rfl
  have hscope : (s.found dt o 0x1030_01 2).nat 0x1030_02 = s.dev.nat 0x1030_02 := hf.nat (by decide)
  have hin (l : List Ent) (sc k : Nat) : (s.found dt o 0x1030_01 2).inScope l sc k = s.dev.inScope l sc k := hf.inScope l sc k
  refine completes_of_quoinCommand (show exec (.discard dt o) s = execDiscard dt o s from rfl) hq ha (if_pos hst')
    (Dev.setN_rst _ _ _) fun t _ he => ⟨?_, ?_⟩
  · rw [he.nat (by decide), Dev.nat_setN_same]
  · rw [he.of_itp Itp.staged fun _ _ => rfl, Dev.setN_itp]
    simp only [hstaged, hscope, hin]

theorem validateOnly_completes (hq : Quiet s) (ha : Accepts s dt o 0x1030_01 3)
    (hv : (s.found dt o 0x1030_01 3).quoinFault (s.ctx dt) ((s.found dt o 0x1030_01 3).itp.staged.filter fun e =>
      (s.found dt o 0x1030_01 3).inScope (s.found dt o 0x1030_01 3).itp.staged ((s.found dt o 0x1030_01 3).nat 0x1030_02)
        e.key) = none) :
    Completes (.validateOnly dt o) s fun t => t.dev.nat 0x1030_04 = quoinWord 6 0 0 ∧ t.dev.itp.staged = s.dev.itp.staged := by
  have hvo : (s.found dt o 0x1030_01 3).quoinCommand (s.ctx dt) (.num 3) =
      (s.found dt o 0x1030_01 3).setN 0x1030_04 (quoinWord 6 0 0) := by
    show (s.found dt o 0x1030_01 3).validateOnly (s.ctx dt) ((s.found dt o 0x1030_01 3).nat 0x1030_02) = _
    unfold Dev.validateOnly
    simp only [hv]
  refine completes_of_quoinCommand (show exec (.validateOnly dt o) s = execValidateOnly dt o s from rfl) hq ha hvo
    (Dev.setN_rst _ _ _) fun t hf he => ⟨?_, ?_⟩
  · rw [he.nat (by decide), Dev.nat_setN_same]
  · rw [he.of_itp Itp.staged fun _ _ => rfl, Dev.setN_itp]
    exact hf.of_itp Itp.staged fun _ _ _ _ _ => rfl

/-! ## The end of validation (R44, R45) -/

theorem quoinValidationEnd_arms (hq : Quiet s) (hst : s.dev.itp.quoin.st = .validating)
    (hv : s.entry.quoinFault (s.ctx dt) s.entry.itp.quoin.snap = none) :
    Completes (.quoinValidationEnd dt) s fun t => t.dev.itp.quoin.st = .armed ∧ t.dev.nat 0x1030_04 = quoinWord 2 0 0 := by
  have hst' : s.entry.itp.quoin.st = .validating := hst
  obtain ⟨q, hval, hqst⟩ : ∃ q : Quoin, s.entry.validated (s.ctx dt) =
      ({ s.entry with itp := { s.entry.itp with quoin := q } } : Dev).setN 0x1030_04 (quoinWord 2 0 0) ∧ q.st = .armed := by
    unfold Dev.validated
    simp only [hst', hv, ne_eq, not_true_eq_false, if_false]
    exact ⟨_, rfl, rfl⟩
  refine completes_of_effect (show exec (.quoinValidationEnd dt) s = execQuoinValidationEnd dt s from rfl) hval
    (by rw [Dev.setN_rst]; exact hq.1) fun t he => ⟨?_, ?_⟩
  · rw [he.of_itp Itp.quoin fun _ _ => rfl, Dev.setN_itp]
    exact hqst
  · rw [he.nat (by decide), Dev.nat_setN_same]

theorem quoinValidationEnd_rejects {k code : Nat} (hq : Quiet s) (hst : s.dev.itp.quoin.st = .validating)
    (hre : s.dev.itp.quoin.restore = false)
    (hv : s.entry.quoinFault (s.ctx dt) s.entry.itp.quoin.snap = some (k, code)) :
    Completes (.quoinValidationEnd dt) s fun t => t.dev.itp.quoin.st = .none ∧ t.dev.nat 0x1030_04 = quoinWord 4 code k ∧
      t.dev.itp.staged = s.dev.itp.staged := by
  have hst' : s.entry.itp.quoin.st = .validating := hst
  have hre' : s.entry.itp.quoin.restore = false := hre
  have hval : s.entry.validated (s.ctx dt) =
      (({ s.entry with itp := { s.entry.itp with quoin := {} } } : Dev).setN 0x1030_04 (quoinWord 4 code k)).raise (s.ctx dt) 25
        (quoinWord 4 code k) := by
    unfold Dev.validated
    simp only [hst', hv, hre', ne_eq, not_true_eq_false, Bool.false_eq_true, if_false]
    rfl
  refine completes_of_effect (show exec (.quoinValidationEnd dt) s = execQuoinValidationEnd dt s from rfl) hval
    (by rw [Dev.raise_rst, Dev.setN_rst]; exact hq.1) fun t he => ⟨?_, ?_, ?_⟩
  · rw [he.of_itp Itp.quoin fun _ _ => rfl, Dev.raise_itp, Dev.setN_itp]
  · rw [he.nat (by decide), Dev.nat_raise _ _ _ _ (by decide), Dev.nat_setN_same]
  · rw [he.of_itp Itp.staged fun _ _ => rfl, Dev.raise_itp, Dev.setN_itp]
    rfl

/-! ## Restore, invalidate, freeze (R63, R64, R944) -/

theorem Dev.stage_rst (d : Dev) (l : List (Nat × Val)) : (l.foldl (fun d e => d.stage e.1 e.2) d).rst = d.rst := by
  refine foldl_pred (fun y : Dev => y.rst = d.rst) _ (fun _ _ h => ?_) l rfl
  exact h

/-- A restore commits the quoin of what it stages. -/
theorem Dev.restore_eta (d : Dev) (c : Ctx) : ∃ (e : Dev) (q : Quoin), d.restore c =
    ((({ e with itp := { e.itp with quoin := q } } : Dev).setN 0x1030_04 (quoinWord 1 0 0)).setN 0x1020_03 (saveWord 9 0 0)).setN
      0x1020_07 0 ∧ e.rst = d.rst ∧ q.st = .validating ∧ q.restore = true := by
  obtain ⟨q, h, hst, hre⟩ := ((d.restoreEnts c).foldl (fun d e => d.stage e.1 e.2) d).commit_eta
    (if c.s12 then 0x8000_0FFF else 0x80FF_FFFF) 0 true
  refine ⟨(d.restoreEnts c).foldl (fun d e => d.stage e.1 e.2) d, q, ?_, d.stage_rst _, hst, hre⟩
  unfold Dev.restore
  simp only [h]

theorem restore_completes (hq : Quiet s) (ha : Accepts s dt o 0x1020_02 1) :
    Completes (.restore dt o) s fun t => t.dev.itp.quoin.st = .validating ∧ t.dev.itp.quoin.restore = true ∧
      t.dev.nat 0x1020_03 = saveWord 9 0 0 := by
  obtain ⟨r, hk, hacc, hs⟩ := lookup_1020_02
  obtain ⟨e, q, hre, hr, hst, hrst⟩ := (s.found dt o 0x1020_02 1).restore_eta (s.ctx dt)
  have hw : (s.found dt o 0x1020_02 1).writeObj (s.ctx dt) 0x1020 0 r.sub (.num 1) Obs.quiet =
      (s.found dt o 0x1020_02 1).restore (s.ctx dt) := by
    rw [hs]
    rfl
  refine completes_of_request (show exec (.restore dt o) s = execRestore dt o s from rfl) hq rfl ha hk (by decide) hacc
    (hw.trans hre) (by simp only [Dev.setN_rst]; exact hr) fun t he => ?_
  have hquoin := he.of_itp Itp.quoin fun _ _ => rfl
  simp only [Dev.setN_itp] at hquoin
  refine ⟨by rw [hquoin]; exact hst, by rw [hquoin]; exact hrst, ?_⟩
  rw [he.nat (by decide), Dev.nat_setN_ne _ _ _ _ (by decide), Dev.nat_setN_same]

/-- Both banks lose their commit words (Table 1.8). -/
theorem Dev.invalidateBanks_both (d : Dev) : ∃ a b : Bank,
    d.invalidateBanks false = (({ d with bankA := a, bankB := b } : Dev).setN 0x1020_04 0).setN 0x1020_05 0 ∧
      a.seq = 0 ∧ a.comp = 0 ∧ b.seq = 0 ∧ b.comp = 0 := by
  refine ⟨{ d.bankA with seq := 0, comp := 0 }, { d.bankB with seq := 0, comp := 0 }, ?_, rfl, rfl, rfl, rfl⟩
  unfold Dev.invalidateBanks
  cases newer d.bankA.seq d.bankB.seq <;> rfl

theorem invalidateBanks_completes (hq : Quiet s) (hb : x.busy = false) (hc : x.cut = 0) (ha : Accepts s dt o 0x1020_02 2) :
    Completes (.invalidateBanks dt o x) s fun t => t.dev.bankA.seq = 0 ∧ t.dev.bankA.comp = 0 ∧ t.dev.bankB.seq = 0 ∧
      t.dev.bankB.comp = 0 ∧ t.dev.nat 0x1020_05 = 0 := by
  obtain ⟨r, hk, hacc, hs⟩ := lookup_1020_02
  obtain ⟨a, b, hinv, ha1, ha2, hb1, hb2⟩ := (s.found dt o 0x1020_02 2).invalidateBanks_both
  refine completes_of_request (show exec (.invalidateBanks dt o x) s = execInvalidateBanks dt o x s from rfl) hq hb ha hk
    (by decide) hacc (e := (({ s.found dt o 0x1020_02 2 with bankA := a, bankB := b } : Dev).setN 0x1020_04 0).setN 0x1020_05 0)
    ?_ (by simp only [Dev.setN_rst]) fun t he => ?_
  · rw [hs, ← hinv]
    show (s.found dt o 0x1020_02 2).invalidateBanks (decide (x.cut ≠ 0)) = _
    rw [hc]
    rfl
  · have hA := he.bankA
    have hB := he.bankB
    simp only [Dev.setN_bankA, Dev.setN_bankB] at hA hB
    rw [hA, hB, he.nat (by decide), Dev.nat_setN_same]
    exact ⟨ha1, ha2, hb1, hb2, rfl⟩

theorem freeze_completes {v : Nat} (hq : Quiet s) (h0 : s.dev.flag 0x1060_01 = false) (ha : Accepts s dt o 0x1060_01 v) :
    Completes (.freeze dt o v) s fun t => t.dev.nat 0x1060_01 = 1 ∧ t.dev.nat 0x1060_02 = (s.ctx dt).t := by
  obtain ⟨r, hk, hacc⟩ := lookup_1060_01
  have hflag : (s.found dt o 0x1060_01 v).flag 0x1060_01 = false :=
    (Dev.flag_of_get ((Accepts.found ha (hk _)).get _ (by decide))).trans h0
  refine completes_of_request (show exec (.freeze dt o v) s = execFreeze dt o v s from rfl) hq rfl ha hk (by decide) hacc
    (if_neg (by rw [hflag]; exact Bool.false_ne_true)) (by simp only [Dev.setN_rst]) fun t he => ⟨?_, ?_⟩
  · rw [he.nat (by decide), Dev.nat_setN_ne _ _ _ _ (by decide), Dev.nat_setN_same]
  · rw [he.nat (by decide), Dev.nat_setN_same]

end Sys2Proof.Machine

/-!
SUPPORT. Saving, and the quoin time: what they leave of the quoin, of the resets and of the objects below 0x2000; and the
settling of O7.
-/
namespace Sys2Proof.Machine

variable {s : State} {dt : Nat} {o : Org} {x : Obs}

/-! ## Changes above the configuration -/

/-- The ITP's state, the resets and the objects below 0x2000 are as they were. -/
structure Dev.LowerSame (d x : Dev) : Prop where
  itp : x.itp = d.itp
  rst : x.rst = d.rst
  get : ∀ k, k < 0x2000_00 → x.get k = d.get k

namespace Dev.LowerSame

variable {d y z : Dev}

theorem refl (d : Dev) : d.LowerSame d := ⟨rfl, rfl, fun _ _ => rfl⟩

theorem trans (h : d.LowerSame y) (g : y.LowerSame z) : d.LowerSame z :=
  ⟨g.itp.trans h.itp, g.rst.trans h.rst, fun k hk => (g.get k hk).trans (h.get k hk)⟩

theorem set (d : Dev) {k : Nat} (v : Val) (hk : 0x2000_00 ≤ k) : d.LowerSame (d.set k v) :=
  ⟨Dev.set_itp .., Dev.set_rst .., fun j hj => d.get_set_ne k j v (by omega)⟩

/-- An object of one unit of a table above 0x2000. -/
theorem setKey (d : Dev) {base : Nat} (n sub : Nat) (v : Val) (hb : 0x2000 ≤ base) :
    d.LowerSame (d.set (key base n sub) v) := by
  refine set d v ?_
  unfold key
  omega

theorem raise (d : Dev) (c : Ctx) (ev n : Nat) : d.LowerSame (d.raise c ev n) :=
  ⟨Dev.raise_itp .., Dev.raise_rst .., fun k hk => d.get_raiseF c _ ev n k (by omega) (by omega) (by omega)⟩

/-- A change of neither the objects, the ITP's state nor the resets. -/
theorem fields (ho : y.obj = d.obj) (hi : y.itp = d.itp) (hr : y.rst = d.rst) : d.LowerSame y :=
  ⟨hi, hr, fun k _ => Dev.get_of_obj ho k⟩

theorem foldl {α : Type} {f : Dev → α → Dev} {r : List α} (h : ∀ (b : Dev) a, b.LowerSame (f b a)) (d : Dev) :
    d.LowerSame (r.foldl f d) :=
  foldl_pred d.LowerSame f (fun b a hb => hb.trans (h b a)) r (refl d)

end Dev.LowerSame

/-! ## Windows and formes whose timing ends -/

theorem Dev.windowOff_lower (d : Dev) (w : Nat) : d.LowerSame (d.windowOff w) := by
  have h1 : d.LowerSame (d.setN (winK w 0x1A) 0) := .setKey d w _ _ (by decide)
  have hr {y : Dev} {sub : Nat} {v : Val} : y.LowerSame (y.set (key 0x5300 w sub) v) := .setKey y w _ _ (by decide)
  exact ((((h1.trans hr).trans hr).trans hr).trans hr).trans (.fields rfl rfl rfl)

theorem Dev.drainEnd_lower (d : Dev) (ch : Nat) : d.LowerSame (d.drainEnd ch) :=
  ite_pred d.LowerSame ((LowerSame.setKey d ch 0x0C _ (by decide)).trans (.fields rfl rfl rfl)) (.refl d)

theorem Dev.releaseForme_lower (d : Dev) (n : Nat) : d.LowerSame (d.releaseForme n) := by
  unfold Dev.releaseForme
  refine LowerSame.trans ?_ (.foldl (fun b ch => b.drainEnd_lower ch) _)
  exact .fields rfl rfl rfl

theorem Dev.timingGap_lower (d : Dev) (n t : Nat) : d.LowerSame (d.timingGap n t) :=
  ((d.releaseForme_lower n).trans (.setKey _ n 0x11 _ (by decide))).trans (.fields rfl rfl rfl)

theorem Dev.haltForme_lower (d : Dev) (n : Nat) : d.LowerSame (d.haltForme n) := by
  have h1 : d.LowerSame ((d.releaseForme n).setN (formeK n 0x11) 0) :=
    (d.releaseForme_lower n).trans (.setKey _ n 0x11 _ (by decide))
  unfold Dev.haltForme
  refine LowerSame.trans (h1.trans ?_) (.foldl (fun b w => b.windowOff_lower w) _)
  exact .fields rfl rfl rfl

/-- Where the quoin holds no entries of formes, a change of the genlock frame rate ends the forme's timing alone. -/
theorem Dev.rateGap_lower {d : Dev} (c : Ctx) (n : Nat) (h : d.itp.quoin.left = []) : d.LowerSame (d.rateGap c n) := by
  unfold Dev.rateGap
  rw [h]
  exact ite_pred d.LowerSame (.refl d) (ite_pred d.LowerSame (d.timingGap_lower n c.t) (d.haltForme_lower n))

theorem Dev.synSearch_lower (d : Dev) (n : Nat) : d.LowerSame (d.synSearch n) := by
  have hk {y : Dev} {sub m : Nat} : y.LowerSame (y.setN (synK n sub) m) := .setKey y n sub _ (by decide)
  have hp {y : Dev} {sub : Nat} {v : Val} : y.LowerSame (y.set (profK n sub) v) := .setKey y n sub _ (by decide)
  have hf {y : Dev} {f : Syn → Syn} : y.LowerSame (y.modSyn n f) := .fields rfl rfl rfl
  unfold Dev.synSearch
  extract_lets d1
  have h1 : d.LowerSame d1 := ite_pred d.LowerSame hk (.refl d)
  have h2 : d1.LowerSame ((d1.setSyn n 1).unalign n) := (hk.trans hf).trans hk
  generalize (d1.setSyn n 1).unalign n = d2 at h2
  have h3 : d2.LowerSame (d2.profIdle n) := ((hp.trans hp).trans hp).trans hf
  exact ((h1.trans h2).trans h3).trans hf

theorem Dev.synsRate_lower (d : Dev) : d.LowerSame d.synsRate := by
  refine .foldl (fun b n => ?_) d
  exact ite_pred b.LowerSame (.refl b) (ite_pred b.LowerSame (.fields rfl rfl rfl)
    (ite_pred b.LowerSame (b.synSearch_lower n) (.refl b)))

theorem Dev.rateApplied_lower (d : Dev) (c : Ctx) : d.LowerSame (d.rateApplied c) := by
  unfold Dev.rateApplied
  extract_lets start _ d1 coast
  have h1 : d.LowerSame d1 := .fields rfl rfl rfl
  exact ite_pred d.LowerSame ((h1.trans (.set d1 (k := 0x2110_0A) _ (by decide))).trans (.fields rfl rfl rfl)) h1

theorem Dev.unlockAll_lower (d : Dev) : d.LowerSame d.unlockAll := by
  refine .foldl (fun b ch => ?_) d
  have h1 : b.LowerSame (b.modChan ch fun y => { y with offs := [] }) := .fields rfl rfl rfl
  exact (h1.trans (.setKey (base := 0x4000) _ ch 0x0D _ (by decide))).trans
    (.setKey (base := 0x4000) _ ch 0x17 _ (by decide))

theorem Dev.rateTaken_lower {d : Dev} (c : Ctx) (old : Nat × Nat) (h : d.itp.quoin.left = []) :
    d.LowerSame (d.rateTaken c old) := by
  have h1 : d.LowerSame ((d.rateApplied c).synsRate).unlockAll :=
    ((d.rateApplied_lower c).trans (Dev.synsRate_lower _)).trans (Dev.unlockAll_lower _)
  refine ite_pred d.LowerSame (.refl d) (foldl_pred d.LowerSame _ (fun b n hb => ?_) _ h1)
  exact hb.trans (b.rateGap_lower c n (by rw [hb.itp]; exact h))

theorem Dev.modesAnew_lower (d : Dev) (es : List Ent) : d.LowerSame (d.modesAnew es) := by
  refine .foldl (fun b e => ?_) d
  have h1 (w : Nat) (f : Win → Win) : b.LowerSame (b.modWin w f) := .fields rfl rfl rfl
  have h2 (y : Dev) (ch n : Nat) : y.LowerSame (y.setN (chanK ch 0x26) n) := .setKey (base := 0x4000) y ch 0x26 _ (by decide)
  exact ite_pred b.LowerSame ((h1 _ _).trans (h2 _ _ _)) (.refl b)

theorem Dev.windowsGone_lower (d : Dev) (es : List Ent) : d.LowerSame (d.windowsGone es) :=
  .foldl (fun b _ => ite_pred b.LowerSame (b.windowOff_lower _) (.refl b)) d

/-! ## A quoin without entries of formes applies (R42, R49) -/

theorem Dev.setAll_itpRst {d : Dev} (es : List Ent) (h : d.rst.aside = []) : d.ItpRstOf (d.setAll es) := by
  refine foldl_pred d.ItpRstOf _ (fun b e hb => ?_) _ ⟨rfl, rfl⟩
  have hr : (b.set e.key e.val).rst = d.rst := (b.set_rst _ _).trans hb.2
  rw [Dev.dropAside_none _ (by rw [hr]; exact h)]
  exact ⟨(b.set_itp _ _).trans hb.1, hr⟩

/-- The start of a save's snapshot again, or its failure. -/
theorem Dev.snapCut_eta (d : Dev) (c : Ctx) :
    (∃ n, (d.snapCut c).itp = { d.itp with saveSnap := n }) ∧ (d.snapCut c).rst = d.rst := by
  unfold Dev.snapCut
  split
  · exact ⟨⟨_, rfl⟩, rfl⟩
  · exact ⟨⟨_, rfl⟩, rfl⟩
  · unfold Dev.saveFailed
    simp only [Dev.raise_itp, Dev.raise_rst, Dev.setN_itp, Dev.setN_rst]
    exact ⟨⟨_, rfl⟩, trivial⟩

/-- The global entries apply: the quoin is done with them at the instant it says. -/
theorem Dev.applyGlobals_eta {d : Dev} (c : Ctx) (ha : d.rst.aside = []) (hl : d.itp.quoin.left = [])
    (hre : d.itp.quoin.restore = false) :
    (d.applyGlobals c).itp = { d.itp with quoin := { d.itp.quoin with globals := true } } ∧ (d.applyGlobals c).rst = d.rst ∧
      (d.applyGlobals c).nat 0x1030_07 = c.t := by
  unfold Dev.applyGlobals
  extract_lets q es rate d1 d2 _ d3 d4
  have h1 : d.ItpRstOf d1 := by
    obtain ⟨hi, hr⟩ := d.setAll_itpRst es ha
    have hm := ((d.setAll es).modesAnew_lower es).trans (Dev.windowsGone_lower _ es)
    exact ⟨hm.itp.trans hi, hm.rst.trans hr⟩
  have h2 : d2.itp = { d.itp with quoin := { d.itp.quoin with globals := true } } ∧ d2.rst = d.rst := by
    simp only [d2, Dev.setN_itp, Dev.setN_rst]
    exact ⟨by rw [← h1.1]; rfl, h1.2⟩
  have ht : d2.nat 0x1030_07 = c.t := Dev.nat_setN_same _ _ _
  have h3 : d3 = d2 := if_neg (by rw [show q.restore = false from hre]; exact Bool.false_ne_true)
  have h4 : d2.LowerSame d4 := by
    have := d3.rateTaken_lower c rate (by rw [h3, h2.1]; exact hl)
    rw [h3] at this
    simp only [d4, h3]
    exact this
  have hnone : d4.itp.quoin.left = [] := by
    rw [h4.itp, h2.1]
    exact hl
  rw [hnone]
  exact ⟨h4.itp.trans h2.1, h4.rst.trans h2.2, (Dev.nat_of_get (h4.get _ (by decide))).trans ht⟩

/-- A quoin that has applied leaves its word and is gone (R49). -/
theorem Dev.quoinDone_eta {d : Dev} (c : Ctx) (hst : d.itp.quoin.st = .armed) (hg : d.itp.quoin.globals = true)
    (hl : d.itp.quoin.left = []) (hre : d.itp.quoin.restore = false) :
    (∃ l, (d.quoinDone c).itp = { d.itp with quoin := {}, staged := l }) ∧ (d.quoinDone c).rst = d.rst ∧
      (d.quoinDone c).nat 0x1030_04 = quoinWord 3 0 0 ∧ (d.quoinDone c).nat 0x1030_07 = d.nat 0x1030_07 := by
  have hcond : (decide (d.itp.quoin.st = .armed) && d.itp.quoin.globals && d.itp.quoin.left.isEmpty) = true := by
    simp [hst, hg, hl]
  unfold Dev.quoinDone
  simp only [hcond, hre, if_true, Bool.false_eq_true, if_false]
  refine ⟨⟨_, (Dev.raise_itp ..).trans ((Dev.inc_itp ..).trans (Dev.setN_itp ..))⟩,
    (Dev.raise_rst ..).trans ((Dev.inc_rst ..).trans (Dev.setN_rst ..)), ?_, ?_⟩
  · rw [Dev.nat_raise _ _ _ _ (by decide), Dev.nat_of_get (Dev.get_inc_ne _ _ _ (by decide)), Dev.nat_setN_same]
  · rw [Dev.nat_raise _ _ _ _ (by decide), Dev.nat_of_get (Dev.get_inc_ne _ _ _ (by decide)),
      Dev.nat_setN_ne _ _ _ _ (by decide)]
    rfl

theorem quoinTimeReached_completes (hq : Quiet s) (hst : s.dev.itp.quoin.st = .armed)
    (hanchor : s.dev.itp.quoin.anchor = none) (hg : s.dev.itp.quoin.globals = false)
    (hre : s.dev.itp.quoin.restore = false) (hl : s.dev.itp.quoin.left = [])
    (hrest : s.dev.itp.restoring = []) (hripe : s.dev.itp.quoin.ripe (s.ctx dt).t = true) :
    Completes (.quoinTimeReached dt) s fun t => t.dev.itp.quoin.st = .none ∧ t.dev.nat 0x1030_04 = quoinWord 3 0 0 ∧
      t.dev.nat 0x1030_07 = (s.ctx dt).t := by
  obtain ⟨hwant, haside, -⟩ := hq
  obtain ⟨⟨n, hi1⟩, hr1⟩ := s.entry.snapCut_eta (s.ctx dt)
  have htime : s.entry.quoinTime (s.ctx dt) = ((s.entry.snapCut (s.ctx dt)).applyGlobals (s.ctx dt)).quoinDone (s.ctx dt) := by
    refine if_pos ?_
    have hst' : s.entry.itp.quoin.st = .armed := hst
    have hanchor' : s.entry.itp.quoin.anchor = none := hanchor
    have hg' : s.entry.itp.quoin.globals = false := hg
    have hripe' : s.entry.itp.quoin.ripe (s.ctx dt).t = true := hripe
    simp [hst', hanchor', hg', hripe']
  generalize s.entry.snapCut (s.ctx dt) = a at hi1 hr1 htime
  obtain ⟨hi2, hr2, ht2⟩ := Dev.applyGlobals_eta (d := a) (s.ctx dt) (by rw [hr1]; exact haside) (by rw [hi1]; exact hl)
    (by rw [hi1]; exact hre)
  generalize a.applyGlobals (s.ctx dt) = b at hi2 hr2 ht2 htime
  have hquoin : b.itp.quoin = { s.dev.itp.quoin with globals := true } := by
    rw [hi2, hi1]
    rfl
  obtain ⟨⟨l, hi3⟩, hr3, h04, h07⟩ := Dev.quoinDone_eta (d := b) (s.ctx dt) (by rw [hquoin]; exact hst) (by rw [hquoin])
    (by rw [hquoin]; exact hl) (by rw [hquoin]; exact hre)
  generalize b.quoinDone (s.ctx dt) = e at hi3 hr3 h04 h07 htime
  have hrst : e.rst = s.dev.rst := hr3.trans (hr2.trans hr1)
  have hfin : e.finishRestore (s.ctx dt) = e := by
    have : e.itp.restoring = [] := by
      rw [hi3, hi2, hi1]
      exact hrest
    simp [Dev.finishRestore, this]
  refine completes_of_effect (e := e) (show exec (.quoinTimeReached dt) s = execQuoinTimeReached dt s from rfl) ?_
    (by rw [hrst]; exact hwant) fun t he => ⟨?_, ?_, ?_⟩
  · rw [htime, hfin, Dev.retryAside_none _ (by rw [hrst]; exact haside)]
  · rw [he.of_itp Itp.quoin fun _ _ => rfl, hi3]
  · rw [he.nat (by decide)]
    exact h04
  · rw [he.nat (by decide)]
    exact h07.trans ht2

/-! ## Save (Table 1.6) -/

theorem Dev.dropBad_lower (d : Dev) : d.LowerSame d.dropBad :=
  ite_pred d.LowerSame (.refl d) ((LowerSame.set d (k := 0x9400_08) _ (by decide)).trans (.fields rfl rfl rfl))

/-- A copy of the log writes the log, a copy slot, and objects above 0x2000. -/
theorem Dev.copyLog_lower (d : Dev) (c : Ctx) (reason bad : Nat) : d.LowerSame (d.copyLog c reason bad) := by
  have h0 := d.dropBad_lower
  unfold Dev.copyLog
  extract_lets d1 g recs prev seq toOne y y1 y2 d2 d3 fail
  refine ite_pred d.LowerSame ((h0.trans (.set _ (k := 0x9400_07) _ (by decide))).trans (.raise _ c _ _)) ?_
  have h2 : d.LowerSame d2 := ite_pred d.LowerSame (h0.trans (.fields rfl rfl rfl)) (h0.trans (.fields rfl rfl rfl))
  have h3 : d.LowerSame d3 := ite_pred d.LowerSame (h2.trans (.set d2 (k := 0x9300_04) _ (by decide))) h2
  exact (h3.trans (.set _ (k := 0x9400_07) _ (by decide))).trans (.raise _ c _ _)

theorem Dev.setBank_lower (d : Dev) (n : Nat) (b : Bank) : d.LowerSame (d.setBank n b) :=
  ite_pred d.LowerSame (.fields rfl rfl rfl) (.fields rfl rfl rfl)

/-- A save with no cut and at most one fault, of a payload that fits: the bank, its sequence, the word, the copy of the
log. -/
theorem Dev.saveRun_eta {d : Dev} {c : Ctx} (hc : x.cut = 0) (hf : x.faults.length < 2) (hl : d.payloadLen c ≤ 229344) :
    ∃ (e : Dev) (b : Bank) (seq : Nat), d.saveRun c x = ((((e.setBank d.saveTarget b).setN 0x1020_04 seq).setN 0x1020_05
        d.saveTarget).setN 0x1020_03 (saveWord 6 1 (d.payload c).length)).copyLog c 1 x.bad ∧
      e.itp = { d.itp with saveWait := false, saveSnap := none } ∧ e.rst = d.rst := by
  have hlen : ¬ 229344 < ({ d with itp := { d.itp with saveWait := false, saveSnap := none } } : Dev).payloadLen c :=
    Nat.not_lt.mpr hl
  unfold Dev.saveRun
  rw [hc]
  simp only [Nat.reduceEqDiff, if_false, hlen, decide_false, Bool.or_self, Bool.false_eq_true]
  match hx : x.faults, hf with
  | [], _ => exact ⟨_, _, _, rfl, rfl, rfl⟩
  | [f], _ => exact ⟨_, _, _, rfl, Dev.inc_itp .., Dev.inc_rst ..⟩

/-- What a completed save leaves (Table 1.6). -/
theorem Dev.saveRun_done {d : Dev} {c : Ctx} (hc : x.cut = 0) (hf : x.faults.length < 2) (hl : d.payloadLen c ≤ 229344) :
    (d.saveRun c x).rst = d.rst ∧ (d.saveRun c x).itp.saveWait = false ∧
      (d.saveRun c x).nat 0x1020_03 = saveWord 6 1 (d.payload c).length ∧ (d.saveRun c x).nat 0x1020_05 = d.saveTarget := by
  obtain ⟨e, b, seq, h, hi, hr⟩ := Dev.saveRun_eta (x := x) hc hf hl
  rw [h]
  generalize d.saveTarget = tg
  have hb := e.setBank_lower tg b
  have hcopy := Dev.copyLog_lower ((((e.setBank tg b).setN 0x1020_04 seq).setN 0x1020_05 tg).setN 0x1020_03
    (saveWord 6 1 (d.payload c).length)) c 1 x.bad
  refine ⟨?_, ?_, ?_, ?_⟩
  · rw [hcopy.rst]
    simp only [Dev.setN_rst, hb.rst, hr]
  · rw [hcopy.itp]
    simp only [Dev.setN_itp, hb.itp, hi]
  · rw [Dev.nat_of_get (hcopy.get _ (by decide)), Dev.nat_setN_same]
  · rw [Dev.nat_of_get (hcopy.get _ (by decide)), Dev.nat_setN_ne _ _ _ _ (by decide), Dev.nat_setN_same]

theorem save_completes (hq : Quiet s) (hst : s.dev.itp.quoin.st ≠ .armed) (hb : x.busy = false) (hc : x.cut = 0)
    (hf : x.faults.length < 2) (ha : Accepts s dt o 0x1020_01 1)
    (hl : (s.found dt o 0x1020_01 1).payloadLen (s.ctx dt) ≤ 229344) :
    Completes (.save dt o x) s fun t =>
      t.dev.nat 0x1020_03 = saveWord 6 1 ((s.found dt o 0x1020_01 1).payload (s.ctx dt)).length ∧
      t.dev.nat 0x1020_05 = if s.dev.nat 0x1020_05 = 1 then 2 else 1 := by
  obtain ⟨r, hk, hacc, hs⟩ := lookup_1020_01
  have hfound := Accepts.found ha (hk _)
  obtain ⟨hr, -, h03, h05⟩ := Dev.saveRun_done (x := x) hc hf hl
  have hst' : (s.found dt o 0x1020_01 1).itp.quoin.st ≠ .armed := by
    rw [hfound.of_itp Itp.quoin fun _ _ _ _ _ => rfl]
    exact hst
  have hw : (s.found dt o 0x1020_01 1).writeObj (s.ctx dt) 0x1020 0 r.sub (.num 1) x =
      (s.found dt o 0x1020_01 1).saveRun (s.ctx dt) x := by
    rw [hs]
    exact if_neg hst'
  refine completes_of_request (show exec (.save dt o x) s = execSave dt o x s from rfl) hq hb ha hk (by decide) hacc hw hr
    fun t he => ⟨?_, ?_⟩
  · rw [he.nat (by decide)]
    exact h03
  · rw [he.nat (by decide), h05]
    unfold Dev.saveTarget
    rw [hfound.nat (by decide)]
    rfl

theorem saveAfterQuoin_completes {d : Dev} (hq : Quiet s) (hw : s.dev.itp.saveWait = true)
    (hst : s.dev.itp.quoin.st ≠ .armed) (hc : x.cut = 0) (hf : x.faults.length < 2)
    (hd : d = { s.entry with itp := { s.entry.itp with saveWait := false, saveSnap := none } })
    (hl : d.payloadLen (s.ctx dt) ≤ 229344) :
    Completes (.saveAfterQuoin dt x) s fun t => t.dev.itp.saveWait = false ∧
      t.dev.nat 0x1020_03 = saveWord 6 1 (d.payload (s.ctx dt)).length := by
  subst hd
  have hl' : s.entry.payloadLen (s.ctx dt) ≤ 229344 := hl
  obtain ⟨hr, hwait, h03, -⟩ := Dev.saveRun_done (x := x) hc hf hl'
  have hafter : s.entry.saveAfter (s.ctx dt) x = s.entry.saveRun (s.ctx dt) x := by
    refine if_pos ?_
    have hw' : s.entry.itp.saveWait = true := hw
    have hst' : s.entry.itp.quoin.st ≠ .armed := hst
    simp [hw', hst']
  refine completes_of_effect (show exec (.saveAfterQuoin dt x) s = execSaveAfterQuoin dt x s from rfl) hafter
    (by rw [hr]; exact hq.1) fun t he => ⟨?_, ?_⟩
  · rw [he.of_itp Itp.saveWait fun _ _ => rfl]
    exact hwait
  · rw [he.nat (by decide)]
    exact h03

/-! ## The configuration commands -/

/-- Settles O7, command by command. -/
theorem configurationCommandsComplete : Obligations.Configuration_commands_complete := by
  unfold Obligations.Configuration_commands_complete
  exact ⟨fun s dt o => commit_completes, fun s dt o => discard_completes, fun s dt o => validateOnly_completes,
    fun s dt => quoinValidationEnd_arms, fun s dt k code => quoinValidationEnd_rejects,
    fun s dt => quoinTimeReached_completes, fun s dt o x => save_completes, fun s dt x d => saveAfterQuoin_completes,
    fun s dt o => restore_completes, fun s dt o x => invalidateBanks_completes, fun s dt o v => freeze_completes⟩

end Sys2Proof.Machine

/-!
SUPPORT. What an event, a detection, a frame received and the end of a command leave of the clock root and the timebase.
-/
namespace Sys2Proof.Machine

/-! ## Changes that leave the clock root and the timebase as they are -/

theorem Same.clk {d x : Dev} (h : Same .timebase d x) : x.clk = d.clk := Eq.symm h.1

theorem Same.nat {p : Part} {d x : Dev} (h : Same p d x) {k : Nat} (hk : partOfKey k = some p) : x.nat k = d.nat k :=
  Dev.nat_of_get (h.2 k hk)

/-- The clock root and the timebase, and the state of resets, are as they were. -/
structure Dev.ClockSame (d x : Dev) : Prop where
  same : Same .timebase d x
  rst : x.rst = d.rst

namespace Dev.ClockSame

variable {d x y : Dev} {l : List Part}

theorem of_keeps (h : d.Keeps l x) (hl : .timebase ∉ l) (hr : x.rst = d.rst) : d.ClockSame x := ⟨h .timebase hl, hr⟩

theorem refl (d : Dev) : d.ClockSame d := .of_keeps (.refl [] d) (by decide) rfl

theorem trans (h : d.ClockSame x) (g : x.ClockSame y) : d.ClockSame y :=
  ⟨⟨h.same.1.trans g.same.1, fun k hk => (g.same.2 k hk).trans (h.same.2 k hk)⟩, g.rst.trans h.rst⟩

theorem clk (h : d.ClockSame x) : x.clk = d.clk := h.same.clk

theorem nat (h : d.ClockSame x) {k : Nat} (hk : partOfKey k = some .timebase) : x.nat k = d.nat k := h.same.nat hk

theorem raise (d : Dev) (c : Ctx) (ev n : Nat) : d.ClockSame (d.raise c ev n) :=
  .of_keeps (d.raise_keeps c ev n) List.not_mem_nil (d.raise_rst c ev n)

theorem raiseClr (d : Dev) (c : Ctx) (ev n : Nat) : d.ClockSame (d.raiseClr c ev n) :=
  .of_keeps (d.raiseClr_keeps c ev n) List.not_mem_nil (d.raiseClr_rst c ev n)

theorem endCond (d : Dev) (code inst : Nat) : d.ClockSame (d.endCond code inst) :=
  .of_keeps (l := [.collector]) (d.endCond_keeps code inst (by decide)) (by decide)
    (ite_pred (fun x : Dev => x.rst = d.rst) rfl (Dev.setN_rst ..))

theorem endGenlockConds (d : Dev) : d.ClockSame d.endGenlockConds :=
  ite_pred d.ClockSame ((endCond d _ _).trans (endCond _ _ _)) (refl d)

theorem gclkBack (d : Dev) : d.ClockSame d.gclkBack :=
  .of_keeps (l := [.synths]) (d.gclkBack_keeps (by decide)) (by decide)
    (foldl_pred (fun x : Dev => x.rst = d.rst) _
      (fun b s hb => ite_pred (fun x : Dev => x.rst = d.rst) ((b.synSearch_lower s).rst.trans hb) hb) _ rfl)

theorem leaveDoze (d : Dev) (c : Ctx) : d.ClockSame (d.leaveDoze c) :=
  .of_keeps (l := [.power]) (d.leaveDoze_keeps c (by decide)) (by decide) (d.leaveDoze_awake c).rst

end Dev.ClockSame

theorem Dev.dedupe_rst (d : Dev) (c : Ctx) (f : Req) (id : Nat) : (d.dedupe c f id).1.rst = d.rst := by
  unfold Dev.dedupe
  refine ite_pred (fun x : Dev × Bool => x.1.rst = d.rst) rfl ?_
  extract_lets win hist cand mark
  split
  · exact Dev.inc_rst ..
  · split
    · exact (Dev.raise_rst ..).trans (Dev.inc_rst ..)
    · rfl

theorem Dev.ClockSame.dedupe (d : Dev) (c : Ctx) (f : Req) (id : Nat) : d.ClockSame (d.dedupe c f id).1 :=
  .of_keeps (l := [.bus]) (d.dedupe_keeps c f id (by decide)) (by decide) (d.dedupe_rst c f id)

theorem Dev.enterSafe_rst (d : Dev) (c : Ctx) (w : Nat) : (d.enterSafe c w).rst = d.rst := by
  unfold Dev.enterSafe
  refine ite_pred (fun x : Dev => x.rst = d.rst) ?_ rfl
  simp only [Dev.raise_rst, Dev.setN_rst, Dev.inc_rst, Dev.recordEntry]

/-- Only a detection of class 3 asks for a reset (R844, Table 15.2). -/
theorem Dev.detect_rst {d : Dev} (c : Ctx) {code : Nat} (inst : Nat) (h : d.classOf code ≠ 3) :
    (d.detect c code inst).rst = d.rst := by
  let P (x : Dev) : Prop := x.rst = d.rst
  unfold Dev.detect
  extract_lets cls word _ d1 had n0 n1 d2 d3 d4 d5 _ d6 _ d7 _ d8
  have h2 : P d2 := Dev.setB_rst ..
  have h3 : P d3 := ite_pred P ((Dev.enterSafe_rst ..).trans h2) h2
  have h4 : P d4 := ite_pred P ((Dev.setN_rst ..).trans h3) h3
  have h5 : P d5 := ite_pred P ((Dev.setN_rst ..).trans h4) h4
  have h6 : P d6 := ite_pred P h5 h5
  have h7 : P d7 := ite_pred P h6 (ite_pred P h6 (((Dev.toHost_rst ..).trans (Dev.sendBoth_rst ..)).trans h6))
  have h8 : P d8 := ite_pred P h7 h7
  rw [if_neg (show cls ≠ 3 from h)]
  exact h8

theorem Dev.ClockSame.detect {d : Dev} (c : Ctx) {code : Nat} (inst : Nat) (h : d.classOf code ≠ 3) :
    d.ClockSame (d.detect c code inst) :=
  .of_keeps (l := [.collector]) (d.detect_keeps c code inst (by decide)) (by decide) (d.detect_rst c inst h)

/-! ## A command that completes -/

/-- SAFE_N is low at the end of a command that has left a latch set (R846). -/
theorem Dev.settle_safeN (d : Dev) (c : Ctx) (h : d.rst.want = []) (hl : d.saf.latchA = true) :
    (d.settle c).pins.safeN = false := by
  unfold Dev.settle
  extract_lets n0 f0 d1 d2 d3 d4
  have h1 : d1.saf.latchA = true ∧ d1.rst = d.rst := by
    have hn : d.PortsOf n0 := d.safeNotices_eta c _ h
    clear_value n0
    obtain ⟨ps, rfl⟩ := hn
    exact ite_pred (fun x : Dev => x.saf.latchA = true ∧ x.rst = d.rst) ⟨hl, rfl⟩ ⟨hl, rfl⟩
  clear_value d1
  have h2 : d2.saf = d1.saf ∧ d2.rst = d1.rst := by
    obtain ⟨o, p, e⟩ := d1.settleSeats_eta
    obtain ⟨_, _, _, g⟩ := d1.settleSeats.settleAudio_eta c
    have hd2 : d2 = d1.settleSeats.settleAudio c := rfl
    rw [hd2, g, e]
    exact ⟨rfl, rfl⟩
  clear_value d2
  have h3 : d3.saf = d2.saf := by
    have hd3 : d3 = (d2.takeReset c).dispatch c := rfl
    obtain ⟨_, _, e⟩ := d2.dispatch_eta c
    rw [hd3, Dev.takeReset_none d2 c (by rw [h2.2, h1.2, h]), e]
  clear_value d3
  have h4 : d4.saf = d3.saf := by
    refine ite_pred (fun x : Dev => x.saf = d3.saf) ?_ rfl
    obtain ⟨_, _, _, _, e⟩ := d3.sendEvents_eta
    rw [e]
  have hA : d4.saf.latchA = true := by rw [h4, h3, h2.1, h1.1]
  simp [Dev.settlePins, hA]

/-- A command whose effect asks for no reset completes; beside what `State.act_ends` says, every part but the ports and the
collector, which an entry to SAFE writes, is as its effect made it, and a latch set holds SAFE_N low. -/
theorem State.act_kept (s : State) (dt : Nat) (f : Ctx → Dev → Dev) (h : (f (s.ctx dt) s.entry).rst.want = []) :
    ∃ t, s.act dt f = .next t ∧ (f (s.ctx dt) s.entry).EndsAs t.dev ∧
      (f (s.ctx dt) s.entry).Keeps [.links, .collector] t.dev ∧
      ((f (s.ctx dt) s.entry).saf.latchA = true → t.dev.pins.safeN = false) := by
  obtain ⟨t, ht, he⟩ := s.act_ends dt f h
  refine ⟨t, ht, he, ?_⟩
  have hk := Dev.settle_keeps (l := [.links, .collector]) _ (s.ctx dt) h fun _ => ⟨by decide, by decide⟩
  have hp := Dev.settle_safeN _ (s.ctx dt) h
  rw [State.act_dev ht]
  generalize (f (s.ctx dt) s.entry).settle (s.ctx dt) = x at hk hp
  exact ⟨hk.trans (.rst x _ rfl rfl rfl), hp⟩

/-- A command completes with the clock root and the timebase as its effect leaves them, and at the stage it leaves. -/
theorem completes_of_clock {i : Instr} {s : State} {dt : Nat} {f : Ctx → Dev → Dev} {e : Dev} {P : State → Prop}
    (hx : exec i s = s.act dt f) (hf : f (s.ctx dt) s.entry = e) (hw : e.rst.want = [])
    (hP : ∀ t : State, Same .timebase e t.dev → t.dev.rst.stage = e.rst.stage → P t) : Completes i s P := by
  subst hf
  obtain ⟨t, ht, he, hk, -⟩ := s.act_kept dt f hw
  exact ⟨t, hx.trans ht, hP t (hk .timebase (by decide)) he.stage⟩

end Sys2Proof.Machine

/-!
SUPPORT. The clock monitor and the root PLL: the commands of ch 2 that concern the clock root complete with their effect.
-/
namespace Sys2Proof.Machine

/-! ## The clock monitor (R137 to R140) -/

/-- What a gate that finds the IMO good leaves, whatever alarms it raises or ends: the IMO's frequency `hz`, its loss
over, the resets of `d`. -/
structure Dev.ImoGoodOf (d : Dev) (hz : Nat) (x : Dev) : Prop where
  rst : x.rst = d.rst
  freq : x.nat 0x2000_06 = hz
  found : x.clk.imoLost = false

theorem Dev.ImoGoodOf.after {d x y : Dev} {hz : Nat} (h : d.ImoGoodOf hz x) (g : x.ClockSame y) : d.ImoGoodOf hz y :=
  ⟨g.rst.trans h.rst, (g.nat rfl).trans h.freq, by rw [g.clk, h.found]⟩

/-- A gate of which every clock and the IMO are good leaves no alarm. -/
theorem Dev.cmonGate_good {d : Dev} (c : Ctx) {counts : List Nat} {hz : Nat} (hon : d.cmonOn = true)
    (hz' : imoGood hz = true) (hbad : d.cmonBad counts = 0) :
    d.ImoGoodOf hz (d.cmonGate c counts hz) ∧ (d.cmonGate c counts hz).nat 0x2000_03 = 0 := by
  unfold Dev.cmonGate
  rw [if_neg (by simp [hon]), if_neg (by simp [hz'])]
  extract_lets old bad d1 back _ d2 now d3 fresh d4 d5 d6
  let found : Dev := { d1 with clk := { d1.clk with imoLost := false } }
  have h2 : d.ImoGoodOf hz d2 := by
    by_cases hi : d.clk.imoLost = true
    · have hd2 : d2 = (found.endCond 0x04 0).raiseClr c 4 0 := if_pos (by simp [back, d1, hi, hz'])
      have hs : found.ClockSame d2 := by
        rw [hd2]
        exact (Dev.ClockSame.endCond found _ _).trans (.raiseClr _ c _ _)
      have h0 : d.ImoGoodOf hz found := ⟨d.setN_rst _ _, d.nat_setN_same _ _, rfl⟩
      exact h0.after hs
    · have hd2 : d2 = d1 := if_neg (by simp [back, d1, hi])
      rw [hd2]
      exact ⟨Dev.setN_rst .., Dev.nat_setN_same .., by simp [d1, hi]⟩
  clear_value d2
  have hnow : now = 0 := by simp [now, bad, hbad, h2.found, b2n]
  have hfresh : fresh = [] := by simp [fresh, bad, hbad, bit]
  clear_value now fresh
  have h3 : d.ImoGoodOf hz d3 :=
    ⟨(Dev.setN_rst ..).trans h2.rst, (d2.nat_setN_ne _ _ _ (by decide)).trans h2.freq, by rw [Dev.setN_clk, h2.found]⟩
  have halarm : d3.nat 0x2000_03 = 0 := by rw [Dev.nat_setN_same, hnow]
  have h5 : d5 = d3 := by simp [d5, d4, hfresh, Dev.alarmed]
  have h6 : d3.ClockSame d6 := by
    rw [← h5]
    exact ite_pred d5.ClockSame ((Dev.ClockSame.raiseClr _ c _ _).trans (.endGenlockConds _)) (.refl _)
  rw [if_neg (by simp [hfresh])]
  exact ⟨h3.after h6, (h6.nat rfl).trans halarm⟩

theorem cmonGateEnd_completes {s : State} {dt : Nat} {counts : List Nat} {hz : Nat} (hq : Quiet s)
    (hon : s.dev.cmonOn = true) (hz' : imoGood hz = true) (hbad : s.dev.cmonBad counts = 0) :
    Completes (.cmonGateEnd dt counts hz) s fun t =>
      t.dev.nat 0x2000_06 = hz ∧ t.dev.nat 0x2000_03 = 0 ∧ t.dev.clk.imoLost = false := by
  obtain ⟨hgood, halarm⟩ := Dev.cmonGate_good (d := s.entry) (s.ctx dt) hon hz' hbad
  let e : Dev := s.entry.cmonGate (s.ctx dt) counts hz
  have hs : e.ClockSame (if e.rst.stage = .up && clockGood 400 ((counts[7]?).getD 0) then e.gclkBack else e) :=
    ite_pred e.ClockSame (.gclkBack e) (.refl e)
  obtain ⟨hr, hf, hi⟩ := hgood.after hs
  refine completes_of_clock (show exec (.cmonGateEnd dt counts hz) s = execCmonGateEnd dt counts hz s from rfl) rfl
    ((congrArg Rst.want hr).trans hq.1) fun t ht _ => ⟨?_, ?_, ?_⟩
  · exact (ht.nat rfl).trans hf
  · exact ((ht.nat rfl).trans (hs.nat rfl)).trans halarm
  · rw [ht.clk]
    exact hi

/-- The loss of the IMO is of class 1 (Table 15.3). -/
theorem Dev.classOf_imo (d : Dev) : d.classOf 0x04 ≠ 3 := by simp [Dev.classOf]

/-- Declaring the IMO lost marks it lost and asks for no reset. -/
theorem Dev.loseImo_state (d : Dev) (c : Ctx) :
    (d.loseImo c).rst = d.rst ∧ (d.loseImo c).clk = { d.clk with imoLost := true } := by
  unfold Dev.loseImo
  extract_lets _ _ d1
  have h1 : d1.rst = d.rst ∧ d1.clk = { d.clk with imoLost := true } := ⟨d.setN_rst _ _, rfl⟩
  clear_value d1
  have h2 : (d1.alarmed 1 (d1.nat 0x2000_03)).rst = d1.rst ∧ (d1.alarmed 1 (d1.nat 0x2000_03)).clk = d1.clk := by
    simp [Dev.alarmed]
  generalize d1.alarmed 1 (d1.nat 0x2000_03) = d2 at h2
  have h3 : d2.ClockSame ((d2.raise c 4 0).detect c 0x04 0) :=
    (Dev.ClockSame.raise d2 c _ _).trans (.detect c _ (Dev.classOf_imo _))
  exact ⟨h3.rst.trans (h2.1.trans h1.1), h3.clk.trans (h2.2.trans h1.2)⟩

theorem monitorOscillatorLost_completes {s : State} {dt : Nat} (hq : Quiet s) (hon : s.dev.cmonOn = true)
    (hi : s.dev.clk.imoLost = false) :
    Completes (.monitorOscillatorLost dt) s fun t => t.dev.clk.imoLost = true := by
  have hi' : s.entry.clk.imoLost = false := hi
  have hon' : s.entry.cmonOn = true := hon
  obtain ⟨hr, hk⟩ := s.entry.loseImo_state (s.ctx dt)
  refine completes_of_clock (show exec (.monitorOscillatorLost dt) s = execMonitorOscillatorLost dt s from rfl)
    (if_neg (by simp [hi', hon'])) ((congrArg Rst.want hr).trans hq.1) fun t ht _ => ?_
  rw [ht.clk, hk]

/-! ## The root PLL (R136, R165) -/

theorem Dev.rootLocked_state (d : Dev) (c : Ctx) (us : Nat) :
    (d.rootLocked c us).nat 0x2000_01 = 2 ∧ (d.rootLocked c us).nat 0x2000_02 = 0x3F ∧
      (d.rootLocked c us).nat 0x2000_07 = us ∧ (d.rootLocked c us).clk.tb = true := by
  unfold Dev.rootLocked
  extract_lets d1
  let x : Dev := ((d1.setN 0x2000_01 2).setN 0x2000_02 0x3F).setN 0x2000_07 us
  have hn (k : Nat) : x.nat k =
      if k = 0x2000_07 then us else if k = 0x2000_02 then 0x3F else if k = 0x2000_01 then 2 else d1.nat k := by
    simp only [x, Dev.nat_setN]
  exact ⟨hn 0x2000_01, hn 0x2000_02, hn 0x2000_07, rfl⟩

theorem rootPllLock_completes {s : State} {dt us slow : Nat} (hq : Quiet s) (hp : s.dev.pllStarting = true) :
    Completes (.rootPllLock dt us slow) s fun t => t.dev.nat 0x2000_01 = 2 ∧ t.dev.nat 0x2000_02 = 0x3F ∧
      t.dev.nat 0x2000_07 = us ∧ t.dev.clk.tb = true := by
  obtain ⟨h1, h2, h7, htb⟩ := s.entry.rootLocked_state (s.ctx dt) us
  refine completes_of_clock (show exec (.rootPllLock dt us slow) s = execRootPllLock dt us slow s from rfl)
    (if_pos hp) hq.1 fun t ht _ => ⟨?_, ?_, ?_, ?_⟩
  · exact (ht.nat rfl).trans h1
  · exact (ht.nat rfl).trans h2
  · exact (ht.nat rfl).trans h7
  · rw [ht.clk]
    exact htb

theorem rootPllLockFailure_restarts {s : State} {dt : Nat} (hq : Quiet s) (h0 : s.dev.clk.pllTries = 0)
    (hp : s.dev.pllStarting = true) :
    Completes (.rootPllLockFailure dt) s fun t =>
      t.dev.nat 0x2000_01 = 1 ∧ t.dev.clk.pllTries = 1 ∧ t.dev.rst.stage = s.dev.rst.stage := by
  have hr : (s.entry.setN 0x2000_01 1).rst = s.dev.rst := Dev.setN_rst ..
  refine completes_of_clock (e := { s.entry.setN 0x2000_01 1 with clk := { s.entry.clk with pllTries := 1 } })
    (show exec (.rootPllLockFailure dt) s = execRootPllLockFailure dt s from rfl) ?_
    ((congrArg Rst.want hr).trans hq.1) fun t ht hstage => ?_
  · have hp' : s.entry.pllStarting = true := hp
    exact (if_neg (by simp [hp'])).trans (if_pos h0)
  · exact ⟨(ht.nat rfl).trans (s.entry.nat_setN_same 0x2000_01 1), congrArg Clk.pllTries ht.clk,
      hstage.trans (congrArg Rst.stage hr)⟩

/-- The second failure leaves the device in reset, the latches set and code 0x0D in the history (R165). -/
theorem rootPllLockFailure_stays {s : State} {dt : Nat} (hq : Quiet s) (h0 : s.dev.clk.pllTries ≠ 0)
    (hp : s.dev.pllStarting = true) :
    Completes (.rootPllLockFailure dt) s fun t => t.dev.rst.stage = .dead ∧ t.dev.pins.safeN = false ∧
      (t.dev.rst.hist.head?).map (fun h => h.cause) = some 0x0D := by
  have hp' : s.entry.pllStarting = true := hp
  have hr : ((s.entry.setN 0x2000_01 0).setN 0x2000_02 0).rst = s.dev.rst := (Dev.setN_rst ..).trans (Dev.setN_rst ..)
  obtain ⟨f, hx, e, hf, hw, hst, hl, hh⟩ : ∃ f, exec (.rootPllLockFailure dt) s = s.act dt f ∧
      ∃ e, f (s.ctx dt) s.entry = e ∧ e.rst.want = [] ∧ e.rst.stage = .dead ∧ e.saf.latchA = true ∧
        (e.rst.hist.head?).map (fun h => h.cause) = some 0x0D :=
    ⟨_, show _ = execRootPllLockFailure dt s from rfl, _, (if_neg (by simp [hp'])).trans (if_neg h0),
      (congrArg Rst.want hr).trans hq.1, rfl, rfl, rfl⟩
  subst hf
  obtain ⟨t, ht, he, hk, hp⟩ := s.act_kept dt f hw
  obtain ⟨⟨hhist, -, -⟩, -⟩ := hk .record (by decide)
  exact ⟨t, hx.trans ht, he.stage.trans hst, hp hl, by rw [← hhist]; exact hh⟩

end Sys2Proof.Machine

/-!
SUPPORT. The timebase: master samples, the slew, the source; and the settling of O1 and O27.
-/
namespace Sys2Proof.Machine

/-! ## The slew and the timeout (R148, R156) -/

theorem Dev.int_setI_same (d : Dev) (k : Nat) (n : Int) : (d.setI k n).int k = n := by
  unfold Dev.int Dev.setI
  rw [Dev.get_set_same]
  rfl

/-- Where a slew goes next from `o` toward `g`. -/
def slewToward (g o : Int) : Int := if o < g then o + 1 else if g < o then o - 1 else o

/-- The device after a move of the offset to `o` in a slew toward `g`: the slew is over once it is there. -/
def Dev.slewMove (d : Dev) (c : Ctx) (g o : Int) : Dev :=
  let m : Dev := { d.setI 0x1050_03 o with clk := { d.clk with lastMove := c.t } }
  if o = g then { m.setN 0x1050_0B 3 with clk := { m.clk with target := none } } else m

theorem Dev.slewMove_state (d : Dev) (c : Ctx) (g o : Int) :
    (d.slewMove c g o).offset = o ∧ (d.slewMove c g o).rst = d.rst := by
  unfold Dev.slewMove
  extract_lets m
  have hm : m.offset = o ∧ m.rst = d.rst := ⟨Dev.int_setI_same .., Dev.setI_rst ..⟩
  obtain ⟨ho, hr⟩ := hm
  have ho' : (m.setN 0x1050_0B 3).offset = o := (congrArg Val.int (m.get_setN_ne _ _ _ (by decide))).trans ho
  exact ite_pred (fun x : Dev => x.offset = o ∧ x.rst = d.rst) ⟨ho', (m.setN_rst 0x1050_0B 3).trans hr⟩ ⟨ho, hr⟩

theorem slewStep_completes {s : State} {dt : Nat} {g : Int} (hq : Quiet s) (hg : s.dev.clk.target = some g)
    (hst : s.dev.pwr.st ≠ .standby) (hpair : s.dev.timePairBad = false)
    (hdue : s.dev.clk.lastMove + s.dev.slewGap ≤ (s.ctx dt).t) :
    Completes (.slewStep dt) s fun t => t.dev.offset = slewToward g s.dev.offset := by
  have hgo : ¬ (s.entry.pwr.st = .standby || s.entry.timePairBad ||
      decide ((s.ctx dt).t < s.entry.clk.lastMove + s.entry.slewGap)) = true := by
    simp only [Bool.or_eq_true, decide_eq_true_eq, not_or, not_lt, Bool.not_eq_true]
    exact ⟨⟨hst, hpair⟩, hdue⟩
  obtain ⟨hoff, hr⟩ := s.entry.slewMove_state (s.ctx dt) g (slewToward g s.entry.offset)
  refine completes_of_clock (e := s.entry.slewMove (s.ctx dt) g (slewToward g s.entry.offset))
    (show exec (.slewStep dt) s = execSlewStep dt s from rfl) ?_ ((congrArg Rst.want hr).trans hq.1)
    fun t ht _ => (congrArg Val.int (ht.2 _ rfl)).trans hoff
  have hg' : s.entry.clk.target = some g := hg
  split
  · next hnone => exact nomatch hg'.symm.trans hnone
  · next g' hsome =>
    obtain rfl : g = g' := Option.some.inj (hg'.symm.trans hsome)
    exact if_neg hgo

theorem masterTimeLost_completes {s : State} {dt : Nat} (hq : Quiet s) (hsrc : s.dev.nat 0x1050_06 ≠ 0)
    (hst : s.dev.nat 0x1050_0B ≠ 4) (hdue : s.dev.clk.toStart + 400000 * s.dev.clk.toLen ≤ (s.ctx dt).t) :
    Completes (.masterTimeLost dt) s fun t => t.dev.nat 0x1050_0B = 4 ∧ t.dev.clk.target = none := by
  have hcond : ¬ (s.entry.nat 0x1050_06 = 0 || s.entry.nat 0x1050_0B = 4 ||
      decide ((s.ctx dt).t < s.entry.clk.toStart + 400000 * s.entry.clk.toLen)) = true := by
    simp only [Bool.or_eq_true, decide_eq_true_eq, not_or, not_lt]
    exact ⟨⟨hsrc, hst⟩, hdue⟩
  let held : Dev := { s.entry.setN 0x1050_0B 4 with clk := { s.entry.clk with target := none } }
  have hs : held.ClockSame (held.raise (s.ctx dt) 63 0) := .raise _ _ _ _
  refine completes_of_clock (show exec (.masterTimeLost dt) s = execMasterTimeLost dt s from rfl)
    (e := held.raise (s.ctx dt) 63 0) (if_neg hcond)
    ((congrArg Rst.want (hs.rst.trans (s.entry.setN_rst _ _))).trans hq.1) fun t ht _ => ⟨?_, ?_⟩
  · exact ((ht.nat rfl).trans (hs.nat rfl)).trans (s.entry.nat_setN_same 0x1050_0B 4)
  · rw [ht.clk, hs.clk]

/-! ## A master sample (R148, R157) -/

theorem Dev.stepOffset_edges (d : Dev) (c : Ctx) (x : Int) (fresh : Bool) :
    (d.stepOffset c x fresh).clk.edges = d.clk.edges ∧ (d.stepOffset c x fresh).rst = d.rst := by
  unfold Dev.stepOffset
  simp [Dev.bumpEpoch]

/-- Taking a sample leaves the captured edges and the resets. -/
theorem Dev.takeSample_edges (d : Dev) (c : Ctx) (x : Int) (m : Nat) :
    (d.takeSample c x m).clk.edges = d.clk.edges ∧ (d.takeSample c x m).rst = d.rst := by
  let P (y : Dev) : Prop := y.clk.edges = d.clk.edges ∧ y.rst = d.rst
  unfold Dev.takeSample
  extract_lets err first newEpoch d1 _ d2
  have h2 : P d2 := by
    have hd1 : d1.clk = d.clk := (Dev.setN_clk ..).trans (Dev.setI_clk ..)
    exact ⟨show d1.clk.edges = _ by rw [hd1], (Dev.setN_rst ..).trans (Dev.setI_rst ..)⟩
  clear_value d2
  have hs (fresh : Bool) : P (d2.stepOffset c x fresh) := by
    obtain ⟨he, hr⟩ := d2.stepOffset_edges c x fresh
    exact ⟨he.trans h2.1, hr.trans h2.2⟩
  have hn (n : Nat) (k : Clk) (hk : k.edges = d2.clk.edges) : P { d2.setN 0x1050_0B n with clk := k } :=
    ⟨hk.trans h2.1, (d2.setN_rst _ _).trans h2.2⟩
  exact ite_pred P (hs true) (ite_pred P (hs false) (ite_pred P (hn 3 _ rfl) (hn 2 _ rfl)))

/-- During a slew, a sample within the step threshold becomes the target; the offset stays where it is, and the slew's pace
goes on (R157). -/
theorem Dev.takeSample_slews {d : Dev} (c : Ctx) {old x : Int} {e : Nat} (ht : d.clk.target = some old)
    (hseen : d.clk.seen = true) (he : e = d.nat 0x1050_0F) (hx : x ≠ d.offset)
    (hin : (x - d.offset).natAbs ≤ d.nat 0x1050_04 * 400) :
    (d.takeSample c x e).clk.target = some x ∧ (d.takeSample c x e).offset = d.offset ∧
      (d.takeSample c x e).clk.lastMove = d.clk.lastMove := by
  unfold Dev.takeSample
  extract_lets err first newEpoch d1 _ d2
  have hget {k : Nat} (h1 : k ≠ 0x1050_0E) (h2 : k ≠ 0x1050_0F) : d2.get k = d.get k :=
    (Dev.get_setN_ne _ _ _ _ h2).trans (d.get_set_ne _ _ _ h1)
  have hclk : d2.clk.target = some old ∧ d2.clk.lastMove = d.clk.lastMove := by
    have hd1 : d1.clk = d.clk := (Dev.setN_clk ..).trans (Dev.setI_clk ..)
    exact ⟨show d1.clk.target = _ by rw [hd1, ht], show d1.clk.lastMove = _ by rw [hd1]⟩
  have hold : ¬ (first || newEpoch) = true := by simp [first, newEpoch, hseen, he]
  have hnear : ¬ (d2.nat 0x1050_04 * 400 : Int) < err.natAbs := by
    rw [Dev.nat_of_get (hget (k := 0x1050_04) (by decide) (by decide))]
    omega
  have herr : err ≠ 0 := by omega
  clear_value d2
  rw [if_neg hold, if_neg hnear, if_neg herr]
  refine ⟨rfl, ?_, ?_⟩
  · exact congrArg Val.int ((d2.get_setN_ne _ _ _ (by decide)).trans (hget (by decide) (by decide)))
  · simp [hclk]

/-- Settles O27: the sample is taken in the slewing branch, where the move's time stands while a slew is in progress. -/
theorem newSampleReplacesTheSlewTarget : Obligations.New_sample_replaces_the_slew_target := by
  unfold Obligations.New_sample_replaces_the_slew_target
  exact fun d c old x e => Dev.takeSample_slews c

/-! ## TIME (R144) -/

/-- A TIME frame's edge is captured, whatever sample the frame gives. -/
theorem Dev.timeFrame_edge (d : Dev) (c : Ctx) (f : Req) (age : Nat) :
    (⟨f.ch, f.src, fld f.data 11 1, d.edgeTime c age⟩ : Edge) ∈ (d.timeFrame c f age).clk.edges ∧
      (d.timeFrame c f age).rst = d.rst := by
  let P (x : Dev) : Prop := (⟨f.ch, f.src, fld f.data 11 1, d.edgeTime c age⟩ : Edge) ∈ x.clk.edges ∧ x.rst = d.rst
  have h1 : P (d.capture c f age) := ⟨List.mem_append_right _ (List.mem_singleton_self _), rfl⟩
  unfold Dev.timeFrame
  refine ite_pred P h1 ?_
  cases d.timeSample c f age with
  | none => exact h1
  | some x =>
    obtain ⟨he, hr⟩ := (d.capture c f age).takeSample_edges c x (fld f.data 8 2)
    exact ⟨by rw [he]; exact h1.1, hr.trans h1.2⟩

theorem time_completes {s : State} {dt age : Nat} {f : Req} (hq : Quiet s) (hx : f.fdExt = true)
    (hon : s.dev.chanOn f.ch = true) (hl : s.dev.listening = true) :
    Completes (.time dt f age false) s fun t =>
      (⟨f.ch, f.src, fld f.data 11 1, s.dev.edgeTime (s.ctx dt) age⟩ : Edge) ∈ t.dev.clk.edges := by
  have hon' : s.entry.chanOn f.ch = true := hon
  have hl' : s.entry.listening = true := hl
  obtain ⟨hmem, hr⟩ := s.entry.timeFrame_edge (s.ctx dt) f age
  let d : Dev := s.entry.timeFrame (s.ctx dt) f age
  have hs : d.ClockSame (if f.dest ≠ d.itp.node then d
      else ((d.leaveDoze (s.ctx dt)).dedupe (s.ctx dt) f (canId f.prio 0x13 f.dest f.src f.tag)).1) :=
    ite_pred d.ClockSame (.refl d) ((Dev.ClockSame.leaveDoze d _).trans (.dedupe _ _ f _))
  refine completes_of_clock (show exec (.time dt f age false) s = execTime dt f age false s from rfl)
    (if_neg (by simp [hx, hon', hl'])) ((congrArg Rst.want (hs.rst.trans hr)).trans hq.1) fun t ht _ => ?_
  rw [ht.clk, hs.clk]
  exact hmem

/-! ## A change of source (R141) -/

/-- A written timebase object reads back, but for the state, which a change of source writes. -/
theorem Dev.writeTimebase_get (d : Dev) (c : Ctx) {sub : Nat} (v : Val) {k : Nat} (hk : k = 0x1050_00 + sub)
    (hs : sub < 0x0B) : (d.writeTimebase c sub v).get k = v := by
  subst hk
  let P (x : Dev) : Prop := x.get (0x1050_00 + sub) = v
  have hc (x : Dev) (h : P x) : P (x.changeSource c) := (Dev.get_setN_ne _ _ _ _ (by omega)).trans h
  have hr (x : Dev) (b : Bool) (ev n : Nat) (h : P x) : P (x.raiseF c b ev n) :=
    (x.get_raiseF c b ev n _ (by omega) (by omega) (by omega)).trans h
  have hj (x : Dev) (h : P x) : P (x.judgeTimePair c) := ite_pred P h (ite_pred P (hr _ _ _ _ h) (hr _ _ _ _ h))
  have h1 : P (d.set (0x1050_00 + sub) v) := d.get_set_same _ v
  exact ite_pred P (hj _ (ite_pred P h1 (hc _ h1))) (ite_pred P (hj _ (ite_pred P h1 (hc _ h1))) h1)

/-- The objects of the source and of the trunk port. -/
theorem lookup_source (port : Bool) : ∃ r, (∀ b, lookup b (if port then 0x1050_08 else 0x1050_06) = .row 0x1050 0 r) ∧
    r.acc ≠ .rws ∧ (if port then 0x1050_08 else 0x1050_06) = 0x1050_00 + r.sub ∧ r.sub < 0x0B := by
  cases port with
  | false => exact ⟨_, fun b => by cases b <;> rfl, by decide, rfl, by decide⟩
  | true => exact ⟨_, fun b => by cases b <;> rfl, by decide, rfl, by decide⟩

theorem timeSourceChange_completes {s : State} {dt v : Nat} {o : Org} {port : Bool} (hq : Quiet s)
    (ha : Accepts s dt o (if port then 0x1050_08 else 0x1050_06) v) :
    Completes (.timeSourceChange dt o port v) s fun t =>
      t.dev.nat (if port then 0x1050_08 else 0x1050_06) = v := by
  obtain ⟨r, hk, hacc, hsub, hlt⟩ := lookup_source port
  have hpart : partOfKey (if port then 0x1050_08 else 0x1050_06) = some .timebase := by cases port <;> rfl
  refine completes_of_request (show exec (.timeSourceChange dt o port v) s = execTimeSourceChange dt o port v s from rfl) hq
    rfl ha hk (by split <;> decide) hacc rfl (Dev.writeObj_timebase_rst ..) fun t he => ?_
  have hget : ((s.found dt o (if port then 0x1050_08 else 0x1050_06) v).writeObj (s.ctx dt) 0x1050 0 r.sub (.num v)
      Obs.quiet).get (if port then 0x1050_08 else 0x1050_06) = .num v :=
    ((Dev.judgeServe_keeps (l := [.links]) _ (s.ctx dt) (by decide) .timebase (by decide)).2 _ hpart).trans
      (Dev.writeTimebase_get _ _ _ hsub hlt)
  rw [he.nat (by rw [hpart]; decide)]
  unfold Dev.nat Dev.int
  rw [hget]
  rfl

/-! ## The clock root and timebase commands -/

/-- Settles O1, command by command. -/
theorem clockEventsComplete : Obligations.Clock_events_complete := by
  unfold Obligations.Clock_events_complete
  refine ⟨fun s dt counts hz => cmonGateEnd_completes, fun s dt => monitorOscillatorLost_completes,
    fun s dt us slow => rootPllLock_completes, fun s dt => rootPllLockFailure_restarts,
    fun s dt => rootPllLockFailure_stays, fun s dt g hq hg hst hlt hpair hdue => ?_,
    fun s dt g hq hg hst hlt hpair hdue => ?_, fun s dt => masterTimeLost_completes,
    fun s dt f age => time_completes, fun s dt o port v => timeSourceChange_completes⟩
  · have hnext : slewToward g s.dev.offset = s.dev.offset + 1 := if_pos hlt
    rw [← hnext]
    exact slewStep_completes hq hg hst hpair hdue
  · have hnext : slewToward g s.dev.offset = s.dev.offset - 1 := (if_neg (by omega)).trans (if_pos hlt)
    rw [← hnext]
    exact slewStep_completes hq hg hst hpair hdue

end Sys2Proof.Machine

/-!
SUPPORT. The synthesizers: what each of their operations writes, and the frame of the synthesizer commands (ch 4).
-/
namespace Sys2Proof.Machine

/-! ## Changes of listed parts that ask for no reset -/

/-- From `d` to `x` no part changes but those listed, and the state of resets stands. -/
structure Dev.Leaves (l : List Part) (d x : Dev) : Prop where
  keeps : d.Keeps l x
  rst : x.rst = d.rst

theorem Dev.Keeps.mono {l m : List Part} {d x : Dev} (h : d.Keeps m x) (hm : m ⊆ l) : d.Keeps l x :=
  fun p hp => h p fun hmem => hp (hm hmem)

namespace Dev.Leaves

variable {l m : List Part} {d x y : Dev} {s sub : Nat}

theorem refl (l : List Part) (d : Dev) : d.Leaves l d := ⟨.refl l d, rfl⟩

theorem trans (h : d.Leaves l x) (g : x.Leaves l y) : d.Leaves l y := ⟨h.keeps.trans g.keeps, g.rst.trans h.rst⟩

theorem mono (h : d.Leaves m x) (hm : m ⊆ l) : d.Leaves l x := ⟨h.keeps.mono hm, h.rst⟩

theorem raise (h : d.Leaves l x) (c : Ctx) (ev n : Nat) : d.Leaves l (x.raise c ev n) :=
  h.trans ⟨x.raise_keeps c ev n, x.raise_rst c ev n⟩

theorem raiseClr (h : d.Leaves l x) (c : Ctx) (ev n : Nat) : d.Leaves l (x.raiseClr c ev n) :=
  h.trans ⟨x.raiseClr_keeps c ev n, x.raiseClr_rst c ev n⟩

/-- An object of a synthesizer. -/
theorem setSynK (h : d.Leaves [.synths] x) (hs : s < 4) (v : Val) (hsub : sub < 256 := by decide) :
    d.Leaves [.synths] (x.set (synK s sub) v) :=
  h.trans ⟨.set_of_part x _ v (partOfKey_synK (by omega) hsub) (by decide), Dev.set_rst ..⟩

/-- An object of a ramp profile. -/
theorem setProfK (h : d.Leaves [.synths] x) (hs : s < 4) (v : Val) (hsub : sub < 256 := by decide) :
    d.Leaves [.synths] (x.set (profK s sub) v) :=
  h.trans ⟨.set_of_part x _ v (partOfKey_profK (by omega) hsub) (by decide), Dev.set_rst ..⟩

theorem modSyn (h : d.Leaves [.synths] x) (s : Nat) (f : Syn → Syn) : d.Leaves [.synths] (x.modSyn s f) :=
  h.trans ⟨.syns x _ (by decide), rfl⟩

end Dev.Leaves

/-! ## Reading a synthesizer -/

/-- The keys of one synthesizer differ in their sub-index; those of its profile stand 16 indices above. -/
theorem synK_inj {s a b : Nat} : synK s a = synK s b ↔ a = b := by
  unfold synK key
  omega

theorem profK_inj {s a b : Nat} : profK s a = profK s b ↔ a = b := by
  unfold profK key
  omega

theorem synK_eq_profK {s a b : Nat} : synK s a = profK s b ↔ a = b + 4096 := by
  unfold synK profK key
  omega

theorem Dev.nat_setI (d : Dev) (k j : Nat) (n : Int) : (d.setI k n).nat j = if j = k then n.toNat else d.nat j := by
  unfold Dev.nat Dev.int Dev.setI
  rw [Dev.get_set]
  split <;> rfl

@[simp] theorem Dev.nat_modSyn (d : Dev) (s : Nat) (f : Syn → Syn) (k : Nat) : (d.modSyn s f).nat k = d.nat k := rfl

@[simp] theorem Dev.nat_synK_setN (d : Dev) (s a b n : Nat) :
    (d.setN (synK s b) n).nat (synK s a) = if a = b then n else d.nat (synK s a) := by
  simp only [Dev.nat_setN, synK_inj]

@[simp] theorem Dev.nat_profK_setN (d : Dev) (s a b n : Nat) :
    (d.setN (profK s b) n).nat (profK s a) = if a = b then n else d.nat (profK s a) := by
  simp only [Dev.nat_setN, profK_inj]

/-- An object of a synthesizer but its alignment (.20) stands as the phase is lost. -/
@[simp] theorem Dev.nat_unalign (d : Dev) (s a : Nat) (ha : a ≠ 0x20) : (d.unalign s).nat (synK s a) = d.nat (synK s a) :=
  Dev.nat_setN_ne _ _ _ _ (by rwa [Ne, synK_inj])

/-- A profile that goes idle leaves the synthesizer's own objects. -/
@[simp] theorem Dev.nat_profIdle (d : Dev) (s a : Nat) (ha : a < 256) : (d.profIdle s).nat (synK s a) = d.nat (synK s a) := by
  have hne (b : Nat) : synK s a ≠ profK s b := by
    rw [Ne, synK_eq_profK]
    omega
  unfold Dev.profIdle
  rw [Dev.nat_modSyn, Dev.nat_setI, if_neg (hne _), Dev.nat_setN_ne _ _ _ _ (hne _), Dev.nat_setN_ne _ _ _ _ (hne _)]

/-- `applyOver` may write .09 alone. -/
@[simp] theorem Dev.nat_applyOver (d : Dev) (s n a : Nat) (ha : a ≠ 0x09) :
    (d.applyOver s n).nat (synK s a) = d.nat (synK s a) :=
  ite_pred (fun x : Dev => x.nat (synK s a) = d.nat (synK s a)) (by simp [ha]) rfl

theorem Dev.Leaves.nat {l : List Part} {d x : Dev} (h : d.Leaves l x) {p : Part} (hp : p ∉ l) {k : Nat}
    (hk : partOfKey k = some p) : x.nat k = d.nat k := Same.nat (h.keeps p hp) hk

/-! ## The operations of a synthesizer -/

section
variable {s : Nat} (hs : s < 4)
include hs

theorem Dev.unalign_leaves (d : Dev) : d.Leaves [.synths] (d.unalign s) :=
  ((Leaves.refl _ d).modSyn s _).setSynK hs _

theorem Dev.profIdle_leaves (d : Dev) : d.Leaves [.synths] (d.profIdle s) :=
  ((((Leaves.refl _ d).setProfK hs _).setProfK hs _).setProfK hs _).modSyn s _

theorem Dev.applyOver_leaves (d : Dev) (n : Nat) : d.Leaves [.synths] (d.applyOver s n) :=
  ite_pred (d.Leaves _) ((Leaves.refl _ d).setSynK hs _) (.refl _ d)

theorem Dev.synSearch_leaves (d : Dev) : d.Leaves [.synths] (d.synSearch s) :=
  ⟨d.synSearch_keeps (by omega) (by decide), (d.synSearch_lower s).rst⟩

theorem Dev.synSync_leaves (d : Dev) : d.Leaves [.synths] (d.synSync s) := by
  unfold Dev.synSync
  extract_lets d1
  have h1 : d.Leaves [.synths] d1 := ite_pred (d.Leaves _) ((Leaves.refl _ d).setSynK hs _) (.refl _ d)
  have h2 : d.Leaves [.synths] ((d1.setSyn s 2).unalign s) := (h1.setSynK hs _).trans (Dev.unalign_leaves hs _)
  exact (h2.trans (Dev.profIdle_leaves hs _)).modSyn s _

omit hs in
theorem Dev.takeSet_leaves (d : Dev) (c : Ctx) (x : SynSet) : d.Leaves [.synths] (d.takeSet c s x) :=
  (ite_pred (d.Leaves _) ((Leaves.refl _ d).raiseClr c _ _) (.refl _ d)).modSyn s _

theorem Dev.synTakeArmed_leaves (d : Dev) (c : Ctx) : d.Leaves [.synths] (d.synTakeArmed c s) := by
  unfold Dev.synTakeArmed
  split
  · exact (d.takeSet_leaves c _).setSynK hs _
  · exact .refl _ d

theorem Dev.synUnphased_leaves (d : Dev) (c : Ctx) : d.Leaves [.synths] (d.synUnphased c s) :=
  ite_pred (d.Leaves _) (ite_pred (d.Leaves _) ((Dev.unalign_leaves hs d).modSyn s _)
    ((Dev.unalign_leaves hs d).raise c _ _)) (.refl _ d)

omit hs in
/-- A synthesizer's lasting failure is of class 1 (Table 15.3): its detection asks for no reset. -/
theorem Dev.detect_synth_leaves (d : Dev) (c : Ctx) : d.Leaves [.collector] (d.detect c 0x17 0) :=
  ⟨d.detect_keeps c _ _ (by decide), Dev.detect_rst c 0 (by simp [Dev.classOf])⟩

/-- Up to its detection, a failure writes the synthesizers alone. -/
theorem Dev.synFail_split (d : Dev) (c : Ctx) :
    ∃ x, d.Leaves [.synths] x ∧ d.synFail c s = x.detect c 0x17 0 ∧ x.synSt s = 7 := by
  let x : Dev := (((((d.setSyn s 7).unalign s).profIdle s).applyOver s 0).inc (synK s 0x1F)).modSyn s fun x =>
    { x with glide := none, armed := none, resync := false, asked := false, toSync := false }
  have h1 : d.Leaves [.synths] (((d.setSyn s 7).unalign s).profIdle s) :=
    (((Leaves.refl _ d).setSynK hs _).trans (Dev.unalign_leaves hs _)).trans (Dev.profIdle_leaves hs _)
  have hx : d.Leaves [.synths] x := ((h1.trans (Dev.applyOver_leaves hs _ 0)).setSynK hs _).modSyn s _
  refine ⟨x.raise c 42 (s + 256), hx.raise c _ _, rfl, ?_⟩
  have hst : x.synSt s = 7 := by
    simp [x, Dev.synSt, Dev.inc, Dev.setSyn]
  exact (((Leaves.refl [] x).raise c _ _).nat (p := .synths) (by decide) (partOfKey_synK (by omega) (by decide))).trans hst

theorem Dev.synFail_leaves (d : Dev) (c : Ctx) : d.Leaves [.synths, .collector] (d.synFail c s) := by
  obtain ⟨x, hx, e, -⟩ := Dev.synFail_split hs d c
  rw [e]
  exact (hx.mono (by decide)).trans ((x.detect_synth_leaves c).mono (by decide))

theorem Dev.synLoss_leaves (d : Dev) (c : Ctx) (ev : Nat) :
    d.Leaves [.synths, .collector] (d.synLoss c s ev).1 := by
  unfold Dev.synLoss
  extract_lets lasting d1 d2 d3
  have h1 : d.Leaves [.synths] d1 := (Leaves.refl _ d).raise c ev _
  have h2 : d.Leaves [.synths] d2 :=
    ((h1.setSynK hs _).trans (Dev.unalign_leaves hs _)).trans (Dev.profIdle_leaves hs _)
  have h3 : d.Leaves [.synths] d3 := ite_pred (d.Leaves _) (h2.setSynK hs _) h2
  refine ite_pred (fun r : Dev × Bool => d.Leaves _ r.1) ((h1.mono (by decide)).trans (Dev.synFail_leaves hs d1 c)) ?_
  exact ((h3.modSyn s _).trans (Dev.synTakeArmed_leaves hs _ c)).mono (by decide)

/-- The write of a synthesizer's object. -/
theorem Dev.writeSyn_leaves (d : Dev) (c : Ctx) {sub : Nat} (v : Val) (hsub : sub < 256) :
    d.Leaves [.synths] (d.writeSynth c 0x2200 s sub v) := by
  have h0 := Leaves.refl [.synths] d
  have hset : d.Leaves [.synths] (d.set (synK s sub) v) := h0.setSynK hs v hsub
  have hoff : d.Leaves [.synths] (((((d.set (synK s sub) v).setSyn s 0).unalign s).profIdle s).applyOver s 0) :=
    (((hset.setSynK hs _).trans (Dev.unalign_leaves hs _)).trans (Dev.profIdle_leaves hs _)).trans
      (Dev.applyOver_leaves hs _ 0)
  have hheld : d.Leaves [.synths] (if (d.syn s).held then d else d.held c (synK s 2)) :=
    ite_pred (d.Leaves _) h0 (h0.raise c _ _)
  unfold Dev.writeSynth
  rw [if_pos rfl]
  refine ite_pred (d.Leaves _) (ite_pred (d.Leaves _) (hoff.modSyn s _) (ite_pred (d.Leaves _) hset ?enabled))
    (ite_pred (d.Leaves _) (ite_pred (d.Leaves _) ?armed ?held) (ite_pred (d.Leaves _) ?resync hset))
  case enabled => exact ((hset.modSyn s _).trans (Dev.synTakeArmed_leaves hs _ c)).trans (Dev.synSearch_leaves hs _)
  case armed => exact (h0.modSyn s _).setSynK hs _ hsub
  case held => exact (hheld.modSyn s _).setSynK hs _ hsub
  case resync => exact ite_pred (d.Leaves _) ((Dev.synSync_leaves hs d).modSyn s _) h0

/-- The write of a ramp profile's object. -/
theorem Dev.writeProf_leaves (d : Dev) (c : Ctx) {sub : Nat} (v : Val) (hsub : sub < 256) :
    d.Leaves [.synths] (d.writeSynth c 0x2210 s sub v) := by
  have h0 := Leaves.refl [.synths] d
  unfold Dev.writeSynth
  rw [if_neg (by decide)]
  refine ite_pred (d.Leaves _) (ite_pred (d.Leaves _) ?start (ite_pred (d.Leaves _)
    (ite_pred (d.Leaves _) ?stop h0) ?generate)) (h0.setProfK hs v hsub)
  case start =>
    exact (((Dev.profIdle_leaves hs d).trans (Dev.unalign_leaves hs _)).setProfK hs (sub := 0x07) _).modSyn s _
  case stop => exact (h0.setProfK hs (sub := 0x07) _).modSyn s _
  case generate => exact (h0.setProfK hs (sub := 0x02) _).setProfK hs (sub := 0x03) _

end

end Sys2Proof.Machine

/-!
SUPPORT. The frame of the synthesizer commands (ch 4), from what each does.
-/
namespace Sys2Proof.Machine

variable {l : List Part} {s t : State} {dt y : Nat}

/-! ## Events -/

/-- An event that answers a next state names a unit of the variant, and runs in the frame of every command. -/
theorem State.actOn_eq_next {b : Bool} {f : Ctx → Dev → Dev} (h : s.actOn b dt f = .next t) :
    b = true ∧ s.act dt f = .next t := by
  cases b with
  | false => exact nomatch h
  | true => exact ⟨rfl, h⟩

/-- The frame of an event of one synthesizer from that of its effect. -/
theorem synEvent_keeps {i : Instr} {f : Ctx → Dev → Dev} (h : RunsUp i s t)
    (hx : exec i s = s.actOn (decide (y < 4)) dt f) (hl : .collector ∈ l → .links ∈ l)
    (hf : y < 4 → s.entry.Leaves l (f (s.ctx dt) s.entry)) : s.dev.Keeps l t.dev := by
  obtain ⟨-, he, -, ht, hup⟩ := h
  obtain ⟨hy, ha⟩ := State.actOn_eq_next (hx.symm.trans ht)
  exact State.act_keeps he ha hup hl fun _ => (hf (of_decide_eq_true hy)).keeps

theorem bandSearchDone_keeps {band : Nat} (h : RunsUp (.bandSearchDone dt y band) s t) : s.dev.Keeps [.synths] t.dev := by
  refine synEvent_keeps h (show _ = execBandSearchDone dt y band s from rfl) (by decide) fun hy => ?_
  refine ite_pred (s.entry.Leaves _) ?_ (.refl _ _)
  exact (((Dev.Leaves.refl _ _).setSynK hy (sub := 0x1A) _).modSyn y _).trans (Dev.synSync_leaves hy _)

theorem synthesizerLocked_keeps (h : RunsUp (.synthesizerLocked dt y) s t) : s.dev.Keeps [.synths] t.dev := by
  refine synEvent_keeps h (show _ = execSynthesizerLocked dt y s from rfl) (by decide) fun hy => ?_
  exact ite_pred (s.entry.Leaves _) (((Dev.Leaves.refl _ _).setSynK hy _).raise _ _ _) (.refl _ _)

theorem lockingTimeout_keeps (h : RunsUp (.lockingTimeout dt y) s t) :
    s.dev.Keeps [.synths, .links, .formes, .collector] t.dev := by
  refine synEvent_keeps h (show _ = execLockingTimeout dt y s from rfl) (by decide) fun hy => ?_
  refine ite_pred (s.entry.Leaves _) (ite_pred (s.entry.Leaves _) ?fails ?relocks) (.refl _ _)
  case fails => exact (Dev.synFail_leaves hy _ _).mono (by decide)
  case relocks => exact (((Dev.Leaves.refl _ _).modSyn y _).trans (Dev.synSearch_leaves hy _)).mono (by decide)

theorem synthesizerLockLost_keeps (h : RunsUp (.synthesizerLockLost dt y) s t) :
    s.dev.Keeps [.synths, .links, .formes, .collector] t.dev := by
  refine synEvent_keeps h (show _ = execSynthesizerLockLost dt y s from rfl) (by decide) fun hy => ?_
  have hloss := (Dev.synLoss_leaves hy s.entry (s.ctx dt) 40).mono (l := [.synths, .links, .formes, .collector]) (by decide)
  refine ite_pred (s.entry.Leaves _) (ite_pred (s.entry.Leaves _) ?_ hloss) (.refl _ _)
  exact hloss.trans ((Dev.synSearch_leaves hy _).mono (by decide))

theorem synthesizerReferenceLost_keeps (h : RunsUp (.synthesizerReferenceLost dt y) s t) :
    s.dev.Keeps [.synths, .links, .formes, .collector] t.dev := by
  refine synEvent_keeps h (show _ = execSynthesizerReferenceLost dt y s from rfl) (by decide) fun hy => ?_
  have hraise (n : Nat) : s.entry.Leaves [.synths, .links, .formes, .collector] (s.entry.raise (s.ctx dt) 41 n) :=
    (Dev.Leaves.refl _ _).raise _ _ _
  refine ite_pred (s.entry.Leaves _) ?_ (ite_pred (s.entry.Leaves _) (ite_pred (s.entry.Leaves _) ?_ (hraise _)) (.refl _ _))
  · exact (Dev.synLoss_leaves hy _ _ _).mono (by decide)
  · exact (hraise _).trans ((Dev.synFail_leaves hy _ _).mono (by decide))

theorem gatedTimeout_keeps (h : RunsUp (.gatedTimeout dt y) s t) :
    s.dev.Keeps [.synths, .links, .formes, .collector] t.dev := by
  refine synEvent_keeps h (show _ = execGatedTimeout dt y s from rfl) (by decide) fun hy => ?_
  exact ite_pred (s.entry.Leaves _) ((Dev.synFail_leaves hy _ _).mono (by decide)) (.refl _ _)

theorem glideEnd_keeps (h : RunsUp (.glideEnd dt y) s t) : s.dev.Keeps [.synths] t.dev := by
  refine synEvent_keeps h (show _ = execGlideEnd dt y s from rfl) (by decide) fun hy => ?_
  have h0 := Dev.Leaves.refl [.synths] s.entry
  dsimp only
  split
  · refine ite_pred (s.entry.Leaves _) ?_ h0
    exact ((h0.modSyn y _).setSynK hy _).trans (Dev.synUnphased_leaves hy _ _)
  · exact ite_pred (s.entry.Leaves _) ((Dev.profIdle_leaves hy _).trans (Dev.synUnphased_leaves hy _ _)) h0
  · exact h0

/-- What an update of a profile writes before it may end the profile (R246): the segment `n`, the offset, the updates `m`. -/
def Dev.profStep (d : Dev) (s n : Nat) (ppb : Int) (m : Nat) : Dev :=
  ((d.setN (profK s 0x08) n).setI (profK s 0x09) ppb).modSyn s fun x => { x with upd := m }

theorem Dev.profStep_leaves (d : Dev) (hy : y < 4) (n : Nat) (ppb : Int) (m : Nat) :
    d.Leaves [.synths] (d.profStep y n ppb m) :=
  (((Leaves.refl _ d).setProfK hy _).setProfK hy _).modSyn y _

theorem profileUpdate_keeps (h : RunsUp (.profileUpdate dt y) s t) : s.dev.Keeps [.synths] t.dev := by
  refine synEvent_keeps h (show _ = execProfileUpdate dt y s from rfl) (by decide) fun hy => ?_
  have hstep := fun n ppb m => s.entry.profStep_leaves hy n ppb m
  exact ite_pred (s.entry.Leaves _) (ite_pred (s.entry.Leaves _) ((hstep _ _ _).setProfK hy _) (hstep _ _ _)) (.refl _ _)

/-! ## Write requests -/

/-- A row of a family, at the key of a unit the variant has. -/
theorem lookup_of_famOf {b : Bool} {f : Fam} {n sub : Nat} {r : Obj} (hf : famOf b (f.base + n) = some (f, n)) (h0 : sub ≠ 0)
    (hs : sub < 256) (hr : f.row n sub = some r) : lookup b (key f.base n sub) = .row f.base n r := by
  unfold lookup
  rw [key_div _ _ _ hs, key_mod _ _ _ hs, hf]
  simp only [h0, if_false, hr]

/-- The rows of the synthesizers (Table 4.7). -/
theorem lookup_synK {sub : Nat} {r : Obj} (hy : y < 4) (h0 : sub ≠ 0) (hs : sub < 256)
    (hr : Fam.row ⟨0x2200, 4, 4, tbl2200⟩ y sub = some r) (b : Bool) : lookup b (synK y sub) = .row 0x2200 y r := by
  refine lookup_of_famOf (f := ⟨0x2200, 4, 4, tbl2200⟩) ?_ h0 hs hr
  interval_cases y <;> cases b <;> rfl

/-- The rows of the ramp profiles. -/
theorem lookup_profK {sub : Nat} {r : Obj} (hy : y < 4) (h0 : sub ≠ 0) (hs : sub < 256)
    (hr : Fam.row ⟨0x2210, 4, 4, tbl2210⟩ y sub = some r) (b : Bool) : lookup b (profK y sub) = .row 0x2210 y r := by
  refine lookup_of_famOf (f := ⟨0x2210, 4, 4, tbl2210⟩) ?_ h0 hs hr
  interval_cases y <;> cases b <;> rfl

theorem keyAt_of_lt {m n : Nat} (k : Nat) (h : n < m) : keyAt m n k = k := if_pos h

/-- A write request that names no object at most wakes the device. -/
theorem Dev.request_zero_keeps (d : Dev) (c : Ctx) (o : Org) (v : Val) (x : Obs) (hp : .power ∈ l) :
    d.Keeps l (d.request c o 0 v x) :=
  ite_pred (d.Keeps l) (.refl l d) (d.leaveDoze_keeps c hp)

/-- The frame of a write request to an object of a synthesizer, or of its profile, without a staged value. -/
theorem Dev.synRequest_keeps {d : Dev} {c : Ctx} {o : Org} {k base : Nat} {v : Int} {r : Obj} {x : Obs}
    (hrow : ∀ b, lookup b k = .row base y r) (hk24 : k < 2 ^ 24) (hacc : r.acc ≠ .rws)
    (hw : ∀ (e : Dev) (v : Val), e.Leaves [.synths] (e.writeObj c base y r.sub v x)) (ha : d.rst.aside = [])
    (hq : d.itp.waiting = []) : d.Keeps [.synths, .links, .power] (d.request c o k (.num v) x) := by
  refine Dev.WriteKeeps.request (fun e hrst w => ?_) hrow hk24 (by decide) (by decide) hq o v
  have hleaves := hw e w
  rw [Dev.applyWrite_direct hacc (by rw [hleaves.rst, hrst]; exact ha)]
  exact hleaves.keeps.mono (by decide)

theorem synRequest_keeps {i : Instr} {o : Org} {k base : Nat} {v : Int} {r : Obj} (h : RunsUp i s t)
    (hx : exec i s = s.req dt o (keyAt 4 y k) v Obs.quiet) (hacc : r.acc ≠ .rws)
    (hk : y < 4 → (∀ b, lookup b k = .row base y r) ∧ k < 2 ^ 24)
    (hw : y < 4 → ∀ (d : Dev) (c : Ctx) (v : Val), d.Leaves [.synths] (d.writeObj c base y r.sub v Obs.quiet)) :
    s.dev.Keeps [.synths, .links, .power] t.dev := by
  obtain ⟨⟨-, ha, hq⟩, he, -, ht, hup⟩ := h
  replace ht := hx.symm.trans ht
  unfold State.req at ht
  refine State.act_keeps he ht hup (by decide) fun _ => ?_
  by_cases hy : y < 4
  · obtain ⟨hrow, hk24⟩ := hk hy
    rw [keyAt_of_lt k hy]
    exact Dev.synRequest_keeps hrow hk24 hacc (fun e w => hw hy e _ w) ha hq
  · rw [show keyAt 4 y k = 0 from if_neg hy]
    exact Dev.request_zero_keeps _ _ _ _ _ (by decide)

theorem synK_lt {sub : Nat} (hy : y < 4) (hs : sub < 256) : synK y sub < 2 ^ 24 := by
  unfold synK key
  omega

theorem profK_lt {sub : Nat} (hy : y < 4) (hs : sub < 256) : profK y sub < 2 ^ 24 := by
  unfold profK key
  omega

theorem synWrite_keeps {i : Instr} {o : Org} {sub : Nat} {v : Int} {r : Obj} (h : RunsUp i s t)
    (hx : exec i s = s.req dt o (keyAt 4 y (synK y sub)) v Obs.quiet) (h0 : sub ≠ 0) (hs : sub < 256) (hacc : r.acc ≠ .rws)
    (hrs : r.sub < 256) (hr : Fam.row ⟨0x2200, 4, 4, tbl2200⟩ y sub = some r) :
    s.dev.Keeps [.synths, .links, .power] t.dev :=
  synRequest_keeps h hx hacc (fun hy => ⟨lookup_synK hy h0 hs hr, synK_lt hy hs⟩) fun hy d c v =>
    Dev.writeSyn_leaves hy d c v hrs

theorem profCommand_keeps {i : Instr} {o : Org} {v : Int} (h : RunsUp i s t)
    (hx : exec i s = s.req dt o (keyAt 4 y (profK y 0x04)) v Obs.quiet) : s.dev.Keeps [.synths, .links, .power] t.dev :=
  synRequest_keeps h hx (by decide) (fun hy => ⟨lookup_profK hy (by decide) (by decide) rfl, profK_lt hy (by decide)⟩)
    fun hy d c v => Dev.writeProf_leaves hy d c v (sub := 0x04) (by decide)

theorem outputEnable_keeps {o : Org} {b : Bool} {v : Nat} (h : RunsUp (.outputEnable dt o y b v) s t) :
    s.dev.Keeps [.synths, .links, .power] t.dev := by
  have hx : exec (.outputEnable dt o y b v) s = execOutputEnable dt o y b v s := rfl
  cases b with
  | false => exact synWrite_keeps (sub := 0x0A) h hx (by decide) (by decide) (by decide) (by decide) rfl
  | true => exact synWrite_keeps (sub := 0x0B) h hx (by decide) (by decide) (by decide) (by decide) rfl

/-- Settles O51, command by command. -/
theorem frameOfSynthesis : Obligations.Frame_of_synthesis := by
  unfold Obligations.Frame_of_synthesis
  intro i s t hi h
  cases i with
  | synEnable dt o y v =>
    exact synWrite_keeps h (show _ = execSynEnable dt o y v s from rfl) (by decide) (by decide) (by decide) (by decide) rfl
  | bandSearchDone => exact bandSearchDone_keeps h
  | synthesizerLocked => exact synthesizerLocked_keeps h
  | lockingTimeout => exact lockingTimeout_keeps h
  | synthesizerLockLost => exact synthesizerLockLost_keeps h
  | synthesizerReferenceLost => exact synthesizerReferenceLost_keeps h
  | gatedTimeout => exact gatedTimeout_keeps h
  | apply dt o y =>
    exact synWrite_keeps h (show _ = execApply dt o y s from rfl) (by decide) (by decide) (by decide) (by decide) rfl
  | applyWithRelock dt o y =>
    exact synWrite_keeps h (show _ = execApplyWithRelock dt o y s from rfl) (by decide) (by decide) (by decide) (by decide) rfl
  | glideEnd => exact glideEnd_keeps h
  | resync dt o y =>
    exact synWrite_keeps h (show _ = execResync dt o y s from rfl) (by decide) (by decide) (by decide) (by decide) rfl
  | outputEnable => exact outputEnable_keeps h
  | profileStart dt o y => exact profCommand_keeps h (show _ = execProfileStart dt o y s from rfl)
  | profileStop dt o y => exact profCommand_keeps h (show _ = execProfileStop dt o y s from rfl)
  | generateDownSpread dt o y => exact profCommand_keeps h (show _ = execGenerateDownSpread dt o y s from rfl)
  | profileUpdate => exact profileUpdate_keeps h
  | _ => nomatch hi

end Sys2Proof.Machine

/-!
SUPPORT. The synthesizers' states (Table 4.2), and what a completed command leaves of the synthesizers and of the counts of
raises.
-/
namespace Sys2Proof.Machine

/-! ## The inner state of a synthesizer -/

theorem getElem?_modifyAt_self {α : Type} (f : α → α) (i : Nat) (l : List α) : (modifyAt f i l)[i]? = l[i]?.map f := by
  induction l generalizing i with
  | nil => simp [modifyAt]
  | cons a r ih =>
    cases i with
    | zero => rfl
    | succ i => exact ih i

theorem getElem?_modifyAt_ne {α : Type} (f : α → α) {i j : Nat} (l : List α) (h : j ≠ i) :
    (modifyAt f i l)[j]? = l[j]? := by
  induction l generalizing i j with
  | nil => simp [modifyAt]
  | cons a r ih =>
    cases i with
    | zero =>
      cases j with
      | zero => exact absurd rfl h
      | succ j => rfl
    | succ i =>
      cases j with
      | zero => rfl
      | succ j => exact ih (by omega)

theorem length_modifyAt {α : Type} (f : α → α) (i : Nat) (l : List α) : (modifyAt f i l).length = l.length := by
  induction l generalizing i with
  | nil => simp [modifyAt]
  | cons a r ih =>
    cases i with
    | zero => rfl
    | succ i => exact congrArg (· + 1) (ih i)

@[simp] theorem Dev.length_modSyn (d : Dev) (s : Nat) (f : Syn → Syn) : (d.modSyn s f).syns.length = d.syns.length :=
  length_modifyAt f s d.syns

theorem Dev.syn_of_syns {d x : Dev} (h : x.syns = d.syns) (s : Nat) : x.syn s = d.syn s := by
  unfold Dev.syn
  rw [h]

@[simp] theorem Dev.syn_set (d : Dev) (k : Nat) (v : Val) (s : Nat) : (d.set k v).syn s = d.syn s :=
  Dev.syn_of_syns (d.set_syns k v) s

@[simp] theorem Dev.syn_setN (d : Dev) (k n s : Nat) : (d.setN k n).syn s = d.syn s := d.syn_set k _ s

@[simp] theorem Dev.syn_raise (d : Dev) (c : Ctx) (ev n s : Nat) : (d.raise c ev n).syn s = d.syn s :=
  Dev.syn_of_syns (d.raise_syns c ev n) s

/-- A change of a synthesizer's inner state. -/
theorem Dev.syn_modSyn {d : Dev} {s : Nat} (f : Syn → Syn) (h : s < d.syns.length) : (d.modSyn s f).syn s = f (d.syn s) := by
  unfold Dev.syn Dev.modSyn
  dsimp only
  rw [getElem?_modifyAt_self, List.getElem?_eq_getElem h]
  rfl

/-- A synthesizer that glides exists. -/
theorem Dev.lt_of_glide {d : Dev} {s : Nat} {g : Glide} (h : (d.syn s).glide = some g) : s < d.syns.length := by
  by_contra hn
  unfold Dev.syn at h
  rw [List.getElem?_eq_none (by omega)] at h
  exact nomatch h

/-! ## The states of Table 4.2 -/

section
variable {s : Nat}

theorem Dev.synSearch_st (d : Dev) : (d.synSearch s).synSt s = 1 := by
  simp [Dev.synSearch, Dev.synSt, Dev.setSyn]

theorem Dev.synSync_st (d : Dev) : (d.synSync s).synSt s = 2 := by
  simp [Dev.synSync, Dev.synSt, Dev.setSyn]

/-- Entering SYNC leaves the band. -/
theorem Dev.synSync_band (d : Dev) : (d.synSync s).nat (synK s 0x1A) = d.nat (synK s 0x1A) := by
  have h1 : (if d.nat (synK s 0x09) = 2 then d.setN (synK s 0x09) 3 else d).nat (synK s 0x1A) = d.nat (synK s 0x1A) :=
    ite_pred (fun x : Dev => x.nat (synK s 0x1A) = d.nat (synK s 0x1A)) (by simp) rfl
  simp [Dev.synSync, Dev.setSyn, h1]

variable (hs : s < 4)
include hs

theorem Dev.raise_st (d : Dev) (c : Ctx) (ev n : Nat) : (d.raise c ev n).synSt s = d.synSt s :=
  ((Leaves.refl [] d).raise c ev n).nat (p := .synths) (by decide) (partOfKey_synK (by omega) (by decide))

theorem Dev.takeSet_st (d : Dev) (c : Ctx) (x : SynSet) : (d.takeSet c s x).synSt s = d.synSt s :=
  ite_pred (fun y : Dev => y.synSt s = d.synSt s)
    (((Leaves.refl [] d).raiseClr c _ _).nat (p := .synths) (by decide) (partOfKey_synK (by omega) (by decide))) rfl

theorem Dev.synTakeArmed_st (d : Dev) (c : Ctx) : (d.synTakeArmed c s).synSt s = d.synSt s := by
  unfold Dev.synTakeArmed
  split
  · next x _ _ _ =>
    have h := Dev.takeSet_st hs d c x
    simpa [Dev.synSt] using h
  · rfl

theorem Dev.synFail_st (d : Dev) (c : Ctx) : (d.synFail c s).synSt s = 7 := by
  obtain ⟨x, -, e, hst⟩ := Dev.synFail_split hs d c
  rw [e]
  exact ((x.detect_synth_leaves c).nat (p := .synths) (by decide) (partOfKey_synK (by omega) (by decide))).trans hst

/-- A loss with no relock before it gates the synthesizer, which may relock (R263). -/
theorem Dev.synLoss_first {d : Dev} (c : Ctx) (ev : Nat) (h : (d.syn s).relockT = none) :
    (d.synLoss c s ev).2 = true ∧ (d.synLoss c s ev).1.synSt s = 6 := by
  unfold Dev.synLoss
  simp only [h, Bool.false_eq_true, if_false]
  refine ⟨trivial, (Dev.synTakeArmed_st hs _ c).trans ?_⟩
  let gated : Dev := (((d.raise c ev (s + b2n false * 256)).setSyn s 6).unalign s).profIdle s
  have hg : gated.synSt s = 6 := by simp [gated, Dev.synSt, Dev.setSyn]
  exact ite_pred (fun x : Dev => x.synSt s = 6) ((gated.nat_synK_setN s _ _ _).trans hg) hg

/-- A loss at most 1 s after a relock completed is lasting (R263). -/
theorem Dev.synLoss_lasting {d : Dev} {c : Ctx} {r : Nat} (ev : Nat) (h : (d.syn s).relockT = some r)
    (ht : c.t ≤ r + 400000000) : (d.synLoss c s ev).2 = false ∧ (d.synLoss c s ev).1.synSt s = 7 := by
  unfold Dev.synLoss
  simp only [h, decide_eq_true ht, if_true]
  exact ⟨trivial, Dev.synFail_st hs _ c⟩

/-- The end of a glide's exactness leaves the word of the apply and the glide. -/
theorem Dev.synUnphased_of (d : Dev) (c : Ctx) (hlen : s < d.syns.length) :
    (d.synUnphased c s).nat (synK s 0x09) = d.nat (synK s 0x09) ∧ ((d.synUnphased c s).syn s).glide = (d.syn s).glide := by
  let P (x : Dev) : Prop := x.nat (synK s 0x09) = d.nat (synK s 0x09) ∧ (x.syn s).glide = (d.syn s).glide
  have h1 : P (d.unalign s) := by
    refine ⟨d.nat_unalign s _ (by decide), ?_⟩
    unfold Dev.unalign Dev.showAlign
    rw [Dev.syn_setN, Dev.syn_modSyn _ hlen]
  have hlen1 : s < (d.unalign s).syns.length := by simpa [Dev.unalign, Dev.showAlign] using hlen
  refine ite_pred P (ite_pred P ⟨h1.1, ?_⟩ ⟨?_, ?_⟩) ⟨rfl, rfl⟩
  · rw [Dev.syn_modSyn _ hlen1]
    exact h1.2
  · exact (((Leaves.refl [] _).raise c 43 s).nat (p := .synths) (by decide) (partOfKey_synK (by omega) (by decide))).trans h1.1
  · rw [Dev.syn_raise]
    exact h1.2

end

/-! ## A command that completes -/

/-- An event is counted in its own count of raises (R756). -/
theorem Dev.raiseF_raises (d : Dev) (c : Ctx) (b : Bool) (ev n : Nat) :
    (d.raiseF c b ev n).evc.raises = modifyAt (fun n => (n + 1) % 2 ^ 32) ev d.evc.raises := by
  unfold Dev.raiseF
  extract_lets r e0 m e1 e2 d1 d2
  let P (x : Dev) : Prop := x.evc.raises = modifyAt (fun n => (n + 1) % 2 ^ 32) ev d.evc.raises
  have he : e2.raises = e1.raises := ite_pred (fun e : Evc => e.raises = e1.raises) rfl rfl
  have h1 : P d1 := he
  have h2 : P d2 := by
    refine ite_pred P (ite_pred P ?_ (ite_pred P ?_ ?_)) h1
    · exact (congrArg Evc.raises (d1.inc_evc _)).trans h1
    · exact (congrArg Evc.raises (d1.inc_evc _)).trans h1
    · exact he
  clear_value d2
  refine ite_pred P (ite_pred P ?_ h2) h2
  exact (congrArg Evc.raises (Dev.inc_evc _ _)).trans h2

/-- What ends a command raises no event but the fallback of the audio clock (60, R548). -/
theorem Dev.settle_raises (d : Dev) (c : Ctx) (h : d.rst.want = []) {ev : Nat} (hev : ev ≠ 60) :
    (d.settle c).evc.raises[ev]? = d.evc.raises[ev]? := by
  let P (x : Dev) : Prop := x.evc.raises[ev]? = d.evc.raises[ev]?
  unfold Dev.settle
  extract_lets n0 f0 d1 d2 d3 d4
  have h1 : d1.evc = d.evc ∧ d1.rst = d.rst := by
    have hn : d.PortsOf n0 := d.safeNotices_eta c _ h
    clear_value n0
    obtain ⟨ps, rfl⟩ := hn
    exact ite_pred (fun x : Dev => x.evc = d.evc ∧ x.rst = d.rst) ⟨rfl, rfl⟩ ⟨rfl, rfl⟩
  have hseats : d1.settleSeats.evc = d.evc := by
    obtain ⟨_, _, e⟩ := d1.settleSeats_eta
    rw [e]
    exact h1.1
  have hrst : d2.rst.want = [] :=
    (congrArg Rst.want ((d1.settleSeats_itpRst.trans (d1.settleSeats.settleAudio_itpRst c)).2.trans h1.2)).trans h
  have h2 : P d2 := by
    have h0 : P d1.settleSeats := by
      show d1.settleSeats.evc.raises[ev]? = _
      rw [hseats]
    refine ite_pred P (foldl_pred P _ (fun x t hx => ite_pred P ?_ hx) _ ?_) h0
    · show (Dev.evc _).raises[ev]? = _
      rw [Dev.setN_evc]
      exact hx
    · show (Dev.evc _).raises[ev]? = _
      rw [Dev.raise, Dev.raiseF_raises, getElem?_modifyAt_ne _ _ hev, Dev.setN_evc]
      exact h0
  have h3 : P d3 := by
    have hd3 : d3 = (d2.takeReset c).dispatch c := rfl
    obtain ⟨_, _, e⟩ := d2.dispatch_eta c
    rw [hd3, Dev.takeReset_none d2 c hrst, e]
    exact h2
  have hsend : P d3.sendEvents := by
    refine foldl_pred P _ (fun x m hx => ?_) _ h3
    show (Dev.evc _).raises[ev]? = _
    rw [Dev.toHost_evc, Dev.sendBoth_evc]
    exact hx
  have h4 : P d4 := ite_pred P hsend h3
  exact h4

theorem Same.syn {d x : Dev} (h : Same .synths d x) (s : Nat) : x.syn s = d.syn s := Dev.syn_of_syns h.1.symm s

theorem Same.synNat {d x : Dev} (h : Same .synths d x) {s sub : Nat} (hs : s < 4) (hsub : sub < 256 := by decide) :
    x.nat (synK s sub) = d.nat (synK s sub) := h.nat (partOfKey_synK (by omega) hsub)

theorem Same.profGet {d x : Dev} (h : Same .synths d x) {s sub : Nat} (hs : s < 4) (hsub : sub < 256 := by decide) :
    x.get (profK s sub) = d.get (profK s sub) := h.2 _ (partOfKey_profK (by omega) hsub)

variable {s : State} {dt y : Nat} {i : Instr} {P : State → Prop}

/-- A command completes with the synthesizers as its effect leaves them, and with the counts of raises, but for the fallback
of the audio clock. -/
theorem completes_of_synth {f : Ctx → Dev → Dev} {e : Dev} (hx : exec i s = s.act dt f) (hf : f (s.ctx dt) s.entry = e)
    (hw : e.rst.want = [])
    (hP : ∀ t : State, Same .synths e t.dev → (∀ ev, ev ≠ 60 → t.dev.evc.raises[ev]? = e.evc.raises[ev]?) → P t) :
    Completes i s P := by
  subst hf
  obtain ⟨t, ht, -, hk, -⟩ := s.act_kept dt f hw
  refine ⟨t, hx.trans ht, hP t (hk .synths (by decide)) fun ev hev => ?_⟩
  have hr := Dev.settle_raises _ (s.ctx dt) hw hev
  rw [State.act_dev ht]
  generalize (f (s.ctx dt) s.entry).settle (s.ctx dt) = x at hr
  exact hr

/-- An event of a synthesizer, with the effect `e`, completes. -/
theorem completes_of_synEvent {f : Ctx → Dev → Dev} {e : Dev} {l : List Part}
    (hx : exec i s = s.actOn (decide (y < 4)) dt f) (hq : Quiet s) (hy : y < 4) (hf : f (s.ctx dt) s.entry = e)
    (he : s.entry.Leaves l e)
    (hP : ∀ t : State, Same .synths e t.dev → P t) : Completes i s P :=
  completes_of_synth (hx.trans (State.actOn_act (decide_eq_true hy))) hf ((congrArg Rst.want he.rst).trans hq.1)
    fun t ht _ => hP t ht

/-- An accepted write of a synthesizer's or a profile's object completes with its effect on the device found. -/
theorem completes_of_synRequest {o : Org} {k base : Nat} {v : Int} {r : Obj} {e : Dev}
    (hx : exec i s = s.req dt o (keyAt 4 y k) v Obs.quiet) (hy : y < 4) (hq : Quiet s) (ha : Accepts s dt o k v)
    (hk : ∀ b, lookup b k = .row base y r) (hk24 : k < 2 ^ 24) (hacc : r.acc ≠ .rws)
    (he : (s.found dt o k v).writeObj (s.ctx dt) base y r.sub (.num v) Obs.quiet = e)
    (hl : (s.found dt o k v).Leaves [.synths] e)
    (hP : ∀ t : State, Same .synths e t.dev → (∀ ev, ev ≠ 60 → t.dev.evc.raises[ev]? = e.evc.raises[ev]?) → P t) :
    Completes i s P := by
  have hr : e.rst = s.dev.rst := hl.rst.trans (Accepts.found ha (hk _)).rst
  rw [keyAt_of_lt k hy] at hx
  unfold State.req at hx
  refine completes_of_synth hx ?_ ((congrArg Rst.want hr).trans hq.1) hP
  show s.entry.request (s.ctx dt) o k (.num v) Obs.quiet = e
  rw [Dev.request_accepted hq hk hk24 ha rfl, Dev.applyWrite_direct hacc, he]
  rw [he, hr]
  exact hq.2.1

/-- The device an accepted write finds has all parts as they were, but for the ports and the power state. -/
theorem Accepts.found_keeps {o : Org} {k base n : Nat} {v : Int} {r : Obj} (h : Accepts s dt o k v)
    (hk : lookup (s.ctx dt).s12 k = .row base n r) : s.dev.Keeps [.links, .power] (s.found dt o k v) := by
  obtain ⟨hh, -⟩ := Accepts.spec h hk
  have h0 : s.dev.Keeps [.links, .power] s.entry := .unparted s.dev s.dev.trace s.dev.evc s.dev.log [] s.dev.pins
  have h1 : s.dev.Keeps [.links, .power] (s.heard dt o 8) := by
    rw [State.heard_eq]
    exact (h0.trans (Dev.leaveDoze_keeps _ _ (by decide))).trans (.itp _ _ _ _ _ _)
  by_cases hm : o.path = .mailbox
  · rw [State.found_mailbox hk hm]
    exact h1.trans (Dev.mailReturn_keeps _ 0)
  · rw [State.found_frame hk hm]
    refine h1.trans ((Dev.answer_answerOf _ _ _ _ _ _ ?_).keeps (by decide))
    rw [State.heard_eq]
    exact Dev.reaches_of_hears (s.ctx dt) hh

end Sys2Proof.Machine

/-!
SUPPORT. The synthesizer commands complete with their effect, and the settling of O3 and O28 (ch 4).
-/
namespace Sys2Proof.Machine

variable {s : State} {dt y : Nat} {o : Org}

/-! ## The lock sequence (Table 4.2, R228 to R233, R263) -/

theorem decide_and_decide {p q : Prop} [Decidable p] [Decidable q] (hp : p) (hq : q) : (decide p && decide q) = true := by
  simp [hp, hq]

theorem bandSearchDone_completes {band : Nat} (hq : Quiet s) (hy : y < 4) (hst : s.dev.synSt y = 1) :
    Completes (.bandSearchDone dt y band) s fun t => t.dev.synSt y = 2 ∧ t.dev.nat (synK y 0x1A) = band % 64 := by
  have h1 := (((Dev.Leaves.refl _ s.entry).setSynK hy (sub := 0x1A) (.num (band % 64 : Nat))).modSyn y
    fun x => { x with target := s.entry.synTarget y }).trans (Dev.synSync_leaves hy _)
  refine completes_of_synEvent (show _ = execBandSearchDone dt y band s from rfl) hq hy (if_pos hst) h1 fun t ht => ⟨?_, ?_⟩
  · exact (ht.synNat hy).trans (Dev.synSync_st _)
  · exact ((ht.synNat hy).trans (Dev.synSync_band _)).trans (s.entry.nat_setN_same (synK y 0x1A) _)

theorem synthesizerLocked_completes (hq : Quiet s) (hy : y < 4) (hst : s.dev.synSt y = 3)
    (ht : (s.dev.syn y).lockT + s.dev.refTicks y (((s.dev.syn y).inForce[0]?).getD 0) ≤ (s.ctx dt).t) :
    Completes (.synthesizerLocked dt y) s fun t => t.dev.synSt y = 4 := by
  refine completes_of_synEvent (show _ = execSynthesizerLocked dt y s from rfl) hq hy (if_pos (decide_and_decide hst ht))
    (((Dev.Leaves.refl _ _).setSynK hy _).raise _ _ _) fun t ht => ?_
  exact ((ht.synNat hy).trans (Dev.raise_st hy _ _ _ _)).trans (Dev.nat_setN_same ..)

theorem lockingTimeout_completes (hq : Quiet s) (hy : y < 4) (hst : s.dev.synSt y = 3)
    (ht : (s.dev.syn y).lockT + 800000 ≤ (s.ctx dt).t) :
    Completes (.lockingTimeout dt y) s fun t => t.dev.synSt y = if (s.dev.syn y).relock then 7 else 1 := by
  have hx : exec (.lockingTimeout dt y) s = execLockingTimeout dt y s := rfl
  cases hr : (s.dev.syn y).relock with
  | true =>
    exact completes_of_synEvent hx hq hy ((if_pos (decide_and_decide hst ht)).trans (if_pos hr))
      (Dev.synFail_leaves hy _ _) fun t ht => (ht.synNat hy).trans (Dev.synFail_st hy _ _)
  | false =>
    refine completes_of_synEvent hx hq hy ((if_pos (decide_and_decide hst ht)).trans (if_neg (ne_true_of_eq_false hr)))
      (((Dev.Leaves.refl _ _).modSyn y _).trans (Dev.synSearch_leaves hy _)) fun t ht => ?_
    exact (ht.synNat hy).trans (Dev.synSearch_st _)

theorem synthesizerLockLost_relocks (hq : Quiet s) (hy : y < 4) (hst : s.dev.synSt y = 5)
    (hr : (s.dev.syn y).relockT = none) : Completes (.synthesizerLockLost dt y) s fun t => t.dev.synSt y = 1 := by
  obtain ⟨h2, -⟩ := Dev.synLoss_first hy (d := s.entry) (s.ctx dt) 40 hr
  refine completes_of_synEvent (show _ = execSynthesizerLockLost dt y s from rfl) hq hy ((if_pos hst).trans (if_pos h2))
    ((Dev.synLoss_leaves hy _ _ _).trans ((Dev.synSearch_leaves hy _).mono (by decide))) fun t ht => ?_
  exact (ht.synNat hy).trans (Dev.synSearch_st _)

theorem synthesizerLockLost_fails {r : Nat} (hq : Quiet s) (hy : y < 4) (hst : s.dev.synSt y = 5)
    (hr : (s.dev.syn y).relockT = some r) (ht : (s.ctx dt).t ≤ r + 400000000) :
    Completes (.synthesizerLockLost dt y) s fun t => t.dev.synSt y = 7 := by
  obtain ⟨h2, h7⟩ := Dev.synLoss_lasting hy (d := s.entry) 40 hr ht
  exact completes_of_synEvent (show _ = execSynthesizerLockLost dt y s from rfl) hq hy
    ((if_pos hst).trans (if_neg (ne_true_of_eq_false h2))) (Dev.synLoss_leaves hy _ _ _) fun t ht => (ht.synNat hy).trans h7

theorem synthesizerReferenceLost_gates (hq : Quiet s) (hy : y < 4) (hst : s.dev.synSt y = 5)
    (hr : (s.dev.syn y).relockT = none) : Completes (.synthesizerReferenceLost dt y) s fun t => t.dev.synSt y = 6 := by
  obtain ⟨-, h6⟩ := Dev.synLoss_first hy (d := s.entry) (s.ctx dt) 41 hr
  exact completes_of_synEvent (show _ = execSynthesizerReferenceLost dt y s from rfl) hq hy (if_pos hst)
    (Dev.synLoss_leaves hy _ _ _) fun t ht => (ht.synNat hy).trans h6

theorem gatedTimeout_completes (hq : Quiet s) (hy : y < 4) (hst : s.dev.synSt y = 6)
    (ht : (s.dev.syn y).gateT + 4000000 ≤ (s.ctx dt).t) :
    Completes (.gatedTimeout dt y) s fun t => t.dev.synSt y = 7 := by
  exact completes_of_synEvent (show _ = execGatedTimeout dt y s from rfl) hq hy (if_pos (decide_and_decide hst ht))
    (Dev.synFail_leaves hy _ _) fun t ht => (ht.synNat hy).trans (Dev.synFail_st hy _ _)

/-! ## The end of a glide, the update of a profile (R242, R243, R246) -/

theorem glideEnd_completes {g : Glide} (hq : Quiet s) (hy : y < 4) (hg : (s.dev.syn y).glide = some g)
    (ht : g.t0 + g.len ≤ (s.ctx dt).t) :
    Completes (.glideEnd dt y) s fun t => (t.dev.syn y).glide = none ∧ t.dev.nat (synK y 0x09) = 5 := by
  have hg' : (s.entry.syn y).glide = some g := hg
  have hlen : y < s.entry.syns.length := Dev.lt_of_glide hg'
  let d : Dev := (s.entry.modSyn y fun x => { x with glide := none }).setN (synK y 0x09) 5
  have hd : s.entry.Leaves [.synths] d := ((Dev.Leaves.refl _ _).modSyn y _).setSynK hy _
  have hsyn : (d.syn y).glide = none := by
    rw [Dev.syn_setN, Dev.syn_modSyn _ hlen]
  obtain ⟨h09, hglide⟩ := Dev.synUnphased_of hy d (s.ctx dt) (by simpa [d] using hlen)
  refine completes_of_synEvent (e := d.synUnphased (s.ctx dt) y) (show _ = execGlideEnd dt y s from rfl) hq hy ?_
    (hd.trans (Dev.synUnphased_leaves hy _ _)) fun t ht => ⟨?_, ?_⟩
  · simp only [hg', if_pos ht]
    rfl
  · rw [ht.syn, hglide, hsyn]
  · exact ((ht.synNat hy).trans h09).trans (Dev.nat_setN_same ..)

theorem Dev.profStep_upd {d : Dev} (hlen : y < d.syns.length) (n : Nat) (ppb : Int) (m : Nat) :
    ((d.profStep y n ppb m).syn y).upd = m := by
  unfold Dev.profStep
  rw [Dev.syn_modSyn _ (by simpa using hlen)]

theorem profileUpdate_completes (hq : Quiet s) (hy : y < 4) (hlen : y < s.dev.syns.length)
    (hrun : s.dev.nat (profK y 0x07) = 1)
    (ht : (s.dev.syn y).profT + s.dev.refTicks y (16 * ((s.dev.syn y).upd + 1)) ≤ (s.ctx dt).t) :
    Completes (.profileUpdate dt y) s fun t => (t.dev.syn y).upd = (s.dev.syn y).upd + 1 := by
  have hlen' : y < s.entry.syns.length := hlen
  have hstep := fun n ppb m => s.entry.profStep_leaves hy n ppb m
  refine completes_of_synEvent (show _ = execProfileUpdate dt y s from rfl) hq hy (if_pos (decide_and_decide hrun ht))
    (ite_pred (s.entry.Leaves _) ((hstep _ _ _).setProfK hy _) (hstep _ _ _)) fun t ht => ?_
  rw [ht.syn]
  refine ite_pred (fun x : Dev => (x.syn y).upd = _) ?_ (Dev.profStep_upd hlen' _ _ _)
  exact (congrArg Syn.upd (Dev.syn_setN ..)).trans (Dev.profStep_upd hlen' _ _ _)

/-! ## Write requests -/

/-- An accepted write of an object of the synthesizer's table completes with its effect on the device found. -/
theorem completes_of_synWrite {i : Instr} {P : State → Prop} {sub : Nat} {v : Int} {r : Obj}
    (hx : exec i s = s.req dt o (keyAt 4 y (synK y sub)) v Obs.quiet) (hq : Quiet s) (hy : y < 4)
    (ha : Accepts s dt o (synK y sub) v) (h0 : sub ≠ 0) (hs : sub < 256)
    (hr : Fam.row ⟨0x2200, 4, 4, tbl2200⟩ y sub = some r) (hacc : r.acc ≠ .rws) (hsub : r.sub = sub)
    (hP : ∀ t : State, s.dev.Keeps [.links, .power] (s.found dt o (synK y sub) v) →
      Same .synths ((s.found dt o (synK y sub) v).writeSynth (s.ctx dt) 0x2200 y sub (.num v)) t.dev →
      (∀ ev, ev ≠ 60 → t.dev.evc.raises[ev]? =
        ((s.found dt o (synK y sub) v).writeSynth (s.ctx dt) 0x2200 y sub (.num v)).evc.raises[ev]?) → P t) :
    Completes i s P := by
  subst hsub
  have hk := lookup_synK hy h0 hs hr
  exact completes_of_synRequest hx hy hq ha hk (synK_lt hy hs) hacc rfl (Dev.writeSyn_leaves hy _ _ _ hs)
    fun t => hP t (Accepts.found_keeps ha (hk _))

/-- An accepted command of a ramp profile completes with its effect on the device found. -/
theorem completes_of_profCommand {i : Instr} {P : State → Prop} {v : Int}
    (hx : exec i s = s.req dt o (keyAt 4 y (profK y 0x04)) v Obs.quiet) (hq : Quiet s) (hy : y < 4)
    (ha : Accepts s dt o (profK y 0x04) v)
    (hP : ∀ t : State, s.dev.Keeps [.links, .power] (s.found dt o (profK y 0x04) v) →
      Same .synths ((s.found dt o (profK y 0x04) v).writeSynth (s.ctx dt) 0x2210 y 0x04 (.num v)) t.dev → P t) :
    Completes i s P := by
  have hk := lookup_profK (y := y) (sub := 0x04) hy (by decide) (by decide) rfl
  exact completes_of_synRequest hx hy hq ha hk (profK_lt hy (by decide)) (by decide) rfl
    (Dev.writeProf_leaves hy _ _ (sub := 0x04) _ (by decide)) fun t ht _ => hP t (Accepts.found_keeps ha (hk _)) ht

/-! ## The effects of the writes -/

/-- Enabling a synthesizer that was OFF starts the band search (R232). -/
theorem Dev.writeSynth_on {d : Dev} (c : Ctx) (h : d.flag (synK y 0x01) = false) :
    (d.writeSynth c 0x2200 y 0x01 (.num 1)).synSt y = 1 := by
  have hw : d.writeSynth c 0x2200 y 0x01 (.num 1) = ((((d.set (synK y 0x01) (.num 1)).modSyn y fun x =>
      { x with relock := false, loss := false, relockT := none }).synTakeArmed c y).synSearch y) :=
    if_neg (by rw [show key 0x2200 y 0x01 = synK y 0x01 from rfl, h]; decide)
  rw [hw, Dev.synSearch_st]

/-- Disabling a synthesizer turns it OFF (R232). -/
theorem Dev.writeSynth_off (d : Dev) (c : Ctx) : (d.writeSynth c 0x2200 y 0x01 (.num 0)).synSt y = 0 := by
  have hw : d.writeSynth c 0x2200 y 0x01 (.num 0) =
      (((((d.set (synK y 0x01) (.num 0)).setSyn y 0).unalign y).profIdle y).applyOver y 0).modSyn y fun x => { x with
        armed := none, glide := none, relock := false, loss := false, relockT := none, resync := false, asked := false,
        toSync := false } := rfl
  rw [hw]
  simp [Dev.synSt, Dev.setSyn]

/-- An apply of a valid snapshot arms it (R240). -/
theorem Dev.writeSynth_arms {d : Dev} (c : Ctx) {n : Nat} (hlen : y < d.syns.length)
    (hv : d.synValid y (d.shadowSet y) = true) :
    ((d.writeSynth c 0x2200 y 0x09 (.num n)).syn y).armed = some (d.shadowSet y, n, c.t + 4000) ∧
      (d.writeSynth c 0x2200 y 0x09 (.num n)).nat (synK y 0x09) = 1 := by
  have hw : d.writeSynth c 0x2200 y 0x09 (.num n) =
      (d.modSyn y fun x => { x with armed := some (d.shadowSet y, n, c.t + 4000) }).setN (synK y 0x09) 1 := if_pos hv
  rw [hw, Dev.syn_setN, Dev.syn_modSyn _ hlen]
  exact ⟨rfl, Dev.nat_setN_same ..⟩

/-- The snapshot and its validity rest on the objects of the synthesizer and on the genlock's rate. -/
theorem Dev.synValid_of_keeps {l : List Part} {d x : Dev} (h : d.Keeps l x) (hs : .synths ∉ l) (hg : .genlock ∉ l)
    (hy : y < 4) :
    x.shadowSet y = d.shadowSet y ∧ ∀ z, x.synValid y z = d.synValid y z := by
  have hsyn (sub : Nat) (hsub : sub < 256) : x.get (synK y sub) = d.get (synK y sub) :=
    (h .synths hs).2 _ (partOfKey_synK (by omega) hsub)
  have hprof (sub : Nat) (hsub : sub < 256) : x.get (profK y sub) = d.get (profK y sub) :=
    (h .synths hs).2 _ (partOfKey_profK (by omega) hsub)
  have hnum : x.rateNum = d.rateNum := Same.nat (h .genlock hg) rfl
  have hden : x.rateDen = d.rateDen := Same.nat (h .genlock hg) rfl
  have hvco (z : SynSet) : x.fVco z = d.fVco z := by
    simp only [Dev.fVco, Dev.fRef, Dev.kOf, hnum, hden]
  have hsegs : x.segs y = d.segs y := by
    simp only [Dev.segs, Dev.raw, hprof 0x02 (by decide)]
  constructor
  · simp only [Dev.shadowSet, Dev.nat_of_get (hsyn _ _), Nat.reduceLT]
  · intro z
    simp only [Dev.synValid, hvco, hsegs, Dev.nat_of_get (hsyn 0x0C (by decide)), Dev.nat_of_get (hsyn 0x0D (by decide)),
      Dev.flag_of_get (hprof 0x01 (by decide))]

theorem synEnable_on {v : Nat} (hq : Quiet s) (hy : y < 4) (hv : v = 1) (hoff : s.dev.flag (synK y 0x01) = false)
    (ha : Accepts s dt o (synK y 0x01) v) : Completes (.synEnable dt o y v) s fun t => t.dev.synSt y = 1 := by
  subst hv
  refine completes_of_synWrite (show _ = execSynEnable dt o y 1 s from rfl) hq hy ha (by decide) (by decide) rfl (by decide) rfl
    fun t hf ht _ => (ht.synNat hy).trans (Dev.writeSynth_on _ ?_)
  exact (Dev.flag_of_get ((hf .synths (by decide)).2 _ (partOfKey_synK (by omega) (by decide)))).trans hoff

theorem synEnable_off {v : Nat} (hq : Quiet s) (hy : y < 4) (hv : v = 0) (ha : Accepts s dt o (synK y 0x01) v) :
    Completes (.synEnable dt o y v) s fun t => t.dev.synSt y = 0 := by
  subst hv
  exact completes_of_synWrite (show _ = execSynEnable dt o y 0 s from rfl) hq hy ha (by decide) (by decide) rfl (by decide) rfl
    fun t _ ht _ => (ht.synNat hy).trans (Dev.writeSynth_off _ _)

/-- An accepted apply of a valid snapshot, by command `n` of .09. -/
theorem completes_of_apply {i : Instr} {n : Nat} (hx : exec i s = s.req dt o (keyAt 4 y (synK y 0x09)) n Obs.quiet)
    (hq : Quiet s) (hy : y < 4) (hlen : y < s.dev.syns.length) (hv : s.dev.synValid y (s.dev.shadowSet y) = true)
    (ha : Accepts s dt o (synK y 0x09) n) :
    Completes i s fun t => (t.dev.syn y).armed = some (s.dev.shadowSet y, n, (s.ctx dt).t + 4000) ∧
      t.dev.nat (synK y 0x09) = 1 := by
  refine completes_of_synWrite hx hq hy ha (by decide) (by decide) rfl (by decide) rfl fun t hf ht _ => ?_
  have hsyns := (hf .synths (by decide)).1
  obtain ⟨hset, hvalid⟩ := Dev.synValid_of_keeps hf (by decide) (by decide) hy
  obtain ⟨harm, h09⟩ := Dev.writeSynth_arms (y := y) (s.ctx dt) (n := n)
    (d := s.found dt o (synK y 0x09) n) (by rwa [← show s.dev.syns = _ from hsyns]) (by rw [hset, hvalid]; exact hv)
  rw [hset] at harm
  exact ⟨by rw [ht.syn, harm], (ht.synNat hy).trans h09⟩

theorem resync_completes (hq : Quiet s) (hy : y < 4) (hst : s.dev.synSt y = 5) (ha : Accepts s dt o (synK y 0x18) 1) :
    Completes (.resync dt o y) s fun t => t.dev.synSt y = 2 := by
  refine completes_of_synWrite (show _ = execResync dt o y s from rfl) hq hy ha (by decide) (by decide) rfl (by decide) rfl
    fun t hf ht _ => (ht.synNat hy).trans ?_
  have hst' : (s.found dt o (synK y 0x18) 1).synSt y = 5 := ((hf .synths (by decide)).synNat hy).trans hst
  have hw : (s.found dt o (synK y 0x18) 1).writeSynth (s.ctx dt) 0x2200 y 0x18 (.num 1) =
      ((s.found dt o (synK y 0x18) 1).synSync y).modSyn y fun x => { x with asked := true } := if_pos hst'
  rw [hw]
  exact Dev.synSync_st _

theorem outputEnable_completes {b : Bool} {v : Nat} (hq : Quiet s) (hy : y < 4)
    (ha : Accepts s dt o (synK y (if b then 0x0B else 0x0A)) v) :
    Completes (.outputEnable dt o y b v) s fun t => t.dev.nat (synK y (if b then 0x0B else 0x0A)) = v := by
  have hx : exec (.outputEnable dt o y b v) s = execOutputEnable dt o y b v s := rfl
  cases b with
  | false =>
    exact completes_of_synWrite (sub := 0x0A) hx hq hy ha (by decide) (by decide) rfl (by decide) rfl
      fun t _ ht _ => (ht.synNat hy).trans (Dev.nat_setN_same ..)
  | true =>
    exact completes_of_synWrite (sub := 0x0B) hx hq hy ha (by decide) (by decide) rfl (by decide) rfl
      fun t _ ht _ => (ht.synNat hy).trans (Dev.nat_setN_same ..)

/-! ## Ramp profiles (R247, R249, R250) -/

/-- The start of a profile (R247). -/
theorem Dev.writeProf_starts (d : Dev) (c : Ctx) : (d.writeSynth c 0x2210 y 0x04 (.num 1)).nat (profK y 0x07) = 1 ∧
    (d.writeSynth c 0x2210 y 0x04 (.num 1)).nat (profK y 0x08) = 0 := by
  have hw : d.writeSynth c 0x2210 y 0x04 (.num 1) =
      (((d.profIdle y).unalign y).setN (profK y 0x07) 1).modSyn y fun x => { x with profT := c.t } := rfl
  have h08 : ((d.profIdle y).unalign y).nat (profK y 0x08) = 0 := by
    have hne : profK y 0x08 ≠ synK y 0x20 := by
      rw [Ne, eq_comm, synK_eq_profK]
      decide
    have h9 : profK y 0x08 ≠ profK y 0x09 := by rw [Ne, profK_inj]; decide
    refine (Dev.nat_setN_ne _ _ _ _ hne).trans ?_
    unfold Dev.profIdle
    rw [Dev.nat_modSyn, Dev.nat_modSyn, Dev.nat_setI, if_neg h9, Dev.nat_setN_same]
  rw [hw]
  simp [h08]

theorem profileStart_completes (hq : Quiet s) (hy : y < 4) (ha : Accepts s dt o (profK y 0x04) 1) :
    Completes (.profileStart dt o y) s fun t => t.dev.nat (profK y 0x07) = 1 ∧ t.dev.nat (profK y 0x08) = 0 := by
  refine completes_of_profCommand (show _ = execProfileStart dt o y s from rfl) hq hy ha fun t _ ht => ?_
  obtain ⟨h7, h8⟩ := Dev.writeProf_starts (y := y) (s.found dt o (profK y 0x04) 1) (s.ctx dt)
  exact ⟨(Dev.nat_of_get (ht.profGet hy)).trans h7, (Dev.nat_of_get (ht.profGet hy)).trans h8⟩

theorem profileStop_completes (hq : Quiet s) (hy : y < 4)
    (hrun : s.dev.nat (profK y 0x07) = 1 ∨ s.dev.nat (profK y 0x07) = 2) (ha : Accepts s dt o (profK y 0x04) 2) :
    Completes (.profileStop dt o y) s fun t => t.dev.nat (profK y 0x07) = 3 := by
  refine completes_of_profCommand (show _ = execProfileStop dt o y s from rfl) hq hy ha fun t hf ht => ?_
  have hrun' : (decide ((s.found dt o (profK y 0x04) 2).nat (profK y 0x07) = 1) ||
      decide ((s.found dt o (profK y 0x04) 2).nat (profK y 0x07) = 2)) = true := by
    rw [Dev.nat_of_get ((hf .synths (by decide)).profGet hy)]
    simpa using hrun
  generalize s.found dt o (profK y 0x04) 2 = d at ht hrun'
  have hw : d.writeSynth (s.ctx dt) 0x2210 y 0x04 (.num 2) = (d.setN (profK y 0x07) 3).modSyn y fun x =>
      { x with stop := some ⟨d.int (profK y 0x09), (s.ctx dt).t, d.glideTicks y⟩ } := if_pos hrun'
  rw [Dev.nat_of_get (ht.profGet hy), hw]
  exact Dev.nat_setN_same ..

theorem generateDownSpread_completes (hq : Quiet s) (hy : y < 4) (ha : Accepts s dt o (profK y 0x04) 3) :
    Completes (.generateDownSpread dt o y) s fun t =>
      t.dev.raw (profK y 0x02) = downSpread (s.dev.nat (profK y 0x05)) (s.dev.nat (profK y 0x06)) ∧
        t.dev.nat (profK y 0x03) = 1 := by
  refine completes_of_profCommand (show _ = execGenerateDownSpread dt o y s from rfl) hq hy ha fun t hf ht => ?_
  have h5 := Dev.nat_of_get ((hf .synths (by decide)).profGet (sub := 0x05) hy)
  have h6 := Dev.nat_of_get ((hf .synths (by decide)).profGet (sub := 0x06) hy)
  generalize s.found dt o (profK y 0x04) 3 = d at ht h5 h6
  have hw : d.writeSynth (s.ctx dt) 0x2210 y 0x04 (.num 3) =
      (d.setB (profK y 0x02) (downSpread (s.dev.nat (profK y 0x05)) (s.dev.nat (profK y 0x06)))).setN (profK y 0x03) 1 := by
    rw [← h5, ← h6]
    rfl
  rw [hw] at ht
  refine ⟨?_, (Dev.nat_of_get (ht.profGet hy)).trans (Dev.nat_setN_same ..)⟩
  unfold Dev.raw
  rw [ht.profGet hy, Dev.get_setN_ne _ _ _ _ (by rw [Ne, profK_inj]; decide), Dev.setB, Dev.get_set_same]
  rfl

/-- Settles O3, command by command. -/
theorem synthesizerCommandsComplete : Obligations.Synthesizer_commands_complete := by
  unfold Obligations.Synthesizer_commands_complete
  exact ⟨fun s dt o y v => synEnable_on, fun s dt o y v => synEnable_off, fun s dt y band => bandSearchDone_completes,
    fun s dt y => synthesizerLocked_completes, fun s dt y => lockingTimeout_completes,
    fun s dt y => synthesizerLockLost_relocks, fun s dt y r => synthesizerLockLost_fails,
    fun s dt y => synthesizerReferenceLost_gates, fun s dt y => gatedTimeout_completes,
    fun s dt o y => completes_of_apply (show _ = execApply dt o y s from rfl),
    fun s dt o y => completes_of_apply (show _ = execApplyWithRelock dt o y s from rfl),
    fun s dt y g => glideEnd_completes, fun s dt o y => resync_completes, fun s dt o y b v => outputEnable_completes,
    fun s dt o y => profileStart_completes, fun s dt o y => profileStop_completes,
    fun s dt o y => generateDownSpread_completes, fun s dt y => profileUpdate_completes⟩

/-! ## A snapshot that is held (R53, R241) -/

/-- An apply of a snapshot that fails validation holds it, and raises event 26 where none is held (R241). -/
theorem Dev.writeSynth_holds {d : Dev} (c : Ctx) (v : Val) (hlen : y < d.syns.length)
    (hv : d.synValid y (d.shadowSet y) = false) :
    (d.writeSynth c 0x2200 y 0x09 v).syn y = { d.syn y with held := true } ∧
      (d.writeSynth c 0x2200 y 0x09 v).nat (synK y 0x09) = 4 ∧
      (d.writeSynth c 0x2200 y 0x09 v).evc = (if (d.syn y).held then d else d.held c (synK y 2)).evc := by
  let x : Dev := if (d.syn y).held then d else d.held c (synK y 2)
  have hx : x.syns = d.syns := ite_pred (fun x : Dev => x.syns = d.syns) rfl (d.raise_syns ..)
  have hw : d.writeSynth c 0x2200 y 0x09 v = (x.modSyn y fun x => { x with held := true }).setN (synK y 0x09) 4 :=
    if_neg (ne_true_of_eq_false hv)
  rw [hw]
  refine ⟨?_, Dev.nat_setN_same .., Dev.setN_evc ..⟩
  rw [Dev.syn_setN, Dev.syn_modSyn _ (by rwa [hx]), Dev.syn_of_syns hx]

/-- An accepted APPLY of a snapshot that fails validation. -/
theorem apply_holds (hq : Quiet s) (hy : y < 4) (hlen : y < s.dev.syns.length)
    (hv : s.dev.synValid y (s.dev.shadowSet y) = false) (ha : Accepts s dt o (synK y 0x09) 1) :
    Completes (.apply dt o y) s fun t => t.dev.syn y = { s.dev.syn y with held := true } ∧ t.dev.nat (synK y 0x09) = 4 ∧
      t.dev.evc.raises[26]? = (if (s.dev.syn y).held then s.found dt o (synK y 0x09) 1
        else (s.found dt o (synK y 0x09) 1).held (s.ctx dt) (synK y 2)).evc.raises[26]? := by
  refine completes_of_synWrite (show _ = execApply dt o y s from rfl) hq hy ha (by decide) (by decide) rfl (by decide) rfl
    fun t hf ht hraises => ?_
  have hsame := hf .synths (by decide)
  obtain ⟨hset, hvalid⟩ := Dev.synValid_of_keeps hf (by decide) (by decide) hy
  obtain ⟨hsyn, h09, hevc⟩ := Dev.writeSynth_holds (y := y) (s.ctx dt) (.num 1) (d := s.found dt o (synK y 0x09) 1)
    (by rwa [← hsame.1]) (by rw [hset, hvalid]; exact hv)
  rw [hsame.syn] at hsyn hevc
  exact ⟨(ht.syn y).trans hsyn, (ht.synNat hy).trans h09, by rw [hraises 26 (by decide), hevc]⟩

/-- Settles O28: the held snapshot changes neither the set in force nor the armed one, and is raised once per episode. -/
theorem invalidSnapshotIsHeld : Obligations.Invalid_snapshot_is_held := by
  unfold Obligations.Invalid_snapshot_is_held
  refine ⟨fun s dt o y hq hy hlen _ hv hheld ha => ?_, fun s dt o y hq hy hlen hv hheld ha => ?_⟩
  · obtain ⟨t, hx, hsyn, h09, hev⟩ := apply_holds hq hy hlen hv ha
    refine ⟨t, hx, by rw [hsyn], by rw [hsyn], by rw [hsyn], h09, ?_⟩
    rw [hev, if_neg (ne_true_of_eq_false hheld), Dev.held, Dev.raise, Dev.raiseF_raises, getElem?_modifyAt_self]
  · obtain ⟨t, hx, hsyn, h09, hev⟩ := apply_holds hq hy hlen hv ha
    exact ⟨t, hx, by rw [hsyn], by rw [hsyn], h09, by rw [hev, if_pos hheld]⟩

end Sys2Proof.Machine

/-!
SUPPORT. A write request that comes while the agent is at work (R108), and the settling of O4 (ch 5): TEST_STOP is such a
request where its operand says so, and then the test runs on.
-/
namespace Sys2Proof.Machine

variable {s : State} {dt k base n : Nat} {o : Org} {v : Int} {x : Obs} {r : Obj}

/-! ## A write request that waits -/

/-- A write of a number that is heard while the agent is at work wakes the device and waits. -/
theorem Dev.request_busy {d : Dev} {c : Ctx} (hk : lookup false k = .row base n r) (hh : d.hears o = true)
    (hw : d.itp.waiting = []) (hb : x.busy = true) :
    d.request c o k (.num v) x = { d.leaveDoze c with
      itp := { (d.leaveDoze c).itp with waiting := [(d.leaveDoze c).writeWait o k r v x] } } := by
  have hwait : (d.leaveDoze c).itp.waiting = [] := by
    obtain ⟨_, _, e⟩ := (d.leaveDoze_awake c).itp
    rw [e]
    exact hw
  rw [Dev.request_num v x hk hh, Dev.arrive_first hwait]
  exact if_pos hb

/-- Of the parts it changes the power state alone. -/
theorem Dev.request_busy_leaves {d : Dev} {c : Ctx} (hk : lookup false k = .row base n r) (hh : d.hears o = true)
    (hw : d.itp.waiting = []) (hb : x.busy = true) : d.Leaves [.power] (d.request c o k (.num v) x) := by
  rw [Dev.request_busy hk hh hw hb]
  exact ⟨(d.leaveDoze_keeps c (by decide)).trans (.itp _ _ _ _ _ _), (d.leaveDoze_awake c).rst⟩

/-- A command that is such a write completes and has not taken effect: one request waits, and no part has changed but the
power state, the ports and the collector. -/
theorem completes_of_waiting {i : Instr} (hx : exec i s = s.req dt o k v x) (hq : Quiet s)
    (hk : lookup false k = .row base n r) (hh : s.entry.hears o = true) (hb : x.busy = true) :
    Completes i s fun t => s.dev.Keeps [.power, .links, .collector] t.dev ∧ t.dev.itp.waiting.length = 1 := by
  obtain ⟨hwant, -, hwait⟩ := hq
  have hreq : s.entry.Leaves [.power] (s.entry.request (s.ctx dt) o k (.num v) x) :=
    Dev.request_busy_leaves hk hh hwait hb
  have hlen : (s.entry.request (s.ctx dt) o k (.num v) x).itp.waiting.length = 1 := by
    rw [Dev.request_busy hk hh hwait hb]
    rfl
  obtain ⟨t, ht, hends, hkeeps, -⟩ := s.act_kept dt (fun c d => d.request c o k (.num v) x)
    ((congrArg Rst.want hreq.rst).trans hwant)
  have hentry : s.dev.Keeps [.power, .links, .collector] s.entry :=
    .unparted s.dev s.dev.trace s.dev.evc s.dev.log [] s.dev.pins
  refine ⟨t, hx.trans ht, (hentry.trans (hreq.keeps.mono (by decide))).trans (hkeeps.mono (by decide)), ?_⟩
  rw [hends.of_itp Itp.waiting fun _ _ => rfl]
  exact hlen

/-- TEST_STOP that comes while the agent is at work leaves the test as it is. -/
theorem testStop_waits (hq : Quiet s) (hh : s.entry.hears o = true) (hb : x.busy = true) :
    Completes (.testStop dt o x) s fun t => t.dev.test = s.dev.test := by
  obtain ⟨r, hk⟩ : ∃ r, lookup false 0x3300_04 = .row 0x3300 0 r := ⟨_, rfl⟩
  obtain ⟨t, ht, hkeeps, -⟩ := completes_of_waiting
    (show exec (.testStop dt o x) s = execTestStop dt o x s from rfl) hq hk hh hb
  obtain ⟨-, -, -, htest⟩ := (hkeeps .lanes (by decide)).1
  exact ⟨t, ht, htest.symm⟩

/-! ## The lane commands -/

/-- A device that is up, CAN FD channel 0 on, with a test running on port 4. -/
def testedPort : State where
  dev :=
    { obj := [(0x1010_07, .num 1)]
      rst := { stage := .up }
      test := some ⟨4, 0, 1, 8, 2, 3, 100, 5⟩ }

/-- Refutes O4: its TEST_STOP clause does not ask that the agent is free. On `testedPort` a TEST_STOP is accepted
that comes while the agent is at work (R108, log entry 158): the request waits and the test runs on. -/
theorem not_laneCommandsComplete : ¬ Obligations.Lane_commands_complete := by
  unfold Obligations.Lane_commands_complete
  rintro ⟨-, -, -, -, -, -, -, -, -, -, -, -, -, -, -, -, -, -, -, -, -, -, -, hstop⟩
  let o : Org := ⟨.fd0, 3, 5, 7⟩
  let busy : Obs := { Obs.quiet with busy := true }
  have hq : Quiet testedPort := ⟨rfl, rfl, rfl⟩
  obtain ⟨t, ht, -, hnone, -⟩ := hstop testedPort 0 o busy ⟨4, 0, 1, 8, 2, 3, 100, 5⟩ hq rfl rfl
  obtain ⟨u, hu, htest⟩ := testStop_waits (dt := 0) (o := o) (x := busy) hq rfl rfl
  obtain rfl : t = u := Host.Outcome.next.inj (ht.symm.trans hu)
  rw [hnone] at htest
  exact nomatch htest

end Sys2Proof.Machine

/-!
SUPPORT. The ports: what changes of other ports, of other objects and the end of a command leave of them (ch 5, ch 6).
-/
namespace Sys2Proof.Machine

/-! ## Changes that leave one object -/

/-- The object at a key and the state of resets are as they were. -/
structure Dev.Stands (k : Nat) (d x : Dev) : Prop where
  get : x.get k = d.get k
  rst : x.rst = d.rst

namespace Dev.Stands

variable {k : Nat} {d x y : Dev}

theorem refl (k : Nat) (d : Dev) : d.Stands k d := ⟨rfl, rfl⟩

theorem trans (h : d.Stands k x) (g : x.Stands k y) : d.Stands k y := ⟨g.get.trans h.get, g.rst.trans h.rst⟩

theorem nat (h : d.Stands k x) : x.nat k = d.nat k := Dev.nat_of_get h.get

/-- Another object's new value. -/
theorem set (h : d.Stands k x) {j : Nat} (v : Val) (hj : k ≠ j) : d.Stands k (x.set j v) :=
  h.trans ⟨x.get_set_ne j k v hj, x.set_rst j v⟩

theorem setN (h : d.Stands k x) {j : Nat} (n : Nat) (hj : k ≠ j) : d.Stands k (x.setN j n) := h.set _ hj

theorem inc (h : d.Stands k x) {j : Nat} (hj : k ≠ j) : d.Stands k (x.inc j) := h.set _ hj

theorem addTo (h : d.Stands k x) {j : Nat} (w n : Nat) (hj : k ≠ j) : d.Stands k (x.addTo j w n) := h.set _ hj

/-- An event counts in no object below those of the event controller. -/
theorem raiseF (h : d.Stands k x) (c : Ctx) (b : Bool) (ev n : Nat) (hk : k < 0x9200_00) : d.Stands k (x.raiseF c b ev n) :=
  h.trans ⟨x.get_raiseF c b ev n k (by omega) (by omega) (by omega), x.raiseF_rst c b ev n⟩

theorem modPort (h : d.Stands k x) (p : Nat) (f : Port → Port) : d.Stands k (x.modPort p f) := ⟨h.get, h.rst⟩

/-- A change of neither the objects nor the resets. -/
theorem fields (h : d.Stands k x) (ho : y.obj = x.obj) (hr : y.rst = x.rst) : d.Stands k y :=
  h.trans ⟨Dev.get_of_obj ho k, hr⟩

theorem foldl {α : Type} {f : Dev → α → Dev} {r : List α} (h : ∀ (b : Dev), ∀ a ∈ r, b.Stands k (f b a)) (d : Dev) :
    d.Stands k (r.foldl f d) :=
  List.foldlRecOn (motive := d.Stands k) r f (refl k d) fun _ hb a ha => hb.trans (h _ a ha)

end Dev.Stands

/-! ## The inner state of a port -/

theorem Dev.port_of_ports {d x : Dev} (h : x.ports = d.ports) (p : Nat) : x.port p = d.port p := by
  unfold Dev.port
  rw [h]

/-- A change of a port's inner state. -/
theorem Dev.port_modPort {d : Dev} {p : Nat} (f : Port → Port) (h : p < d.ports.length) :
    (d.modPort p f).port p = f (d.port p) := by
  unfold Dev.port Dev.modPort
  dsimp only
  rw [getElem?_modifyAt_self, List.getElem?_eq_getElem h]
  rfl

theorem Dev.port_modPort_ne (d : Dev) {p q : Nat} (f : Port → Port) (h : q ≠ p) : (d.modPort p f).port q = d.port q := by
  unfold Dev.port Dev.modPort
  dsimp only
  rw [getElem?_modifyAt_ne f d.ports h]

/-- What a change of a port leaves of any port, where the port exists or not. -/
theorem Dev.port_modPort_proj {α : Type} (g : Port → α) {f : Port → Port} (hf : ∀ x, g (f x) = g x) (d : Dev) (p q : Nat) :
    g ((d.modPort p f).port q) = g (d.port q) := by
  by_cases hq : q = p
  · subst hq
    by_cases hlen : q < d.ports.length
    · rw [Dev.port_modPort f hlen, hf]
    · unfold Dev.port Dev.modPort
      dsimp only
      rw [List.getElem?_eq_none (by rw [length_modifyAt]; omega), List.getElem?_eq_none (by omega)]
  · rw [Dev.port_modPort_ne d f hq]

/-! ## The end of a command -/

/-- The notices of an entry to SAFE go to the ports that are UP alone (R357). -/
theorem Dev.safeNotices_port (d : Dev) (c : Ctx) (w : Nat) (hw : d.rst.want = []) {p : Nat} (h : d.portSt p ≠ 3) :
    (d.safeNotices c w).port p = d.port p := by
  let P (x : Dev) : Prop := x.obj = d.obj ∧ x.port p = d.port p
  have hn : (d.rst.want.any fun w => decide (w ≤ 8)) = false := by rw [hw]; rfl
  unfold Dev.safeNotices
  simp only [hn, Bool.false_and, Bool.false_eq_true, if_false]
  refine (foldl_pred P _ (fun x q hx => ?_) _ ⟨rfl, rfl⟩).2
  by_cases hq : q = p
  · have hst : x.portSt q ≠ 3 := by
      rw [hq, Dev.portSt, Dev.nat_of_get (Dev.get_of_obj hx.1 _)]
      exact h
    rw [if_pos hst]
    exact hx
  · exact ite_pred P hx ⟨hx.1, (x.port_modPort_ne _ (Ne.symm hq)).trans hx.2⟩

/-- The ports at the end of a command that asks for no reset: with its notices, where it has entered SAFE. -/
theorem Dev.settle_ports (d : Dev) (c : Ctx) (h : d.rst.want = []) :
    (d.settle c).ports = if d.saf.entered then (d.safeNotices c (d.nat 0x9000_03)).ports else d.ports := by
  unfold Dev.settle
  extract_lets n0 f0 d1 d2 d3 d4
  have h1 : d1.ports = (if d.saf.entered then n0.ports else d.ports) ∧ d1.rst = d.rst := by
    have hn : n0.rst = d.rst := d.safeNotices_rst c _
    by_cases he : d.saf.entered = true
    · simp [d1, he, hn]
    · simp [d1, he]
  clear_value d1
  have h2 : d2.ports = d1.ports ∧ d2.rst = d1.rst := by
    obtain ⟨o, p, e⟩ := d1.settleSeats_eta
    obtain ⟨_, _, _, g⟩ := d1.settleSeats.settleAudio_eta c
    have hd2 : d2 = d1.settleSeats.settleAudio c := rfl
    rw [hd2, g, e]
    exact ⟨rfl, rfl⟩
  clear_value d2
  have h3 : d3.ports = d2.ports := by
    have hd3 : d3 = (d2.takeReset c).dispatch c := rfl
    obtain ⟨_, _, e⟩ := d2.dispatch_eta c
    rw [hd3, Dev.takeReset_none d2 c (by rw [h2.2, h1.2, h]), e]
  clear_value d3
  have h4 : d4.ports = d3.ports := by
    refine ite_pred (fun x : Dev => x.ports = d3.ports) ?_ rfl
    obtain ⟨_, _, _, _, e⟩ := d3.sendEvents_eta
    rw [e]
  exact h4.trans (h3.trans (h2.1.trans h1.1))

/-- A command completes with what its effect leaves, where that asks for no reset: the ports too where it has not entered
SAFE, and else those that are not UP. -/
theorem completes_of_ports {i : Instr} {s : State} {dt : Nat} {f : Ctx → Dev → Dev} {e : Dev} {P : State → Prop}
    (hx : exec i s = s.act dt f) (hf : f (s.ctx dt) s.entry = e) (hw : e.rst.want = [])
    (hP : ∀ t : State, e.EndsAs t.dev → (e.saf.entered = false → t.dev.ports = e.ports) →
      (∀ p, e.portSt p ≠ 3 → t.dev.port p = e.port p) → P t) : Completes i s P := by
  subst hf
  obtain ⟨t, ht, he⟩ := s.act_ends dt f hw
  have hports := Dev.settle_ports _ (s.ctx dt) hw
  have hd : t.dev.ports = ((f (s.ctx dt) s.entry).settle (s.ctx dt)).ports := by rw [State.act_dev ht]
  refine ⟨t, hx.trans ht, hP t he (fun hent => ?_) fun p hp => ?_⟩
  · rw [hd, hports, hent]
    rfl
  · cases hent : (f (s.ctx dt) s.entry).saf.entered with
    | false =>
      rw [hent] at hports
      exact Dev.port_of_ports (hd.trans hports) p
    | true =>
      rw [hent] at hports
      exact (Dev.port_of_ports (hd.trans hports) p).trans (Dev.safeNotices_port _ _ _ hw hp)

end Sys2Proof.Machine

/-!
SUPPORT. Block pointers that are bad, and ports that fail (R388, R391): the settling of O45 and O46.
-/
namespace Sys2Proof.Machine

variable {s : State} {dt p : Nat}

/-! ## Block pointers (R387, R388) -/

theorem pointerGood_eq_false {w : Nat} : pointerGood w = false ↔ bits w 0 16 + bits w 16 16 ≠ 65535 := by
  simp [pointerGood]

/-- A pointer whose halves are no complements is counted, and is all the command does. -/
theorem Dev.inc_of_badPointer {b : List Nat} (hp : p < s.portCount) (ht : s.dev.takes p = true)
    (hb : s.dev.rxBlock p = some b) (hbad : pointerGood (nthN b 0) = false) :
    ∃ f, exec (.blockPointer dt p) s = s.act dt f ∧ f (s.ctx dt) s.entry = s.entry.inc (linkK p 0x01) := by
  have hx : exec (.blockPointer dt p) s = execBlockPointer dt p s := rfl
  have ht' : s.entry.takes p = true := ht
  have hb' : s.entry.rxBlock p = some b := hb
  refine ⟨_, hx.trans (State.actOn_act (decide_eq_true hp)), ?_⟩
  simp only [hb', ht', hbad, Bool.not_true, Bool.false_eq_true, if_false]

theorem State.lt_of_portCount (h : p < s.portCount) : p < 32 := by
  unfold State.portCount State.count at h
  split at h <;> omega

theorem partOfKey_linkK {sub : Nat} (hp : p < 256) (hs : sub < 256) : partOfKey (linkK p sub) = some .links :=
  partOfKey_key 0x34 p sub hp hs (by decide) (by decide) (by decide) (by decide)

theorem partOfKey_portK {sub : Nat} (hp : p < 256) (hs : sub < 256) : partOfKey (portK p sub) = some .lanes :=
  partOfKey_key 0x30 p sub hp hs (by decide) (by decide) (by decide) (by decide)

theorem blockPointer_counts {b : List Nat} (hq : Quiet s) (hp : p < s.portCount) (ht : s.dev.takes p = true)
    (hsafe : s.dev.saf.entered = false) (hb : s.dev.rxBlock p = some b) (hbad : pointerGood (nthN b 0) = false) :
    Completes (.blockPointer dt p) s fun t => t.dev.nat (linkK p 0x01) = (s.dev.nat (linkK p 0x01) + 1) % 2 ^ 32 ∧
      t.dev.ports = s.dev.ports := by
  obtain ⟨f, hx, hf⟩ := Dev.inc_of_badPointer (dt := dt) hp ht hb hbad
  have hp32 := State.lt_of_portCount hp
  refine completes_of_ports hx hf (by rw [Dev.inc_rst]; exact hq.1) fun t he hports _ => ⟨?_, ?_⟩
  · rw [he.nat (by rw [partOfKey_linkK (by omega) (by decide)]; decide)]
    exact Dev.nat_inc_same _ _
  · rw [hports (by rw [Dev.inc_saf]; exact hsafe), Dev.inc_ports]
    rfl

/-- Settles O46. -/
theorem badBlockPointersAreCounted : Obligations.Bad_block_pointers_are_counted := by
  unfold Obligations.Bad_block_pointers_are_counted
  exact fun s dt p b hq hp ht hsafe hb hbad => blockPointer_counts hq hp ht hsafe hb (pointerGood_eq_false.mpr hbad)

/-! ## What a port holds -/

/-- How many packets are queued and unacknowledged on a port (R391). -/
def Port.held (x : Port) : Nat :=
  x.safe.length + x.iso.length + x.mgmt.length + (x.flows.map List.length).sum + x.vc1.unack.length + x.vc2.unack.length

/-- The queues of a port and its unacknowledged packets are empty. -/
def Port.Emptied (x : Port) : Prop :=
  x.safe = [] ∧ x.iso = [] ∧ x.mgmt = [] ∧ (∀ f ∈ x.flows, f = []) ∧ x.vc1.unack = [] ∧ x.vc2.unack = []

/-! ## Discarding (R385, R391) -/

variable {d : Dev} {k : Nat}

/-- A destination that loses packets leaves the objects below those of the streams. -/
theorem Dev.dropDest_stands (d : Dev) (c : Ctx) (q p n : Nat) (hk : k < 0x7200_00) : d.Stands k (d.dropDest c q p n) := by
  have hne (sub : Nat) : k ≠ key 0x7200 q sub := by
    unfold key
    omega
  exact (((((Stands.refl k d).set _ (hne 0x17)).set _ (hne 0x0B)).set _ (hne 0x0C)).set _ (hne 0x0D)).raiseF c _ _ _
    (by omega)

theorem Dev.dropDest_ports (d : Dev) (c : Ctx) (q p n : Nat) : (d.dropDest c q p n).ports = d.ports := by
  simp [Dev.dropDest]

theorem Dev.flushPort_stands (d : Dev) (c : Ctx) (p : Nat) (hk : k < 0x7200_00) (hne : k ≠ linkK p 0x0A) :
    d.Stands k (d.flushPort c p) := by
  unfold Dev.flushPort
  exact (((Stands.refl k d).addTo _ _ hne).modPort p _).trans (.foldl (fun b q _ => b.dropDest_stands c q p 0 hk) _)

/-- A port that is flushed has nothing left. -/
theorem Dev.flushPort_empties (c : Ctx) (h : p < d.ports.length) : ((d.flushPort c p).port p).Emptied := by
  unfold Dev.flushPort
  extract_lets x n hit d1
  have hx : (d1.port p).Emptied := by
    rw [Dev.port_modPort _ (by rwa [Dev.addTo_ports])]
    exact ⟨rfl, rfl, rfl, fun f hf => (List.mem_replicate.mp hf).2, rfl, rfl⟩
  exact foldl_pred (fun y : Dev => (y.port p).Emptied) _
    (fun b q hb => by rw [Dev.port_of_ports (b.dropDest_ports c q p 0)]; exact hb) hit hx

theorem linkK_lt {sub : Nat} (hp : p < 32) (hs : sub < 256) : linkK p sub < 0x7200_00 := by
  unfold linkK key
  omega

theorem portK_lt {sub : Nat} (hp : p < 32) (hs : sub < 256) : portK p sub < 0x3020_00 := by
  unfold portK key
  omega

/-- What a flushed port held is counted in .0A. -/
theorem Dev.flushPort_counts (d : Dev) (c : Ctx) (hp : p < 32) :
    (d.flushPort c p).nat (linkK p 0x0A) = (d.nat (linkK p 0x0A) + (d.port p).held) % 2 ^ 32 := by
  unfold Dev.flushPort
  extract_lets x n hit d1
  have h1 : d1.nat (linkK p 0x0A) = (d.nat (linkK p 0x0A) + (d.port p).held) % 2 ^ 32 := d.nat_setN_same _ _
  rw [← h1]
  exact (Stands.foldl (fun b q _ => b.dropDest_stands c q p 0 (linkK_lt hp (by decide))) d1).nat

/-! ## Into FAILED (R330, R391) -/

/-- Lanes out of marker lock: their lock and their logical lane alone are written. -/
theorem Dev.lanesReset_stands (d : Dev) (p : Nat) (hb : k % 256 ≠ 0x0B) (hc : k % 256 ≠ 0x0C) : d.Stands k (d.lanesReset p) := by
  have hne {l sub : Nat} (hs : sub < 256) (h : k % 256 ≠ sub) : k ≠ laneK l sub := by
    rintro rfl
    exact h (key_mod _ _ _ hs)
  have hlane (b : Dev) (l : Nat) : b.Stands k (b.laneReset l) := by
    have h0 : b.Stands k (b.modLane l fun x => { tx := x.tx }) := ⟨rfl, rfl⟩
    exact (h0.setN _ (hne (by decide) hb)).setN _ (hne (by decide) hc)
  exact (Stands.foldl (fun b l _ => hlane b l) d).modPort p _

theorem Dev.laneResets_ports (d : Dev) (r : List Nat) : (r.foldl Dev.laneReset d).ports = d.ports := by
  refine foldl_pred (fun x : Dev => x.ports = d.ports) _ (fun x l hx => ?_) r rfl
  simp only [Dev.laneReset, Dev.setN_ports]
  exact hx

theorem Dev.lanesReset_held (d : Dev) (p : Nat) : ((d.lanesReset p).port p).held = (d.port p).held := by
  unfold Dev.lanesReset
  rw [Dev.port_modPort_proj Port.held, Dev.port_of_ports (d.laneResets_ports (d.portLanes p))]
  exact fun _ => rfl

theorem Dev.lanesReset_length (d : Dev) (p : Nat) : (d.lanesReset p).ports.length = d.ports.length := by
  unfold Dev.lanesReset Dev.modPort
  dsimp only
  rw [length_modifyAt, d.laneResets_ports (d.portLanes p)]

theorem Dev.abortScan_stands (d : Dev) (p reason : Nat) (h7 : k ≠ 0x3200_07) (hb : k ≠ 0x3200_0B) :
    d.Stands k (d.abortScan p reason) := by
  unfold Dev.abortScan
  cases d.scan with
  | none => exact .refl k d
  | some x => exact ite_pred (d.Stands k) ((((Stands.refl k d).set _ h7).set _ hb).fields rfl rfl) (.refl k d)

theorem Dev.abortScan_ports (d : Dev) (p reason : Nat) : (d.abortScan p reason).ports = d.ports := by
  unfold Dev.abortScan
  cases d.scan with
  | none => rfl
  | some x => exact ite_pred (fun y : Dev => y.ports = d.ports) (by simp) rfl

theorem Dev.txStop_held (d : Dev) (p : Nat) : ((d.txStop p).port p).held = (d.port p).held := by
  unfold Dev.txStop
  rw [Dev.port_modPort_proj Port.held]
  exact fun _ => rfl

theorem Dev.txStop_length (d : Dev) (p : Nat) : (d.txStop p).ports.length = d.ports.length := by
  unfold Dev.txStop Dev.modPort
  dsimp only
  rw [length_modifyAt]

/-- What the entry to FAILED of a port that is not UP has done before the port is flushed. -/
def Dev.failing (d : Dev) (p reason : Nat) : Dev :=
  ((((d.abortScan p 3).inc (portK p 0x0A)).setN (portK p 0x10) reason).setPort p 7).lanesReset p

/-- The entry to FAILED of a port that is not UP, the flush between what comes before and after it. -/
theorem Dev.failPort_eq {d : Dev} {p : Nat} (c : Ctx) (reason : Nat) (hst : d.portSt p ≠ 3) : ∃ quiet : Option Nat,
    d.failPort c p reason = ((((d.failing p reason).txStop p).flushPort c p).modPort p fun x => { x with quietT := quiet }).raise
      c 66 (p + 256 + reason * 65536) := by
  have hstay : d.leaveUp p = d := if_neg hst
  unfold Dev.failPort
  rw [hstay]
  exact ⟨_, rfl⟩

theorem Dev.failing_stands (d : Dev) (reason : Nat) (hp : p < 32) : d.Stands (linkK p 0x0A) (d.failing p reason) := by
  have hne {sub : Nat} (hs : sub < 256) : linkK p 0x0A ≠ portK p sub := by
    unfold linkK portK key
    omega
  have hscan (sub : Nat) (hs : sub < 256) : linkK p 0x0A ≠ 0x3200_00 + sub := by
    unfold linkK key
    omega
  have hmod : linkK p 0x0A % 256 = 0x0A := key_mod _ _ _ (by decide)
  unfold Dev.failing Dev.setPort
  exact ((((Dev.abortScan_stands d p 3 (hscan 0x07 (by decide)) (hscan 0x0B (by decide))).inc (hne (by decide))).setN reason
    (hne (by decide))).setN 7 (hne (by decide))).trans (Dev.lanesReset_stands _ p (by omega) (by omega))

theorem Dev.failing_portSt (d : Dev) (p reason : Nat) : (d.failing p reason).portSt p = 7 := by
  have hmod : portK p 0x07 % 256 = 0x07 := key_mod _ _ _ (by decide)
  unfold Dev.failing Dev.portSt
  rw [(Dev.lanesReset_stands _ p (by omega) (by omega)).nat, Dev.setPort, Dev.nat_setN_same]

theorem Dev.failing_ports_before (d : Dev) (p reason : Nat) :
    ((((d.abortScan p 3).inc (portK p 0x0A)).setN (portK p 0x10) reason).setPort p 7).ports = d.ports := by
  simp only [Dev.setPort, Dev.setN_ports, Dev.inc_ports]
  exact d.abortScan_ports p 3

theorem Dev.failing_held (d : Dev) (p reason : Nat) : ((d.failing p reason).port p).held = (d.port p).held := by
  unfold Dev.failing
  rw [Dev.lanesReset_held, Dev.port_of_ports (d.failing_ports_before p reason)]

theorem Dev.failing_length (d : Dev) (p reason : Nat) : (d.failing p reason).ports.length = d.ports.length := by
  unfold Dev.failing
  rw [Dev.lanesReset_length, d.failing_ports_before p reason]

/-- A port that enters FAILED is in FAILED, empty, and what it held is counted. -/
structure Dev.FailedOf (d : Dev) (p : Nat) (x : Dev) : Prop where
  rst : x.rst = d.rst
  st : x.portSt p = 7
  emptied : (x.port p).Emptied
  counted : x.nat (linkK p 0x0A) = (d.nat (linkK p 0x0A) + (d.port p).held) % 2 ^ 32

/-- Flushing a port that is in FAILED empties it and counts what it held. -/
theorem Dev.FailedOf.flushed (c : Ctx) (hp : p < 32) (hlen : p < d.ports.length) (hst : d.portSt p = 7) :
    d.FailedOf p (d.flushPort c p) := by
  have hk := portK_lt (p := p) (sub := 0x07) hp (by decide)
  have hflush := d.flushPort_stands c p (k := portK p 0x07) (by omega) (by unfold linkK portK key; omega)
  exact ⟨hflush.rst, hflush.nat.trans hst, Dev.flushPort_empties c hlen, d.flushPort_counts c hp⟩

/-- The quiet time and the event after a flush (R330). -/
theorem Dev.FailedOf.raised {x : Dev} (h : d.FailedOf p x) (hp : p < 32) (c : Ctx) (quiet : Option Nat) (n : Nat) :
    d.FailedOf p ((x.modPort p fun y => { y with quietT := quiet }).raise c 66 n) := by
  have hk := portK_lt (p := p) (sub := 0x07) hp (by decide)
  have hl := linkK_lt (p := p) (sub := 0x0A) hp (by decide)
  have hlast {k : Nat} (hk : k < 0x9200_00) : x.Stands k ((x.modPort p fun y => { y with quietT := quiet }).raise c 66 n) :=
    ((Stands.refl k x).modPort p _).raiseF c _ _ _ hk
  refine ⟨(hlast (k := 0) (by decide)).rst.trans h.rst, (hlast (by omega)).nat.trans h.st, ?_, ?_⟩
  · rw [Dev.port_of_ports (Dev.raise_ports ..), Dev.port_modPort_proj Port.Emptied]
    · exact h.emptied
    · exact fun _ => rfl
  · exact (hlast (by omega)).nat.trans h.counted

theorem Dev.failPort_failed (c : Ctx) (reason : Nat) (hp : p < 32) (hlen : p < d.ports.length) (hst : d.portSt p ≠ 3) :
    d.FailedOf p (d.failPort c p reason) := by
  obtain ⟨quiet, hfail⟩ := Dev.failPort_eq c reason hst
  have hstop (k : Nat) : (d.failing p reason).Stands k ((d.failing p reason).txStop p) := (Stands.refl k _).modPort p _
  have hflush := Dev.FailedOf.flushed (d := (d.failing p reason).txStop p) c hp
    (by rwa [Dev.txStop_length, Dev.failing_length]) ((hstop _).nat.trans (d.failing_portSt p reason))
  have hcount := (d.failing_stands reason hp).trans (hstop _)
  have hheld : (((d.failing p reason).txStop p).port p).held = (d.port p).held := by
    rw [Dev.txStop_held, Dev.failing_held]
  rw [hfail]
  exact Dev.FailedOf.raised
    ⟨hflush.rst.trans hcount.rst, hflush.st, hflush.emptied, by rw [hflush.counted, hcount.nat, hheld]⟩ hp c quiet _

/-! ## The commands -/

/-- An event that fails a port which is not UP completes with the port in FAILED, empty, and what it held counted. -/
theorem completes_of_failPort {i : Instr} {f : Ctx → Dev → Dev} {reason : Nat} (hq : Quiet s)
    (hx : exec i s = s.actOn (decide (p < s.portCount)) dt f) (hp : p < s.portCount) (hlen : p < s.dev.ports.length)
    (hst : s.dev.portSt p ≠ 3) (hf : f (s.ctx dt) s.entry = s.entry.failPort (s.ctx dt) p reason) :
    Completes i s fun t => t.dev.portSt p = 7 ∧ (t.dev.port p).Emptied ∧
      t.dev.nat (linkK p 0x0A) = (s.dev.nat (linkK p 0x0A) + (s.dev.port p).held) % 2 ^ 32 := by
  have hp32 := State.lt_of_portCount hp
  have hfail : s.entry.FailedOf p (s.entry.failPort (s.ctx dt) p reason) := Dev.failPort_failed _ reason hp32 hlen hst
  refine completes_of_ports (hx.trans (State.actOn_act (decide_eq_true hp))) hf ((congrArg Rst.want hfail.rst).trans hq.1)
    fun t he _ hport => ⟨?_, ?_, ?_⟩
  · exact (he.nat (by rw [partOfKey_portK (by omega) (by decide)]; decide)).trans hfail.st
  · rw [hport p (by rw [hfail.st]; decide)]
    exact hfail.emptied
  · exact (he.nat (by rw [partOfKey_linkK (by omega) (by decide)]; decide)).trans hfail.counted

/-- Settles O45: of RETRAIN_TIMEOUT and of TRAINING_ATTEMPT_TIMEOUT at the second attempt. That a waking fails the same way
is the model's choice (log entry 126), and so is the reason it gives (log entry 39). -/
theorem failingPortsDiscardTheirPackets : Obligations.Failing_ports_discard_their_packets := by
  unfold Obligations.Failing_ports_discard_their_packets
  refine ⟨fun s dt p hq hp hlen hst hdue => ?_, fun s dt p hq hp hlen hst hatt hdue => ?_⟩
  · have hf : (if (s.entry.portSt p = 4 || s.entry.portSt p = 6) && decide ((s.entry.port p).begT + 800000 ≤ (s.ctx dt).t)
        then s.entry.failPort (s.ctx dt) p 1 else s.entry) = s.entry.failPort (s.ctx dt) p 1 := by
      refine if_pos ?_
      simp only [Bool.and_eq_true, Bool.or_eq_true, decide_eq_true_eq]
      exact ⟨hst, hdue⟩
    have hne : s.dev.portSt p ≠ 3 := by omega
    obtain ⟨t, ht, h7, ⟨hsafe, hiso, hmgmt, hflows, h1, h2⟩, hn⟩ :=
      completes_of_failPort hq (show exec (.retrainTimeout dt p) s = execRetrainTimeout dt p s from rfl) hp hlen hne hf
    exact ⟨t, ht, h7, hsafe, hiso, hmgmt, hflows, h1, h2, hn⟩
  · have hf : (if s.entry.portSt p = 2 && decide ((s.entry.port p).begT + 20000000 ≤ (s.ctx dt).t)
        then s.entry.failAttempt (s.ctx dt) p 1 else s.entry) = s.entry.failPort (s.ctx dt) p 1 := by
      refine (if_pos ?_).trans (if_neg hatt)
      simp only [Bool.and_eq_true, decide_eq_true_eq]
      exact ⟨hst, hdue⟩
    have hne : s.dev.portSt p ≠ 3 := by omega
    obtain ⟨t, ht, h7, ⟨hsafe, hiso, hmgmt, hflows, h1, h2⟩, hn⟩ :=
      completes_of_failPort hq (show exec (.trainingAttemptTimeout dt p) s = execTrainingAttemptTimeout dt p s from rfl) hp
        hlen hne hf
    exact ⟨t, ht, h7, hsafe, hiso, hmgmt, hflows, h1, h2, hn⟩

end Sys2Proof.Machine

/-!
SUPPORT. A state in which a FLOW does not leave the partner epoch it carries, and the settling of O5.
-/
namespace Sys2Proof.Machine

/-! ## The partner epoch of a port whose lane is none of the device's -/

/-- A port 4 that is UP on one lane, numbered 772 (0x3004.03), where the device has lanes 0 to 47 (R271). The key of that
lane's logical lane, 0x3100 + 772 with sub-index 0x0C, is the key of port 4's partner epoch, 0x3404.0C. On MGMT one packet
is unacknowledged that has been sent again already. (The list of 773 lanes is why the evaluations below go deep.) -/
def strayLane : State where
  dev :=
    { obj := [(portK 4 0x03, .num 772), (portK 4 0x04, .num 1), (portK 4 0x07, .num 3)]
      lanes := List.replicate 773 { pm := true }
      ports := List.replicate 5 { vc1 := { next := 1, unack := [⟨0, true, true, false, ⟨6, 1, 0, [], 0⟩, 0⟩] } } }

/-- A FLOW of partner epoch 0 that asks for MGMT's packet 0 again. -/
def nakFlow : Pkt := sealed 1 0 0 1 0 (zeros 8 ++ le 2 0x8000 ++ zeros 6)

set_option maxRecDepth 8000 in
/-- The retry has failed for good, and the retrain takes the port's lanes out of marker lock (R295, R369, R390): 0xFF is
written over the partner epoch. -/
theorem exec_strayLane : ∃ t, exec (.flow 0 4 nakFlow) strayLane = .next t ∧ t.dev.nat (linkK 4 0x0C) = 0xFF := by
  obtain ⟨f, hx, hw, hg⟩ : ∃ f, exec (.flow 0 4 nakFlow) strayLane = strayLane.act 0 f ∧
      (f (strayLane.ctx 0) strayLane.entry).rst.want = [] ∧
      (f (strayLane.ctx 0) strayLane.entry).nat (linkK 4 0x0C) = 0xFF := by
    have hx : exec (.flow 0 4 nakFlow) strayLane = execFlow 0 4 nakFlow strayLane := rfl
    refine ⟨_, hx.trans (State.actOn_act (by decide)), ?_, ?_⟩
    · rfl
    · rfl
  obtain ⟨t, ht, hend⟩ := strayLane.act_ends 0 f hw
  exact ⟨t, hx.trans ht, (hend.nat (by decide)).trans hg⟩

set_option maxRecDepth 8000 in
/-- Refutes O5: its FLOW clause does not ask that the port's lanes are lanes of the device, and on `strayLane` a FLOW of
partner epoch 0 leaves 0xFF in 0x3404.0C. -/
theorem not_linkCommandsComplete : ¬ Obligations.Link_commands_complete := by
  unfold Obligations.Link_commands_complete
  rintro ⟨-, -, -, -, hflow, -⟩
  obtain ⟨t, ht, hff⟩ := exec_strayLane
  obtain ⟨u, hu, hepoch⟩ := hflow strayLane 0 4 nakFlow ⟨rfl, rfl, rfl⟩ (by decide) (by decide) (by decide) rfl
    (by decide) (by decide)
  obtain rfl : t = u := Host.Outcome.next.inj (ht.symm.trans hu)
  rw [hff] at hepoch
  exact absurd hepoch (by decide)

end Sys2Proof.Machine

/-!
SUPPORT. Capture: a received packet, the frames of a channel, and its folios, as the capture commands leave them (ch 6, ch 7).
-/
namespace Sys2Proof.Machine

variable {d x : Dev} {p : Nat}

/-! ## Keys -/

theorem partOfKey_chanK {n sub : Nat} (hn : n < 256) (hs : sub < 256) : partOfKey (chanK n sub) = some .capture :=
  partOfKey_key 0x40 n sub hn hs (by decide) (by decide) (by decide) (by decide)

theorem chanK_inj {n a b : Nat} : chanK n a = chanK n b ↔ a = b := by
  unfold chanK key
  omega

theorem chanK_lt {n sub : Nat} (hn : n < 24) (hs : sub < 256) : chanK n sub < 0x8000_01 := by
  unfold chanK key
  omega

/-- The objects of the capture read alike. -/
theorem Same.chanNat {n sub : Nat} (h : Same .capture d x) (hn : n < 24) (hs : sub < 256) :
    x.nat (chanK n sub) = d.nat (chanK n sub) := Same.nat h (partOfKey_chanK (by omega) hs)

theorem Same.chan {n : Nat} (h : Same .capture d x) : x.chan n = d.chan n := by
  have hc : d.chans = x.chans := h.1
  unfold Dev.chan
  rw [hc]

theorem Dev.Leaves.modPort (h : d.Leaves [.links] x) (p : Nat) (f : Port → Port) : d.Leaves [.links] (x.modPort p f) :=
  h.trans ⟨.ports x _ (by decide), rfl⟩

/-! ## A received packet (R354, R358, R361, R372) -/

/-- From `d` to `x` what receiving a packet on port `p` leaves: all but the link layer, and the folio last delivered. -/
structure Dev.Received (p : Nat) (d x : Dev) : Prop where
  leaves : d.Leaves [.links] x
  folioRx : (x.port p).folioRx = (d.port p).folioRx

namespace Dev.Received

theorem refl (p : Nat) (d : Dev) : d.Received p d := ⟨.refl _ d, rfl⟩

theorem trans {y : Dev} (h : d.Received p x) (g : x.Received p y) : d.Received p y :=
  ⟨h.leaves.trans g.leaves, g.folioRx.trans h.folioRx⟩

theorem setLinkK (h : d.Received p x) (hp : p < 32) (v : Val) {sub : Nat} (hs : sub < 256 := by decide) :
    d.Received p (x.set (linkK p sub) v) :=
  ⟨h.leaves.trans ⟨.set_of_part x _ v (partOfKey_linkK (by omega) hs) (by decide), x.set_rst _ v⟩,
    (congrArg Port.folioRx (Dev.port_of_ports (x.set_ports _ v) p)).trans h.folioRx⟩

theorem modPort (h : d.Received p x) {f : Port → Port} (hf : ∀ y, (f y).folioRx = y.folioRx) :
    d.Received p (x.modPort p f) :=
  ⟨h.leaves.modPort p f, (Dev.port_modPort_proj Port.folioRx hf x p p).trans h.folioRx⟩

theorem took (h : d.Received p x) (vc : Nat) : d.Received p (x.took p vc) := h.modPort fun _ => rfl

theorem setRetry (h : d.Received p x) (vc : Nat) (r : Retry) : d.Received p (x.modPort p fun y => y.setRetry vc r) :=
  h.modPort fun y => ite_pred (fun z : Port => z.folioRx = y.folioRx) rfl rfl

theorem needFlow (h : d.Received p x) : d.Received p (x.needFlow p) :=
  h.modPort fun y => ite_pred (fun z : Port => z.folioRx = y.folioRx) rfl rfl

end Dev.Received

theorem Dev.rxRetried_received (d : Dev) (hp : p < 32) (vc : Nat) (sound : Bool) (k : Pkt) :
    d.Received p (d.rxRetried p vc sound k).1 := by
  have h0 := Received.refl p d
  unfold Dev.rxRetried
  refine ite_pred (fun r : Dev × Bool => d.Received p r.1) ((h0.setRetry vc _).took vc) ?_
  refine ite_pred (fun r : Dev × Bool => d.Received p r.1) h0 ?_
  exact ite_pred (fun r : Dev × Bool => d.Received p r.1) h0.needFlow (((h0.setRetry vc _).setLinkK hp _ (sub := 0x03)).needFlow)

theorem Dev.rxPlain_received (d : Dev) (hp : p < 32) (vc : Nat) (sound : Bool) (k : Pkt) :
    d.Received p (d.rxPlain p vc sound k).1 := by
  have h0 := Received.refl p d
  unfold Dev.rxPlain
  refine ((ite_pred (d.Received p) (h0.setLinkK hp _ (sub := 0x03)) h0).modPort ?_).took vc
  exact fun y => ite_pred (fun z : Port => z.folioRx = y.folioRx) rfl rfl

theorem Dev.rxPacket_received (d : Dev) (hp : p < 32) (ty vc : Nat) (k : Pkt) : d.Received p (d.rxPacket p ty vc k).1 := by
  let P (r : Dev × Bool) : Prop := d.Received p r.1
  have h0 := Received.refl p d
  unfold Dev.rxPacket
  extract_lets sound d1 d2 d3 r
  have h1 : d.Received p d1 := h0.modPort fun _ => rfl
  have h2 : d.Received p d2 := ite_pred (d.Received p) h1 (h1.setLinkK hp _)
  have h3 : d.Received p d3 := ite_pred (d.Received p) h2 (h2.setLinkK hp _)
  have hr : P r := ite_pred P h3 (ite_pred P (h3.trans (d3.rxRetried_received hp vc sound k))
    (h3.trans (d3.rxPlain_received hp vc sound k)))
  exact ite_pred P h0 (ite_pred P hr (ite_pred P hr (Received.setLinkK hr hp _)))

/-! ## The channel bound to a port (R394) -/

theorem lt_of_mem_chansOf {c : Ctx} {n : Nat} (h : n ∈ chansOf c) : n < 24 := by
  unfold chansOf at h
  have hn := List.mem_range.mp h
  split at hn <;> omega

theorem Dev.lt_of_boundChan {c : Ctx} {ch : Nat} (h : d.boundChan c p = some ch) : ch < 24 :=
  lt_of_mem_chansOf (List.mem_of_find?_eq_some h)

/-- The binding lies in the objects of the capture. -/
theorem Same.boundChan (h : Same .capture d x) (c : Ctx) (p : Nat) : x.boundChan c p = d.boundChan c p := by
  unfold Dev.boundChan
  refine List.find?_congr fun n hn => ?_
  have hn := lt_of_mem_chansOf hn
  have hst : x.chanSt n = d.chanSt n := h.chanNat hn (by decide)
  rw [Dev.chanOnline, Dev.chanOnline, hst, h.chanNat hn (by decide)]

/-! ## The inner state of a channel -/

theorem Dev.chan_modChan {n : Nat} (f : Chan → Chan) (h : n < d.chans.length) : (d.modChan n f).chan n = f (d.chan n) := by
  unfold Dev.chan Dev.modChan
  dsimp only
  rw [getElem?_modifyAt_self, List.getElem?_eq_getElem h]
  rfl

theorem Dev.chan_of_chans {n : Nat} (h : x.chans = d.chans) : x.chan n = d.chan n := by
  unfold Dev.chan
  rw [h]

/-- A channel that writes a frame is one the device has. -/
theorem Dev.lt_of_writing {n i : Nat} (h : (d.chan n).writing = some i) : n < d.chans.length := by
  by_contra hn
  rw [Dev.chan, List.getElem?_eq_none (by omega)] at h
  exact nomatch h

/-! ## What the steps of a channel write (R397 to R433) -/

namespace Dev.Stands

variable {k : Nat}

theorem setI (h : d.Stands k x) {j : Nat} (n : Int) (hj : k ≠ j) : d.Stands k (x.setI j n) := h.set _ hj

theorem modChan (h : d.Stands k x) (n : Nat) (f : Chan → Chan) : d.Stands k (x.modChan n f) := ⟨h.get, h.rst⟩

end Dev.Stands

section
variable {ch sub : Nat}

theorem Dev.setChanFlag_stands (d : Dev) (i : Nat) (b : Bool) (h : sub ≠ 0x0D) :
    d.Stands (chanK ch sub) (d.setChanFlag ch i b) := (Stands.refl _ d).setN _ (chanK_inj.not.mpr h)

theorem Dev.unlockChan_stands (d : Dev) (keep : List Int) (hD : sub ≠ 0x0D) (h17 : sub ≠ 0x17) :
    d.Stands (chanK ch sub) (d.unlockChan ch keep) :=
  (((Stands.refl _ d).modChan ch _).trans (Dev.setChanFlag_stands _ 2 false hD)).setI 0 (chanK_inj.not.mpr h17)

theorem Dev.abandon_stands (d : Dev) (h : sub ≠ 0x19) : d.Stands (chanK ch sub) (d.abandon ch) := by
  unfold Dev.abandon
  cases (d.chan ch).writing with
  | none => exact .refl _ d
  | some i => exact ((Stands.refl _ d).modChan ch _).inc (chanK_inj.not.mpr h)

/-- A channel whose input is lost: its frame abandoned, its lock dropped, its state that of a lost channel. -/
def Dev.loseChan (d : Dev) (ch : Nat) : Dev :=
  (((d.abandon ch).unlockChan ch []).setN (chanK ch 0x0C) 3).modChan ch fun x => { x with lost := true, bufFolio := none }

theorem Dev.loseChan_stands (d : Dev) (hC : sub ≠ 0x0C) (hD : sub ≠ 0x0D) (h17 : sub ≠ 0x17) (h19 : sub ≠ 0x19) :
    d.Stands (chanK ch sub) (d.loseChan ch) := by
  unfold Dev.loseChan
  exact (((d.abandon_stands h19).trans (Dev.unlockChan_stands _ [] hD h17)).setN 3 (chanK_inj.not.mpr hC)).modChan ch _

theorem Dev.loseChan_chanSt (d : Dev) : (d.loseChan ch).chanSt ch = 3 := by
  have h (e : Dev) : (e.setN (chanK ch 0x0C) 3).nat (chanK ch 0x0C) = 3 := e.nat_setN_same _ _
  exact h _

theorem Dev.noteSource_stands (d : Dev) (k : Nat) (c : Ctx) (ch : Nat) : d.Stands k (d.noteSource c ch) :=
  (Stands.refl k d).modChan ch _

theorem Dev.lockStep_stands (d : Dev) (c : Ctx) (f : Folio) (steady : Bool) (hD : sub ≠ 0x0D) (h17 : sub ≠ 0x17) :
    d.Stands (chanK ch sub) (d.lockStep c ch f steady) := by
  have h0 := Stands.refl (chanK ch sub) d
  unfold Dev.lockStep
  refine ite_pred (d.Stands _) (ite_pred (d.Stands _) (d.unlockChan_stands _ hD h17) h0) ?_
  refine ite_pred (d.Stands _) ?_ (h0.modChan ch _)
  exact (((h0.modChan ch _).modChan ch _).trans (Dev.setChanFlag_stands _ 2 true hD)).setI _ (chanK_inj.not.mpr h17)

variable (hch : ch < 24) (hsub : sub < 256)
include hch hsub

/-- An event counts in no object of a channel. -/
theorem Dev.Stands.raiseChan (h : d.Stands (chanK ch sub) x) (c : Ctx) (b : Bool) (ev n : Nat) :
    d.Stands (chanK ch sub) (x.raiseF c b ev n) :=
  h.raiseF c b ev n (lt_trans (chanK_lt hch hsub) (by decide))

theorem Dev.judgeSource_stands (d : Dev) (c : Ctx) (f : Folio) (hD : sub ≠ 0x0D) :
    d.Stands (chanK ch sub) (d.judgeSource c ch f).1 := by
  unfold Dev.judgeSource
  exact ite_pred (d.Stands _) (.refl _ d) (Stands.raiseChan hch hsub (d.setChanFlag_stands 1 _ hD) c _ 48 ch)

theorem Dev.judgeFreeze_stands (d : Dev) (c : Ctx) (f : Folio) (before : Option Folio) (hD : sub ≠ 0x0D)
    (h1E : sub ≠ 0x1E) : d.Stands (chanK ch sub) (d.judgeFreeze c ch f before) := by
  unfold Dev.judgeFreeze
  extract_lets d1 same d2 d3
  have h1 : d.Stands (chanK ch sub) d1 := d.setChanFlag_stands 3 false hD
  have h2 : d.Stands (chanK ch sub) d2 := h1.modChan ch _
  have h3 : d.Stands (chanK ch sub) d3 := h1.modChan ch _
  refine ite_pred (d.Stands _) (d.setChanFlag_stands 3 true hD) (ite_pred (d.Stands _) (ite_pred (d.Stands _) ?_ h2)
    (ite_pred (d.Stands _) ?_ h3))
  · exact Stands.raiseChan hch hsub ((h2.trans (d2.setChanFlag_stands 0 true hD)).inc (chanK_inj.not.mpr h1E)) c _ 49 ch
  · exact Stands.raiseChan hch hsub (h3.trans (d3.setChanFlag_stands 0 false hD)) c _ 49 ch

theorem Dev.openFrame_stands (d : Dev) (c : Ctx) (f : Folio) (hD : sub ≠ 0x0D) (h1A : sub ≠ 0x1A) :
    d.Stands (chanK ch sub) (d.openFrame c ch f) := by
  unfold Dev.openFrame
  extract_lets d1 d2
  have h1 : d.Stands (chanK ch sub) d1 := (Stands.refl _ d).modChan ch _
  have h2 : d.Stands (chanK ch sub) d2 := h1.inc (chanK_inj.not.mpr h1A)
  cases d1.chooseSlot ch with
  | none =>
    exact ite_pred (d.Stands _) h2 (Stands.raiseChan hch hsub (h2.trans (d2.setChanFlag_stands 4 true hD)) c _ 50 ch)
  | some i => exact (h1.modChan ch _).trans (Dev.setChanFlag_stands _ 4 false hD)

end

/-! ## The edges a folio gives the genlock (R188 to R217) -/

section
variable (d : Dev) (c : Ctx) (r : Nat)

@[simp] theorem Dev.setRefSt_rst (st : Nat) : (d.setRefSt r st).rst = d.rst := Dev.setN_rst ..

@[simp] theorem Dev.setDpll_rst (st : Nat) : (d.setDpll st).rst = d.rst := Dev.setN_rst ..

@[simp] theorem Dev.modRef_rst (f : Ref → Ref) : (d.modRef r f).rst = d.rst := rfl

@[simp] theorem Dev.startCheck_rst : (d.startCheck c r).rst = d.rst := Dev.setRefSt_rst ..

@[simp] theorem Dev.freeRun_rst : (d.freeRun c).rst = d.rst := by
  unfold Dev.freeRun
  exact ite_pred (fun x : Dev => x.rst = d.rst) (by simp) (by simp)

@[simp] theorem Dev.evalSelection_rst : (d.evalSelection c).rst = d.rst := by
  let P (x : Dev) : Prop := x.rst = d.rst
  unfold Dev.evalSelection
  refine ite_pred P (Dev.setN_rst ..) ?_
  cases d.choose with
  | some r => exact ite_pred P rfl (Dev.setN_rst ..)
  | none =>
    refine ite_pred P rfl (ite_pred P (ite_pred P ?_ ?_) (Dev.setN_rst ..))
    · simp [P]
    · simp [P]

@[simp] theorem Dev.loseRef_rst (st : Nat) : (d.loseRef c r st).rst = d.rst := by
  let P (x : Dev) : Prop := x.rst = d.rst
  unfold Dev.loseRef
  extract_lets d1 d2
  have h1 : P d1 := (Dev.inc_rst ..).trans (ite_pred P (d.startCheck_rst c r) (d.setRefSt_rst r st))
  have h2 : P d2 := ite_pred P ((Dev.setDpll_rst ..).trans h1) h1
  simpa using h2

@[simp] theorem Dev.badEdge_rst : (d.badEdge c r).rst = d.rst := by
  let P (x : Dev) : Prop := x.rst = d.rst
  unfold Dev.badEdge
  exact ite_pred P (ite_pred P (by simp [P]) (ite_pred P (by simp [P]) rfl)) rfl

@[simp] theorem Dev.firstEdge_rst (ps : Int) : (d.firstEdge c r ps).rst = d.rst := by
  let P (x : Dev) : Prop := x.rst = d.rst
  unfold Dev.firstEdge
  extract_lets st lock src p d0 d1 d2
  have h1 : P d1 := Dev.setI_rst ..
  have h2 : P d2 := by
    refine ite_pred P ?_ (ite_pred P ((Dev.setDpll_rst ..).trans h1) (ite_pred P h1 ?_))
    · exact (Dev.setN_rst ..).trans ((Dev.setDpll_rst ..).trans h1)
    · exact (Dev.raise_rst ..).trans ((Dev.inc_rst ..).trans h1)
  refine ite_pred P h2 ?_
  split
  · exact h2
  · exact h2
  · exact h2

/-- A misalignment is detected in a class that asks for no reset (Table 15.2). -/
@[simp] theorem Dev.misaligned_rst : (d.misaligned c r).rst = d.rst := by
  let P (x : Dev) : Prop := x.rst = d.rst
  unfold Dev.misaligned
  extract_lets lasting d1 d2
  have h1 : P d1 := rfl
  have h2 : P d2 := by
    refine (Dev.detect_rst c 0 ?_).trans ((Dev.raise_rst ..).trans h1)
    unfold Dev.classOf
    simp only [Nat.reduceEqDiff, decide_false, Bool.or_self, Bool.false_eq_true, if_false, if_true]
    split <;> decide
  exact ite_pred P ((Dev.loseRef_rst ..).trans h2) ((Dev.setDpll_rst ..).trans h2)

@[simp] theorem Dev.misFrame_rst : (d.misFrame c r).rst = d.rst := by
  let P (x : Dev) : Prop := x.rst = d.rst
  unfold Dev.misFrame
  exact ite_pred P rfl (ite_pred P (Dev.misaligned_rst ..) rfl)

@[simp] theorem Dev.compareEdge_rst (reft : Int) : (d.compareEdge c r reft).rst = d.rst := by
  let P (x : Dev) : Prop := x.rst = d.rst
  unfold Dev.compareEdge
  extract_lets raw d1 d2 ps d3 near bad src d4
  have h1 : P d1 := ite_pred P (Dev.setDpll_rst ..) rfl
  have h2 : P d2 := ite_pred P ((Dev.firstEdge_rst ..).trans h1) h1
  have h4 : P d4 := (Dev.setI_rst ..).trans h2
  exact ite_pred P ((Dev.misFrame_rst ..).trans h4) h4

@[simp] theorem Dev.refEdge_rst (wide : Bool) : (d.refEdge c r wide).rst = d.rst := by
  let P (x : Dev) : Prop := x.rst = d.rst
  unfold Dev.refEdge
  extract_lets st x reft good marks cnt known next d1 d2 d3 d4
  have h1 : P d1 := rfl
  have h2 : P d2 := rfl
  have h3 : P d3 := ite_pred P h1 (ite_pred P (ite_pred P ((Dev.startCheck_rst ..).trans h2) h2)
    ((Dev.badEdge_rst ..).trans h1))
  have h4 : P d4 := ite_pred P ((Dev.compareEdge_rst ..).trans h3) h3
  exact ite_pred P rfl h4

theorem Dev.linkrefFolio_rst (ch quality : Nat) : (d.linkrefFolio c ch quality).rst = d.rst :=
  foldl_pred (fun x : Dev => x.rst = d.rst) _
    (fun x r hx => ite_pred (fun y : Dev => y.rst = d.rst) (by simpa using hx) hx) _ rfl

end

/-! ## A folio in the objects of its channel (R402) -/

/-- The number, the liveness counter and the source of a folio, written to .14, .15 and .16. -/
def Dev.setFolio (d : Dev) (ch : Nat) (f : Folio) : Dev :=
  ((d.setN (chanK ch 0x14) f.no).setN (chanK ch 0x15) f.live).setN (chanK ch 0x16) f.src

theorem Dev.setFolio_nat (d : Dev) (ch : Nat) (f : Folio) : (d.setFolio ch f).nat (chanK ch 0x14) = f.no ∧
    (d.setFolio ch f).nat (chanK ch 0x15) = f.live ∧ (d.setFolio ch f).nat (chanK ch 0x16) = f.src := by
  unfold Dev.setFolio
  simp [Dev.nat_setN, chanK_inj]

/-- What else a folio does leaves these three. -/
theorem Dev.captureFolio_stands {ch : Nat} (d : Dev) (c : Ctx) (f : Folio) (n : Nat) (hch : ch < 24) :
    ∃ y : Dev, y.rst = d.rst ∧ ∀ sub, 0x14 ≤ sub → sub ≤ 0x16 →
      (y.setFolio ch f).Stands (chanK ch sub) (d.captureFolio c ch f n) := by
  unfold Dev.captureFolio
  extract_lets d1 d2 d3 x missing jump changed d4 d5 d6 d7 d8 d9 r d10 d11 d12 d13
  have hrst : d2.rst = d.rst := by
    have h1 : d1.rst = d.rst :=
      (Dev.abandon_stands (ch := ch) (sub := 0) _ (by decide)).rst.trans (d.linkrefFolio_rst c ch f.quality)
    exact ((Stands.refl 0 d1).modChan ch _).rst.trans h1
  refine ⟨d2, hrst, fun sub h14 h16 => ?_⟩
  have hne {j : Nat} (hj : j < 0x14 ∨ 0x16 < j) : chanK ch sub ≠ chanK ch j := chanK_inj.not.mpr (by omega)
  have h3 : (d2.setFolio ch f).Stands (chanK ch sub) d3 := .refl _ _
  generalize d2.setFolio ch f = e at h3 ⊢
  have h4 : e.Stands (chanK ch sub) d4 := h3.addTo 32 missing (hne (by decide))
  have h5 : e.Stands (chanK ch sub) d5 := ite_pred (e.Stands _) (h4.raiseChan hch (by omega) c _ 46 ch) h4
  have h6 : e.Stands (chanK ch sub) d6 := (((h5.setN _ (hne (by decide))).setN _ (hne (by decide))).setN _
    (hne (by decide))).setN _ (hne (by decide))
  have h7 : e.Stands (chanK ch sub) d7 := (h6.setN _ (hne (by decide))).setN _ (hne (by decide))
  have h8 : e.Stands (chanK ch sub) d8 := h7.modChan ch _
  have h9 : e.Stands (chanK ch sub) d9 := h8.trans (d8.lockStep_stands c f _ (by omega) (by omega))
  have h10 : e.Stands (chanK ch sub) d10 := (h9.trans (d9.judgeSource_stands hch (by omega) c f (by omega))).trans
    (r.1.judgeFreeze_stands hch (by omega) c f _ (by omega) (by omega))
  have h11 : e.Stands (chanK ch sub) d11 := h10.inc (hne (by decide))
  have h12 : e.Stands (chanK ch sub) d12 := ite_pred (e.Stands _) ((h10.modChan ch _).raiseChan hch (by omega) c _ 45 ch) h10
  have h13 : e.Stands (chanK ch sub) d13 := h12.setN 2 (hne (by decide))
  refine ite_pred (e.Stands _) (h3.inc (hne (by decide))) (ite_pred (e.Stands _) (ite_pred (e.Stands _) h11 ?_)
    (ite_pred (e.Stands _) h13 (h13.trans (d13.openFrame_stands hch (by omega) c f (by omega) (by omega)))))
  exact (h11.setN 4 (hne (by decide))).raiseChan hch (by omega) c _ 47 ch

/-- A folio that is captured is in the objects of its channel. -/
theorem Dev.captureFolio_values {ch : Nat} (d : Dev) (c : Ctx) (f : Folio) (n : Nat) (hch : ch < 24) :
    (d.captureFolio c ch f n).rst = d.rst ∧ (d.captureFolio c ch f n).nat (chanK ch 0x14) = f.no ∧
      (d.captureFolio c ch f n).nat (chanK ch 0x15) = f.live ∧ (d.captureFolio c ch f n).nat (chanK ch 0x16) = f.src := by
  obtain ⟨y, hy, h⟩ := d.captureFolio_stands c f n hch
  obtain ⟨hno, hlive, hsrc⟩ := y.setFolio_nat ch f
  have hrst : (y.setFolio ch f).rst = y.rst := by simp [Dev.setFolio]
  exact ⟨((h 0x14 (by decide) (by decide)).rst.trans hrst).trans hy, (h 0x14 (by decide) (by decide)).nat.trans hno,
    (h 0x15 (by decide) (by decide)).nat.trans hlive, (h 0x16 (by decide) (by decide)).nat.trans hsrc⟩

end Sys2Proof.Machine

/-!
SUPPORT. FOLIO, VIDEO_LINE and CAPTURE_INPUT_LOST complete with their effect (ch 7).
-/
namespace Sys2Proof.Machine

variable {s : State} {dt p ch n : Nat} {o : Org} {k : Pkt}

/-- A command completes with the capture part of what its effect leaves, where that asks for no reset. -/
theorem completes_of_capture {i : Instr} {f : Ctx → Dev → Dev} {e : Dev} {P : State → Prop} (hx : exec i s = s.act dt f)
    (hf : f (s.ctx dt) s.entry = e) (hw : e.rst.want = []) (hP : ∀ t : State, Same .capture e t.dev → P t) :
    Completes i s P := by
  subst hf
  obtain ⟨t, ht, -, hk, -⟩ := s.act_kept dt f hw
  exact ⟨t, hx.trans ht, hP t (hk .capture (by decide))⟩

/-! ## FOLIO (R402) -/

/-- A received packet leaves the capture. -/
theorem Dev.Received.capture {d x : Dev} (h : d.Received p x) : Same .capture d x := h.leaves.keeps .capture (by decide)

theorem folio_completes (hq : Quiet s) (hp : p < s.portCount) (hr : (s.entry.rxPacket p 2 0 k).2 = true)
    (hb : s.dev.boundChan (s.ctx dt) p = some ch) :
    Completes (.folio dt p k) s fun t => t.dev.nat (chanK ch 0x14) = fld k.payload 0 4 ∧
      t.dev.nat (chanK ch 0x15) = fld k.payload 8 4 ∧ t.dev.nat (chanK ch 0x16) = fld k.payload 4 4 := by
  have hch := Dev.lt_of_boundChan hb
  have hrx := Dev.rxPacket_received s.entry (State.lt_of_portCount hp) 2 0 k
  obtain ⟨d, hd⟩ : ∃ d, d = (s.entry.rxPacket p 2 0 k).1.modPort p fun x =>
    { x with folioRx := some (parseFolio k.payload).no } := ⟨_, rfl⟩
  have hleaves : s.entry.Leaves [.links] d := hd ▸ hrx.leaves.modPort p _
  have hbd : d.boundChan (s.ctx dt) p = some ch := ((hleaves.keeps .capture (by decide)).boundChan _ p).trans hb
  obtain ⟨hrst, hno, hlive, hsrc⟩ := d.captureFolio_values (s.ctx dt) (parseFolio k.payload) (fld k.payload 30 2) hch
  have hnote := fun sub => (d.captureFolio (s.ctx dt) ch (parseFolio k.payload) (fld k.payload 30 2)).noteSource_stands
    (chanK ch sub) (s.ctx dt) ch
  refine completes_of_capture
    (e := (d.captureFolio (s.ctx dt) ch (parseFolio k.payload) (fld k.payload 30 2)).noteSource (s.ctx dt) ch)
    ((show _ = execFolio dt p k s from rfl).trans (State.actOn_act (decide_eq_true hp))) ?_ ?_ fun t ht => ⟨?_, ?_, ?_⟩
  · refine (if_pos hr).trans ?_
    dsimp only
    rw [← hd, hbd]
  · rw [(hnote 0).rst, hrst, hleaves.rst]
    exact hq.1
  · exact (ht.chanNat hch (by decide)).trans ((hnote 0x14).nat.trans hno)
  · exact (ht.chanNat hch (by decide)).trans ((hnote 0x15).nat.trans hlive)
  · exact (ht.chanNat hch (by decide)).trans ((hnote 0x16).nat.trans hsrc)

/-! ## VIDEO_LINE (R403) -/

theorem mem_putSeg (l : List Seg1) (x : Seg1) : x ∈ putSeg l x := by simp [putSeg]

theorem Dev.modChan_length (d : Dev) (f : Chan → Chan) : (d.modChan n f).chans.length = d.chans.length :=
  length_modifyAt f n d.chans

/-- The slot after a change of one slot of the channel. -/
theorem slots_modifyAt {l : List Slot} {i : Nat} (f : Slot → Slot) (h : i < l.length) :
    ((modifyAt f i l)[i]?).getD {} = f ((l[i]?).getD {}) := by
  rw [getElem?_modifyAt_self, List.getElem?_eq_getElem h]
  rfl

/-- A frame that is complete keeps its segments (R405). -/
theorem Dev.completeFrame_segs {d : Dev} {i : Nat} (c : Ctx) (hch : ch < d.chans.length)
    (hi : i < (d.chan ch).slots.length) : ((((d.completeFrame c ch i).chan ch).slots[i]?).getD {}).segs =
      (((d.chan ch).slots[i]?).getD {}).segs := by
  unfold Dev.completeFrame
  rw [Dev.chan_of_chans (Dev.inc_chans ..), Dev.chan_modChan _ hch]
  dsimp only
  rw [slots_modifyAt _ hi]

/-- The segment of a line that a packet carries, by the frame's folio. -/
def segmentOf (k : Pkt) (f : Folio) : Seg1 :=
  ⟨bits k.fieldA 0 13, k.fieldB, k.payload.take (segLen (lineBytes f.w f.fmt) k.fieldB)⟩

/-- A segment put into a slot of a channel. -/
def Dev.storeSeg (d : Dev) (ch i : Nat) (g : Seg1) : Dev :=
  d.modChan ch fun x => { x with slots := modifyAt (fun z => { z with segs := putSeg z.segs g }) i x.slots }

theorem Dev.storeSeg_slots {d : Dev} (i : Nat) (g : Seg1) (h : ch < d.chans.length) : ((d.storeSeg ch i g).chan ch).slots =
    modifyAt (fun z => { z with segs := putSeg z.segs g }) i (d.chan ch).slots :=
  congrArg Chan.slots (Dev.chan_modChan _ h)

theorem Dev.mem_storeSeg {d : Dev} {i : Nat} (g : Seg1) (h : ch < d.chans.length) (hi : i < (d.chan ch).slots.length) :
    g ∈ ((((d.storeSeg ch i g).chan ch).slots[i]?).getD {}).segs := by
  rw [Dev.storeSeg_slots i g h, slots_modifyAt _ hi]
  exact mem_putSeg _ _

/-- A segment of the frame being written is stored in its slot. -/
theorem Dev.captureLine_stores {d : Dev} {i : Nat} {f : Folio} (c : Ctx) (hw : (d.chan ch).writing = some i)
    (hi : i < (d.chan ch).slots.length) (hf : (((d.chan ch).slots[i]?).getD {}).folio = f)
    (hlow : bits k.fieldA 13 3 = f.no % 8) (hline : bits k.fieldA 0 13 < f.h)
    (hseg : k.fieldB < ceilDiv (lineBytes f.w f.fmt) 1024) :
    (d.captureLine c ch k).rst = d.rst ∧
      segmentOf k f ∈ ((((d.captureLine c ch k).chan ch).slots[i]?).getD {}).segs := by
  unfold Dev.captureLine
  extract_lets line low x into seg d1
  let P (y : Dev) : Prop := y.rst = d.rst ∧ y.chans.length = d.chans.length ∧ (y.chan ch).slots = (d.chan ch).slots
  have hlen := Dev.lt_of_writing hw
  have h1 : P d1 := by
    have h0 : P d := ⟨rfl, rfl, rfl⟩
    have hbuf (g : Seg1) : P (d.modChan ch fun x => x.buffer g) :=
      ⟨rfl, d.modChan_length _, by rw [Dev.chan_modChan _ hlen]; rfl⟩
    have hd1 : d1 = match x.bufFolio with
      | some f => if into f then d.modChan ch fun x => x.buffer { seg f with line := bufKey f.no line } else d
      | none => d := rfl
    rw [hd1]
    cases x.bufFolio with
    | some g => exact ite_pred P (hbuf _) h0
    | none => exact h0
  obtain ⟨hrst, hlen1, hslots⟩ := h1
  clear_value d1
  have hinto : into f = true := by
    simp [into, low, line, hlow, hline, hseg]
  rw [show x.writing = some i from hw]
  dsimp only
  rw [show ((x.slots[i]?).getD {}).folio = f from hf]
  rw [if_neg (by simp [low, line, hlow, hline]), if_neg (by simp [hinto])]
  have hch1 : ch < d1.chans.length := by rwa [hlen1]
  have hi1 : i < (d1.chan ch).slots.length := by rwa [hslots]
  have hmem := Dev.mem_storeSeg (segmentOf k f) hch1 hi1
  have hch2 : ch < (d1.storeSeg ch i (segmentOf k f)).chans.length := (d1.modChan_length _).symm ▸ hch1
  have hi2 : i < ((d1.storeSeg ch i (segmentOf k f)).chan ch).slots.length := by
    rwa [Dev.storeSeg_slots i _ hch1, length_modifyAt]
  refine ite_pred (fun z : Dev => z.rst = d.rst ∧ segmentOf k f ∈ (((z.chan ch).slots[i]?).getD {}).segs)
    (a := (d1.storeSeg ch i (segmentOf k f)).completeFrame c ch i) (b := d1.storeSeg ch i (segmentOf k f)) ⟨?_, ?_⟩
    ⟨hrst, hmem⟩
  · exact (Dev.inc_rst ..).trans hrst
  · rw [Dev.completeFrame_segs c hch2 hi2]
    exact hmem

theorem videoLine_completes {i : Nat} {f : Folio} (hq : Quiet s) (hp : p < s.portCount)
    (hr : (s.entry.rxPacket p 3 0 k).2 = true) (hb : s.dev.boundChan (s.ctx dt) p = some ch)
    (hfolio : (s.dev.port p).folioRx ≠ none) (hw : (s.dev.chan ch).writing = some i)
    (hi : i < (s.dev.chan ch).slots.length) (hf : (((s.dev.chan ch).slots[i]?).getD {}).folio = f)
    (hlow : bits k.fieldA 13 3 = f.no % 8) (hline : bits k.fieldA 0 13 < f.h)
    (hseg : k.fieldB < ceilDiv (lineBytes f.w f.fmt) 1024) :
    Completes (.videoLine dt p k) s fun t => segmentOf k f ∈ (((t.dev.chan ch).slots[i]?).getD {}).segs := by
  have hrx := Dev.rxPacket_received s.entry (State.lt_of_portCount hp) 3 0 k
  have hb' := (hrx.capture.boundChan (s.ctx dt) p).trans hb
  have hchan : (s.entry.rxPacket p 3 0 k).1.chan ch = s.dev.chan ch := hrx.capture.chan
  have hport : ((s.entry.rxPacket p 3 0 k).1.port p).folioRx.isNone = false := by
    rw [hrx.folioRx, Option.isNone_eq_false_iff, Option.isSome_iff_ne_none]
    exact hfolio
  obtain ⟨hrst, hmem⟩ := Dev.captureLine_stores (d := (s.entry.rxPacket p 3 0 k).1) (s.ctx dt) (hchan.symm ▸ hw)
    (hchan.symm ▸ hi) (hchan.symm ▸ hf) hlow hline hseg
  refine completes_of_capture (e := (s.entry.rxPacket p 3 0 k).1.captureLine (s.ctx dt) ch k)
    ((show _ = execVideoLine dt p k s from rfl).trans (State.actOn_act (decide_eq_true hp))) ?_ ?_ fun t ht => ?_
  · simp only [hr, hport, hb', Bool.not_true, Bool.false_eq_true, if_false]
  · rw [hrst, hrx.leaves.rst]
    exact hq.1
  · rw [ht.chan]
    exact hmem

/-! ## CAPTURE_INPUT_LOST (R433) -/

theorem captureInputLost_completes (hq : Quiet s) (hch : ch < s.count 24 12) (hst : s.dev.chanSt ch = 2)
    (hdue : s.dev.inputOverdue (s.ctx dt) ch = true) :
    Completes (.captureInputLost dt ch) s fun t => t.dev.chanSt ch = 3 ∧
      t.dev.nat (chanK ch 0x1D) = (s.dev.nat (chanK ch 0x1D) + 1) % 2 ^ 32 := by
  have h24 : ch < 24 := by
    unfold State.count at hch
    split at hch <;> omega
  have hlose {sub : Nat} (hC : sub ≠ 0x0C) (hD : sub ≠ 0x0D) (h17 : sub ≠ 0x17) (h19 : sub ≠ 0x19) :
      s.entry.Stands (chanK ch sub) (s.entry.loseChan ch) := s.entry.loseChan_stands hC hD h17 h19
  have hlast {sub : Nat} (hs : sub < 256) : ((s.entry.loseChan ch).inc (chanK ch 0x1D)).Stands (chanK ch sub)
      ((((s.entry.loseChan ch).inc (chanK ch 0x1D)).raise (s.ctx dt) 44 ch).noteSource (s.ctx dt) ch) :=
    ((Dev.Stands.refl _ _).raiseChan h24 hs _ _ _ _).trans (Dev.noteSource_stands _ _ _ ch)
  have hgo : (decide (s.entry.chanSt ch = 2) && s.entry.inputOverdue (s.ctx dt) ch) = true := by
    rw [Bool.and_eq_true, decide_eq_true_eq]
    exact ⟨hst, hdue⟩
  refine completes_of_capture
    (e := (((s.entry.loseChan ch).inc (chanK ch 0x1D)).raise (s.ctx dt) 44 ch).noteSource (s.ctx dt) ch)
    ((show _ = execCaptureInputLost dt ch s from rfl).trans (State.actOn_act (decide_eq_true hch))) (if_pos hgo) ?_
    fun t ht => ⟨?_, ?_⟩
  · rw [(hlast (sub := 0) (by decide)).rst, Dev.inc_rst,
      (hlose (sub := 0) (by decide) (by decide) (by decide) (by decide)).rst]
    exact hq.1
  · have hinc := (Dev.Stands.refl (chanK ch 0x0C) (s.entry.loseChan ch)).inc
      (chanK_inj.not.mpr (show (0x0C : Nat) ≠ 0x1D by decide))
    exact (ht.chanNat h24 (by decide)).trans ((hlast (by decide)).nat.trans (hinc.nat.trans (Dev.loseChan_chanSt _)))
  · rw [ht.chanNat h24 (by decide), (hlast (by decide)).nat, Dev.nat_inc_same,
      (hlose (by decide) (by decide) (by decide) (by decide)).nat]
    rfl

end Sys2Proof.Machine

/-!
SUPPORT. The capture requests complete with their effect, and the settling of O8 (ch 7).
-/
namespace Sys2Proof.Machine

variable {s : State} {dt n sub : Nat} {o : Org} {v : Int} {r : Obj}

/-! ## An accepted write that one variant may not have -/

section
variable {k base : Nat} {x : Obs} (hk : lookup (s.ctx dt).s12 k = .row base n r) (hk24 : k < 2 ^ 24)
  (ha : Accepts s dt o k v)
include hk hk24 ha

/-- The served frame of an accepted write. -/
theorem Dev.serveFrame_accepted (hm : o.path ≠ .mailbox) :
    (s.heard dt o 8).serveFrame (s.ctx dt) o 0x03 ((s.heard dt o 8).reqId o) (reqData k r.ty.code (encodeVal r.ty (.num v))) x =
      (s.found dt o k v).applyWrite (s.ctx dt) base n r (.num v) x := by
  obtain ⟨-, hv, hc, hst⟩ := Accepts.spec ha hk
  have hlen := encodeVal_num_length r.ty v
  have hp := parseHdr_reqData (k := k) r.ty (encodeVal r.ty (.num v)) hk24 (by omega)
  have hkey := reqData_key (k := k) r.ty (encodeVal r.ty (.num v)) hk24 (by omega)
  have hbytes : ((reqData k r.ty.code (encodeVal r.ty (.num v))).drop 8).take (encodeVal r.ty (.num v)).length =
      encodeVal r.ty (.num v) := by
    rw [reqData, drop_hdr_bytes, List.take_length]
  have hsize : 8 + (encodeVal r.ty (.num v)).length ≤ (reqData k r.ty.code (encodeVal r.ty (.num v))).length := by
    rw [reqData, List.length_append, Hdr.bytes_length]
  have hhdr : headerCodes (reqData k r.ty.code (encodeVal r.ty (.num v))) = [] := headerCodes_bytes _ _ Nat.zero_lt_two
  rw [Dev.serveFrame_write x (hst hm), Dev.writeReq_accepted o _ x hhdr
    (by rw [hp]; dsimp only; omega) (by rw [hp]; exact hsize) (by rw [hkey, hp]; dsimp only; rw [hbytes]; exact hc), hkey, hp,
    State.found_frame hk hm]
  dsimp only
  rw [hbytes, Dev.acceptBytes_some _ x hk hv]

/-- An accepted write takes effect, where the variant has the row, on the device found. -/
theorem Dev.request_of_row (hq : Quiet s) (h0 : lookup false k = .row base n r) (hb : x.busy = false) :
    s.entry.request (s.ctx dt) o k (.num v) x = (s.found dt o k v).applyWrite (s.ctx dt) base n r (.num v) x := by
  obtain ⟨hh, hv, hc, -⟩ := Accepts.spec ha hk
  have haw := s.entry.leaveDoze_awake (s.ctx dt)
  have hwait : (s.entry.leaveDoze (s.ctx dt)).itp.waiting = [] := by
    obtain ⟨_, _, e⟩ := haw.itp
    rw [e]
    exact hq.2.2
  have hup : (!(s.heard dt o 8).listening || !(s.heard dt o 8).rst.want.isEmpty) = false := by
    rw [Dev.hears, Bool.and_eq_true] at hh
    rw [State.heard_awake.listening, State.heard_awake.rst, hh.1, show s.entry.rst.want = [] from hq.1]
    rfl
  rw [Dev.request_num v x h0 hh, Dev.arrive_first hwait, if_neg (by rw [Dev.writeWait, hb]; exact Bool.false_ne_true),
    show (Dev.writeWait _ o k r v x).org = o from rfl, ← State.heard_eq, Dev.serveJob, hup,
    if_neg Bool.false_ne_true, Dev.writeWait]
  by_cases hm : o.path = .mailbox
  · rw [if_pos hm]
    simp only [Dev.mailPut, hc, firstCode, List.foldl_nil]
    rw [State.found_mailbox hk hm, Dev.acceptBytes_some _ x hk hv]
  · rw [if_neg hm, show (s.entry.leaveDoze (s.ctx dt)).reqId o = (s.heard dt o 8).reqId o by rw [State.heard_eq]; rfl]
    exact Dev.serveFrame_accepted hk hk24 ha hm

end

/-! ## The rows of the channels (Table 7.4) -/

theorem lookup_chanK {b : Bool} (hn : n < if b then 12 else 24) (h0 : sub ≠ 0) (hs : sub < 256)
    (hr : Fam.row ⟨0x4000, 24, 12, tbl4000⟩ n sub = some r) : lookup b (chanK n sub) = .row 0x4000 n r := by
  refine lookup_of_famOf (f := ⟨0x4000, 24, 12, tbl4000⟩) ?_ h0 hs hr
  cases b with
  | false => simp only [Bool.false_eq_true, if_false] at hn; interval_cases n <;> rfl
  | true => simp only [if_true] at hn; interval_cases n <;> rfl

/-- The S2412 has no channel above 11. -/
theorem lookup_chanK_noIndex (hn : n < 24) (h12 : 12 ≤ n) (hs : sub < 256) : lookup true (chanK n sub) = .noIndex := by
  have hf : famOf true (0x4000 + n) = none := by interval_cases n <;> rfl
  rw [lookup, show chanK n sub / 256 = 0x4000 + n from key_div _ _ _ hs, hf]

/-- A write that is accepted is one to a channel of the variant. -/
theorem Accepts.chan_lt (ha : Accepts s dt o (chanK n sub) v) (hn : n < 24) (hs : sub < 256) :
    n < if (s.ctx dt).s12 then 12 else 24 := by
  cases h : (s.ctx dt).s12 with
  | false => exact hn
  | true =>
    by_contra h12
    rw [Accepts, State.accepts, h, lookup_chanK_noIndex hn (not_lt.mp h12) hs, Bool.and_false] at ha
    exact Bool.false_ne_true ha

/-- The objects of a channel but its port have the defaults of their table. -/
theorem dflt_chanK (hn : n < 24) (h0 : sub ≠ 0) (h2 : r.sub ≠ 2) (hs : sub < 256)
    (hr : Fam.row ⟨0x4000, 24, 12, tbl4000⟩ n sub = some r) : dflt (chanK n sub) = r.dflt := by
  have hsp : dfltSpecial 0x4000 n r.sub = none := by simp [dfltSpecial, h2]
  rw [dflt, lookup_chanK (b := false) hn h0 hs hr]
  dsimp only
  rw [hsp, Option.getD_none]

/-! ## The device a request finds -/

theorem Dev.leaveDoze_videoDown (d : Dev) (c : Ctx) : (d.leaveDoze c).videoDown = d.videoDown := by
  unfold Dev.leaveDoze
  split
  · next h =>
    obtain ⟨t, e⟩ := Dev.trcWake_eta { (d.setN 0x8000_01 0) with pwr := { d.pwr with st := .run } } c 0
    rw [e]
    simp [Dev.videoDown, h]
  · rfl

theorem Accepts.found_videoDown {k base : Nat} (ha : Accepts s dt o k v) (hk : lookup (s.ctx dt).s12 k = .row base n r) :
    (s.found dt o k v).videoDown = s.dev.videoDown := by
  have hheard : (s.heard dt o 8).videoDown = s.dev.videoDown := by
    rw [State.heard_eq]
    exact s.entry.leaveDoze_videoDown (s.ctx dt)
  obtain ⟨hh, -⟩ := Accepts.spec ha hk
  by_cases hm : o.path = .mailbox
  · rw [State.found_mailbox hk hm]
    exact hheard
  · obtain ⟨_, _, _, _, e⟩ := (s.heard dt o 8).answer_answerOf (s.ctx dt) o ((s.heard dt o 8).reqId o)
      (reqData k r.ty.code (encodeVal r.ty (.num v))) (reply o 0x04 (Hdr.bytes ⟨0, r.ty.code, k / 256, k % 256, 0⟩))
      (by rw [State.heard_eq]; exact Dev.reaches_of_hears (s.ctx dt) hh)
    rw [State.found_frame hk hm, e]
    exact hheard

/-- An accepted write of a channel's object completes with its effect on the device found. -/
theorem completes_of_chanWrite {i : Instr} {P : State → Prop}
    (hx : exec i s = s.req dt o (keyAt 24 n (chanK n sub)) v Obs.quiet) (hq : Quiet s) (hn : n < 24)
    (ha : Accepts s dt o (chanK n sub) v) (h0 : sub ≠ 0) (hs : sub < 256)
    (hr : Fam.row ⟨0x4000, 24, 12, tbl4000⟩ n sub = some r) (hacc : r.acc ≠ .rws) (hsub : r.sub = sub)
    (hw : ∀ d : Dev, (d.writeCapture n sub (.num v)).rst = d.rst)
    (hP : ∀ (d : Dev) (t : State), Same .capture s.dev d → d.videoDown = s.dev.videoDown →
      Same .capture (d.writeCapture n sub (.num v)) t.dev → P t) : Completes i s P := by
  have hk := lookup_chanK (Accepts.chan_lt ha hn hs) h0 hs hr
  have hk24 : chanK n sub < 2 ^ 24 := lt_trans (chanK_lt hn hs) (by decide)
  have hrst : ((s.found dt o (chanK n sub) v).writeCapture n sub (.num v)).rst = s.dev.rst :=
    (hw _).trans (Accepts.found ha hk).rst
  have hobj : (s.found dt o (chanK n sub) v).writeObj (s.ctx dt) 0x4000 n r.sub (.num v) Obs.quiet =
      (s.found dt o (chanK n sub) v).writeCapture n sub (.num v) := by
    rw [hsub]
    rfl
  rw [keyAt_of_lt _ hn] at hx
  refine completes_of_capture (e := (s.found dt o (chanK n sub) v).writeCapture n sub (.num v)) hx ?_
    ((congrArg Rst.want hrst).trans hq.1)
    fun t => hP _ t (Accepts.found_keeps ha hk .capture (by decide)) (Accepts.found_videoDown ha hk)
  show s.entry.request (s.ctx dt) o (chanK n sub) (.num v) Obs.quiet = _
  rw [Dev.request_of_row hk hk24 ha hq (lookup_chanK (b := false) hn h0 hs hr) rfl, Dev.applyWrite_direct hacc, hobj]
  rw [hobj, hrst]
  exact hq.2.1

/-! ## What the writes do (R433, R439, R440, R447) -/

theorem Dev.clear_get (d : Dev) (ks : List Nat) (k : Nat) : (d.clear ks).get k = if k ∈ ks then dflt k else d.get k := by
  unfold Dev.clear
  induction ks generalizing d with
  | nil => simp
  | cons j r ih =>
    rw [List.foldl_cons, ih, Dev.get_set]
    by_cases hj : k = j
    · subst hj
      simp
    · simp [hj]

theorem Dev.startChan_stands (d : Dev) (hC : sub ≠ 0x0C) (hD : sub ≠ 0x0D) :
    d.Stands (chanK n sub) (d.startChan n) := by
  unfold Dev.startChan
  exact (((Stands.refl _ d).setN 1 (chanK_inj.not.mpr hC)).setN 0 (chanK_inj.not.mpr hD)).modChan n _

theorem Dev.startChan_chanSt (d : Dev) : (d.startChan n).chanSt n = 1 := by
  have h : ((d.setN (chanK n 0x0C) 1).setN (chanK n 0x0D) 0).nat (chanK n 0x0C) = 1 := by
    simp [Dev.nat_setN, chanK_inj]
  exact h

theorem Dev.drainEnd_stands (d : Dev) (h : sub ≠ 0x0C) : d.Stands (chanK n sub) (d.drainEnd n) := by
  unfold Dev.drainEnd
  exact ite_pred (d.Stands _) (((Stands.refl _ d).setN 0 (chanK_inj.not.mpr h)).modChan n _) (.refl _ d)

/-- A channel that drains is then draining still or disabled (R446). -/
theorem Dev.drainEnd_chanSt {d : Dev} (h : d.chanSt n = 5) : (d.drainEnd n).chanSt n = 5 ∨ (d.drainEnd n).chanSt n = 0 := by
  unfold Dev.drainEnd
  refine ite_pred (fun x : Dev => x.chanSt n = 5 ∨ x.chanSt n = 0) (.inr ?_) (.inl h)
  exact Dev.nat_setN_same d (chanK n 0x0C) 0

/-- A channel taken out of service: its frame abandoned, its lock dropped, its state that of a channel that drains. -/
def Dev.stopChan (d : Dev) (n : Nat) : Dev :=
  ((((d.abandon n).unlockChan n []).setN (chanK n 0x0C) 5).setN (chanK n 0x0D) 0).modChan n fun x =>
    { x with bufFolio := none, lost := false }

theorem Dev.stopChan_stands (d : Dev) (hC : sub ≠ 0x0C) (hD : sub ≠ 0x0D) (h17 : sub ≠ 0x17) (h19 : sub ≠ 0x19) :
    d.Stands (chanK n sub) (d.stopChan n) := by
  unfold Dev.stopChan
  exact ((((d.abandon_stands h19).trans (Dev.unlockChan_stands _ [] hD h17)).setN 5 (chanK_inj.not.mpr hC)).setN 0
    (chanK_inj.not.mpr hD)).modChan n _

theorem Dev.stopChan_chanSt (d : Dev) : (d.stopChan n).chanSt n = 5 := by
  have h (e : Dev) : ((e.setN (chanK n 0x0C) 5).setN (chanK n 0x0D) 0).nat (chanK n 0x0C) = 5 := by
    simp [Dev.nat_setN, chanK_inj]
  exact h _

/-- The frame memory goes stale as a channel starts. -/
theorem Dev.writeCapture_enable {d : Dev} (hoff : d.chanOnline n = false) (hv : d.videoDown = false) :
    d.writeCapture n 0x01 (.num 1) = { (d.set (chanK n 0x01) (.num 1)).startChan n with
      core := { (d.set (chanK n 0x01) (.num 1)).core with fmem := [] } } := by
  have hv' : (d.set (chanK n 0x01) (.num 1)).videoDown = false := by
    rw [Dev.set_eta]
    exact hv
  have hgo : (d.chanOnline n || (d.set (chanK n 0x01) (.num 1)).videoDown) ≠ true := by
    rw [hoff, hv']
    decide
  unfold Dev.writeCapture
  rw [if_pos rfl]
  dsimp only
  rw [if_neg (show Val.int (.num 1) ≠ 0 by decide), if_neg hgo]

theorem Dev.writeCapture_disable {d : Dev} (hon : d.chanOnline n = true) :
    d.writeCapture n 0x01 (.num 0) = ((d.set (chanK n 0x01) (.num 0)).stopChan n).drainEnd n := by
  unfold Dev.writeCapture
  rw [if_pos rfl]
  dsimp only
  rw [if_pos (show Val.int (.num 0) = 0 from rfl), if_pos hon]
  rfl

/-- The counters of a channel: .25 and .18 to .1E. -/
def chanCounters : List Nat := 0x25 :: (upTo 7).map (· + 0x18)

theorem Dev.writeCapture_clear (d : Dev) : d.writeCapture n 0x24 (.num 1) = d.clear (chanCounters.map (chanK n)) := rfl

theorem Dev.clear_rst (d : Dev) (ks : List Nat) : (d.clear ks).rst = d.rst :=
  foldl_pred (fun x : Dev => x.rst = d.rst) _ (fun _ _ hx => (Dev.set_rst ..).trans hx) ks rfl

theorem chanCounter_cases (hs : sub ∈ chanCounters) : sub = 0x25 ∨ 0x18 ≤ sub ∧ sub ≤ 0x1E := by
  obtain rfl | hs := List.mem_cons.mp hs
  · exact .inl rfl
  · obtain ⟨i, hi, rfl⟩ := List.mem_map.mp hs
    have hi := List.mem_range.mp hi
    omega

/-- The counters' rows of Table 7.4 are alike. -/
theorem row_chanCounter (hs : sub ∈ chanCounters) :
    Fam.row ⟨0x4000, 24, 12, tbl4000⟩ n sub = some ⟨sub, .u32, .ro, false, .num 0, []⟩ := by
  obtain rfl | ⟨h18, h1E⟩ := chanCounter_cases hs
  · rfl
  · interval_cases sub <;> rfl

/-- A counter of a channel that is cleared reads 0. -/
theorem Dev.clear_counter (d : Dev) (hn : n < 24) (hs : sub ∈ chanCounters) :
    (d.clear (chanCounters.map (chanK n))).nat (chanK n sub) = 0 := by
  have hsub : 0x18 ≤ sub ∧ sub < 256 := by
    have := chanCounter_cases hs
    omega
  have hdflt : dflt (chanK n sub) = .num 0 :=
    dflt_chanK hn (by omega) (show sub ≠ 2 by omega) hsub.2 (row_chanCounter hs)
  have hget : (d.clear (chanCounters.map (chanK n))).get (chanK n sub) = .num 0 := by
    rw [Dev.clear_get, if_pos (List.mem_map_of_mem hs), hdflt]
  rw [Dev.nat, Dev.int, hget]
  rfl

/-! ## CAPTURE_ENABLE, CAPTURE_DISABLE, CAPTURE_CLEAR_COUNTERS -/

theorem Same.chanOnline {d x : Dev} (h : Same .capture d x) (hn : n < 24) : x.chanOnline n = d.chanOnline n := by
  rw [Dev.chanOnline, Dev.chanOnline, show x.chanSt n = d.chanSt n from h.chanNat hn (by decide)]

/-- No write to a channel asks for a reset. -/
theorem Dev.writeCapture_rst (d : Dev) (v : Val) : (d.writeCapture n sub v).rst = d.rst := by
  let P (x : Dev) : Prop := x.rst = d.rst
  have hset (k : Nat) : P (d.set k v) := Dev.set_rst ..
  have hstop (x : Dev) (hx : P x) : P ((x.stopChan n).drainEnd n) :=
    ((x.stopChan_stands (sub := 0) (by decide) (by decide) (by decide) (by decide)).trans
      (Dev.drainEnd_stands _ (by decide))).rst.trans hx
  have hstart (x : Dev) (hx : P x) : P (x.startChan n) := (x.startChan_stands (sub := 0) (by decide) (by decide)).rst.trans hx
  unfold Dev.writeCapture
  refine ite_pred P (ite_pred P (ite_pred P (hstop _ (hset _)) (hset _)) (ite_pred P (hset _) ?_))
    (ite_pred P (d.clear_rst _) (hset _))
  exact hstart _ (hset _)

theorem captureEnable_completes (hq : Quiet s) (hn : n < 24) (hoff : s.dev.chanOnline n = false)
    (ha : Accepts s dt o (chanK n 0x01) 1) (hv : s.dev.videoDown = false) :
    Completes (.captureEnable dt o n) s fun t => t.dev.nat (chanK n 0x01) = 1 ∧ t.dev.chanSt n = 1 := by
  refine completes_of_chanWrite (show _ = execCaptureEnable dt o n s from rfl) hq hn ha (by decide) (by decide) rfl (by decide)
    rfl (fun d => d.writeCapture_rst _) fun d t hd hvd ht => ?_
  rw [Dev.writeCapture_enable ((hd.chanOnline hn).trans hoff) (hvd.trans hv)] at ht
  refine ⟨(ht.chanNat hn (by decide)).trans ?_, (ht.chanNat hn (by decide)).trans ?_⟩
  · exact (Dev.startChan_stands _ (by decide) (by decide)).nat.trans (d.nat_setN_same (chanK n 0x01) 1)
  · exact Dev.startChan_chanSt _

theorem captureDisable_completes (hq : Quiet s) (hn : n < 24) (hon : s.dev.chanOnline n = true)
    (ha : Accepts s dt o (chanK n 0x01) 0) :
    Completes (.captureDisable dt o n) s fun t => t.dev.nat (chanK n 0x01) = 0 ∧
      (t.dev.chanSt n = 5 ∨ t.dev.chanSt n = 0) := by
  refine completes_of_chanWrite (show _ = execCaptureDisable dt o n s from rfl) hq hn ha (by decide) (by decide) rfl (by decide)
    rfl (fun d => d.writeCapture_rst _) fun d t hd _ ht => ?_
  rw [Dev.writeCapture_disable ((hd.chanOnline hn).trans hon)] at ht
  refine ⟨(ht.chanNat hn (by decide)).trans ?_, ?_⟩
  · have hstop := Dev.stopChan_stands (n := n) (sub := 0x01) (d.set (chanK n 0x01) (.num 0)) (by decide) (by decide)
      (by decide) (by decide)
    exact (hstop.trans (Dev.drainEnd_stands _ (by decide))).nat.trans (d.nat_setN_same (chanK n 0x01) 0)
  · rw [Dev.chanSt, ht.chanNat hn (by decide)]
    exact Dev.drainEnd_chanSt (Dev.stopChan_chanSt _)

theorem captureClearCounters_completes (hq : Quiet s) (hn : n < 24) (ha : Accepts s dt o (chanK n 0x24) 1) :
    Completes (.captureClearCounters dt o n) s fun t => ∀ sub ∈ chanCounters, t.dev.nat (chanK n sub) = 0 := by
  refine completes_of_chanWrite (show _ = execCaptureClearCounters dt o n s from rfl) hq hn ha (by decide) (by decide) rfl
    (by decide) rfl (fun d => d.writeCapture_rst _) fun d t _ _ ht sub hsub => ?_
  have h256 : sub < 256 := by
    have := chanCounter_cases hsub
    omega
  rw [Dev.writeCapture_clear] at ht
  exact (ht.chanNat hn h256).trans (d.clear_counter hn hsub)

/-! ## The capture commands -/

/-- Settles O8, command by command: the folio and its line on the channel bound to their port, a channel's input lost, and
the three accepted requests. -/
theorem captureCommandsComplete : Obligations.Capture_commands_complete := by
  unfold Obligations.Capture_commands_complete
  refine ⟨fun s dt p ch k hq hp hr hb => folio_completes hq hp hr hb,
    fun s dt p ch i k hq hp hr hb hf hw hi hlow hline hseg => videoLine_completes hq hp hr hb hf hw hi rfl hlow hline hseg,
    fun s dt ch hq hch hst hdue => captureInputLost_completes hq hch hst hdue,
    fun s dt o n hq hn hoff ha hv => captureEnable_completes hq hn hoff ha hv,
    fun s dt o n hq hn hon ha => captureDisable_completes hq hn hon ha, fun s dt o n hq hn ha => ?_⟩
  obtain ⟨t, ht, hzero⟩ := captureClearCounters_completes hq hn ha
  refine ⟨t, ht, fun i hi => hzero _ (List.mem_cons_of_mem _ (List.mem_map.mpr ⟨i, hi, Nat.add_comm i 0x18⟩)), ?_⟩
  exact hzero _ List.mem_cons_self

end Sys2Proof.Machine

/-!
SUPPORT. What the edges that a folio gives the genlock change (ch 3), as the capture sees them: the genlock's part and the
collector's alone.
-/
namespace Sys2Proof.Machine

variable {l : List Part}

/-! ## The frame of a reference's edge (R172 to R220) -/

/-- The inner state of the references and of the DPLL is the genlock's. -/
theorem Dev.Keeps.genlock (d : Dev) (r : List Ref) (p : Dpll) (hg : .genlock ∈ l) :
    d.Keeps l { d with refs := r, dpll := p } :=
  .of_fields rfl fun q hq => by cases q <;> simp_all [SameFields]

theorem partOfKey_ref {r sub : Nat} (hr : r < 256) (hs : sub < 256) : partOfKey (key 0x2100 r sub) = some .genlock :=
  partOfKey_key 0x21 r sub hr hs (by decide) (by decide) (by decide) (by decide)

section
variable (d : Dev) (c : Ctx) {r : Nat} (hg : .genlock ∈ l)
include hg

theorem Dev.modRef_keeps (r : Nat) (f : Ref → Ref) : d.Keeps l (d.modRef r f) := .genlock d _ d.dpll hg

theorem Dev.setDpll_keeps (st : Nat) : d.Keeps l (d.setDpll st) := .set_of_part d _ _ rfl hg

theorem Dev.freeRun_keeps : d.Keeps l (d.freeRun c) := by
  unfold Dev.freeRun
  extract_lets was _ p _ d1 d2
  have h1 : d.Keeps l d1 :=
    ((d.setDpll_keeps hg 0).trans (.set_of_part _ 0x2110_10 _ rfl hg)).trans (.genlock _ _ _ hg)
  have h2 : d.Keeps l d2 := h1.trans (.set_of_part _ 0x2110_0E _ rfl hg)
  exact ite_pred (d.Keeps l) h2 (h2.trans (d2.raise_keeps c _ _))

theorem Dev.evalSelection_keeps : d.Keeps l (d.evalSelection c) := by
  have hsel (n : Nat) : d.Keeps l (d.setN 0x2110_0B n) := .set_of_part d _ _ rfl hg
  unfold Dev.evalSelection
  refine ite_pred (d.Keeps l) (hsel _) ?_
  cases d.choose with
  | some r => exact ite_pred (d.Keeps l) (.refl l d) ((hsel r).trans (.genlock _ _ _ hg))
  | none =>
    extract_lets cur _ d1 h _ _ d2
    have h1 : d.Keeps l d1 := (hsel 0xFF).trans (.genlock _ _ _ hg)
    have h2 : d.Keeps l d2 := (h1.trans (d1.setDpll_keeps hg 3)).trans (.genlock _ _ _ hg)
    have hhold : d.Keeps l (((d2.setI 0x2110_11 h).setI 0x2110_10 h).raise c 36 0) :=
      ((h2.trans (.set_of_part _ _ _ rfl hg)).trans (.set_of_part _ _ _ rfl hg)).trans (Dev.raise_keeps _ c _ _)
    exact ite_pred (d.Keeps l) (.refl l d) (ite_pred (d.Keeps l)
      (ite_pred (d.Keeps l) hhold (h1.trans (d1.freeRun_keeps c hg))) h1)

theorem Dev.firstEdge_keeps (r : Nat) (ps : Int) : d.Keeps l (d.firstEdge c r ps) := by
  unfold Dev.firstEdge
  extract_lets st lock _ p _ d1 d2
  have h1 : d.Keeps l d1 := (Keeps.set_of_part d 0x2110_0D _ rfl hg).trans (.genlock _ _ _ hg)
  have h2 : d.Keeps l d2 := by
    refine ite_pred (d.Keeps l) ?_ (ite_pred (d.Keeps l) (h1.trans (d1.setDpll_keeps hg 1)) (ite_pred (d.Keeps l) h1 ?_))
    · exact (h1.trans (d1.setDpll_keeps hg 1)).trans (.set_of_part _ _ _ rfl hg)
    · exact (h1.trans (.set_of_part _ _ _ rfl hg)).trans (Dev.raise_keeps _ c _ _)
  refine ite_pred (d.Keeps l) (h2.trans (.genlock _ _ _ hg)) ?_
  split
  · exact h2.trans (.genlock _ _ _ hg)
  · exact h2.trans (.genlock _ _ _ hg)
  · exact h2

variable (hr : r < 256)
include hr

theorem Dev.setRefSt_keeps (st : Nat) : d.Keeps l (d.setRefSt r st) :=
  .set_of_part d _ _ (partOfKey_ref hr (by decide)) hg

theorem Dev.startCheck_keeps : d.Keeps l (d.startCheck c r) := (d.setRefSt_keeps hg hr 2).trans (Dev.modRef_keeps _ hg r _)

theorem Dev.loseRef_keeps (st : Nat) : d.Keeps l (d.loseRef c r st) := by
  unfold Dev.loseRef
  extract_lets d1 d2
  have h1 : d.Keeps l d1 := (ite_pred (d.Keeps l) (d.startCheck_keeps c hg hr) (d.setRefSt_keeps hg hr st)).trans
    (.set_of_part _ _ _ (partOfKey_ref hr (by decide)) hg)
  have h2 : d.Keeps l d2 := ite_pred (d.Keeps l) (h1.trans (d1.setDpll_keeps hg _)) h1
  exact ((h2.trans (d2.modRef_keeps hg r _)).trans (Dev.raise_keeps _ c _ _)).trans (Dev.evalSelection_keeps _ c hg)

theorem Dev.badEdge_keeps : d.Keeps l (d.badEdge c r) := by
  unfold Dev.badEdge
  extract_lets d1 st
  have h1 : d.Keeps l d1 := d.modRef_keeps hg r _
  refine ite_pred (d.Keeps l) (ite_pred (d.Keeps l) ?_ (ite_pred (d.Keeps l) (h1.trans (d1.setRefSt_keeps hg hr 1)) h1)) h1
  exact (h1.trans (d1.loseRef_keeps c hg hr 1)).trans (Dev.modRef_keeps _ hg r _)

variable (hs : .collector ∈ l)
include hs

theorem Dev.misaligned_keeps : d.Keeps l (d.misaligned c r) := by
  unfold Dev.misaligned
  extract_lets lasting d1 d2
  have h1 : d.Keeps l d1 := .genlock d _ _ hg
  have h2 : d.Keeps l d2 := (h1.trans (Dev.raise_keeps _ c _ _)).trans (Dev.detect_keeps _ c _ _ hs)
  exact ite_pred (d.Keeps l) (h2.trans (d2.loseRef_keeps c hg hr 3))
    ((h2.trans (d2.setDpll_keeps hg 1)).trans (.genlock _ _ _ hg))

theorem Dev.misFrame_keeps : d.Keeps l (d.misFrame c r) := by
  unfold Dev.misFrame
  extract_lets _ d1
  have h1 : d.Keeps l d1 := .genlock d d.refs _ hg
  exact ite_pred (d.Keeps l) (.refl l d) (ite_pred (d.Keeps l) (h1.trans (d1.misaligned_keeps c hg hr hs)) h1)

theorem Dev.compareEdge_keeps (reft : Int) : d.Keeps l (d.compareEdge c r reft) := by
  unfold Dev.compareEdge
  extract_lets raw d1 d2 ps d3 near bad _ d4
  have h1 : d.Keeps l d1 := ite_pred (d.Keeps l) (d.setDpll_keeps hg _) (.refl l d)
  have h2 : d.Keeps l d2 := ite_pred (d.Keeps l) (h1.trans (d1.firstEdge_keeps c hg r raw)) h1
  have h4 : d.Keeps l d4 := (h2.trans (.set_of_part _ 0x2110_0C _ rfl hg)).trans (.genlock _ _ _ hg)
  exact ite_pred (d.Keeps l) (h4.trans (d4.misFrame_keeps c hg hr hs)) h4

theorem Dev.refEdge_keeps (wide : Bool) : d.Keeps l (d.refEdge c r wide) := by
  unfold Dev.refEdge
  extract_lets st x reft good marks cnt known next d1 d2 d3 d4
  have h1 : d.Keeps l d1 := d.modRef_keeps hg r _
  have h2 : d.Keeps l d2 := h1.trans (d1.modRef_keeps hg r _)
  have h3 : d.Keeps l d3 := ite_pred (d.Keeps l) h1 (ite_pred (d.Keeps l)
    (ite_pred (d.Keeps l) (h2.trans (d2.startCheck_keeps c hg hr)) h2) (h1.trans (d1.badEdge_keeps c hg hr)))
  have h4 : d.Keeps l d4 := ite_pred (d.Keeps l) (h3.trans (d3.compareEdge_keeps c hg hr hs reft)) h3
  exact ite_pred (d.Keeps l) (.refl l d) (h4.trans (d4.modRef_keeps hg r _))

end

/-- A folio's edges change the genlock, and the collector where one is misaligned (R176, R186). -/
theorem Dev.linkrefFolio_keeps (d : Dev) (c : Ctx) (ch quality : Nat) :
    d.Keeps [.genlock, .collector] (d.linkrefFolio c ch quality) := by
  unfold Dev.linkrefFolio
  refine .foldl (fun b r hr => ite_pred (b.Keeps _) ?_ (.refl _ b)) d
  have hr : r < 256 := by
    simp only [List.mem_cons, List.not_mem_nil, or_false] at hr
    omega
  exact ((b.modRef_keeps (by decide) r _).trans (Dev.refEdge_keeps _ c (by decide) hr (by decide) false)).trans
    (Dev.evalSelection_keeps _ c (by decide))

end Sys2Proof.Machine

/-!
SUPPORT. A folio that a port takes for an enabled channel (ch 7): judged by R408 it opens no frame and counts in .1C, or does
not count there, and the settling of O32.
-/
namespace Sys2Proof.Machine

variable {s : State} {dt p ch n : Nat} {k : Pkt} {f : Folio}

/-! ## The frame that a folio ends (R405) -/

/-- A change of a channel that starts no frame leaves it writing none. -/
theorem Dev.writing_modChan {d : Dev} {g : Chan → Chan} (hg : ∀ x, (g x).writing = x.writing)
    (h : (d.chan ch).writing = none) : ((d.modChan ch g).chan ch).writing = none := by
  by_cases hlen : ch < d.chans.length
  · rw [Dev.chan_modChan g hlen, hg, h]
  · rw [Dev.chan, List.getElem?_eq_none (by rw [Dev.modChan_length]; omega)]
    rfl

theorem Dev.abandon_writing (d : Dev) (ch : Nat) : ((d.abandon ch).chan ch).writing = none := by
  unfold Dev.abandon
  cases hw : (d.chan ch).writing with
  | none => exact hw
  | some i =>
    dsimp only
    rw [Dev.chan_of_chans (Dev.inc_chans ..), Dev.chan_modChan _ (Dev.lt_of_writing hw)]

/-- A folio's start: its edges go to the genlock, the frame before it ends, and its numbers stand in .14 to .16. -/
def Dev.beginFolio (d : Dev) (c : Ctx) (ch : Nat) (f : Folio) : Dev :=
  (((d.linkrefFolio c ch f.quality).abandon ch).modChan ch fun x =>
    { x with bufFolio := none, missLast := x.missNow, missNow := false }).setFolio ch f

theorem Dev.beginFolio_writing (d : Dev) (c : Ctx) (ch : Nat) (f : Folio) :
    ((d.beginFolio c ch f).chan ch).writing = none := by
  have hsame (x : Dev) : (x.setFolio ch f).chans = x.chans := by simp [Dev.setFolio]
  unfold Dev.beginFolio
  rw [Dev.chan_of_chans (hsame _)]
  exact Dev.writing_modChan (fun _ => rfl) (Dev.abandon_writing _ ch)

/-- What a folio's start leaves: all objects of its channel but .14 to .16 and the frames abandoned (.19). -/
theorem Dev.beginFolio_stands (d : Dev) (c : Ctx) (f : Folio) {sub : Nat} (hch : ch < 24) (hs : sub < 256)
    (h16 : sub < 0x14 ∨ 0x16 < sub) (h19 : sub ≠ 0x19) : d.Stands (chanK ch sub) (d.beginFolio c ch f) := by
  have hedges : d.Stands (chanK ch sub) (d.linkrefFolio c ch f.quality) :=
    ⟨(d.linkrefFolio_keeps c ch f.quality .capture (by decide)).2 _ (partOfKey_chanK (by omega) hs),
      d.linkrefFolio_rst c ch f.quality⟩
  have hne {j : Nat} (h14 : 0x14 ≤ j) (h16' : j ≤ 0x16) : chanK ch sub ≠ chanK ch j := chanK_inj.not.mpr (by omega)
  exact ((((hedges.trans (Dev.abandon_stands _ h19)).modChan ch _).setN _ (hne (by decide) (by decide))).setN _
    (hne (by decide) (by decide))).setN _ (hne (by decide) (by decide))

/-! ## Judging a folio (R408, R440) -/

theorem folioValid_false (h : f.w = 0 ∨ f.h = 0 ∨ f.total = 0 ∨ f.den = 0 ∨ f.total < f.h ∨ 960 < n) :
    folioValid f n = false := by
  simp only [folioValid, Bool.and_eq_false_iff, decide_eq_false_iff_not]
  omega

theorem folioValid_true (hw : f.w ≠ 0) (hh : f.h ≠ 0) (hden : f.den ≠ 0) (hht : f.h ≤ f.total) (hn : n ≤ 960) :
    folioValid f n = true := by
  simp only [folioValid, Bool.and_eq_true, decide_eq_true_eq]
  omega

/-- An invalid folio is counted and opens no frame. -/
theorem Dev.captureFolio_invalid (d : Dev) (c : Ctx) (hv : folioValid f n = false) :
    d.captureFolio c ch f n = (d.beginFolio c ch f).inc (chanK ch 0x1C) := by
  unfold Dev.captureFolio
  exact if_pos (by rw [hv]; rfl)

/-- The fit of a folio rests on four settings of its channel. -/
theorem Dev.folioFits_congr {d x : Dev} (h : ∀ sub, 4 ≤ sub → sub ≤ 7 → x.nat (chanK ch sub) = d.nat (chanK ch sub)) :
    x.folioFits ch f = d.folioFits ch f := by
  unfold Dev.folioFits
  rw [h 4 (by decide) (by decide), h 5 (by decide) (by decide), h 6 (by decide) (by decide), h 7 (by decide) (by decide)]

/-- A valid folio that fits its channel does not count in .1C. -/
theorem Dev.captureFolio_fits_stands (d : Dev) (c : Ctx) (hch : ch < 24) (hv : folioValid f n = true)
    (hfit : d.folioFits ch f = true) : d.Stands (chanK ch 0x1C) (d.captureFolio c ch f n) := by
  have hbegin {sub : Nat} (h : 4 ≤ sub ∧ sub ≤ 7 ∨ sub = 0x1C) : d.Stands (chanK ch sub) (d.beginFolio c ch f) :=
    d.beginFolio_stands c f hch (by omega) (by omega) (by omega)
  unfold Dev.captureFolio
  extract_lets d1 d2 d3 x missing jump changed d4 d5 d6 d7 d8 d9 r d10 d11 d12 d13
  have hjudged {sub : Nat} (h : 4 ≤ sub ∧ sub ≤ 7 ∨ sub = 0x1C) : d.Stands (chanK ch sub) d10 := by
    have hne {j : Nat} (hj : 0x0C ≤ j ∧ j ≠ 0x1C) : chanK ch sub ≠ chanK ch j := chanK_inj.not.mpr (by omega)
    have h3 : d.Stands (chanK ch sub) d3 := hbegin h
    have h4 : d.Stands (chanK ch sub) d4 := h3.addTo 32 missing (hne (by decide))
    have h5 : d.Stands (chanK ch sub) d5 := ite_pred (d.Stands _) (h4.raiseChan hch (by omega) c _ 46 ch) h4
    have h7 : d.Stands (chanK ch sub) d7 := (((((h5.setN _ (hne (by decide))).setN _ (hne (by decide))).setN _
      (hne (by decide))).setN _ (hne (by decide))).setN _ (hne (by decide))).setN _ (hne (by decide))
    have h9 : d.Stands (chanK ch sub) d9 := (h7.modChan ch _).trans (d8.lockStep_stands c f _ (by omega) (by omega))
    exact (h9.trans (d9.judgeSource_stands hch (by omega) c f (by omega))).trans
      (r.1.judgeFreeze_stands hch (by omega) c f _ (by omega) (by omega))
  have hfit' : d10.folioFits ch f = true :=
    (Dev.folioFits_congr fun sub h4 h7 => (hjudged (.inl ⟨h4, h7⟩)).nat).trans hfit
  have hne {j : Nat} (hj : j ≠ 0x1C) : chanK ch 0x1C ≠ chanK ch j := chanK_inj.not.mpr (Ne.symm hj)
  have h10 : d.Stands (chanK ch 0x1C) d10 := hjudged (.inr rfl)
  have h12 : d.Stands (chanK ch 0x1C) d12 :=
    ite_pred (d.Stands _) ((h10.modChan ch _).raiseChan hch (by decide) c _ 45 ch) h10
  have h13 : d.Stands (chanK ch 0x1C) d13 := h12.setN 2 (hne (by decide))
  rw [if_neg (by simp [hv]), if_neg (by simp [hfit'])]
  exact ite_pred (d.Stands _) h13 (h13.trans (d13.openFrame_stands hch (by decide) c f (by decide) (by decide)))

/-! ## FOLIO -/

/-- A folio that is taken for a channel completes with what its capture leaves of the channel, on a device that has all of
the capture as the command found it. -/
theorem completes_of_folio {P : State → Prop} (hq : Quiet s) (hp : p < s.portCount)
    (hr : (s.entry.rxPacket p 2 0 k).2 = true) (hb : s.dev.boundChan (s.ctx dt) p = some ch)
    (hP : ∀ (d : Dev) (t : State), Same .capture s.dev d →
      Same .capture ((d.captureFolio (s.ctx dt) ch (parseFolio k.payload) (fld k.payload 30 2)).noteSource (s.ctx dt) ch) t.dev →
      P t) : Completes (.folio dt p k) s P := by
  have hrx := Dev.rxPacket_received s.entry (State.lt_of_portCount hp) 2 0 k
  obtain ⟨d, hd⟩ : ∃ d, d = (s.entry.rxPacket p 2 0 k).1.modPort p fun x =>
    { x with folioRx := some (parseFolio k.payload).no } := ⟨_, rfl⟩
  have hleaves : s.entry.Leaves [.links] d := hd ▸ hrx.leaves.modPort p _
  have hsame : Same .capture s.dev d := hleaves.keeps .capture (by decide)
  have hbd : d.boundChan (s.ctx dt) p = some ch := (hsame.boundChan _ p).trans hb
  obtain ⟨hrst, -⟩ := d.captureFolio_values (s.ctx dt) (parseFolio k.payload) (fld k.payload 30 2) (Dev.lt_of_boundChan hb)
  refine completes_of_capture
    (e := (d.captureFolio (s.ctx dt) ch (parseFolio k.payload) (fld k.payload 30 2)).noteSource (s.ctx dt) ch)
    ((show _ = execFolio dt p k s from rfl).trans (State.actOn_act (decide_eq_true hp))) ?_ ?_ fun t => hP d t hsame
  · refine (if_pos hr).trans ?_
    dsimp only
    rw [← hd, hbd]
  · rw [(Dev.noteSource_stands _ 0 _ ch).rst, hrst, hleaves.rst]
    exact hq.1

theorem invalidFolio_completes (hq : Quiet s) (hp : p < s.portCount) (hr : (s.entry.rxPacket p 2 0 k).2 = true)
    (hb : s.dev.boundChan (s.ctx dt) p = some ch) (hv : folioValid (parseFolio k.payload) (fld k.payload 30 2) = false) :
    Completes (.folio dt p k) s fun t => t.dev.nat (chanK ch 0x1C) = (s.dev.nat (chanK ch 0x1C) + 1) % 2 ^ 32 ∧
      (t.dev.chan ch).writing = none := by
  have hch := Dev.lt_of_boundChan hb
  refine completes_of_folio hq hp hr hb fun d t hd ht => ?_
  rw [Dev.captureFolio_invalid d _ hv] at ht
  constructor
  · rw [ht.chanNat hch (by decide), (Dev.noteSource_stands _ _ _ ch).nat, Dev.nat_inc_same,
      (d.beginFolio_stands _ _ hch (by decide) (by decide) (by decide)).nat, hd.chanNat hch (by decide)]
  · rw [ht.chan]
    refine Dev.writing_modChan (fun _ => rfl) ?_
    rw [Dev.chan_of_chans (Dev.inc_chans ..)]
    exact d.beginFolio_writing _ ch _

theorem fittingFolio_completes (hq : Quiet s) (hp : p < s.portCount) (hr : (s.entry.rxPacket p 2 0 k).2 = true)
    (hb : s.dev.boundChan (s.ctx dt) p = some ch) (hv : folioValid (parseFolio k.payload) (fld k.payload 30 2) = true)
    (hfit : s.dev.folioFits ch (parseFolio k.payload) = true) :
    Completes (.folio dt p k) s fun t => t.dev.nat (chanK ch 0x1C) = s.dev.nat (chanK ch 0x1C) := by
  have hch := Dev.lt_of_boundChan hb
  refine completes_of_folio hq hp hr hb fun d t hd ht => ?_
  have hfit' : d.folioFits ch (parseFolio k.payload) = true :=
    (Dev.folioFits_congr fun sub _ h7 => hd.chanNat hch (by omega)).trans hfit
  rw [ht.chanNat hch (by decide), (Dev.noteSource_stands _ _ _ ch).nat,
    (d.captureFolio_fits_stands _ hch hv hfit').nat, hd.chanNat hch (by decide)]

/-- Settles O32: an invalid folio counts and leaves its channel writing no frame; one that is valid and fits does not count. -/
theorem invalidFolioOpensNoFrame : Obligations.Invalid_folio_opens_no_frame := by
  unfold Obligations.Invalid_folio_opens_no_frame
  exact ⟨fun s dt p ch k hq hp _ hr hb hbad => invalidFolio_completes hq hp hr hb (folioValid_false hbad),
    fun s dt p ch k hq hp hr hb hw hh hden hht hn hfit =>
      fittingFolio_completes hq hp hr hb (folioValid_true hw hh hden hht hn) hfit⟩

end Sys2Proof.Machine

/-!
SUPPORT. What a control reset and DOZE leave of the capture (R447): every channel with its slots, and the stored objects of
0x4000 to 0x4017 as the store lists them; and the settling of O25.
-/
namespace Sys2Proof.Machine

/-! ## The stored objects of the capture -/

/-- Whether a stored object is one of 0x4000 to 0x4017. -/
def ofCapture (e : Nat × Val) : Bool := 0x4000 ≤ e.1 / 256 && e.1 / 256 < 0x4018

/-- A key that is not of the capture. -/
def OffCapture (k : Nat) : Prop := ∀ v, ofCapture (k, v) = false

theorem offCapture_of_index {k : Nat} (h : k / 256 < 0x4000 ∨ 0x4018 ≤ k / 256) : OffCapture k := fun v => by
  simp only [ofCapture, Bool.and_eq_false_iff, decide_eq_false_iff_not]
  omega

theorem offCapture_key {base n sub : Nat} (hs : sub < 256) (h : base + n < 0x4000 ∨ 0x4018 ≤ base + n) :
    OffCapture (key base n sub) := offCapture_of_index (by rwa [key_div _ _ _ hs])

theorem filter_ofCapture_put {k : Nat} (hk : OffCapture k) (m : List (Nat × Val)) (v : Val) :
    (put m k v).filter ofCapture = m.filter ofCapture := by
  induction m with
  | nil => simp [put, hk v]
  | cons e r ih =>
    obtain ⟨a, w⟩ := e
    unfold put
    split
    · next h =>
      subst h
      simp [hk v, hk w]
    · split
      · simp [List.filter_cons, hk v]
      · simp [List.filter_cons, ih]

theorem filter_ofCapture_del {k : Nat} (hk : OffCapture k) (m : List (Nat × Val)) :
    (del m k).filter ofCapture = m.filter ofCapture := by
  induction m with
  | nil => rfl
  | cons e r ih =>
    obtain ⟨a, w⟩ := e
    unfold del
    split
    · next h =>
      subst h
      simp [hk w, ih]
    · simp [List.filter_cons, ih]

/-! ## Changes that spare the capture -/

/-- Every reset asked for is a control reset (Table 16.1). -/
def Dev.OnlyControl (d : Dev) : Prop := ∀ w ∈ d.rst.want, 9 ≤ w

/-- From `d` to `x` the channels and the stored objects of the capture are as they were, and no wider reset than a control
reset is asked for. -/
structure Dev.SparesCapture (d x : Dev) : Prop where
  chans : x.chans = d.chans
  obj : x.obj.filter ofCapture = d.obj.filter ofCapture
  control : d.OnlyControl → x.OnlyControl

namespace Dev.SparesCapture

variable {d x y : Dev}

theorem refl (d : Dev) : d.SparesCapture d := ⟨rfl, rfl, id⟩

theorem trans (h : d.SparesCapture x) (g : x.SparesCapture y) : d.SparesCapture y :=
  ⟨g.chans.trans h.chans, g.obj.trans h.obj, g.control ∘ h.control⟩

/-- `trans` from the last change back. -/
theorem after (g : x.SparesCapture y) (h : d.SparesCapture x) : d.SparesCapture y := h.trans g

/-- A change of other fields. -/
theorem fields (h : d.SparesCapture x) (hc : y.chans = x.chans) (ho : y.obj = x.obj) (hr : y.rst.want = x.rst.want) :
    d.SparesCapture y :=
  h.trans ⟨hc, by rw [ho], fun hx w hw => hx w (hr ▸ hw)⟩

theorem set (h : d.SparesCapture x) {k : Nat} (v : Val) (hk : OffCapture k) : d.SparesCapture (x.set k v) := by
  refine h.trans ⟨x.set_chans k v, ?_, fun hx => by rwa [OnlyControl, x.set_rst k v]⟩
  unfold Dev.set
  split
  · exact filter_ofCapture_del hk x.obj
  · exact filter_ofCapture_put hk x.obj v

theorem setN (h : d.SparesCapture x) {k : Nat} (n : Nat) (hk : k / 256 < 0x4000 ∨ 0x4018 ≤ k / 256 := by decide) :
    d.SparesCapture (x.setN k n) := h.set _ (offCapture_of_index hk)

theorem inc (h : d.SparesCapture x) (k : Nat) (hk : k / 256 < 0x4000 ∨ 0x4018 ≤ k / 256 := by decide) :
    d.SparesCapture (x.inc k) := h.setN _ hk

theorem foldl {α : Type} {f : Dev → α → Dev} {r : List α} (h : ∀ (b : Dev), ∀ a ∈ r, b.SparesCapture (f b a)) (d : Dev) :
    d.SparesCapture (r.foldl f d) :=
  List.foldlRecOn (motive := d.SparesCapture) r f (refl d) fun _ hb a ha => hb.trans (h _ a ha)

/-- A raise counts in the event controller and the log alone (R756 to R768). -/
theorem raiseF (h : d.SparesCapture x) (c : Ctx) (b : Bool) (ev n : Nat) : d.SparesCapture (x.raiseF c b ev n) := by
  unfold Dev.raiseF
  extract_lets r e0 m e1 e2 d1 d2 _ d3
  have h1 : d.SparesCapture d1 := h.fields rfl rfl rfl
  have h2 : d.SparesCapture d2 := ite_pred d.SparesCapture (ite_pred d.SparesCapture (h1.inc 0x9200_04)
    (ite_pred d.SparesCapture (h1.inc 0x9200_05) (h1.fields rfl rfl rfl))) h1
  have h3 : d.SparesCapture d3 := h2.fields rfl rfl rfl
  exact ite_pred d.SparesCapture (ite_pred d.SparesCapture (h3.inc 0x9400_05) h3) h2

theorem traceOf (h : d.SparesCapture x) (ht : x.TraceOf y) : d.SparesCapture y := by
  obtain ⟨_, rfl⟩ := ht
  exact h.fields rfl rfl rfl

end Dev.SparesCapture

/-! ## A control reset (Table 16.2) -/

/-- Committing the log's pending records counts only the summaries, .06 of 0x9400. -/
theorem Dev.logFlush_spares (d : Dev) : d.SparesCapture d.logFlush := by
  unfold Dev.logFlush
  refine .foldl (fun b _ _ => ?_) d
  have h1 : b.SparesCapture { b with log := b.log.write1.1 } := (SparesCapture.refl b).fields rfl rfl rfl
  exact ite_pred b.SparesCapture (h1.inc 0x9400_06) h1

theorem Dev.recordReset_spares (d : Dev) (c : Ctx) (cause : Nat) (held : Bool) :
    d.SparesCapture (d.recordReset c cause held) := by
  unfold Dev.recordReset
  exact (((((((SparesCapture.refl d).setN _).setN _).setN _).setN _).setN _).setN _).fields rfl rfl rfl

theorem Dev.controlReset_spares (d : Dev) : d.SparesCapture d.controlReset := by
  unfold Dev.controlReset
  extract_lets q armed d1 d2 _ d3 d4 _ d5 slots _ d6 d7
  have h1 : d.SparesCapture d1 := ite_pred d.SparesCapture (.refl d) ((SparesCapture.refl d).setN _)
  have h3 : d.SparesCapture d3 := (h1.setN _).fields rfl rfl rfl
  have h4 : d.SparesCapture d4 := h3.setN _
  clear_value d4
  exact h4.fields rfl rfl rfl

/-- The lowest of causes from `b` on is one of them. -/
theorem le_foldl_min {b w : Nat} {ws : List Nat} (h : ∀ x ∈ w :: ws, b ≤ x) : b ≤ ws.foldl min w :=
  List.foldlRecOn (motive := (b ≤ ·)) ws min (h w List.mem_cons_self) fun _ hb a ha =>
    le_min hb (h a (List.mem_cons_of_mem w ha))

theorem Dev.takeReset_spares (d : Dev) (c : Ctx) (h : d.OnlyControl) : d.SparesCapture (d.takeReset c) := by
  unfold Dev.takeReset
  split
  · exact .refl d
  · next w ws hw =>
    extract_lets cause early stuck _ _ d1 d2 d3
    have hcause : 9 ≤ cause := le_foldl_min (hw ▸ h)
    have h2 : d.SparesCapture d2 := ⟨rfl, rfl, fun _ _ hx => nomatch hx⟩
    have h3 : d.SparesCapture d3 := ite_pred d.SparesCapture (h2.trans d2.logFlush_spares) h2
    rw [if_pos hcause]
    exact ite_pred d.SparesCapture h2 ((h3.trans (d3.recordReset_spares c _ _)).trans (Dev.controlReset_spares _))

/-! ## What ends a command -/

/-- Where no wider reset than a control reset is asked for, the notices of an entry to SAFE are queued (R357). -/
theorem Dev.safeNotices_spares (d : Dev) (c : Ctx) (w : Nat) (h : d.OnlyControl) : d.SparesCapture (d.safeNotices c w) := by
  have hnow : (d.rst.want.any fun w => decide (w ≤ 8)) = false := by
    rw [List.any_eq_false]
    intro x hx
    have := h x hx
    rw [decide_eq_true_eq]
    omega
  unfold Dev.safeNotices
  simp only [hnow, Bool.false_and, Bool.false_eq_true, if_false]
  refine .foldl (fun b p _ => ite_pred b.SparesCapture (.refl b) ?_) d
  exact (SparesCapture.refl b).fields rfl rfl rfl

theorem Dev.settleSeats_spares (d : Dev) : d.SparesCapture d.settleSeats := by
  unfold Dev.settleSeats
  refine ite_pred d.SparesCapture (.foldl (fun b i _ => ?_) d) (.refl d)
  refine ite_pred b.SparesCapture (SparesCapture.set ?_ _ (offCapture_key (by decide) (.inr (by omega)))) (.refl b)
  exact (SparesCapture.refl b).fields rfl rfl rfl

theorem Dev.settleAudio_spares (d : Dev) (c : Ctx) : d.SparesCapture (d.settleAudio c) := by
  unfold Dev.settleAudio
  refine ite_pred d.SparesCapture ?_ (.refl d)
  refine (((SparesCapture.refl d).setN 4).raiseF c false 60 _).trans (.foldl (fun b i _ => ?_) _)
  exact ite_pred b.SparesCapture ((SparesCapture.refl b).set _ (offCapture_key (by decide) (.inr (by omega)))) (.refl b)

theorem Dev.dispatch_spares (d : Dev) (c : Ctx) : d.SparesCapture (d.dispatch c) := by
  obtain ⟨_, _, e⟩ := d.dispatch_eta c
  rw [e]
  exact (SparesCapture.refl d).fields rfl rfl rfl

theorem Dev.sendBoth_spares (d : Dev) (m : Msg) : d.SparesCapture (d.sendBoth m) := by
  rw [Dev.sendBoth_same]
  exact (SparesCapture.refl d).fields rfl rfl rfl

/-- A dropped frame for the host counts in 0x9200.05. -/
theorem Dev.toHost_spares (d : Dev) (kept front : Bool) (m : Msg) : d.SparesCapture (d.toHost kept front m) := by
  have h0 := SparesCapture.refl d
  unfold Dev.toHost
  exact ite_pred d.SparesCapture h0 (ite_pred d.SparesCapture (h0.fields rfl rfl rfl)
    (ite_pred d.SparesCapture (h0.fields rfl rfl rfl) (ite_pred d.SparesCapture h0 (h0.inc _))))

theorem Dev.sendEvents_spares (d : Dev) : d.SparesCapture d.sendEvents := by
  unfold Dev.sendEvents
  refine .after (.foldl (fun b m _ => ?_) _) ((SparesCapture.refl d).fields rfl rfl rfl)
  exact (b.sendBoth_spares _).trans (Dev.toHost_spares _ _ _ _)

theorem Dev.settlePins_spares (d : Dev) : d.SparesCapture d.settlePins := (SparesCapture.refl d).fields rfl rfl rfl

/-- What ends a command spares the capture where no wider reset than a control reset is asked for. -/
theorem Dev.settle_spares (d : Dev) (c : Ctx) (h : d.OnlyControl) : d.SparesCapture (d.settle c) := by
  unfold Dev.settle
  extract_lets n0 f0 d1 d2 d3 d4
  have h0 : d.SparesCapture n0 := d.safeNotices_spares c _ h
  clear_value n0
  have h1 : d.SparesCapture d1 := ite_pred d.SparesCapture (h0.fields rfl rfl rfl) (.refl d)
  have h2 : d.SparesCapture d2 := (h1.trans d1.settleSeats_spares).trans (d1.settleSeats.settleAudio_spares c)
  have h3 : d.SparesCapture d3 := (h2.trans (d2.takeReset_spares c (h2.control h))).trans (Dev.dispatch_spares _ c)
  have h4 : d.SparesCapture d4 := ite_pred d.SparesCapture (h3.trans d3.sendEvents_spares) h3
  exact h4.trans d4.settlePins_spares

variable {s : State} {dt : Nat}

/-- A command whose effect spares the capture completes, and spares it, the control resets it asks for included. -/
theorem completes_sparing {i : Instr} {f : Ctx → Dev → Dev} (hx : exec i s = s.act dt f) (hq : Quiet s)
    (hf : s.entry.SparesCapture (f (s.ctx dt) s.entry)) :
    Completes i s fun t => t.dev.chans = s.dev.chans ∧ t.dev.obj.filter ofCapture = s.dev.obj.filter ofCapture := by
  have hctl : s.entry.OnlyControl := fun w hw => by
    rw [show s.entry.rst.want = [] from hq.1] at hw
    exact nomatch hw
  obtain ⟨t, ht⟩ : ∃ t, s.act dt f = .next t := ⟨_, rfl⟩
  have hall := hf.trans (Dev.settle_spares _ (s.ctx dt) (hf.control hctl))
  have hend := hall.fields (y := t.dev) (by rw [State.act_dev ht]) (by rw [State.act_dev ht]) (by rw [State.act_dev ht])
  exact ⟨t, hx.trans ht, hend.chans, hend.obj⟩

/-! ## CONTROL_RESET, CONTROL_RESET_WITHOUT_APPLICATION (R893) -/

theorem Dev.leaveDoze_spares (d : Dev) (c : Ctx) : d.SparesCapture (d.leaveDoze c) := by
  unfold Dev.leaveDoze
  refine ite_pred d.SparesCapture (SparesCapture.traceOf ?_ (Dev.trcWake_eta _ c 0)) (.refl d)
  exact ((SparesCapture.refl d).setN (k := 0x8000_01) 0).fields rfl rfl rfl

theorem Dev.AnswerOf.spares {d x : Dev} (h : d.AnswerOf x) : d.SparesCapture x := by
  obtain ⟨_, _, _, _, rfl⟩ := h
  exact (SparesCapture.refl d).fields rfl rfl rfl

theorem Dev.turnFrom_spares (d : Dev) (p : Path) : d.SparesCapture (d.turnFrom p) :=
  (SparesCapture.refl d).fields rfl rfl rfl

theorem Dev.mailReturn_spares (d : Dev) (code : Nat) : d.SparesCapture (d.mailReturn code) :=
  (SparesCapture.refl d).fields rfl rfl rfl

/-- The capture as an accepted write finds it. -/
theorem State.found_spares {k base n : Nat} {o : Org} {v : Int} {r : Obj} (hk : lookup (s.ctx dt).s12 k = .row base n r)
    (hh : s.entry.hears o = true) : s.entry.SparesCapture (s.found dt o k v) := by
  have hheard : s.entry.SparesCapture (s.heard dt o 8) := by
    rw [State.heard_eq]
    exact (s.entry.leaveDoze_spares (s.ctx dt)).trans (Dev.turnFrom_spares _ o.path)
  by_cases hm : o.path = .mailbox
  · rw [State.found_mailbox hk hm]
    exact hheard.trans (Dev.mailReturn_spares _ 0)
  · rw [State.found_frame hk hm]
    refine hheard.trans (Dev.answer_answerOf _ _ o _ _ _ ?_).spares
    rw [State.heard_eq]
    exact Dev.reaches_of_hears (s.ctx dt) hh

/-- A control reset that is asked for is cause 0x0A. -/
theorem Dev.softReset_spares (d : Dev) (v : Val) : d.SparesCapture (d.softReset v) :=
  ⟨rfl, rfl, fun h => List.forall_mem_cons.mpr ⟨by decide, h⟩⟩

theorem lookup_softReset (b : Bool) : lookup b 0x1041_01 = .row 0x1041 0 ⟨0x01, .u16, .cmd, false, .num 0, []⟩ := by
  cases b <;> rfl

/-- An accepted control reset spares the capture until it is taken. -/
theorem Dev.request_softReset_spares {o : Org} {v : Int} (hq : Quiet s) (ha : Accepts s dt o 0x1041_01 v) :
    s.entry.SparesCapture (s.entry.request (s.ctx dt) o 0x1041_01 (.num v) Obs.quiet) := by
  obtain ⟨hh, -⟩ := Accepts.spec ha (lookup_softReset _)
  have hfound : s.entry.SparesCapture (s.found dt o 0x1041_01 v) := State.found_spares (lookup_softReset _) hh
  have hobj : (s.found dt o 0x1041_01 v).writeObj (s.ctx dt) 0x1041 0 0x01 (.num v) Obs.quiet =
      (s.found dt o 0x1041_01 v).softReset (.num v) := rfl
  have haside : ((s.found dt o 0x1041_01 v).softReset (.num v)).rst.aside = [] := by
    show (s.found dt o 0x1041_01 v).rst.aside = []
    rw [(Accepts.found ha (lookup_softReset _)).rst]
    exact hq.2.1
  rw [Dev.request_accepted hq lookup_softReset (by decide) ha rfl, Dev.applyWrite_direct (by decide) (by rw [hobj, haside]),
    hobj]
  exact hfound.trans (Dev.softReset_spares _ _)

/-- An accepted control reset completes, and spares the capture. -/
theorem softReset_completes {i : Instr} {o : Org} {v : Int} (hx : exec i s = s.req dt o 0x1041_01 v Obs.quiet) (hq : Quiet s)
    (ha : Accepts s dt o 0x1041_01 v) : Completes i s fun t => t.dev.chans = s.dev.chans ∧
      t.dev.obj.filter ofCapture = s.dev.obj.filter ofCapture :=
  completes_sparing (f := fun c d => d.request c o 0x1041_01 (.num v) Obs.quiet) hx hq (Dev.request_softReset_spares hq ha)

/-! ## DOZE_ENTRY, DOZE_EXIT (R791, R792) -/

theorem Dev.openFlush_spares (d : Dev) (i : Nat) : d.SparesCapture (d.openFlush i) := by
  unfold Dev.openFlush
  exact ite_pred d.SparesCapture ((SparesCapture.refl d).fields rfl rfl rfl) (.refl d)

theorem Dev.record_spares (d : Dev) (c : Ctx) (i step : Nat) : d.SparesCapture (d.record c i step) := by
  unfold Dev.record
  cases (d.tslot i).pb with
  | none => exact .refl d
  | some b => exact (SparesCapture.refl d).fields rfl rfl rfl

theorem Dev.txn_spares (d : Dev) (i : Nat) (tmpl : List Byte) (addr : Nat) (w : List Byte) (n : Nat) :
    d.SparesCapture (d.txn i tmpl addr w n) := (SparesCapture.refl d).fields rfl rfl rfl

/-- Of a transaction's objects only the state of a raw request, 0x7000.18, is written. -/
theorem Dev.startTxn_spares (d : Dev) (c : Ctx) (r : TReq) (again : Bool) (addr len : Nat) :
    d.SparesCapture (d.startTxn c r again addr len) := by
  unfold Dev.startTxn
  extract_lets _ d1 rd
  have h1 : d.SparesCapture d1 := (SparesCapture.refl d).fields rfl rfl rfl
  cases r.kind with
  | line | ident | fill | header => exact h1.trans (Dev.txn_spares ..)
  | writeEnable => exact (h1.trans (d1.record_spares c r.slot 2)).trans (Dev.txn_spares ..)
  | program =>
    cases (d1.tslot r.slot).pb with
    | none => exact h1
    | some b => exact (h1.trans (d1.record_spares c r.slot 3)).trans (Dev.txn_spares ..)
  | raw => exact (h1.setN (k := titleK 0x18) 2).trans (Dev.txn_spares ..)

theorem Dev.titleNext_spares (d : Dev) (c : Ctx) : d.SparesCapture (d.titleNext c) := by
  unfold Dev.titleNext
  extract_lets d1
  have h1 : d.SparesCapture d1 := .foldl (fun b i _ => ite_pred b.SparesCapture (b.openFlush_spares i) (.refl b)) d
  refine ite_pred d.SparesCapture h1 ?_
  cases d1.chooseReq with
  | none => exact h1
  | some r => exact .after (Dev.startTxn_spares ..) (h1.fields rfl rfl rfl)

theorem Dev.startFlush_spares (d : Dev) (c : Ctx) (i : Nat) : d.SparesCapture (d.startFlush c i) := by
  unfold Dev.startFlush
  exact ite_pred d.SparesCapture ((d.openFlush_spares i).trans (Dev.titleNext_spares _ c)) (.refl d)

theorem Dev.trcSleep_spares (d : Dev) (c : Ctx) (why : Nat) : d.SparesCapture (d.trcSleep c why) :=
  ((SparesCapture.refl d).traceOf (d.trc_eta _)).fields rfl rfl rfl

theorem Dev.modPwr_spares (d : Dev) (f : Pwr → Pwr) : d.SparesCapture (d.modPwr f) :=
  (SparesCapture.refl d).fields rfl rfl rfl

theorem dozeEntry_completes (hq : Quiet s) : Completes (.dozeEntry dt) s fun t => t.dev.chans = s.dev.chans ∧
    t.dev.obj.filter ofCapture = s.dev.obj.filter ofCapture := by
  refine completes_sparing (show _ = execDozeEntry dt s from rfl) hq ?_
  have h0 := Dev.SparesCapture.refl s.entry
  refine ite_pred s.entry.SparesCapture h0 (ite_pred s.entry.SparesCapture ?flushes ?dozes)
  case flushes => exact (s.entry.startFlush_spares (s.ctx dt) 0).trans (Dev.startFlush_spares _ (s.ctx dt) 1)
  case dozes =>
    have hdoze := ((h0.setN (k := 0x8000_01) 1).inc 0x8000_0A).trans (Dev.modPwr_spares _ fun p => { p with st := .doze })
    exact hdoze.trans (Dev.trcSleep_spares _ (s.ctx dt) 0)

theorem dozeExit_completes (hq : Quiet s) : Completes (.dozeExit dt) s fun t => t.dev.chans = s.dev.chans ∧
    t.dev.obj.filter ofCapture = s.dev.obj.filter ofCapture :=
  completes_sparing (show _ = execDozeExit dt s from rfl) hq (s.entry.leaveDoze_spares (s.ctx dt))

/-- Settles O25: a control reset is asked for and taken, and DOZE entered and left, on devices whose capture is as it was. -/
theorem captureOutlivesControlResetAndDoze : Obligations.Capture_outlives_control_reset_and_doze := by
  unfold Obligations.Capture_outlives_control_reset_and_doze
  exact ⟨fun s dt o hq ha => softReset_completes (show _ = execControlReset dt o s from rfl) hq ha,
    fun s dt o hq ha => softReset_completes (show _ = execControlResetWithoutApplication dt o s from rfl) hq ha,
    fun s dt hq _ => dozeEntry_completes hq, fun s dt hq _ => dozeExit_completes hq⟩

end Sys2Proof.Machine

/-!
SUPPORT. A state in which AUDIO_BLOCK_SEND counts in an object that is not of its parts, and the settling of O55.
-/
namespace Sys2Proof.Machine

/-! ## The frame of AUDIO_BLOCK_SEND (R523, R372): a forme whose port is none of the device's -/

/-- A device that is up, whose forme 0 has the samples of one block ready and names port 7,168 (0x5000.02). No accepted
write gives that setting such a value, but the obligation is about every state. What stands at the key 0x3000 + 7168.02
makes the port a trunk, so that it sends audio. -/
def strayFormePort : State where
  dev :=
    { obj := [(portK 0x1C00 0x02, .num 2), (formeK 0 0x02, .num 0x1C00)]
      audio := { units := [{ ts := List.replicate 8 0 }] }
      rst := { stage := .up } }

/-- The block finds no port that is UP and is counted as discarded (R372) at 0x3400 + 7168.08, which is the key of the
pixel format of forme 0, 3 by default. -/
theorem exec_strayFormePort : ∃ t, exec (.audioBlockSend 0 0) strayFormePort = .next t ∧
    t.dev.rst.stage = .up ∧ t.dev.nat (formeK 0 0x08) = 4 := by
  obtain ⟨f, hx, hw, hs, hn⟩ : ∃ f, exec (.audioBlockSend 0 0) strayFormePort = strayFormePort.act 0 f ∧
      (f (strayFormePort.ctx 0) strayFormePort.entry).rst.want = [] ∧
      (f (strayFormePort.ctx 0) strayFormePort.entry).rst.stage = .up ∧
      (f (strayFormePort.ctx 0) strayFormePort.entry).nat (formeK 0 0x08) = 4 := by
    have hx : exec (.audioBlockSend 0 0) strayFormePort = execAudioBlockSend 0 0 strayFormePort := rfl
    refine ⟨_, hx.trans (State.actOn_act (by decide)), ?_, ?_, ?_⟩
    · rfl
    · rfl
    · rfl
  obtain ⟨t, ht, hend⟩ := strayFormePort.act_ends 0 f hw
  exact ⟨t, hx.trans ht, hend.stage.trans hs, (hend.nat (by decide)).trans hn⟩

/-- Refutes O55: it does not ask that a forme's port is a port of the device, and on `strayFormePort` AUDIO_BLOCK_SEND
writes an object of the formes. -/
theorem not_frameOfAudio : ¬ Obligations.Frame_of_audio := by
  unfold Obligations.Frame_of_audio
  intro h
  obtain ⟨t, ht, hup, hnew⟩ := exec_strayFormePort
  have hsame : Same .formes strayFormePort.dev t.dev :=
    h (.audioBlockSend 0 0) strayFormePort t rfl ⟨⟨rfl, rfl, rfl⟩, rfl, rfl, ht, hup⟩ .formes (by decide)
  have hold : strayFormePort.dev.nat (formeK 0 0x08) = 3 := rfl
  have hkept : t.dev.nat (formeK 0 0x08) = strayFormePort.dev.nat (formeK 0 0x08) := hsame.nat rfl
  rw [hnew, hold] at hkept
  exact absurd hkept (by decide)

end Sys2Proof.Machine

/-!
SUPPORT. A state in which an ECHO leaves no sink status, and the settling of O9.
-/
namespace Sys2Proof.Machine

/-! ## An ECHO on a port without inner state (R480) -/

/-- A device whose list of ports is empty. No reset makes such a list, but the obligation is about every state. By its
objects port 3, sink-facing (1), is UP (3), every lane in packet mode; forme 0 runs on it with echo compare on, and its
history holds frame 9. -/
def portlessDevice : State where
  dev :=
    { obj := [(portK 3 0x02, .num 1), (portK 3 0x07, .num 3), (formeK 0 0x02, .num 3), (formeK 0 0x11, .num 1),
        (key 0x5400 0 0x01, .num 1)]
      ports := []
      lanes := List.replicate 48 { pm := true }
      formes := [{ hist := [⟨9, 77, 5, 0x1234, 0⟩] }] }

/-- The ECHO of frame 9, with sink status 1. -/
def echoOfNine : Pkt := sealed 7 3 0 0 0 (le 4 9 ++ le 4 77 ++ le 4 5 ++ le 4 0x1234 ++ le 4 1)

/-- The ECHO is taken, but its sink status (log entry 138) has no place to be held. -/
theorem exec_portlessDevice : ∃ t, exec (.echo 0 3 echoOfNine) portlessDevice = .next t ∧ (t.dev.port 3).sinkStatus = 0 := by
  have hx : exec (.echo 0 3 echoOfNine) portlessDevice = execEcho 0 3 echoOfNine portlessDevice := rfl
  refine completes_of_ports (hx.trans (State.actOn_act (by decide))) rfl ?_ fun t _ hports _ => ?_
  · decide +kernel
  · rw [Dev.port_of_ports (hports (by decide +kernel))]
    decide +kernel

/-- Refutes O9: its ECHO clause does not ask that the port has an inner state, as its other clauses do of the forme and
the window, and on `portlessDevice` an ECHO that agrees with the history leaves 0 for the sink status 1. -/
theorem not_formeCommandsComplete : ¬ Obligations.Forme_commands_complete := by
  unfold Obligations.Forme_commands_complete
  rintro ⟨-, -, -, -, hecho⟩
  obtain ⟨t, ht, hzero⟩ := exec_portlessDevice
  obtain ⟨u, hu, -, -, hone⟩ := hecho portlessDevice 0 3 0 echoOfNine ⟨9, 77, 5, 0x1234, 0⟩ ⟨rfl, rfl, rfl⟩ (by decide)
    (by decide +kernel) (by decide +kernel) (by decide +kernel) (by decide) (by decide) (by decide)
  obtain rfl : t = u := Host.Outcome.next.inj (ht.symm.trans hu)
  rw [hzero] at hone
  exact absurd hone (by decide)

end Sys2Proof.Machine

/-!
SUPPORT. The entries of an audio route table: which the chapter refuses and which input each takes, and the settling of
O43 (ch 9).
-/
namespace Sys2Proof.Machine

/-! ## Which entries are refused (R509, R510) -/

/-- The entries of the S2424's Table 9.2. -/
theorem routeOk_s2424 (r : Nat) :
    routeOk false r = true ↔ r ≤ 0x01BF ∨ (0x8000 ≤ r ∧ r ≤ 0x83FF) ∨ r = 0xFFFF := by
  simp only [routeOk, Bool.false_and, Bool.not_false, Bool.and_true, Bool.or_eq_true, Bool.and_eq_true, decide_eq_true_eq]
  omega

/-- The chapter's refusal of a forme's route table. -/
theorem Dev.checkAudio_routes (d : Dev) (c : Ctx) (n : Nat) (b : List Byte) :
    d.checkAudio c 0x6100 n 0x03 (.bytes b) =
      if ∀ i ∈ List.range 16, routeOk c.s12 (fld b (2 * i) 2) = true then [] else [0x0005] :=
  if_congr List.all_eq_true rfl rfl

/-! ## The input an entry takes (R510, R511) -/

theorem Dev.routeInput_input (d : Dev) {r : Nat} (h : r ≤ 0x01BF) : d.routeInput r = r :=
  if_pos (by omega)

theorem Dev.routeInput_silence (d : Dev) : d.routeInput 0xFFFF = 0xFFFF := rfl

/-- An entry that follows channel `k` of window `w`. -/
theorem Dev.routeInput_window (d : Dev) {w k : Nat} (hw : w < 64) (hk : k < 16) :
    d.routeInput (0x8000 + 16 * w + k) =
      if d.nat (winK w 0x1A) = 1 ∧ d.nat (winK w 0x03) < 24 then 16 * d.nat (winK w 0x03) + k else 0xFFFF := by
  have hwin : (0x8000 + 16 * w + k - 0x8000) / 16 = w := by omega
  have hchan : (0x8000 + 16 * w + k - 0x8000) % 16 = k := by omega
  have hlow : ¬ 0x8000 + 16 * w + k < 448 := by omega
  have hform : 0x8000 ≤ 0x8000 + 16 * w + k ∧ 0x8000 + 16 * w + k < 0x8400 := by omega
  unfold Dev.routeInput
  simp only [if_neg hlow, Bool.and_eq_true, decide_eq_true_eq, if_pos hform, hwin, hchan]

/-- Settles O43: the entries accepted are those of Table 9.2 and of the windows, and each form has its own branch. -/
theorem routeEntries : Obligations.Route_entries := by
  unfold Obligations.Route_entries
  constructor
  · intro d c n b h24
    simp only [Dev.checkAudio_routes, h24, routeOk_s2424]
  · exact fun d r w k hw hk => ⟨d.routeInput_input, d.routeInput_silence, d.routeInput_window hw hk⟩

end Sys2Proof.Machine

/-!
SUPPORT. Embedded audio: keys, the states of the groups, what the end of a command leaves of the audio, and the settling of
O31 (ch 9).
-/
namespace Sys2Proof.Machine

variable {d x : Dev} {n sub : Nat}

/-! ## Keys -/

theorem partOfKey_capAudK (hn : n < 256) (hs : sub < 256) : partOfKey (capAudK n sub) = some .audio :=
  partOfKey_key 0x60 n sub hn hs (by decide) (by decide) (by decide) (by decide)

/-- Objects of different sub-index are different objects, of whatever tables and instances. -/
theorem key_ne_of_sub {b b' n' sub' : Nat} (h : sub ≠ sub') (hs : sub < 256 := by decide) (hs' : sub' < 256 := by decide) :
    key b n sub ≠ key b' n' sub' := by
  unfold key
  omega

theorem Same.audio (h : Same .audio d x) : x.audio = d.audio := Eq.symm h.1

theorem Same.capAudNat (h : Same .audio d x) (hn : n < 24) (hs : sub < 256 := by decide) :
    x.nat (capAudK n sub) = d.nat (capAudK n sub) := h.nat (partOfKey_capAudK (by omega) hs)

theorem Same.capAudFlag (h : Same .audio d x) (hn : n < 24) (hs : sub < 256 := by decide) :
    x.flag (capAudK n sub) = d.flag (capAudK n sub) := Dev.flag_of_get (h.2 _ (partOfKey_capAudK (by omega) hs))

/-- A received packet leaves the audio. -/
theorem Dev.Received.audio {p : Nat} (h : d.Received p x) : Same .audio d x := h.leaves.keeps .audio (by decide)

/-! ## A command that completes -/

variable {s : State} {dt p ch : Nat} {k : Pkt} {ppb : Int}

/-- A command completes with the audio part of what its effect leaves, where that asks for no reset. -/
theorem completes_of_audio {i : Instr} {f : Ctx → Dev → Dev} {e : Dev} {P : State → Prop} (hx : exec i s = s.act dt f)
    (hf : f (s.ctx dt) s.entry = e) (hw : e.rst.want = []) (hP : ∀ t : State, Same .audio e t.dev → P t) :
    Completes i s P := by
  subst hf
  obtain ⟨t, ht, -, hk, -⟩ := s.act_kept dt f hw
  exact ⟨t, hx.trans ht, hP t (hk .audio (by decide))⟩

/-! ## AUDIO_BLOCK: the blocks that are discarded (R547) -/

theorem blockGood_eq_false {g : Nat} {b : List Byte}
    (h : 6 < fld b 0 1 ∨ fld b 2 1 = 0 ∨ 32 < fld b 2 1 ∨ b.length ≠ 16 + 16 * fld b 2 1) : blockGood g b = false := by
  refine Bool.eq_false_iff.mpr fun hgood => ?_
  simp only [blockGood, Bool.and_eq_true, decide_eq_true_eq] at hgood
  omega

theorem badAudioBlock_completes (hq : Quiet s) (hp : p < s.portCount) (hr : (s.entry.rxPacket p 4 0 k).2 = true)
    (hb : s.dev.boundChan (s.ctx dt) p = some ch) (hcap : s.dev.flag (capAudK ch 0x01) = true)
    (hbad : blockGood k.fieldB k.payload = false) :
    Completes (.audioBlock dt p k ppb) s fun t =>
      t.dev.nat (capAudK ch 0x09) = (s.dev.nat (capAudK ch 0x09) + 1) % 2 ^ 32 ∧ t.dev.audio = s.dev.audio ∧
        t.dev.nat (capAudK ch 0x06) = s.dev.nat (capAudK ch 0x06) := by
  have hch := Dev.lt_of_boundChan hb
  have hrx := s.entry.rxPacket_received (State.lt_of_portCount hp) 4 0 k
  have hbd := (hrx.capture.boundChan (s.ctx dt) p).trans hb
  have hflag := (hrx.audio.capAudFlag hch).trans hcap
  have hx : exec (.audioBlock dt p k ppb) s = execAudioBlock dt p k ppb s := rfl
  refine completes_of_audio (hx.trans (State.actOn_act (decide_eq_true hp)))
    (e := (s.entry.rxPacket p 4 0 k).1.inc (capAudK ch 0x09)) ?_ ?_ fun t ht => ⟨?_, ?_, ?_⟩
  · dsimp only
    rw [hr, hbd]
    dsimp only
    rw [hflag, hbad]
    rfl
  · rw [Dev.inc_rst, hrx.leaves.rst]
    exact hq.1
  · rw [ht.capAudNat hch, Dev.nat_inc_same, hrx.audio.capAudNat hch]
    rfl
  · rw [ht.audio, Dev.inc_audio, hrx.audio.audio]
    rfl
  · have hcount : Dev.Stands (capAudK ch 0x06) _ ((s.entry.rxPacket p 4 0 k).1.inc (capAudK ch 0x09)) :=
      (Dev.Stands.refl _ _).inc (key_ne_of_sub (by decide))
    rw [ht.capAudNat hch, hcount.nat, hrx.audio.capAudNat hch]
    rfl

/-- Settles O31: beside the reception of the packet, the count is all the command does. -/
theorem badAudioBlocksAreDiscarded : Obligations.Bad_audio_blocks_are_discarded := by
  unfold Obligations.Bad_audio_blocks_are_discarded
  exact fun s dt p ch k ppb hq hp hr hb hcap hbad _ => badAudioBlock_completes hq hp hr hb hcap (blockGood_eq_false hbad)

end Sys2Proof.Machine

/-!
SUPPORT. Embedded audio: the inner states and the objects of groups, units and TDM ports, and the TDM ports that are slaves
at the end of a command (ch 9).
-/
namespace Sys2Proof.Machine

variable {d x : Dev} {c : Ctx}

/-! ## Bits of an object -/

/-- A field of a number reads as it was set. -/
theorem bits_setBits (n lo w v : Nat) : bits (setBits n lo w v) lo w = v % 2 ^ w := by
  have hfield : n - n / 2 ^ lo % 2 ^ w * 2 ^ lo + v % 2 ^ w * 2 ^ lo =
      n % 2 ^ lo + 2 ^ lo * (2 ^ w * (n / 2 ^ lo / 2 ^ w) + v % 2 ^ w) := by
    have hn := Nat.mod_add_div n (2 ^ lo)
    have hq := congrArg (2 ^ lo * ·) (Nat.mod_add_div (n / 2 ^ lo) (2 ^ w))
    simp only [Nat.mul_add] at hq ⊢
    rw [Nat.mul_comm _ (2 ^ lo), Nat.mul_comm (v % 2 ^ w)]
    omega
  unfold setBits bits
  rw [Nat.shiftRight_eq_div_pow, Nat.shiftRight_eq_div_pow, Nat.shiftLeft_eq, Nat.shiftLeft_eq, hfield,
    Nat.add_mul_div_left _ _ (Nat.two_pow_pos lo), Nat.div_eq_of_lt (Nat.mod_lt _ (Nat.two_pow_pos lo)), Nat.zero_add,
    Nat.mul_add_mod, Nat.mod_mod]

/-! ## Groups (0x6000 + c.04) -/

theorem Dev.setGroupSt_groupSt (d : Dev) (a : Nat) {st : Nat} (h : st < 16) : (d.setGroupSt a st).groupSt a = st := by
  have hpresent : capAudK (a / 4) 0x04 ≠ capAudK (a / 4) 0x02 := key_ne_of_sub (by decide)
  unfold Dev.groupSt Dev.setGroupSt
  dsimp only
  rw [Dev.nat_setN_ne _ _ _ _ hpresent, Dev.nat_setN_same, bits_setBits, Nat.mod_eq_of_lt (show st < 2 ^ 4 from h)]

theorem Dev.setGroupSt_stands (d : Dev) (a st : Nat) {ch sub : Nat} (h2 : sub ≠ 0x02) (h4 : sub ≠ 0x04) (hs : sub < 256) :
    d.Stands (capAudK ch sub) (d.setGroupSt a st) :=
  ((Stands.refl _ d).setN _ (key_ne_of_sub h4 hs)).setN _ (key_ne_of_sub h2 hs)

theorem Dev.setGroupSt_rst (d : Dev) (a st : Nat) : (d.setGroupSt a st).rst = d.rst :=
  (d.setGroupSt_stands a st (ch := 0) (sub := 0) (by decide) (by decide) (by decide)).rst

/-- The state of a group lies in the objects of its channel. -/
theorem Dev.groupSt_of_stands {a : Nat} (h : d.Stands (capAudK (a / 4) 0x04) x) : x.groupSt a = d.groupSt a := by
  unfold Dev.groupSt
  rw [h.nat]

theorem Same.groupSt {a : Nat} (h : Same .audio d x) (ha : a < 96) : x.groupSt a = d.groupSt a := by
  unfold Dev.groupSt
  rw [h.capAudNat (by omega)]

/-! ## Elements of the audio's lists -/

/-- Element `i` of a list, where there is one, after it was changed. -/
theorem getD_modifyAt {α : Type} (f : α → α) {i : Nat} {l : List α} (a : α) (h : i < l.length) :
    ((modifyAt f i l)[i]?).getD a = f ((l[i]?).getD a) := by
  rw [getElem?_modifyAt_self, List.getElem?_eq_getElem h]
  rfl

theorem Dev.atdm_modTdm {i : Nat} (f : ATdm → ATdm) (h : i < d.audio.tdm.length) : (d.modTdm i f).atdm i = f (d.atdm i) :=
  getD_modifyAt f {} h

theorem Dev.aunit_modUnit {n : Nat} (f : AUnit → AUnit) (h : n < d.audio.units.length) :
    (d.modUnit n f).aunit n = f (d.aunit n) := getD_modifyAt f {} h

theorem Dev.atdm_of_audio (h : x.audio = d.audio) (i : Nat) : x.atdm i = d.atdm i := by
  unfold Dev.atdm
  rw [h]

theorem Dev.aunit_of_audio (h : x.audio = d.audio) (n : Nat) : x.aunit n = d.aunit n := by
  unfold Dev.aunit
  rw [h]

/-- What a change of a unit leaves of it, where the device has the unit or not. -/
theorem Dev.aunit_modUnit_proj {α : Type} (g : AUnit → α) {f : AUnit → AUnit} (hf : ∀ y, g (f y) = g y) (d : Dev) (n : Nat) :
    g ((d.modUnit n f).aunit n) = g (d.aunit n) := by
  by_cases hn : n < d.audio.units.length
  · rw [Dev.aunit_modUnit f hn, hf]
  · have hnone : d.audio.units[n]? = none := List.getElem?_eq_none (by omega)
    unfold Dev.aunit Dev.modUnit
    dsimp only
    rw [getElem?_modifyAt_self, hnone]
    rfl

/-! ## TDM ports that are slaves -/

theorem partOfKey_tdmK {t sub : Nat} (ht : t < 256) (hs : sub < 256) (h : sub ≠ 0x0E) :
    partOfKey (tdmK t sub) = some .audio := by
  have hne : tdmK t sub ≠ 0x6300_06 := by unfold tdmK key; omega
  have hsub : tdmK t sub % 256 = sub := key_mod _ _ _ hs
  have hdiv : tdmK t sub / 256 = 256 * 0x62 + t := key_div _ _ _ hs
  unfold partOfKey
  rw [if_neg (by simp [hne, hsub, h]), hdiv, partOf_add 0x62 t ht (by decide) (by decide)]
  rfl

theorem tdmK_lt {t sub : Nat} (ht : t < 4) (hs : sub < 256) : tdmK t sub < 0x8200_00 := by
  unfold tdmK key
  omega

theorem Dev.settleSeats_stands (d : Dev) {k : Nat} (hk : k < 0x8200_00) : d.Stands k d.settleSeats := by
  unfold Dev.settleSeats
  refine ite_pred (d.Stands k) (foldl_pred (d.Stands k) _ (fun y t hy => ?_) _ (.refl k d)) (.refl k d)
  have hseat : k ≠ key 0x8200 t 0x0A := by unfold key; omega
  dsimp only
  refine ite_pred (d.Stands k) (Stands.setN (hy.fields ?_ ?_) 1 hseat) hy <;> rfl

theorem Dev.toHost_stands (d : Dev) (kept front : Bool) (m : Msg) {k : Nat} (hk : k < 0x8200_00) :
    d.Stands k (d.toHost kept front m) := by
  have h0 := Stands.refl k d
  unfold Dev.toHost
  exact ite_pred (d.Stands k) h0 (ite_pred (d.Stands k) (h0.fields rfl rfl) (ite_pred (d.Stands k) (h0.fields rfl rfl)
    (ite_pred (d.Stands k) h0 (h0.inc (by omega)))))

theorem Dev.sendEvents_stands (d : Dev) {k : Nat} (hk : k < 0x8200_00) : d.Stands k d.sendEvents := by
  unfold Dev.sendEvents
  refine foldl_pred (d.Stands k) _ (fun y m hy => ?_) _ ⟨rfl, rfl⟩
  exact (hy.fields (Dev.sendBoth_obj ..) (Dev.sendBoth_rst ..)).trans (Dev.toHost_stands _ _ _ _ hk)

/-- The fallback of the audio clock stops the master ports alone (R548). -/
theorem Dev.settleAudio_slave (d : Dev) (c : Ctx) {i : Nat} (hi : i < 4) (hrole : d.nat (tdmK i 0x02) ≠ 0) :
    d.Stands (tdmK i 0x0E) (d.settleAudio c) := by
  let P (y : Dev) : Prop := d.Stands (tdmK i 0x0E) y ∧ d.Stands (tdmK i 0x02) y
  have hkey (sub : Nat) (hs : sub < 256) : tdmK i sub ≠ 0x6300_06 := by unfold tdmK key; omega
  have hlow (sub : Nat) (hs : sub < 256) : tdmK i sub < 0x9200_00 := lt_trans (tdmK_lt hi hs) (by decide)
  have hraise (sub ev n : Nat) (hs : sub < 256) : d.Stands (tdmK i sub) ((d.setN 0x6300_06 4).raise c ev n) :=
    ((Stands.refl _ d).setN 4 (hkey sub hs)).raiseF c _ ev n (hlow sub hs)
  have hP : P (d.settleAudio c) := by
    unfold Dev.settleAudio
    refine ite_pred P (foldl_pred P _ (fun y t hy => ?_) _ ⟨hraise _ _ _ (by decide), hraise _ _ _ (by decide)⟩)
      ⟨.refl _ d, .refl _ d⟩
    obtain ⟨hst, hro⟩ := hy
    by_cases ht : t = i
    · have hslave : y.nat (key 0x6200 t 0x02) ≠ 0 := by
        rw [ht]
        exact fun h0 => hrole (hro.nat.symm.trans h0)
      rw [if_neg (by simp [hslave])]
      exact ⟨hst, hro⟩
    · refine ite_pred P ⟨hst.setN 1 ?_, hro.setN 1 (key_ne_of_sub (by decide))⟩ ⟨hst, hro⟩
      unfold tdmK key
      omega
  exact hP.1

/-- What ends a command that asks for no reset leaves the state of a slave port. -/
theorem Dev.settle_slave (d : Dev) (c : Ctx) (h : d.rst.want = []) {i : Nat} (hi : i < 4)
    (hrole : d.nat (tdmK i 0x02) ≠ 0) : (d.settle c).nat (tdmK i 0x0E) = d.nat (tdmK i 0x0E) := by
  have hlow := tdmK_lt hi (show 0x0E < 256 by decide)
  unfold Dev.settle
  extract_lets n0 f0 d1 d2 d3 d4
  have h1 : d1.obj = d.obj ∧ d1.rst = d.rst := by
    have hn : d.PortsOf n0 := d.safeNotices_eta c _ h
    clear_value n0
    obtain ⟨ps, rfl⟩ := hn
    exact ite_pred (fun y : Dev => y.obj = d.obj ∧ y.rst = d.rst) ⟨rfl, rfl⟩ ⟨rfl, rfl⟩
  have hd1 (k : Nat) : d.Stands k d1 := (Stands.refl k d).fields h1.1 h1.2
  have hseats : d.Stands (tdmK i 0x0E) d1.settleSeats := (hd1 _).trans (d1.settleSeats_stands hlow)
  have hslave : d1.settleSeats.nat (tdmK i 0x02) ≠ 0 := by
    rw [((hd1 _).trans (d1.settleSeats_stands (tdmK_lt hi (by decide)))).nat]
    exact hrole
  have h2 : d.Stands (tdmK i 0x0E) d2 := hseats.trans (d1.settleSeats.settleAudio_slave c hi hslave)
  have h3 : d.Stands (tdmK i 0x0E) d3 := by
    have hd3 : d3 = (d2.takeReset c).dispatch c := rfl
    obtain ⟨_, _, e⟩ := d2.dispatch_eta c
    rw [hd3, Dev.takeReset_none d2 c (by rw [h2.rst, h]), e]
    exact h2.fields rfl rfl
  have h4 : d.Stands (tdmK i 0x0E) d4 := ite_pred (d.Stands _) (h3.trans (d3.sendEvents_stands hlow)) h3
  clear_value d4
  have hpins : d4.Stands (tdmK i 0x0E) d4.settlePins := (Stands.refl _ d4).fields rfl rfl
  exact (h4.trans hpins).nat

variable {s : State} {dt i : Nat}

/-- A command completes with the audio part of what its effect leaves, and with the state it leaves of a slave port, where
that asks for no reset. -/
theorem completes_of_slave {j : Instr} {f : Ctx → Dev → Dev} {e : Dev} {P : State → Prop} (hx : exec j s = s.act dt f)
    (hf : f (s.ctx dt) s.entry = e) (hw : e.rst.want = []) (hi : i < 4) (hrole : e.nat (tdmK i 0x02) ≠ 0)
    (hP : ∀ t : State, Same .audio e t.dev → t.dev.nat (tdmK i 0x0E) = e.nat (tdmK i 0x0E) → P t) : Completes j s P := by
  subst hf
  obtain ⟨t, ht, -, hk, -⟩ := s.act_kept dt f hw
  refine ⟨t, hx.trans ht, hP t (hk .audio (by decide)) ?_⟩
  have hst := Dev.settle_slave _ (s.ctx dt) hw hi hrole
  rw [State.act_dev ht]
  generalize (f (s.ctx dt) s.entry).settle (s.ctx dt) = y at hst
  exact hst

end Sys2Proof.Machine

/-!
SUPPORT. The audio commands that receive: AUDIO_BLOCK, ASRC_LOCK, AUDIO_INPUT_LOST and the syncs of slave TDM ports complete
with their effect (ch 9).
-/
namespace Sys2Proof.Machine

variable {d x : Dev} {c : Ctx}

/-! ## Changes of inner states leave the objects -/

namespace Dev.Stands

variable {k : Nat}

theorem modGroup (h : d.Stands k x) (a : Nat) (f : AGroup → AGroup) : d.Stands k (x.modGroup a f) := ⟨h.get, h.rst⟩

theorem modTdm (h : d.Stands k x) (i : Nat) (f : ATdm → ATdm) : d.Stands k (x.modTdm i f) := ⟨h.get, h.rst⟩

theorem modUnit (h : d.Stands k x) (n : Nat) (f : AUnit → AUnit) : d.Stands k (x.modUnit n f) := ⟨h.get, h.rst⟩

end Dev.Stands

theorem Dev.raise_stands (d : Dev) (c : Ctx) (ev n : Nat) {k : Nat} (hk : k < 0x9200_00) : d.Stands k (d.raise c ev n) :=
  (Stands.refl k d).raiseF c _ ev n hk

/-! ## Sending a block (R372, R505, R524) -/

section
variable {ch sub : Nat}

/-- What the scheduler input discards is counted in no object of a capture channel's audio. -/
theorem Dev.queueIso_stands (d : Dev) (p : Nat) (q : QPkt) (h8 : sub ≠ 0x08) (hs : sub < 256) :
    d.Stands (capAudK ch sub) (d.queueIso p q) := by
  have h0 := Stands.refl (capAudK ch sub) d
  unfold Dev.queueIso
  exact ite_pred (d.Stands _) h0 (ite_pred (d.Stands _) (h0.inc (key_ne_of_sub h8 hs)) (h0.modPort p _))

theorem Dev.sendBlock_stands (d : Dev) (n h rate flags cnt t : Nat) (mute : Bool) (words : List Byte)
    (h8 : sub ≠ 0x08) (hA : sub ≠ 0x0A) (hs : sub < 256) :
    d.Stands (capAudK ch sub) (d.sendBlock c n h rate flags cnt t mute words) :=
  (((Stands.refl _ d).modUnit n _).inc (key_ne_of_sub hA hs)).trans (Dev.queueIso_stands _ _ _ h8 hs)

theorem Dev.passThrough_stands (d : Dev) (a : Nat) (q : APass) (h8 : sub ≠ 0x08) (hA : sub ≠ 0x0A) (hs : sub < 256) :
    d.Stands (capAudK ch sub) (d.passThrough c a q) := by
  unfold Dev.passThrough
  refine .foldl (fun b n _ => .foldl (fun y h _ => ?_) b) d
  refine ite_pred (y.Stands _) ?_ (.refl _ y)
  exact ((Stands.refl _ y).modUnit n _).trans
    (.foldl (fun z w _ => z.sendBlock_stands n h w.rate w.flags w.n (c.t) _ _ h8 hA hs) _)

end

variable {s : State} {dt p ch a i n : Nat} {k : Pkt} {ppb : Int}

/-! ## AUDIO_BLOCK: the blocks that are good (R514 to R516) -/

theorem goodAudioBlock_completes (hq : Quiet s) (hp : p < s.portCount) (hr : (s.entry.rxPacket p 4 0 k).2 = true)
    (hb : s.dev.boundChan (s.ctx dt) p = some ch) (hcap : s.dev.flag (capAudK ch 0x01) = true)
    (hgood : blockGood k.fieldB k.payload = true) :
    Completes (.audioBlock dt p k ppb) s fun t =>
      t.dev.nat (capAudK ch 0x06) = (s.dev.nat (capAudK ch 0x06) + 1) % 2 ^ 32 := by
  have hch := Dev.lt_of_boundChan hb
  have hrx := s.entry.rxPacket_received (State.lt_of_portCount hp) 4 0 k
  have hlow : capAudK ch 0x06 < 0x9200_00 := by unfold capAudK key; omega
  have hx : exec (.audioBlock dt p k ppb) s = execAudioBlock dt p k ppb s := rfl
  let S := Dev.Stands (capAudK ch 0x06) ((s.entry.rxPacket p 4 0 k).1.inc (capAudK ch 0x06))
  obtain ⟨f, hf, hst⟩ : ∃ f, exec (.audioBlock dt p k ppb) s = s.act dt f ∧ S (f (s.ctx dt) s.entry) := by
    refine ⟨_, hx.trans (State.actOn_act (decide_eq_true hp)), ?_⟩
    extract_lets r d0 g rate cnt comp
    have hr0 : r.2 = true := hr
    have hb0 : d0.boundChan (s.ctx dt) p = some ch := (hrx.capture.boundChan (s.ctx dt) p).trans hb
    have hcap0 : d0.flag (capAudK ch 0x01) = true := (hrx.audio.capAudFlag hch).trans hcap
    simp -zeta only [hr0, hb0, hcap0, hgood, Bool.not_true, Bool.false_eq_true, if_false]
    extract_lets a y st missing fresh d1 d2 d3 d4 d5
    have h1 : S d1 := .refl _ _
    have h2 : S d2 := h1.setN _ (key_ne_of_sub (by decide))
    have h3 : S d3 := ite_pred S (h2.inc (key_ne_of_sub (by decide))) h2
    have h4 : S d4 := h3.modGroup a _
    have h5 : S d5 := h4.set _ (key_ne_of_sub (by decide))
    have hgroup (e : Dev) (st : Nat) (h : S e) : S (e.setGroupSt a st) :=
      h.trans (e.setGroupSt_stands a st (by decide) (by decide) (by decide))
    refine ite_pred S ((hgroup d4 5 h4).trans (Dev.passThrough_stands _ _ _ (by decide) (by decide) (by decide))) ?_
    exact ite_pred S (ite_pred S h5 ((hgroup d5 4 h5).raiseF _ _ 59 a hlow)) (ite_pred S (hgroup d5 1 h5) h5)
  refine completes_of_audio hf rfl ?_ fun t ht => ?_
  · rw [hst.rst, Dev.inc_rst, hrx.leaves.rst]
    exact hq.1
  · rw [ht.capAudNat hch, hst.nat, Dev.nat_inc_same, hrx.audio.capAudNat hch]
    rfl

/-! ## ASRC_LOCK (R515, R518) -/

/-- A group of a capture channel of the variant is one of the 96. -/
theorem group_lt_of_count (h : a < 4 * s.count 24 12) : a < 96 := by
  unfold State.count at h
  split at h <;> omega

theorem asrcLock_locksGroup (hq : Quiet s) (ha : a < 4 * s.count 24 12) (hst : s.dev.groupSt a = 1) :
    Completes (.asrcLock dt a) s fun t => t.dev.groupSt a = 2 := by
  have ha96 := group_lt_of_count ha
  have hx : exec (.asrcLock dt a) s = execAsrcLock dt a s := rfl
  refine completes_of_audio (hx.trans (State.actOn_act ?_)) ((if_neg (by omega)).trans (if_pos hst)) ?_ fun t ht => ?_
  · simp [ha]
  · rw [Dev.setGroupSt_rst]
    exact hq.1
  · rw [ht.groupSt ha96, Dev.setGroupSt_groupSt _ _ (by decide)]

theorem asrcLock_locksTdm (hq : Quiet s) (hi : i < 4) (hrole : s.dev.nat (tdmK i 0x02) = 1)
    (hst : s.dev.nat (tdmK i 0x0E) = 2) : Completes (.asrcLock dt (96 + i)) s fun t => t.dev.nat (tdmK i 0x0E) = 3 := by
  have hx : exec (.asrcLock dt (96 + i)) s = execAsrcLock dt (96 + i) s := rfl
  have hi' : 96 + i - 96 = i := by omega
  have hkeep : s.entry.Stands (tdmK i 0x02) (s.entry.setN (tdmK i 0x0E) 3) :=
    (Dev.Stands.refl _ _).setN 3 (key_ne_of_sub (by decide))
  refine completes_of_slave (e := s.entry.setN (tdmK i 0x0E) 3) (hx.trans (State.actOn_act ?_)) ?_ ?_ hi ?_ fun t _ ht => ?_
  · simp [show 96 + i < 100 by omega]
  · rw [if_pos (by omega), hi']
    exact if_pos hst
  · rw [hkeep.rst]
    exact hq.1
  · rw [hkeep.nat]
    exact hrole ▸ one_ne_zero
  · rw [ht, Dev.nat_setN_same]

/-! ## AUDIO_INPUT_LOST (R544) -/

theorem audioInputLost_completes (hq : Quiet s) (ha : a < 4 * s.count 24 12)
    (hst : s.dev.groupSt a = 1 ∨ s.dev.groupSt a = 2 ∨ s.dev.groupSt a = 4)
    (hover : s.dev.groupOverdue (s.ctx dt) a = true) :
    Completes (.audioInputLost dt a) s fun t => t.dev.groupSt a = 3 ∧
      t.dev.nat (capAudK (a / 4) 0x08) = (s.dev.nat (capAudK (a / 4) 0x08) + 1) % 2 ^ 32 := by
  have ha96 := group_lt_of_count ha
  have hlow (sub : Nat) (hs : sub < 256) : capAudK (a / 4) sub < 0x9200_00 := by unfold capAudK key; omega
  have hx : exec (.audioInputLost dt a) s = execAudioInputLost dt a s := rfl
  have hcond : ((decide (s.entry.groupSt a = 1) || decide (s.entry.groupSt a = 2) || decide (s.entry.groupSt a = 4)) &&
      s.entry.groupOverdue (s.ctx dt) a) = true := by
    have hst' : s.entry.groupSt a = 1 ∨ s.entry.groupSt a = 2 ∨ s.entry.groupSt a = 4 := hst
    have hover' : s.entry.groupOverdue (s.ctx dt) a = true := hover
    simpa [or_assoc, hover'] using hst'
  obtain ⟨f, hf, g, he⟩ : ∃ f, exec (.audioInputLost dt a) s = s.act dt f ∧ ∃ g, f (s.ctx dt) s.entry =
      (((s.entry.modGroup a g).setGroupSt a 3).inc (capAudK (a / 4) 0x08)).raise (s.ctx dt) 58 a :=
    ⟨_, hx.trans (State.actOn_act (decide_eq_true ha)), _, if_pos hcond⟩
  have hset (sub : Nat) (h2 : sub ≠ 0x02) (h4 : sub ≠ 0x04) (hs : sub < 256) :
      s.entry.Stands (capAudK (a / 4) sub) ((s.entry.modGroup a g).setGroupSt a 3) :=
    ((Dev.Stands.refl _ _).modGroup a g).trans (Dev.setGroupSt_stands _ a 3 h2 h4 hs)
  refine completes_of_audio hf he ?_ fun t ht => ⟨?_, ?_⟩
  · rw [Dev.raise_rst, Dev.inc_rst, (hset 0 (by decide) (by decide) (by decide)).rst]
    exact hq.1
  · have hcount := ((Dev.Stands.refl (capAudK (a / 4) 0x04) ((s.entry.modGroup a g).setGroupSt a 3)).inc
      (j := capAudK (a / 4) 0x08) (key_ne_of_sub (by decide))).trans
        (Dev.raise_stands _ (s.ctx dt) 58 a (hlow _ (by decide)))
    rw [ht.groupSt ha96, Dev.groupSt_of_stands hcount, Dev.setGroupSt_groupSt _ _ (by decide)]
  · rw [ht.capAudNat (by omega), (Dev.raise_stands _ _ 58 a (hlow 0x08 (by decide))).nat, Dev.nat_inc_same,
      (hset 0x08 (by decide) (by decide) (by decide)).nat]
    rfl

/-! ## TDM_FRAME_SYNC, AUDIO_TDM_CLOCK_LOST (R549) -/

theorem tdmFrameSync_completes {same : Bool} {words : List Nat} (hq : Quiet s) (hi : i < 4)
    (hlen : i < s.dev.audio.tdm.length) (hrole : s.dev.nat (tdmK i 0x02) ≠ 0) (hst : s.dev.nat (tdmK i 0x0E) ≠ 0) :
    Completes (.tdmFrameSync dt i n same words) s fun t =>
      (t.dev.atdm i).last = some (s.ctx dt).t ∧ (t.dev.atdm i).same = same := by
  have hx : exec (.tdmFrameSync dt i n same words) s = execTdmFrameSync dt i n same words s := rfl
  let K (y : Dev) : Prop := y.rst = s.dev.rst ∧ y.audio = s.dev.audio
  have hsetN (y : Dev) (k n : Nat) (h : K y) : K (y.setN k n) := ⟨(y.setN_rst k n).trans h.1, (y.setN_audio k n).trans h.2⟩
  obtain ⟨f, hf, hrst, hlast, hsame⟩ : ∃ f, exec (.tdmFrameSync dt i n same words) s = s.act dt f ∧
      (f (s.ctx dt) s.entry).rst = s.dev.rst ∧ ((f (s.ctx dt) s.entry).atdm i).last = some (s.ctx dt).t ∧
      ((f (s.ctx dt) s.entry).atdm i).same = same := by
    refine ⟨_, hx.trans (State.actOn_act (decide_eq_true hi)), ?_⟩
    extract_lets st bad d1 d2 direct d3 d4
    have hruns : ¬ (decide (st = 0) || decide (s.entry.nat (tdmK i 0x02) = 0)) = true := by
      rw [Bool.or_eq_true, decide_eq_true_eq, decide_eq_true_eq]
      exact not_or.mpr ⟨hst, hrole⟩
    rw [if_neg hruns]
    have h1 : K d1 := ite_pred K (hsetN s.entry _ _ ⟨rfl, rfl⟩) ⟨rfl, rfl⟩
    have h2 : K d2 := by
      show K (match (d1.atdm i).last with | some l => _ | none => _)
      split
      · exact ite_pred K (hsetN d1 _ _ h1) h1
      · exact h1
    have h3 : K d3 := hsetN d2 _ _ h2
    have h4 : d4.atdm i = _ := Dev.atdm_modTdm _ (h3.2 ▸ hlen)
    exact ⟨h3.1, congrArg ATdm.last h4, congrArg ATdm.same h4⟩
  refine completes_of_audio hf rfl (hrst ▸ hq.1) fun t ht => ?_
  rw [Dev.atdm_of_audio ht.audio]
  exact ⟨hlast, hsame⟩

theorem audioTdmClockLost_completes {l : Nat} (hq : Quiet s) (hi : i < 4) (hlen : i < s.dev.audio.tdm.length)
    (hrole : s.dev.nat (tdmK i 0x02) = 1) (hst : s.dev.nat (tdmK i 0x0E) = 2 ∨ s.dev.nat (tdmK i 0x0E) = 3)
    (hl : (s.dev.atdm i).last = some l)
    (hover : l * audioHz (s.dev.nat (tdmK i 0x03)) + 1600000000 ≤ (s.ctx dt).t * audioHz (s.dev.nat (tdmK i 0x03))) :
    Completes (.audioTdmClockLost dt i) s fun t => t.dev.nat (tdmK i 0x0E) = 4 ∧ (t.dev.atdm i).last = none ∧
      (t.dev.atdm i).words = List.replicate 16 0 := by
  have hx : exec (.audioTdmClockLost dt i) s = execAudioTdmClockLost dt i s := rfl
  have hlow (sub : Nat) (hs : sub < 256) : tdmK i sub < 0x9200_00 := lt_trans (tdmK_lt hi hs) (by decide)
  obtain ⟨f, hf, g, hg, he⟩ : ∃ f, exec (.audioTdmClockLost dt i) s = s.act dt f ∧ ∃ g : ATdm → ATdm,
      (∀ y, (g y).last = none ∧ (g y).words = List.replicate 16 0) ∧ f (s.ctx dt) s.entry =
        ((s.entry.setN (tdmK i 0x0E) 4).modTdm i g).raise (s.ctx dt) 61 i := by
    refine ⟨_, hx.trans (State.actOn_act (decide_eq_true hi)), fun y => { y with last := none, words := List.replicate 16 0 },
      fun y => ⟨rfl, rfl⟩, ?_⟩
    have hrole' : s.entry.nat (tdmK i 0x02) = 1 := hrole
    have hst' : s.entry.nat (tdmK i 0x0E) = 2 ∨ s.entry.nat (tdmK i 0x0E) = 3 := hst
    have hl' : (s.entry.atdm i).last = some l := hl
    refine if_pos ?_
    rw [hl']
    simp only [hrole', decide_true, Bool.true_and, Bool.and_eq_true, Bool.or_eq_true, decide_eq_true_eq]
    exact ⟨hst', hover⟩
  have hkeep (sub : Nat) (hs : sub < 256) (hE : sub ≠ 0x0E) : s.entry.Stands (tdmK i sub)
      (((s.entry.setN (tdmK i 0x0E) 4).modTdm i g).raise (s.ctx dt) 61 i) :=
    (((Dev.Stands.refl _ _).setN 4 (key_ne_of_sub hE hs)).modTdm i g).raiseF _ _ 61 i (hlow sub hs)
  have htdm : (((s.entry.setN (tdmK i 0x0E) 4).modTdm i g).raise (s.ctx dt) 61 i).atdm i = g (s.dev.atdm i) := by
    rw [Dev.atdm_of_audio (Dev.raise_audio ..), Dev.atdm_modTdm g (by rw [Dev.setN_audio]; exact hlen),
      Dev.atdm_of_audio (Dev.setN_audio ..)]
    rfl
  refine completes_of_slave hf he ?_ hi ?_ fun t ht hstate => ⟨?_, ?_⟩
  · rw [(hkeep 0 (by decide) (by decide)).rst]
    exact hq.1
  · rw [(hkeep 0x02 (by decide) (by decide)).nat]
    exact hrole ▸ one_ne_zero
  · rw [hstate, (Dev.raise_stands _ _ 61 i (hlow 0x0E (by decide))).nat]
    exact Dev.nat_setN_same _ _ _
  · rw [Dev.atdm_of_audio ht.audio, htdm]
    exact hg _

end Sys2Proof.Machine

/-!
SUPPORT. AUDIO_BLOCK_SEND and DEVICE_AUDIO_TICK complete with their effect, and the settling of O10 (ch 9).
-/
namespace Sys2Proof.Machine

variable {d x y : Dev} {c : Ctx}

/-! ## AUDIO_BLOCK_SEND (R523) -/

theorem Dev.queueIso_audio (d : Dev) (p : Nat) (q : QPkt) : (d.queueIso p q).audio = d.audio := by
  unfold Dev.queueIso
  exact ite_pred (fun y : Dev => y.audio = d.audio) rfl (ite_pred (fun y : Dev => y.audio = d.audio) (Dev.inc_audio ..) rfl)

/-- Sending a block leaves the samples of the unit that wait. -/
theorem Dev.sendBlock_ts (d : Dev) (c : Ctx) (n h rate flags cnt t : Nat) (mute : Bool) (words : List Byte) :
    ((d.sendBlock c n h rate flags cnt t mute words).aunit n).ts = (d.aunit n).ts := by
  unfold Dev.sendBlock
  dsimp only
  rw [Dev.aunit_of_audio ((Dev.queueIso_audio ..).trans (Dev.inc_audio ..))]
  refine Dev.aunit_modUnit_proj AUnit.ts ?_ d n
  exact fun _ => rfl

theorem Dev.sendBlock_rst (d : Dev) (c : Ctx) (n h rate flags cnt t : Nat) (mute : Bool) (words : List Byte) :
    (d.sendBlock c n h rate flags cnt t mute words).rst = d.rst :=
  (d.sendBlock_stands (ch := 0) (sub := 0) n h rate flags cnt t mute words (by decide) (by decide) (by decide)).rst

variable {s : State} {dt n i : Nat}

theorem audioBlockSend_completes (hq : Quiet s) (hn : n < s.count 24 12) (hlen : n < s.dev.audio.units.length)
    (hts : audioN s.dev.audioRate ≤ (s.dev.aunit n).ts.length) : Completes (.audioBlockSend dt n) s fun t =>
      (t.dev.aunit n).ts = (s.dev.aunit n).ts.drop (audioN s.dev.audioRate) := by
  have hx : exec (.audioBlockSend dt n) s = execAudioBlockSend dt n s := rfl
  let K (y : Dev) : Prop := y.rst = s.dev.rst ∧ (y.aunit n).ts = (s.dev.aunit n).ts.drop (audioN s.dev.audioRate)
  obtain ⟨f, hf, hK⟩ : ∃ f, exec (.audioBlockSend dt n) s = s.act dt f ∧ K (f (s.ctx dt) s.entry) := by
    refine ⟨_, hx.trans (State.actOn_act (decide_eq_true hn)), ?_⟩
    extract_lets u cnt t chans mute outs rest a d1 d2
    have hfull : ¬ u.ts.length < cnt := Nat.not_lt.mpr hts
    rw [if_neg hfull]
    clear_value rest
    have h2 : K d2 := ⟨rfl, congrArg AUnit.ts (Dev.aunit_modUnit (d := d1) _ hlen)⟩
    have hsend (y : Dev) (h flags : Nat) (m : Bool) (w : List Byte) (hy : K y) :
        K (y.sendBlock (s.ctx dt) n h y.audioRate flags cnt t m w) :=
      ⟨(Dev.sendBlock_rst ..).trans hy.1, (Dev.sendBlock_ts ..).trans hy.2⟩
    refine foldl_pred K _ (fun y h hy => ?_) _ h2
    exact ite_pred K (ite_pred K hy (hsend y h _ _ _ hy)) (ite_pred K (hsend y h _ _ _ hy) hy)
  refine completes_of_audio hf rfl (hK.1 ▸ hq.1) fun t ht => ?_
  rw [Dev.aunit_of_audio ht.audio]
  exact hK.2

/-! ## Changes that leave the TDM ports' inner states -/

/-- The inner states of the TDM ports and the state of resets are as they were. -/
structure Dev.TdmKept (d x : Dev) : Prop where
  tdm : x.audio.tdm = d.audio.tdm
  rst : x.rst = d.rst

namespace Dev.TdmKept

theorem refl (d : Dev) : d.TdmKept d := ⟨rfl, rfl⟩

theorem trans (h : d.TdmKept x) (g : x.TdmKept y) : d.TdmKept y := ⟨g.tdm.trans h.tdm, g.rst.trans h.rst⟩

theorem setN (h : d.TdmKept x) (k n : Nat) : d.TdmKept (x.setN k n) :=
  h.trans ⟨congrArg Audio.tdm (x.setN_audio k n), x.setN_rst k n⟩

theorem raise (h : d.TdmKept x) (c : Ctx) (ev n : Nat) : d.TdmKept (x.raise c ev n) :=
  h.trans ⟨congrArg Audio.tdm (x.raise_audio c ev n), x.raise_rst c ev n⟩

theorem modUnit (h : d.TdmKept x) (u : Nat) (f : AUnit → AUnit) : d.TdmKept (x.modUnit u f) := ⟨h.tdm, h.rst⟩

/-- A change of other inner states of the audio. -/
theorem fields (h : d.TdmKept x) (ha : y.audio.tdm = x.audio.tdm) (hr : y.rst = x.rst) : d.TdmKept y := h.trans ⟨ha, hr⟩

theorem atdm (h : d.TdmKept x) (i : Nat) : x.atdm i = d.atdm i := by
  unfold Dev.atdm
  rw [h.tdm]

end Dev.TdmKept

/-! ## The steps of a tick (R519 to R543) -/

theorem Dev.showDelay_tdm (d : Dev) (u : Nat) : d.TdmKept (d.showDelay u) :=
  ite_pred d.TdmKept ((TdmKept.refl d).setN _ _) ((TdmKept.refl d).setN _ _)

theorem Dev.lipSync_tdm (d : Dev) (c : Ctx) (u : Nat) : d.TdmKept (d.lipSync c u) := by
  unfold Dev.lipSync
  extract_lets w lw ns hz cl a target d1 d2 d3 d4 diff
  have h1 : d.TdmKept d1 := ite_pred d.TdmKept ((TdmKept.refl d).raise c 62 u) (.refl d)
  have h2 : d.TdmKept d2 := h1.setN _ _
  have h3 : d.TdmKept d3 := ite_pred d.TdmKept (h2.setN _ _) h2
  have h4 : d.TdmKept d4 := h3.modUnit u _
  refine ite_pred d.TdmKept h4 (ite_pred d.TdmKept (h4.modUnit u _) ?_)
  exact (h4.modUnit u _).trans (Dev.showDelay_tdm _ u)

theorem Dev.delayTick_tdm (d : Dev) (u : Nat) : d.TdmKept (d.delayTick u) := by
  unfold Dev.delayTick
  extract_lets a d1
  have h1 : d.TdmKept d1 := by
    show d.TdmKept (match a.fade with | some (o, i) => _ | none => _)
    split
    · exact (TdmKept.refl d).modUnit u _
    · exact .refl d
  split
  · exact h1
  · refine ite_pred d.TdmKept (h1.modUnit u _) (ite_pred d.TdmKept ?_ (h1.modUnit u _))
    exact (h1.modUnit u _).trans (Dev.showDelay_tdm _ u)

theorem Dev.levelTick_tdm (d : Dev) (u : Nat) : d.TdmKept (d.levelTick u) := by
  unfold Dev.levelTick
  extract_lets want a outs b d1 d2 up
  have h2 : d.TdmKept d2 := ite_pred d.TdmKept ⟨rfl, rfl⟩ (.refl d)
  exact h2.modUnit u _

theorem Dev.outTick_tdm (d : Dev) (c : Ctx) (o want : Nat) (g : Int) (u : AUnit) (bad : Bool) :
    d.TdmKept (d.outTick c o want g u bad).1 := ⟨rfl, rfl⟩

theorem Dev.unitTick_tdm (d : Dev) (c : Ctx) (bad : List Nat) (u : Nat) : d.TdmKept (d.unitTick c bad u) := by
  unfold Dev.unitTick
  extract_lets d1 a r d2 t slots outs b d3 d4 d5
  have h1 : d.TdmKept d1 := d.levelTick_tdm u
  have hr : d.TdmKept r.1 :=
    foldl_pred (fun q : Dev × List (Nat × Int) × Bool => d.TdmKept q.1) _
      (fun q e hq => hq.trans (q.1.outTick_tdm c e.1 _ e.2.2 a (bad.contains e.1))) _ h1
  have h2 : d.TdmKept d2 := ite_pred d.TdmKept (hr.setN _ _) hr
  have h4 : d.TdmKept d4 :=
    ite_pred d.TdmKept (ite_pred d.TdmKept (h2.fields rfl rfl) h2) (TdmKept.modUnit (h2.fields (y := d3) rfl rfl) u _)
  have h5 : d.TdmKept d5 := h4.trans (d4.delayTick_tdm u)
  exact ite_pred d.TdmKept h1 (ite_pred d.TdmKept h5 (h5.trans (d5.lipSync_tdm c u)))

theorem Dev.settleMasters_tdm (d : Dev) : d.TdmKept d.settleMasters := by
  unfold Dev.settleMasters
  exact foldl_pred d.TdmKept _ (fun y t hy => ite_pred d.TdmKept (hy.setN _ _) hy) _ (.refl d)

theorem Dev.clockSwitch_tdm (d : Dev) : d.TdmKept d.clockSwitch := by
  unfold Dev.clockSwitch
  split
  · extract_lets units outs a d1
    have h1 : d.TdmKept d1 := ⟨rfl, rfl⟩
    exact ite_pred d.TdmKept ((h1.setN _ _).trans (Dev.settleMasters_tdm _)) (.refl d)
  · exact .refl d

/-! ## The input words of a tick (R518) -/

/-- A master TDM port takes its input words of the tick. -/
def Dev.takeWords (tdm : List Nat) (d : Dev) (t : Nat) : Dev :=
  if d.nat (tdmK t 0x02) = 0 then d.modTdm t fun x => { x with words := (tdm.drop (16 * t)).take 16 } else d

/-- After the ports below `m` have taken theirs: no object and no reset has changed, and port `i` has its own if it is one
of them. -/
structure Dev.WordsTaken (d : Dev) (tdm : List Nat) (i m : Nat) (x : Dev) : Prop where
  obj : x.obj = d.obj
  rst : x.rst = d.rst
  length : x.audio.tdm.length = d.audio.tdm.length
  words : i < m → (x.atdm i).words = (tdm.drop (16 * i)).take 16

theorem Dev.WordsTaken.next {tdm : List Nat} {m : Nat} (h : d.WordsTaken tdm i m x) (hlen : i < d.audio.tdm.length)
    (hrole : d.nat (tdmK i 0x02) = 0) : d.WordsTaken tdm i (m + 1) (x.takeWords tdm m) := by
  unfold Dev.takeWords
  by_cases hm : m = i
  · have hmaster : x.nat (tdmK m 0x02) = 0 := by
      rw [Dev.nat_of_get (Dev.get_of_obj h.obj _), hm]
      exact hrole
    rw [if_pos hmaster, hm]
    refine ⟨h.obj, h.rst, (length_modifyAt ..).trans h.length, fun _ => ?_⟩
    rw [Dev.atdm_modTdm _ (h.length ▸ hlen)]
  · have hold (hi : i < m + 1) := h.words (by omega)
    refine ite_pred (d.WordsTaken tdm i (m + 1)) ⟨h.obj, h.rst, (length_modifyAt ..).trans h.length, fun hi => ?_⟩
      ⟨h.obj, h.rst, h.length, hold⟩
    rw [← hold hi]
    unfold Dev.atdm Dev.modTdm
    dsimp only
    rw [getElem?_modifyAt_ne _ _ (Ne.symm hm)]

theorem Dev.takeWords_all (d : Dev) (tdm : List Nat) (hlen : i < d.audio.tdm.length) (hrole : d.nat (tdmK i 0x02) = 0)
    (m : Nat) : d.WordsTaken tdm i m ((upTo m).foldl (fun d t => d.takeWords tdm t) d) := by
  induction m with
  | zero => exact ⟨rfl, rfl, rfl, fun h => absurd h (Nat.not_lt_zero i)⟩
  | succ m ih =>
    rw [upTo, List.range_succ, List.foldl_append]
    exact ih.next hlen hrole

/-! ## DEVICE_AUDIO_TICK (R512, R520) -/

/-- What the last command sent does not pace the ticks. -/
theorem State.entry_tickDue (s : State) (c : Ctx) : (s.entry.pace c).tickDue c = (s.dev.pace c).tickDue c := by
  unfold Dev.pace
  by_cases h : s.dev.audio.pace = s.dev.paceNow
  · have h' : s.entry.audio.pace = s.entry.paceNow := h
    rw [if_pos h, if_pos h']
    rfl
  · have h' : ¬ s.entry.audio.pace = s.entry.paceNow := h
    rw [if_neg h, if_neg h']
    rfl

theorem Dev.pace_tdm (d : Dev) (c : Ctx) : d.TdmKept (d.pace c) := ite_pred d.TdmKept (.refl d) ⟨rfl, rfl⟩

theorem Dev.pace_obj (d : Dev) (c : Ctx) : (d.pace c).obj = d.obj := ite_pred (fun y : Dev => y.obj = d.obj) rfl rfl

theorem Dev.tickTaken_tdm (d : Dev) (c : Ctx) : d.TdmKept (d.tickTaken c) :=
  ⟨ite_pred (fun a : Audio => a.tdm = d.audio.tdm) rfl rfl, rfl⟩

/-- A read of frame memory that stays uncorrectable asks for no reset and leaves the audio (R25, R550, R844). -/
theorem Dev.badRead_leaves (d : Dev) (c : Ctx) : d.Leaves [.collector] ((d.raise c 6 0).detect c 0x06 0) :=
  ((Leaves.refl _ d).raise c 6 0).trans
    ⟨Dev.detect_keeps _ c 0x06 0 (by decide), Dev.detect_rst c 0 (by simp [Dev.classOf])⟩

theorem Dev.transient_leaves (d : Dev) : d.Leaves [.collector] d.transient := ⟨d.transient_keeps (by decide), Dev.inc_rst ..⟩

theorem deviceAudioTick_completes {tdm bad again : List Nat} (hq : Quiet s) (hclk : s.dev.nat 0x6300_06 ≠ 0)
    (hrun : s.dev.pwr.st = .run) (hi : i < 4) (hlen : i < s.dev.audio.tdm.length) (hrole : s.dev.nat (tdmK i 0x02) = 0)
    (hdue : (s.dev.pace (s.ctx dt)).tickDue (s.ctx dt) = true) : Completes (.deviceAudioTick dt tdm bad again) s fun t =>
      (t.dev.atdm i).words = (tdm.drop (16 * i)).take 16 := by
  have hx : exec (.deviceAudioTick dt tdm bad again) s = execDeviceAudioTick dt tdm bad again s := rfl
  let K (y : Dev) : Prop := y.rst = s.dev.rst ∧ (y.atdm i).words = (tdm.drop (16 * i)).take 16
  obtain ⟨f, hf, hK⟩ : ∃ f, exec (.deviceAudioTick dt tdm bad again) s = s.act dt f ∧ K (f (s.ctx dt) s.entry) := by
    refine ⟨_, hx, ?_⟩
    extract_lets d1 reads d2 d3 d4 d5 groups a
    have hticks : ¬ (decide (s.entry.nat 0x6300_06 = 0) || decide (s.entry.pwr.st = .standby) ||
        decide (s.entry.pwr.st = .hibernate) || decide (s.entry.pwr.st = .off)) = true := by
      have hclk' : s.entry.nat 0x6300_06 ≠ 0 := hclk
      have hrun' : s.entry.pwr.st = .run := hrun
      simp [hclk', hrun']
    have hdue' : (s.entry.pace (s.ctx dt)).tickDue (s.ctx dt) = true := (s.entry_tickDue _).trans hdue
    rw [if_neg hticks, if_neg (by simp [hdue'])]
    have hpace : s.entry.TdmKept (s.entry.pace (s.ctx dt)) := s.entry.pace_tdm _
    have h1 : s.entry.TdmKept d1 := hpace.trans (Dev.tickTaken_tdm _ _)
    have hobj1 : d1.obj = s.dev.obj := s.entry.pace_obj _
    have h2 : d1.Leaves [.collector] d2 :=
      foldl_pred (d1.Leaves [.collector]) _
        (fun y o hy => ite_pred (d1.Leaves [.collector]) (hy.trans y.transient_leaves) hy) _ (.refl _ d1)
    have h3 : d1.Leaves [.collector] d3 :=
      ite_pred (d1.Leaves [.collector]) (h2.trans (d2.badRead_leaves _)) h2
    have hsame : Same .audio d1 d3 := h3.keeps .audio (by decide)
    have hlen3 : i < d3.audio.tdm.length := by
      rw [hsame.audio, h1.tdm]
      exact hlen
    have hrole3 : d3.nat (tdmK i 0x02) = 0 := by
      rw [hsame.nat (partOfKey_tdmK (by omega) (by decide) (by decide)), Dev.nat_of_get (Dev.get_of_obj hobj1 _)]
      exact hrole
    have h4 : d3.WordsTaken tdm i 4 d4 := d3.takeWords_all tdm hlen3 hrole3 4
    have h5 : d4.TdmKept d5 := foldl_pred d4.TdmKept _ (fun y u hy => hy.trans (y.unitTick_tdm _ bad u)) _ (.refl d4)
    have hend (y : Dev) (hy : d4.TdmKept y) : K y.clockSwitch := by
      have h6 := hy.trans y.clockSwitch_tdm
      exact ⟨h6.rst.trans (h4.rst.trans (h3.rst.trans h1.rst)), (congrArg ATdm.words (h6.atdm i)).trans (h4.words hi)⟩
    clear_value d5 d4
    exact hend _ ⟨h5.tdm, h5.rst⟩
  refine completes_of_audio hf rfl (hK.1 ▸ hq.1) fun t ht => ?_
  rw [Dev.atdm_of_audio ht.audio]
  exact hK.2

/-! ## The audio commands -/

/-- Settles O10, command by command: none of their effects asks for a reset, and what ends a command leaves the audio and
the states of slave TDM ports. -/
theorem audioCommandsComplete : Obligations.Audio_commands_complete := by
  unfold Obligations.Audio_commands_complete
  exact ⟨fun s dt tdm bad again i hq hclk hrun hi hlen hrole hdue =>
      deviceAudioTick_completes hq hclk hrun hi hlen hrole hdue,
    fun s dt p ch k ppb hq hp hr hb hcap hgood => goodAudioBlock_completes hq hp hr hb hcap hgood,
    fun s dt a hq ha hst => asrcLock_locksGroup hq ha hst,
    fun s dt i hq hi hrole hst => asrcLock_locksTdm hq hi hrole hst,
    fun s dt a hq ha hst hover => audioInputLost_completes hq ha hst hover,
    fun s dt n hq hn hlen hts => audioBlockSend_completes hq hn hlen hts,
    fun s dt i n same words hq hi hlen hrole hst => tdmFrameSync_completes hq hi hlen hrole hst,
    fun s dt i l hq hi hlen hrole hst hl hover => audioTdmClockLost_completes hq hi hlen hrole hst hl hover⟩

end Sys2Proof.Machine

/-!
SUPPORT. What the operations of the title port leave of a slot's state and of whether it closes (R554 to R609), and the
settling of O30.
-/
namespace Sys2Proof.Machine

variable {i : Nat} {d x y : Dev}

/-! ## The inner state of a title slot -/

/-- What a change of a slot leaves of any slot, where the slot exists or not. -/
theorem Dev.tslot_modTslot_proj {α : Type} (g : TSlot → α) {f : TSlot → TSlot} (hf : ∀ z, g (f z) = g z) (d : Dev)
    (j i : Nat) : g ((d.modTslot j f).tslot i) = g (d.tslot i) := by
  unfold Dev.tslot Dev.modTslot
  dsimp only
  by_cases h : i = j
  · subst h
    rw [getElem?_modifyAt_self]
    cases d.title.slots[i]? with
    | none => rfl
    | some z => exact hf z
  · rw [getElem?_modifyAt_ne f _ h]

/-! ## A slot that keeps its state and does not close -/

/-- The state of slot `i`, whether it closes, and the state of resets are as they were. -/
structure Dev.SlotKept (i : Nat) (d x : Dev) : Prop where
  stands : d.Stands (titleK (0x12 + i)) x
  closing : (x.tslot i).closing = (d.tslot i).closing

namespace Dev.SlotKept

theorem refl (i : Nat) (d : Dev) : d.SlotKept i d := ⟨.refl _ d, rfl⟩

theorem trans (h : d.SlotKept i x) (g : x.SlotKept i y) : d.SlotKept i y :=
  ⟨h.stands.trans g.stands, g.closing.trans h.closing⟩

/-- `trans` from the last change back. -/
theorem after (g : x.SlotKept i y) (h : d.SlotKept i x) : d.SlotKept i y := h.trans g

/-- A change of neither the objects, the slots nor the resets. -/
theorem fields (h : d.SlotKept i x) (ho : y.obj = x.obj) (hs : y.title.slots = x.title.slots) (hr : y.rst = x.rst) :
    d.SlotKept i y :=
  ⟨h.stands.fields ho hr, by rw [← h.closing, Dev.tslot, Dev.tslot, hs]⟩

/-- The new value of an object that is not the slot's state. -/
theorem set (h : d.SlotKept i x) {k : Nat} (v : Val) (hk : titleK (0x12 + i) ≠ k) : d.SlotKept i (x.set k v) :=
  ⟨h.stands.set v hk, by rw [← h.closing, Dev.tslot, Dev.tslot, x.set_title]⟩

theorem raise (h : d.SlotKept i x) (hi : i < 2) (c : Ctx) (ev n : Nat) : d.SlotKept i (x.raise c ev n) :=
  ⟨h.stands.raiseF c _ ev n (by unfold titleK; omega), by rw [← h.closing, Dev.tslot, Dev.tslot, x.raise_title]⟩

theorem modTslot (h : d.SlotKept i x) (j : Nat) {f : TSlot → TSlot} (hf : ∀ z, (f z).closing = z.closing) :
    d.SlotKept i (x.modTslot j f) :=
  ⟨h.stands.fields rfl rfl, (Dev.tslot_modTslot_proj TSlot.closing hf x j i).trans h.closing⟩

theorem foldl {α : Type} {f : Dev → α → Dev} {r : List α} (h : ∀ (b : Dev) (a : α), b.SlotKept i (f b a))
    (d : Dev) : d.SlotKept i (r.foldl f d) :=
  foldl_pred (d.SlotKept i) f (fun b a hb => hb.trans (h b a)) r (refl i d)

end Dev.SlotKept

/-! ## Requests, transactions and flushes (R567, R585) -/

theorem Dev.openFlush_kept (d : Dev) (j : Nat) : d.SlotKept i (d.openFlush j) := by
  have h1 : d.SlotKept i (d.modTslot j fun z => { z with flush := some {} }) := (SlotKept.refl i d).modTslot j fun _ => rfl
  unfold Dev.openFlush
  exact ite_pred (d.SlotKept i) (h1.fields rfl rfl rfl) (.refl i d)

theorem Dev.record_kept (d : Dev) (c : Ctx) (j step : Nat) : d.SlotKept i (d.record c j step) := by
  unfold Dev.record
  cases (d.tslot j).pb with
  | none => exact .refl i d
  | some b => exact (SlotKept.refl i d).modTslot j fun _ => rfl

theorem Dev.txn_kept (d : Dev) (j : Nat) (tmpl : List Byte) (addr : Nat) (w : List Byte) (n : Nat) :
    d.SlotKept i (d.txn j tmpl addr w n) := (SlotKept.refl i d).fields rfl rfl rfl

theorem Dev.busAnswer_kept (d : Dev) (m id : Nat) (err : Bool) (data : List Byte) :
    d.SlotKept i (d.busAnswer m id err data) := (SlotKept.refl i d).fields rfl rfl rfl

section
variable (hi : i < 2)
include hi

/-- A slot's state is not another object of the title port. -/
theorem titleK_slot_ne {sub : Nat} (h : sub ≠ 0x12 ∧ sub ≠ 0x13) : titleK (0x12 + i) ≠ titleK sub := by
  unfold titleK
  omega

/-- A transaction that starts writes of the objects that of the raw request's state alone. -/
theorem Dev.startTxn_kept (d : Dev) (c : Ctx) (r : TReq) (again : Bool) (addr len : Nat) :
    d.SlotKept i (d.startTxn c r again addr len) := by
  unfold Dev.startTxn
  extract_lets _ d1 rd
  have h1 : d.SlotKept i d1 := (SlotKept.refl i d).fields rfl rfl rfl
  cases r.kind with
  | line | ident | fill | header => exact h1.trans (Dev.txn_kept ..)
  | writeEnable => exact (h1.trans (d1.record_kept c r.slot 2)).trans (Dev.txn_kept ..)
  | program =>
    cases (d1.tslot r.slot).pb with
    | none => exact h1
    | some b => exact (h1.trans (d1.record_kept c r.slot 3)).trans (Dev.txn_kept ..)
  | raw => exact (h1.set _ (titleK_slot_ne hi (by decide))).trans (Dev.txn_kept ..)

theorem Dev.titleNext_kept (d : Dev) (c : Ctx) : d.SlotKept i (d.titleNext c) := by
  unfold Dev.titleNext
  extract_lets d1
  have h1 : d.SlotKept i d1 := .foldl (fun b j => ite_pred (b.SlotKept i) (b.openFlush_kept j) (.refl i b)) d
  refine ite_pred (d.SlotKept i) h1 ?_
  cases d1.chooseReq with
  | none => exact h1
  | some r => exact .after (Dev.startTxn_kept hi ..) (h1.fields rfl rfl rfl)

theorem Dev.startFlush_kept (d : Dev) (c : Ctx) (j : Nat) : d.SlotKept i (d.startFlush c j) :=
  ite_pred (d.SlotKept i) ((d.openFlush_kept j).trans (Dev.titleNext_kept hi _ c)) (.refl i d)

/-! ## What waits for a slot (R564 to R566, R601) -/

theorem Dev.serveReaders_kept (d : Dev) (c : Ctx) (j : Nat) : d.SlotKept i (d.serveReaders c j) := by
  unfold Dev.serveReaders
  refine ite_pred (d.SlotKept i) (.refl i d) (.trans (.foldl (fun b r => ?_) d) (Dev.titleNext_kept hi _ c))
  have hb := SlotKept.refl i b
  dsimp only
  split
  · exact (b.busAnswer_kept ..).modTslot j fun _ => rfl
  · split
    · exact ite_pred (b.SlotKept i) hb (hb.fields rfl rfl rfl)
    · exact hb

theorem Dev.windowWrite_kept (d : Dev) (c : Ctx) (j : Nat) (w : TWrite) : d.SlotKept i (d.windowWrite c j w) := by
  have h0 := SlotKept.refl i d
  unfold Dev.windowWrite
  extract_lets z hold page other b bytes d1 d2
  have hhold : d.SlotKept i hold := h0.modTslot j fun _ => rfl
  have h1 : d.SlotKept i d1 := .after (Dev.record_kept _ c j 1) (h0.modTslot j fun _ => rfl)
  have h2 : d.SlotKept i d2 := h1.fields rfl rfl rfl
  exact ite_pred (d.SlotKept i) hhold (ite_pred (d.SlotKept i) (h0.fields rfl rfl rfl)
    (ite_pred (d.SlotKept i) (hhold.trans (Dev.startFlush_kept hi _ c j))
      (ite_pred (d.SlotKept i) (h2.trans (Dev.startFlush_kept hi _ c j)) h2)))

theorem Dev.failWaiters_kept (d : Dev) (j : Nat) : d.SlotKept i (d.failWaiters j) := by
  unfold Dev.failWaiters
  extract_lets z d1 d2 mine d3
  have h1 : d.SlotKept i d1 := .foldl (fun b (r : TRead) => b.busAnswer_kept r.master r.id true []) d
  have h2 : d.SlotKept i d2 := h1.trans (.foldl (fun b (w : TWrite) => b.busAnswer_kept w.master w.id true []) d1)
  have h3 : d.SlotKept i d3 := ite_pred (d.SlotKept i) (h2.set _ (titleK_slot_ne hi (by decide))) h2
  exact .after (.modTslot (.refl i _) j fun _ => rfl) (h3.fields rfl rfl rfl)

/-! ## Streams of a slot (R665, R673) -/

theorem Dev.failStreamsOf_kept (d : Dev) (c : Ctx) (slot reason : Nat) : d.SlotKept i (d.failStreamsOf c slot reason) := by
  have hk (n sub : Nat) : titleK (0x12 + i) ≠ strK n sub := by
    unfold titleK strK key
    omega
  unfold Dev.failStreamsOf
  refine .foldl (fun b n => ite_pred (b.SlotKept i) ?_ (.refl i b)) d
  have h1 : b.SlotKept i (((b.setN (strK n 1) 5).setN (strK n 0x18) reason).raise c 81 n) :=
    .raise (.set (.set (.refl i b) _ (hk n 1)) _ (hk n 0x18)) hi c 81 n
  exact h1.fields rfl rfl rfl

theorem Dev.streamsFollow_kept (d : Dev) (c : Ctx) : d.SlotKept i (d.streamsFollow c) := by
  unfold Dev.streamsFollow
  exact .foldl (fun b j => ite_pred (b.SlotKept i) (Dev.failStreamsOf_kept hi b c j 3) (.refl i b)) d

theorem Dev.identFollow_kept (d : Dev) (c : Ctx) (j old : Nat) : d.SlotKept i (d.identFollow c j old) := by
  have hfree (b : Dev) : b.SlotKept i (b.freeSlot j) := (SlotKept.refl i b).fields rfl rfl rfl
  unfold Dev.identFollow
  exact ite_pred (d.SlotKept i) ((Dev.failStreamsOf_kept hi d c j 2).trans (hfree _)) (.refl i d)

end

/-! ## A slot that stays open in a state -/

/-- Slot `i` is in a state and does not close; the state of resets is as it was. -/
structure Dev.SlotIs (i st : Nat) (d x : Dev) : Prop where
  state : x.slotSt i = st
  opened : (x.tslot i).closing = false
  rst : x.rst = d.rst

theorem Dev.SlotIs.kept {st : Nat} (h : d.SlotIs i st x) (g : x.SlotKept i y) : d.SlotIs i st y :=
  ⟨g.stands.nat.trans h.state, g.closing.trans h.opened, g.stands.rst.trans h.rst⟩

theorem Dev.SlotKept.slotIs {st : Nat} (h : d.SlotKept i x) (g : x.SlotIs i st y) : d.SlotIs i st y :=
  ⟨g.state, g.opened, g.rst.trans h.stands.rst⟩

/-- A slot that does not close is not disabled (R600). -/
theorem Dev.finishClose_open (h : (d.tslot i).closing = false) : d.finishClose i = d := by
  unfold Dev.finishClose
  simp [h]

theorem Dev.SlotIs.release {st : Nat} (hi : i < 2) (h : d.SlotIs i st x) (c : Ctx) : d.SlotIs i st (x.release c i) := by
  unfold Dev.release
  extract_lets z d1 d2
  have h1 : d.SlotIs i st d1 := h.kept ((SlotKept.refl i x).modTslot i fun _ => rfl)
  have h2 : d.SlotIs i st d2 := h1.kept (.foldl (fun b w => Dev.windowWrite_kept hi b c i w) d1)
  have h3 : d.SlotIs i st ((d2.serveReaders c i).titleNext c) :=
    (h2.kept (Dev.serveReaders_kept hi d2 c i)).kept (Dev.titleNext_kept hi _ c)
  exact ite_pred (d.SlotIs i st) (h.kept (Dev.titleNext_kept hi x c)) ((Dev.finishClose_open h3.opened).symm ▸ h3)

/-! ## The end of an identification (R570, R571) -/

/-- The state that an identifier gives its slot under an allow-list (R571): ABSENT, ACCEPTED or REFUSED. -/
def slotOf (allow : List Nat) (id : Nat) : Nat :=
  if id = 0 ∨ id = 2 ^ 64 - 1 then 4 else if allow = [] ∨ id ∈ allow then 2 else 3

/-- An identifier read twice alike decides the slot's state. -/
theorem Dev.accept_slotIs (hi : i < 2) (c : Ctx) (id : Nat) (h : (d.tslot i).closing = false) :
    d.SlotIs i (slotOf d.rst.fuses.allow id) (d.accept c i id) := by
  unfold Dev.accept
  extract_lets d1 allow
  have h1 : d.SlotKept i d1 := (SlotKept.refl i d).set _ (by unfold titleK; omega)
  have hallow : allow = d.rst.fuses.allow := by rw [← h1.stands.rst]
  have hset (n : Nat) : d.SlotIs i n (d1.setSlotSt i n) := by
    refine ⟨d1.nat_setN_same _ n, ?_, (d1.setN_rst _ n).trans h1.stands.rst⟩
    rw [← h, ← h1.closing, Dev.tslot, Dev.tslot, Dev.setSlotSt, Dev.setN_title]
  have hraise (n ev : Nat) : d.SlotIs i n ((d1.setSlotSt i n).raise c ev i) :=
    (hset n).kept ((SlotKept.refl i _).raise hi c ev i)
  rw [slotOf, ← hallow]
  simp only [Bool.or_eq_true, decide_eq_true_eq, List.isEmpty_iff, List.contains_iff_mem]
  by_cases hid : id = 0 ∨ id = 2 ^ 64 - 1
  · rw [if_pos hid, if_pos hid]
    exact hset 4
  · rw [if_neg hid, if_neg hid]
    by_cases hin : allow = [] ∨ id ∈ allow
    · rw [if_pos hin, if_pos hin]
      exact hraise 2 71
    · rw [if_neg hin, if_neg hin]
      exact hraise 3 72

/-- The second read of an identification, alike: what waits for the slot goes on, or fails. -/
theorem Dev.identRead_slotIs (hi : i < 2) (c : Ctx) {data : List Byte} (hid : (d.tslot i).ident = [data])
    (h : (d.tslot i).closing = false) :
    d.SlotIs i (slotOf d.rst.fuses.allow (unle (data.take 8))) (d.identRead c i data) := by
  unfold Dev.identRead
  extract_lets z d1 d2
  have hz : z.ident = [data] := hid
  simp only [hz, if_true]
  have h1 : d.SlotKept i d1 :=
    ite_pred (d.SlotKept i) ((SlotKept.refl i d).set _ (by unfold titleK; omega)) (.refl i d)
  have hopen : d.SlotKept i (d1.modTslot i fun z => { z with ident := [], identHold := false }) := h1.modTslot i fun _ => rfl
  have h2 : d.SlotIs i (slotOf d.rst.fuses.allow (unle (data.take 8))) d2 := by
    rw [← hopen.stands.rst]
    exact hopen.slotIs (Dev.accept_slotIs hi c _ (hopen.closing.trans h))
  exact ite_pred (d.SlotIs i _) (h2.release hi c) (h2.kept (Dev.failWaiters_kept hi d2 i))

/-- The end of an identification's second read, alike, of a slot that identifies itself and stays open. -/
theorem Dev.txnEnd_slotIs (hi : i < 2) (c : Ctx) {data : List Byte} (stalls : Nat)
    (hcur : d.title.cur = some (⟨i, .ident⟩, false)) (hst : d.slotSt i = 1) (hid : (d.tslot i).ident = [data])
    (h : (d.tslot i).closing = false) :
    d.SlotIs i (slotOf d.rst.fuses.allow (unle (data.take 8))) (d.txnEnd c data stalls) := by
  unfold Dev.txnEnd
  rw [hcur]
  dsimp -zeta only
  extract_lets old _ d1 d2 d3 d4 d5
  have h1 : d.SlotKept i d1 := (SlotKept.refl i d).fields rfl rfl rfl
  have h2 : d.SlotKept i d2 := ite_pred (d.SlotKept i) (h1.set _ (titleK_slot_ne hi (by decide))) h1
  have hslot : d2.tslot i = d.tslot i :=
    ite_pred (fun x : Dev => x.tslot i = d.tslot i) (by rw [Dev.tslot, Dev.addTo_title]; rfl) rfl
  have h4 : d.SlotIs i (slotOf d.rst.fuses.allow (unle (data.take 8))) d4 := by
    have hread : d4 = d2.identRead c i data := if_pos (h2.stands.nat.trans hst)
    rw [hread, ← h2.stands.rst]
    exact h2.slotIs (Dev.identRead_slotIs hi c (hslot ▸ hid) (hslot ▸ h))
  have h5 : d.SlotIs i (slotOf d.rst.fuses.allow (unle (data.take 8))) d5 :=
    ite_pred (d.SlotIs i _) (h4.kept (Dev.identFollow_kept hi d4 c i old)) h4
  rw [Dev.finishClose_open h5.opened]
  exact (h5.kept (Dev.streamsFollow_kept hi d5 c)).kept (Dev.titleNext_kept hi _ c)

theorem partOfKey_slotState (hi : i < 2) : partOfKey (titleK (0x12 + i)) ≠ none := by
  have hs : ∀ i ∈ List.range 2, partOfKey (titleK (0x12 + i)) ≠ none := by decide
  exact hs i (List.mem_range.mpr hi)

/-- Settles O30: the second read, alike, of an identification decides the slot's state, and nothing that follows in the
command, nor its end, changes it. -/
theorem cartridgeIdentifierDecidesTheSlot : Obligations.Cartridge_identifier_decides_the_slot := by
  unfold Obligations.Cartridge_identifier_decides_the_slot
  rintro s dt ⟨i, kind⟩ data stalls hq hcur rfl hi - hid hclosing - hlen hdue hst
  have hend := Dev.txnEnd_slotIs (d := s.entry) hi (s.ctx dt) stalls hcur hst hid hclosing
  rw [List.take_of_length_le (Nat.le_of_eq hlen)] at hend
  refine completes_of_effect (show _ = execTitleTransactionEnd dt data stalls s from rfl) (if_pos hdue)
    (by rw [hend.rst]; exact hq.1) fun t ht => ?_
  exact (ht.nat (partOfKey_slotState hi)).trans hend.state

end Sys2Proof.Machine

/-!
SUPPORT. The host port's transactions (R576 to R593), and the settling of O12.
-/
namespace Sys2Proof.Machine

variable {s : State} {dt : Nat} {d x y : Dev}

/-! ## What the steps of a transaction leave -/

/-- The transaction's opcode and the state of resets are as they were, and so is the count of idle timeouts. -/
structure Dev.OpKept (d x : Dev) : Prop where
  op : x.host.op = d.host.op
  stands : d.Stands 0x7010_0A x

namespace Dev.OpKept

theorem refl (d : Dev) : d.OpKept d := ⟨rfl, .refl _ d⟩

theorem trans (h : d.OpKept x) (g : x.OpKept y) : d.OpKept y := ⟨g.op.trans h.op, h.stands.trans g.stands⟩

/-- `trans` from the last change back. -/
theorem after (g : x.OpKept y) (h : d.OpKept x) : d.OpKept y := h.trans g

theorem setN (d : Dev) (k n : Nat) (hk : 0x7010_0A ≠ k := by decide) : d.OpKept (d.setN k n) :=
  ⟨by rw [d.setN_host], (Stands.refl _ d).setN n hk⟩

theorem inc (d : Dev) (k : Nat) (hk : 0x7010_0A ≠ k := by decide) : d.OpKept (d.inc k) := setN d k _ hk

theorem modHost (d : Dev) {f : HostPort → HostPort} (hf : ∀ z, (f z).op = z.op) : d.OpKept (d.modHost f) :=
  ⟨hf d.host, .fields (.refl _ d) rfl rfl⟩

end Dev.OpKept

theorem Dev.hostStretch_kept (d : Dev) (c : Ctx) : d.OpKept (d.hostStretch c) :=
  ite_pred d.OpKept (.after (.inc _ _) (.modHost d fun _ => rfl)) (.refl d)

theorem Dev.hostUnstretch_kept (d : Dev) (c : Ctx) : d.OpKept (d.hostUnstretch c) := by
  unfold Dev.hostUnstretch
  cases d.host.lowT with
  | none => exact .refl d
  | some t0 => exact ite_pred d.OpKept (.refl d) (.after (.setN _ _ _) (.modHost d fun _ => rfl))

theorem Dev.hostTake_kept (d : Dev) (b : List Byte) : d.OpKept (d.hostTake b) :=
  ite_pred d.OpKept (.inc d _) (ite_pred d.OpKept (.inc d _) (.after (.inc _ _) (.modHost d fun _ => rfl)))

/-- The end of a transaction (R587 to R590) leaves the opcode that follows. -/
theorem Dev.hostEnd_kept (d : Dev) (c : Ctx) (n op : Nat) :
    (d.modHost fun h => { h with op := op }).OpKept (d.hostEnd c n op) := by
  unfold Dev.hostEnd
  extract_lets h d0 b d1 d2
  have h0 : (d.modHost fun h => { h with op := op }).OpKept d0 := ⟨rfl, .fields (.refl _ _) rfl rfl⟩
  have h1 : d0.OpKept d1 := .modHost d0 fun _ => rfl
  have h2 : d0.OpKept d2 := by
    refine ite_pred d0.OpKept (.refl d0) (ite_pred d0.OpKept ?frame (ite_pred d0.OpKept (.refl d0) ?stray))
    case frame =>
      exact ite_pred d0.OpKept (h1.trans (d1.hostTake_kept b))
        (ite_pred d0.OpKept (h1.trans (.inc d1 _)) (h1.trans (.after (.inc _ _) (.inc d1 _))))
    case stray => exact .after (.inc _ _) (.modHost d0 fun _ => rfl)
  exact (h0.trans h2).trans (d2.hostUnstretch_kept c)

/-! ## Headers (R576, R577) -/

/-- The start of a transaction of an opcode. -/
def Dev.hostBegin (d : Dev) (c : Ctx) (n : Nat) : Dev :=
  d.modHost fun h => { h with op := n, sentOne := false, pos := 0, edgeT := c.t }

/-- The start of a WRITE: in framed mode its bytes are the frame's first (R587). -/
def Dev.hostReceive (d : Dev) (c : Ctx) : Dev :=
  ((d.hostBegin c 2).modHost fun h => { h with buf := if h.mode = 0 then [] else h.buf }).hostStretch c

theorem Dev.hostReceive_op (d : Dev) (c : Ctx) : (d.hostReceive c).host.op = 2 ∧ (d.hostReceive c).rst = d.rst :=
  have hk := Dev.hostStretch_kept _ c
  ⟨hk.op, hk.stands.rst⟩

/-- A header as R576 has it: an opcode, its complement, and two zeros. -/
def goodHeader (hdr : List Byte) : Bool :=
  hdr.length = 4 && fld hdr 1 1 = 255 - fld hdr 0 1 && fld hdr 2 2 = 0

/-- HOST_HEADER, where the port is on and idle. -/
theorem exec_hostHeader (hdr : List Byte) (hon : s.dev.hostOn = true) (h0 : s.dev.host.op = 0) :
    ∃ f, exec (.hostHeader dt hdr) s = s.act dt f ∧ f (s.ctx dt) s.entry =
      if goodHeader hdr && decide (fld hdr 0 1 = 0xA1) then s.entry.hostReceive (s.ctx dt)
      else if goodHeader hdr && decide (fld hdr 0 1 = 0xA2) then s.entry.hostBegin (s.ctx dt) 3
      else if goodHeader hdr && decide (fld hdr 0 1 = 0xA3) then s.entry.hostBegin (s.ctx dt) 6
      else (s.entry.hostBegin (s.ctx dt) 5).inc 0x7010_09 := by
  have hidle : ¬ (!s.entry.hostOn || decide (s.entry.host.op ≠ 0)) = true := by
    have hon' : s.entry.hostOn = true := hon
    have h0' : s.entry.host.op = 0 := h0
    simp [hon', h0']
  exact ⟨_, show _ = execHostHeader dt hdr s from rfl, if_neg hidle⟩

/-- A good header starts the transaction that its opcode names: WRITE, READ or STATUS. -/
theorem hostHeader_starts {hdr : List Byte} (hq : Quiet s) (hon : s.dev.hostOn = true) (h0 : s.dev.host.op = 0)
    (hlen : hdr.length = 4) (h1 : fld hdr 1 1 = 255 - fld hdr 0 1) (h2 : fld hdr 2 2 = 0)
    (hop : fld hdr 0 1 = 0xA1 ∨ fld hdr 0 1 = 0xA2 ∨ fld hdr 0 1 = 0xA3) :
    Completes (.hostHeader dt hdr) s fun t => t.dev.host.op =
      (if fld hdr 0 1 = 0xA1 then 2 else if fld hdr 0 1 = 0xA2 then 3 else 6) := by
  obtain ⟨f, hx, hf⟩ := exec_hostHeader (dt := dt) hdr hon h0
  have hgood : goodHeader hdr = true := by simp [goodHeader, hlen, h1, h2]
  rw [hgood] at hf
  obtain hop | hop | hop := hop <;> rw [hop] at hf ⊢
  · obtain ⟨hreceives, hrst⟩ := s.entry.hostReceive_op (s.ctx dt)
    exact completes_of_effect hx hf (hrst ▸ hq.1) fun t ht => (congrArg HostPort.op ht.host).trans hreceives
  · exact completes_of_effect hx hf hq.1 fun t ht => congrArg HostPort.op ht.host
  · exact completes_of_effect hx hf hq.1 fun t ht => congrArg HostPort.op ht.host

/-- A header whose second byte is not the complement of its first is counted, and the transaction ignored. -/
theorem hostHeader_counts {hdr : List Byte} (hq : Quiet s) (hon : s.dev.hostOn = true) (h0 : s.dev.host.op = 0)
    (hbad : fld hdr 1 1 ≠ 255 - fld hdr 0 1) :
    Completes (.hostHeader dt hdr) s fun t => t.dev.host.op = 5 ∧
      t.dev.nat 0x7010_09 = (s.dev.nat 0x7010_09 + 1) % 2 ^ 32 := by
  obtain ⟨f, hx, hf⟩ := exec_hostHeader (dt := dt) hdr hon h0
  have hgood : goodHeader hdr = false := by simp [goodHeader, hbad]
  simp only [hgood, Bool.false_and, Bool.false_eq_true, if_false] at hf
  refine completes_of_effect hx hf (by rw [Dev.inc_rst]; exact hq.1) fun t ht => ⟨?_, ?_⟩
  · rw [ht.host, Dev.inc_host]
    rfl
  · rw [ht.nat (by decide), Dev.nat_inc_same]
    rfl

/-! ## Words (R587 to R594) -/

theorem write_completes {bytes : List Byte} (hq : Quiet s) (hon : s.dev.hostOn = true) (hop : s.dev.host.op = 2)
    (hroom : s.dev.host.lowT = none) (hmode : s.dev.host.mode = 0) :
    Completes (.write dt bytes) s fun t => t.dev.host.buf = s.dev.host.buf ++ bytes.take (4 * (bytes.length / 4)) := by
  have htakes : ¬ (!s.entry.hostOn || decide (s.entry.host.op ≠ 2) || !s.entry.hostRoom) = true := by
    have hon' : s.entry.hostOn = true := hon
    have hop' : s.entry.host.op = 2 := hop
    have hroom' : s.entry.host.lowT = none := hroom
    simp [hon', hop', Dev.hostRoom, hroom']
  refine completes_of_effect (show _ = execWrite dt bytes s from rfl) ((if_neg htakes).trans (if_pos hmode)) hq.1
    fun t ht => ?_
  rw [ht.host]
  rfl

/-- One word of a READ transaction. -/
theorem Dev.hostWord_kept (d : Dev) : d.OpKept d.hostWord.1 := by
  unfold Dev.hostWord
  split
  · exact .refl d
  · extract_lets _ _ d1
    have h1 : d.OpKept d1 := by
      unfold d1
      split
      · exact ⟨rfl, .fields (.refl _ d) rfl rfl⟩
      · exact .refl d
    clear_value d1
    split
    · dsimp only
      exact h1.trans (.modHost d1 fun _ => rfl)
    · extract_lets g w
      split
      · exact h1.trans (.after (.inc _ _) (.modHost d1 fun _ => rfl))
      · dsimp only
        exact h1.trans (.modHost d1 fun _ => rfl)

/-- The words of a READ transaction: the port after them, and what was clocked out. -/
def Dev.hostWords (d : Dev) (n : Nat) : Dev × List Byte :=
  (upTo n).foldl (fun p _ => (p.1.hostWord.1, p.2 ++ p.1.hostWord.2)) (d, [])

theorem Dev.hostWords_succ (d : Dev) (n : Nat) :
    d.hostWords (n + 1) = ((d.hostWords n).1.hostWord.1, (d.hostWords n).2 ++ (d.hostWords n).1.hostWord.2) := by
  simp [Dev.hostWords, List.range_succ]

theorem Dev.hostWords_kept (d : Dev) (n : Nat) : d.OpKept (d.hostWords n).1 := by
  induction n with
  | zero => exact .refl d
  | succ n ih => exact d.hostWords_succ n ▸ ih.trans (Dev.hostWord_kept _)

/-- With no frame under way and none queued, a word is zero (R588). -/
theorem Dev.hostWord_zeros (hc : d.host.cur = none) (hq : d.itp.hostQ = []) :
    d.hostWord.2 = zeros 4 ∧ d.hostWord.1.host.cur = none ∧ d.hostWord.1.itp.hostQ = [] := by
  unfold Dev.hostWord
  split
  · exact ⟨rfl, hc, hq⟩
  · simp [hc, hq, Dev.modHost]

theorem Dev.hostWords_zeros (hc : d.host.cur = none) (hq : d.itp.hostQ = []) (n : Nat) :
    (d.hostWords n).2 = zeros (4 * n) ∧ (d.hostWords n).1.host.cur = none ∧ (d.hostWords n).1.itp.hostQ = [] := by
  induction n with
  | zero => exact ⟨rfl, hc, hq⟩
  | succ n ih =>
    obtain ⟨hz, hc', hq'⟩ := ih
    obtain ⟨hw, hrest⟩ := Dev.hostWord_zeros hc' hq'
    rw [d.hostWords_succ n]
    refine ⟨?_, hrest⟩
    dsimp only
    rw [hz, hw, zeros, zeros, List.replicate_append_replicate, zeros, Nat.mul_succ]

/-- READ, in the turnaround or amid the frames. -/
theorem exec_read (n : Nat) (hon : s.dev.hostOn = true) (hop : s.dev.host.op = 3 ∨ s.dev.host.op = 4) :
    ∃ f, exec (.read dt n) s = s.act dt f ∧ ∃ d,
      d = s.entry.modHost (fun h => { h with op := 4, edgeT := (s.ctx dt).t }) ∧
        f (s.ctx dt) s.entry = (d.hostWords n).1.emit (.host (d.hostWords n).2) := by
  have hreads : ¬ (!s.entry.hostOn || !(decide (s.entry.host.op = 3) || decide (s.entry.host.op = 4))) = true := by
    have hon' : s.entry.hostOn = true := hon
    have hop' : s.entry.host.op = 3 ∨ s.entry.host.op = 4 := hop
    obtain hop' | hop' := hop' <;> simp [hon', hop']
  exact ⟨_, show _ = execRead dt n s from rfl, _, rfl, if_neg hreads⟩

theorem read_completes {n : Nat} (hq : Quiet s) (hon : s.dev.hostOn = true) (hop : s.dev.host.op = 3 ∨ s.dev.host.op = 4) :
    Completes (.read dt n) s fun t => t.dev.host.op = 4 := by
  obtain ⟨f, hx, d, rfl, hf⟩ := exec_read (dt := dt) n hon hop
  have hk := Dev.hostWords_kept (s.entry.modHost fun h => { h with op := 4, edgeT := (s.ctx dt).t }) n
  exact completes_of_effect hx hf (hk.stands.rst ▸ hq.1) fun t ht => ht.host ▸ hk.op

theorem read_zeros {n : Nat} (hq : Quiet s) (hon : s.dev.hostOn = true) (hop : s.dev.host.op = 3)
    (hc : s.dev.host.cur = none) (hz : s.dev.itp.hostQ = []) :
    Completes (.read dt n) s fun t => .host (zeros (4 * n)) ∈ t.dev.out := by
  obtain ⟨f, hx, d, hd, hf⟩ := exec_read (dt := dt) n hon (.inl hop)
  have hk := Dev.hostWords_kept d n
  obtain ⟨hout, -⟩ := Dev.hostWords_zeros (d := d) (by rw [hd]; exact hc) (by rw [hd]; exact hz) n
  refine completes_of_effect hx hf (hk.stands.rst ▸ hd ▸ hq.1) fun t ht => ht.out ?_
  rw [← hout]
  exact List.mem_append_right _ List.mem_cons_self

theorem status_completes (hq : Quiet s) (hon : s.dev.hostOn = true) (hop : s.dev.host.op = 6) :
    Completes (.status dt) s fun t => t.dev.host.op = 7 ∧ .host (le 4 s.dev.hostStatus) ∈ t.dev.out := by
  have hstatus : ¬ (!s.entry.hostOn || decide (s.entry.host.op ≠ 6)) = true := by
    have hon' : s.entry.hostOn = true := hon
    have hop' : s.entry.host.op = 6 := hop
    simp [hon', hop']
  refine completes_of_effect (show _ = execStatus dt s from rfl) (if_neg hstatus) hq.1 fun t ht => ⟨?_, ht.out ?_⟩
  · rw [ht.host]
    rfl
  · exact List.mem_append_right _ List.mem_cons_self

/-! ## The ends of a transaction (R582, R587 to R591) -/

theorem hpselNRise_completes {n : Nat} (hq : Quiet s) (hruns : s.dev.hostRuns = true) (hop : s.dev.host.op ≠ 0) :
    Completes (.hpselNRise dt n) s fun t => t.dev.host.op = 0 := by
  have hends : ¬ (!s.entry.hostRuns || decide (s.entry.host.op = 0)) = true := by
    have hruns' : s.entry.hostRuns = true := hruns
    have hop' : s.entry.host.op ≠ 0 := hop
    simp [hruns', hop']
  have hk := s.entry.hostEnd_kept (s.ctx dt) n 0
  exact completes_of_effect (show _ = execHpselNRise dt n s from rfl) (if_neg hends) (hk.stands.rst ▸ hq.1)
    fun t ht => ht.host ▸ hk.op

theorem hostPortTimeout_completes {n : Nat} (hq : Quiet s) (hidle : s.dev.hostIdle (s.ctx dt) = true) :
    Completes (.hostPortTimeout dt n) s fun t => t.dev.host.op = 8 ∧
      t.dev.nat 0x7010_0A = (s.dev.nat 0x7010_0A + 1) % 2 ^ 32 := by
  have hk := s.entry.hostEnd_kept (s.ctx dt) n 8
  refine completes_of_effect (show _ = execHostPortTimeout dt n s from rfl) (if_pos hidle)
    (by rw [Dev.raise_rst, Dev.inc_rst, hk.stands.rst]; exact hq.1) fun t ht => ⟨?_, ?_⟩
  · rw [ht.host, Dev.raise_host, Dev.inc_host, hk.op]
    rfl
  · have hraise := Dev.nat_of_get (((s.entry.hostEnd (s.ctx dt) n 8).inc 0x7010_0A).get_raiseF (s.ctx dt) false 76 0 0x7010_0A
      (by decide) (by decide) (by decide))
    rw [ht.nat (by decide), Dev.raise, hraise, Dev.nat_inc_same, hk.stands.nat]
    rfl

theorem partialFrameTimeout_completes (hq : Quiet s) (hon : s.dev.hostOn = true) (hmode : s.dev.host.mode ≠ 0)
    (hbuf : s.dev.host.buf ≠ []) (hdue : s.dev.host.wordT + s.dev.nat 0x7010_03 * 400 ≤ (s.ctx dt).t) :
    Completes (.partialFrameTimeout dt) s fun t => t.dev.host.buf = [] ∧
      t.dev.nat 0x7010_07 = (s.dev.nat 0x7010_07 + 1) % 2 ^ 32 := by
  have hkept : ¬ (!s.entry.hostOn || decide (s.entry.host.mode = 0) || s.entry.host.buf.isEmpty ||
      decide ((s.ctx dt).t < s.entry.host.wordT + s.entry.nat 0x7010_03 * 400)) = true := by
    have hon' : s.entry.hostOn = true := hon
    have hmode' : s.entry.host.mode ≠ 0 := hmode
    have hbuf' : s.entry.host.buf ≠ [] := hbuf
    have hdue' : s.entry.host.wordT + s.entry.nat 0x7010_03 * 400 ≤ (s.ctx dt).t := hdue
    simp [hon', hmode', hbuf', hdue']
  refine completes_of_effect (show _ = execPartialFrameTimeout dt s from rfl) (if_neg hkept)
    (by rw [Dev.inc_rst]; exact hq.1) fun t ht => ⟨?_, ?_⟩
  · rw [ht.host, Dev.inc_host]
    rfl
  · rw [ht.nat (by decide), Dev.nat_inc_same]
    rfl

/-! ## HOST_PORT_CLEAR_COUNTERS (Table 10.9) -/

theorem lookup_7010_0F : ∃ r, (∀ b, lookup b 0x7010_0F = .row 0x7010 0 r) ∧ r.acc ≠ .rws ∧ r.sub = 0x0F :=
  ⟨_, fun b => by cases b <;> rfl, by decide, rfl⟩

/-- The counters of Table 10.9 are 0 by default. -/
theorem dflt_hostCounter : ∀ i ∈ List.range 9, dflt (0x7010_05 + i) = .num 0 := by decide

theorem hostPortClearCounters_completes {o : Org} (hq : Quiet s) (ha : Accepts s dt o 0x7010_0F 1) :
    Completes (.hostPortClearCounters dt o) s fun t => ∀ i ∈ List.range 9, t.dev.nat (0x7010_05 + i) = 0 := by
  obtain ⟨r, hk, hacc, hsub⟩ := lookup_7010_0F
  refine completes_of_request (e := (s.found dt o 0x7010_0F 1).clearHostPort)
    (show _ = execHostPortClearCounters dt o s from rfl) hq rfl ha hk (by decide) hacc (by rw [hsub]; rfl)
    (Dev.clear_rst _ _) fun t ht i hi => ?_
  have hpart : ∀ i ∈ List.range 9, partOfKey (0x7010_05 + i) ≠ none := by decide
  rw [ht.nat (hpart i hi), Dev.nat, Dev.int, Dev.clearHostPort, Dev.clear_get,
    if_pos (List.mem_map_of_mem (f := fun i => 0x7010_05 + i) hi), dflt_hostCounter i hi]
  rfl

/-! ## The host port commands -/

/-- Settles O12, command by command: what ends a command leaves the host port and its counters, and all that was sent. -/
theorem hostPortCommandsComplete : Obligations.Host_port_commands_complete := by
  unfold Obligations.Host_port_commands_complete
  exact ⟨fun s dt hdr hq hon h0 hlen h1 h2 hop => hostHeader_starts hq hon h0 hlen h1 h2 hop,
    fun s dt hdr hq hon h0 hbad => hostHeader_counts hq hon h0 hbad,
    fun s dt bytes hq hon hop hroom hmode => write_completes hq hon hop hroom hmode,
    fun s dt n hq hon hop => read_completes hq hon hop,
    fun s dt n hq hon hop hc hz => read_zeros hq hon hop hc hz,
    fun s dt hq hon hop => status_completes hq hon hop,
    fun s dt n hq hruns hop => hpselNRise_completes hq hruns hop,
    fun s dt n hq hidle => hostPortTimeout_completes hq hidle,
    fun s dt hq hon hmode hbuf hdue => partialFrameTimeout_completes hq hon hmode hbuf hdue,
    fun s dt o hq ha => hostPortClearCounters_completes hq ha⟩

end Sys2Proof.Machine

/-!
SUPPORT. States whose title port serves a slot that is none of its two, and the settling of O11 and O56.
-/
namespace Sys2Proof.Machine

/-! ## The state of a slot that the port does not have (R571, R600, R604) -/

/-- A device that is up, whose title port runs a transaction once more for slot 4,081. No reset makes such a
request, but the obligation is about every state. -/
def straySlot : State where
  time := 40000000
  dev := { title := { cur := some (⟨0xFF1, .ident⟩, true), waits := true }, rst := { stage := .up } }

/-- Its TPRDY timeout fails the slot (R604), whose state at 0x7000.12 + 4,081 is the host port's idle timeout, 0x7010.03. -/
theorem exec_straySlot : ∃ t, exec (.tprdyTimeout 0) straySlot = .next t ∧ t.dev.rst.stage = .up ∧
    t.dev.nat 0x7010_03 = 5 := by
  obtain ⟨f, hx, hw, hs, hn⟩ : ∃ f, exec (.tprdyTimeout 0) straySlot = straySlot.act 0 f ∧
      (f (straySlot.ctx 0) straySlot.entry).rst.want = [] ∧
      (f (straySlot.ctx 0) straySlot.entry).rst.stage = .up ∧
      (f (straySlot.ctx 0) straySlot.entry).nat 0x7010_03 = 5 :=
    ⟨_, show _ = execTprdyTimeout 0 straySlot from rfl, by decide +kernel, by decide +kernel, by decide +kernel⟩
  obtain ⟨t, ht, hend⟩ := straySlot.act_ends 0 f hw
  exact ⟨t, hx.trans ht, hend.stage.trans hs, (hend.nat (by decide)).trans hn⟩

/-- Refutes O56: it does not ask that the transaction in progress is one of a slot of the port, and on `straySlot`
TPRDY_TIMEOUT, which may change the title port and the streams, writes a setting of the host port. -/
theorem not_frameOfPortsAndStreams : ¬ Obligations.Frame_of_ports_and_streams := by
  unfold Obligations.Frame_of_ports_and_streams
  rintro ⟨hframe, -⟩
  obtain ⟨t, ht, hup, hnew⟩ := exec_straySlot
  have hsame : Same .host straySlot.dev t.dev :=
    hframe (.tprdyTimeout 0) straySlot t rfl ⟨⟨rfl, rfl, rfl⟩, rfl, rfl, ht, hup⟩ .host (by decide)
  have hkept : t.dev.nat 0x7010_03 = straySlot.dev.nat 0x7010_03 := hsame.nat rfl
  rw [hnew] at hkept
  exact absurd hkept (by decide +kernel)

/-- A device whose title port has eight slots, all closing, and runs the raw read of one byte of slot 7. No reset makes
such a list, but the obligation is about every state. -/
def closingSlots : State where
  dev :=
    { obj := [(titleK 0x17, .bytes (zeros 24 ++ le 2 1 ++ zeros 2))]
      title := { slots := List.replicate 8 { closing := true }, cur := some (⟨7, .raw⟩, false) } }

/-- The read ends, and with it the last that slot 7 waits for: it is DISABLED (R600). Its state at 0x7000.12 + 7 is the
object of the raw data, 0x7000.19. -/
theorem exec_closingSlots : ∃ t, exec (.titleTransactionEnd 0 [7#8] 0) closingSlots = .next t ∧
    t.dev.raw (titleK 0x19) = [] := by
  obtain ⟨f, hx, hw, hn⟩ : ∃ f, exec (.titleTransactionEnd 0 [7#8] 0) closingSlots = closingSlots.act 0 f ∧
      (f (closingSlots.ctx 0) closingSlots.entry).rst.want = [] ∧
      (f (closingSlots.ctx 0) closingSlots.entry).get (titleK 0x19) = .num 0 :=
    ⟨_, show _ = execTitleTransactionEnd 0 [7#8] 0 closingSlots from rfl, by decide +kernel, by decide +kernel⟩
  obtain ⟨t, ht, hend⟩ := closingSlots.act_ends 0 f hw
  refine ⟨t, hx.trans ht, ?_⟩
  rw [Dev.raw, hend.get _ (by decide), hn]
  rfl

/-- Refutes O11: its clause of the end of a raw read does not ask that the read is one of a slot of the port, and on
`closingSlots` the state of slot 7 overwrites the data read. -/
theorem not_titlePortCommandsComplete : ¬ Obligations.Title_port_commands_complete := by
  unfold Obligations.Title_port_commands_complete
  rintro ⟨-, -, -, -, hraw, -⟩
  obtain ⟨t, ht, hempty⟩ := exec_closingSlots
  obtain ⟨u, hu, hdata, -⟩ := hraw closingSlots 0 [7#8] 0 ⟨7, .raw⟩ ⟨rfl, rfl, rfl⟩ rfl rfl (by decide +kernel)
    (by decide +kernel)
  obtain rfl : t = u := Host.Outcome.next.inj (ht.symm.trans hu)
  have hseven : [7#8].take closingSlots.dev.rawReq.2.2.2.1 = [7#8] := by decide +kernel
  rw [hempty, hseven] at hdata
  exact absurd hdata (by decide)

end Sys2Proof.Machine

/-!
SUPPORT. What taking a reset does to the reset's own state, its record and the collector; and the machine every command
leaves.
-/
namespace Sys2Proof.Machine

/-! ## The steps of a reset -/

/-- What committing the log's pending records may write. -/
def Dev.LogOf (d x : Dev) : Prop := ∃ o l, x = { d with obj := o, log := l }

theorem Dev.logFlush_eta (d : Dev) : d.LogOf d.logFlush := by
  unfold Dev.logFlush
  refine foldl_pred d.LogOf _ ?_ _ ⟨_, _, rfl⟩
  rintro b - ⟨o, l, rfl⟩
  exact ite_pred d.LogOf ⟨_, _, Dev.inc_eta _ _⟩ ⟨_, _, rfl⟩

/-- What the record of a reset may write (R882). -/
def Dev.RecordOf (d x : Dev) : Prop := ∃ o h, x = { d with obj := o, rst := { d.rst with hist := h } }

theorem Dev.RecordOf.setN {d x : Dev} (h : d.RecordOf x) (k n : Nat) : d.RecordOf (x.setN k n) := by
  obtain ⟨o, l, rfl⟩ := h
  exact ⟨_, l, Dev.set_eta _ _ _⟩

theorem Dev.recordReset_eta (d : Dev) (c : Ctx) (cause : Nat) (held : Bool) : d.RecordOf (d.recordReset c cause held) := by
  unfold Dev.recordReset
  extract_lets sc d1 d2
  have h0 : d.RecordOf d := ⟨_, _, rfl⟩
  have h2 : d.RecordOf d2 := (((((h0.setN _ _).setN _ _).setN _ _).setN _ _).setN _ _).setN _ _
  clear_value d2
  obtain ⟨o, l, rfl⟩ := h2
  exact ⟨_, _, rfl⟩

@[simp] theorem Dev.recordEntry_rst (d : Dev) (c : Ctx) (w : Nat) : (d.recordEntry c w).rst = d.rst := by
  simp [Dev.recordEntry]

@[simp] theorem Dev.bumpEpoch_rst (d : Dev) : d.bumpEpoch.rst = d.rst := Dev.setN_rst ..

@[simp] theorem Dev.bumpEpoch_saf (d : Dev) : d.bumpEpoch.saf = d.saf := Dev.setN_saf ..

/-! ## The machine a command leaves -/

/-- Nothing of a reset or of an entry to SAFE is left to be done. -/
def Dev.Done (d : Dev) : Prop := d.rst.want = [] ∧ d.saf.entered = false

theorem Dev.controlReset_done (d : Dev) (h : d.Done) : d.controlReset.Done := by
  unfold Dev.controlReset
  extract_lets q armed d1 d2 _ d3 d4 _ d5 slots _ d6 d7
  have h1 : d1.Done := ite_pred Dev.Done h (by simpa [Dev.Done] using h)
  have h4 : d4.Done := by simpa [d4, d3, d2, Dev.Done] using h1
  clear_value d4
  exact h4

theorem Dev.Done.logFlush {d : Dev} (h : d.Done) : d.logFlush.Done := by
  obtain ⟨_, _, e⟩ := d.logFlush_eta
  rw [e]
  exact h

theorem Dev.Done.recordReset {d : Dev} (h : d.Done) (c : Ctx) (cause : Nat) (held : Bool) :
    (d.recordReset c cause held).Done := by
  obtain ⟨_, _, e⟩ := d.recordReset_eta c cause held
  rw [e]
  exact h

/-- Taking the reset asked for leaves none to be taken: it is discarded (R165, R890), or taken (R876 to R879). -/
theorem Dev.takeReset_done (d : Dev) (c : Ctx) (h : d.saf.entered = false) : (d.takeReset c).Done := by
  unfold Dev.takeReset
  split
  · next hw => exact ⟨hw, h⟩
  · extract_lets cause early stuck ran _ d1 d2 d3 held flush d4 d5 d6 lastSys cold d7 d8 _ d9 _ d10
    have h2 : d2.Done := ⟨rfl, h⟩
    refine ite_pred Dev.Done h2 (ite_pred Dev.Done ?control ?full)
    case control =>
      have h3 : d3.Done := ite_pred Dev.Done h2.logFlush h2
      exact Dev.controlReset_done _ (h3.recordReset c cause _)
    case full =>
      have h7 : d7.Done := ⟨rfl, rfl⟩
      clear_value d7
      have hb : d7.bumpEpoch.Done := by simpa [Dev.Done] using h7
      have h8 : d8.Done := ite_pred Dev.Done hb (ite_pred Dev.Done hb h7)
      have h9 : d9.Done := ite_pred Dev.Done h8 h8
      have h10 : d10.Done := h9
      simpa [Dev.restoreConds, Dev.Done] using h10

/-- What ends a command leaves nothing of a reset to be done. -/
theorem Dev.settle_done (d : Dev) (c : Ctx) : (d.settle c).Done := by
  unfold Dev.settle
  extract_lets n0 f0 d1 d2 d3 d4
  have h1 : d1.saf.entered = false := by
    dsimp only [d1]
    split
    · rfl
    · next h => exact Bool.eq_false_iff.mpr h
  have h2 : d2.saf.entered = false := by
    obtain ⟨_, _, es⟩ := d1.settleSeats_eta
    obtain ⟨_, _, _, ea⟩ := d1.settleSeats.settleAudio_eta c
    dsimp only [d2]
    rw [ea, es]
    exact h1
  have h3 : d3.Done := by
    obtain ⟨_, _, e⟩ := (d2.takeReset c).dispatch_eta c
    dsimp only [d3]
    rw [e]
    exact d2.takeReset_done c h2
  have h4 : d4.Done := by
    refine ite_pred Dev.Done ?_ h3
    obtain ⟨_, _, _, _, e⟩ := d3.sendEvents_eta
    rw [e]
    exact h3
  clear_value d4
  exact h4

/-- The pins a command leaves follow from the state it leaves. -/
theorem Dev.settle_pins (d : Dev) (c : Ctx) : ∃ x : Dev, d.settle c = x.settlePins := ⟨_, rfl⟩

/-- A bitmap's bits are those it is made of. -/
theorem bitmap_lt (n : Nat) (f : Nat → Bool) : bitmap n f < 2 ^ n := by
  induction n with
  | zero => exact Nat.one_pos
  | succ n ih =>
    have hs : bitmap (n + 1) f = bitmap n f + b2n (f n) * 2 ^ n := by simp [bitmap, List.range_succ]
    have hb : b2n (f n) ≤ 1 := by unfold b2n; split <;> omega
    have := Nat.mul_le_mul_right (2 ^ n) hb
    rw [hs, Nat.pow_succ]
    omega

theorem bit_bitmap {n i : Nat} (f : Nat → Bool) (h : i < n) : bit (bitmap n f) i = f i := by
  induction n with
  | zero => exact absurd h (Nat.not_lt_zero i)
  | succ n ih =>
    have hs : bitmap (n + 1) f = 2 ^ n * b2n (f n) + bitmap n f := by simp [bitmap, List.range_succ, Nat.mul_comm, Nat.add_comm]
    rw [bit, hs, Nat.testBit_two_pow_mul_add _ (bitmap_lt n f)]
    split
    · next hi => exact ih hi
    · next hi =>
      obtain rfl : i = n := by omega
      rw [Nat.sub_self]
      cases f i <;> rfl

/-- Of a device whose pins follow from its state, SAFE_N is high only as R846 allows. -/
theorem Dev.Settled.safeOutputs {d : Dev} (h : d.Settled) : d.SafeOutputs := by
  intro hs
  rw [h.pins] at hs
  simp only [Dev.settlePins, Dev.isSafe, Bool.not_eq_true', Bool.or_eq_false_iff, decide_eq_false_iff_not,
    not_not] at hs
  obtain ⟨⟨⟨ha, hb⟩, hc⟩, hn⟩ := hs
  exact ⟨hn, ha, hb, hc⟩

/-- Of a device whose pins follow from its state, no output gated in the safe state toggles there (R236). -/
theorem Dev.Settled.gatedOutputs {d : Dev} (h : d.Settled) : d.GatedOutputs := by
  intro i hi hsafe hgate
  have hsyn : d.pins.syn = bitmap 8 d.synOut := by rw [h.pins]; rfl
  have hout : d.synOut i = false := by simp [Dev.synOut, hsafe, hgate]
  rw [hsyn, bit_bitmap _ hi, hout]

/-- A command that runs in the frame of every command leaves a settled device. -/
theorem State.act_settled {s t : State} {dt : Nat} {f : Ctx → Dev → Dev} (h : s.act dt f = .next t) : t.dev.Settled := by
  have hd := State.act_dev h
  obtain ⟨hwant, hen⟩ := (f (s.ctx dt) s.entry).settle_done (s.ctx dt)
  obtain ⟨x, hx⟩ := (f (s.ctx dt) s.entry).settle_pins (s.ctx dt)
  rw [hx] at hd hwant hen
  rw [hd]
  exact ⟨hwant, rfl, rfl, hen, rfl⟩

/-- Every command leaves a settled device: it runs in the frame of every command, or it is POWER_ON. -/
theorem exec_settled {i : Instr} {s t : State} (h : exec i s = .next t) : t.dev.Settled := by
  obtain ⟨dt, f, hf⟩ | hf | ⟨dt, rfl⟩ := exec_acts i s
  · exact State.act_settled (hf.symm.trans h)
  · rw [hf] at h
    exact nomatch h
  · have hp : exec (.powerOn dt) s = execPowerOn dt s := rfl
    rw [← Host.Outcome.next.inj (hp.symm.trans h)]
    exact ⟨rfl, rfl, rfl, rfl, reset_settled.pins⟩

/-- Settles O37: what ends every command takes the reset asked for and makes the pins follow from the state, of which the
two safety conjuncts are consequences; an empty queue leaves the state as it is. -/
theorem stepsKeepTheMachineSafe : Obligations.Steps_keep_the_machine_safe := by
  have hexec (i : Instr) (s t : State) (h : exec i s = .next t) :
      t.dev.Settled ∧ t.dev.SafeOutputs ∧ t.dev.GatedOutputs :=
    have hs := exec_settled h
    ⟨hs, hs.safeOutputs, hs.gatedOutputs⟩
  refine ⟨fun s t hinv hstep => ?_, hexec⟩
  unfold step at hstep
  split at hstep
  · exact Host.Outcome.next.inj hstep ▸ hinv
  · exact hexec _ _ _ hstep

/-! ## The queue and the fuses -/

/-- Settles O33: the step takes the command from the front of the queue. -/
theorem queueFrontRuns : Obligations.Queue_front_runs :=
  ⟨fun _ _ _ => rfl, fun s h => by rw [step, h]⟩

/-- Settles O34: the frame of every command, and POWER_ON, keep the queue and count one free value. -/
theorem commandsLeaveTheQueue : Obligations.Commands_leave_the_queue := by
  intro i s t h
  obtain ⟨dt, f, hf⟩ | hf | ⟨dt, rfl⟩ := exec_acts i s
  · have ht : s.act dt f = .next t := hf.symm.trans h
    unfold State.act at ht
    rw [← Host.Outcome.next.inj ht]
    exact ⟨rfl, rfl⟩
  · rw [hf] at h
    exact nomatch h
  · have hp : exec (.powerOn dt) s = execPowerOn dt s := rfl
    rw [← Host.Outcome.next.inj (hp.symm.trans h)]
    exact ⟨rfl, rfl⟩

theorem Fuses.le_refl (a : Fuses) : a.le a := ⟨id, id, id, rfl, fun _ => id⟩

/-- Blowing more fuses leaves those that are blown. -/
theorem Fuses.le_burn (a b : Fuses) : a.le (a.burn b) :=
  ⟨fun h => by simp [Fuses.burn, h], fun h => by simp [Fuses.burn, h], fun h => by simp [Fuses.burn, h], rfl,
    fun _ h => List.mem_append_left _ h⟩

/-- Settles O39: a command only blows fuses beside those that are blown; POWER_ON keeps them. -/
theorem fusesOnlyBlow : Obligations.Fuses_only_blow := by
  intro i s t h
  obtain ⟨dt, f, hf⟩ | hf | ⟨dt, rfl⟩ := exec_acts i s
  · have ht : s.act dt f = .next t := hf.symm.trans h
    unfold State.act at ht
    rw [← Host.Outcome.next.inj ht]
    exact s.fuses.le_burn _
  · rw [hf] at h
    exact nomatch h
  · have hp : exec (.powerOn dt) s = execPowerOn dt s := rfl
    rw [← Host.Outcome.next.inj (hp.symm.trans h)]
    exact s.fuses.le_refl

end Sys2Proof.Machine


namespace Sys2Proof.Machine

/-! ## Reset sources that act together (R889) -/

/-- The lowest of the codes asked for is one of them, and no code is lower. -/
theorem foldl_min_spec (w : Nat) (ws : List Nat) :
    ws.foldl min w ∈ w :: ws ∧ ∀ x ∈ w :: ws, ws.foldl min w ≤ x :=
  List.min?_eq_some_iff.mp (List.min?_cons' (x := w) (xs := ws))

/-- A lower code has no narrower scope (Table 16.1). -/
theorem scopeOf_mono {m x : Nat} (h : m ≤ x) : scopeOf m ≤ scopeOf x := by
  unfold scopeOf
  grind

theorem scopeOf_control {m : Nat} (h : 9 ≤ m) : scopeOf m = 3 := by
  unfold scopeOf
  rw [if_neg (by omega), if_neg (by omega), if_neg (by omega)]

theorem find_filter {m : List (Nat × Val)} {p : Nat → Bool} {k : Nat} (h : p k = true) :
    find (m.filter fun e => p e.1) k = find m k := by
  induction m with
  | nil => rfl
  | cons e r ih =>
    obtain ⟨a, v⟩ := e
    by_cases ha : a = k
    · subst ha
      simp [h, find]
    · cases hp : p a <;> simp [hp, find, ha, ih]

/-- A cold or system reset that keeps AON keeps its objects (Table 16.2). -/
theorem Dev.get_fullReset (d : Dev) (cold keepPins : Bool) {k : Nat} (h : aonKey k = true) :
    (d.fullReset true cold keepPins).get k = d.get k := by
  have ho : (d.fullReset true cold keepPins).obj = d.obj.filter fun e => aonKey e.1 || (!cold && timeKey e.1) := rfl
  unfold Dev.get
  rw [ho, find_filter (p := fun k => aonKey k || (!cold && timeKey k)) (by simp [h])]

/-- A control reset writes two objects of the configuration and one of the host port. -/
theorem Dev.get_controlReset (d : Dev) {k : Nat} (h : k ≠ 0x1030_04 ∧ k ≠ 0x1020_03 ∧ k ≠ 0x7010_0D) :
    d.controlReset.get k = d.get k := by
  obtain ⟨h1, h2, h3⟩ := h
  unfold Dev.controlReset
  extract_lets q armed d1 d2 _ d3 d4 _ d5 slots _ d6 d7
  let P (x : Dev) : Prop := x.get k = d.get k
  have g1 : P d1 := ite_pred P rfl (d.get_setN_ne _ k 0 h1)
  have g2 : P d2 := (d1.get_setN_ne _ k 0 h2).trans g1
  have g4 : P d4 := (d3.get_setN_ne _ k _ h3).trans g2
  clear_value d4
  exact g4

/-- The cause and the scope in the record of a reset. -/
theorem Dev.recordReset_nat (d : Dev) (c : Ctx) (cause : Nat) (held : Bool) :
    (d.recordReset c cause held).nat 0x1040_01 = cause ∧ (d.recordReset c cause held).nat 0x1040_02 = scopeOf cause := by
  unfold Dev.recordReset
  extract_lets sc d1 d2
  constructor
  · show d2.nat 0x1040_01 = cause
    simp [d2, d1, Dev.nat_setN]
  · show d2.nat 0x1040_02 = scopeOf cause
    simp [d2, d1, sc, Dev.nat_setN]

/-- What a reset leaves of its cause, its scope and the counts of causes. -/
structure Dev.Recorded (m : Nat) (l : List Nat) (d : Dev) : Prop where
  cause : d.nat 0x1040_01 = m
  scope : d.nat 0x1040_02 = scopeOf m
  counts : d.rst.counts = l

namespace Dev.Recorded

variable {cause : Nat} {counts : List Nat} {d x : Dev}

theorem of (h : d.Recorded cause counts) (h1 : x.get 0x1040_01 = d.get 0x1040_01)
    (h2 : x.get 0x1040_02 = d.get 0x1040_02) (hr : x.rst.counts = d.rst.counts) : x.Recorded cause counts :=
  ⟨(nat_of_get h1).trans h.cause, (nat_of_get h2).trans h.scope, hr.trans h.counts⟩

theorem setN (h : d.Recorded cause counts) {k : Nat} (n : Nat) (hk : 0x1040_01 ≠ k ∧ 0x1040_02 ≠ k := by decide) :
    (d.setN k n).Recorded cause counts :=
  h.of (d.get_setN_ne k _ n hk.1) (d.get_setN_ne k _ n hk.2) (by rw [Dev.setN_rst])

end Dev.Recorded

/-- The record of a reset, made on a device whose counts it has counted. -/
theorem Dev.recordReset_recorded (d : Dev) (c : Ctx) (cause : Nat) (held : Bool) :
    (d.recordReset c cause held).Recorded cause d.rst.counts := by
  obtain ⟨h1, h2⟩ := d.recordReset_nat c cause held
  obtain ⟨_, _, e⟩ := d.recordReset_eta c cause held
  exact ⟨h1, h2, by rw [e]⟩

theorem Dev.logFlush_rst (d : Dev) : d.logFlush.rst = d.rst := by
  obtain ⟨_, _, e⟩ := d.logFlush_eta
  rw [e]

theorem Dev.controlReset_rst (d : Dev) :
    d.controlReset.rst.counts = d.rst.counts ∧ d.controlReset.rst.scope = 3 ∧ d.controlReset.rst.stage = .released := by
  unfold Dev.controlReset
  extract_lets q armed d1 d2 _ d3 d4 _ d5 slots _ d6 d7
  have h1 : d1.rst = d.rst := ite_pred (fun x : Dev => x.rst = d.rst) rfl (Dev.setN_rst ..)
  have h4 : d4.rst = d.rst := by simp [d4, d3, d2, h1]
  have h7 : d7.rst.counts = d.rst.counts := congrArg Rst.counts h4
  exact ⟨h7, rfl, rfl⟩

/-- A cold or system reset that keeps AON keeps the record of the reset. -/
theorem Dev.Recorded.fullReset {d : Dev} {m : Nat} {l : List Nat} (h : d.Recorded m l) (cold keepPins : Bool) :
    (d.fullReset true cold keepPins).Recorded m l :=
  h.of (d.get_fullReset cold keepPins rfl) (d.get_fullReset cold keepPins rfl) rfl

/-- The counts of the causes a command asks for. -/
def countsAfter (cs : List Nat) (counts : List Nat) : List Nat :=
  cs.foldl (fun l x => modifyAt (fun n => (n + 1) % 2 ^ 32) x l) counts

/-- A reset that is taken is recorded with the lowest cause asked for, all of them counted, and has its scope (R889). -/
theorem Dev.takeReset_recorded (d : Dev) (c : Ctx) {w : Nat} {ws : List Nat} (hw : d.rst.want = w :: ws)
    (h1 : ws.foldl min w ≠ 1)
    (hearly : ¬ (9 ≤ ws.foldl min w ∧ d.rst.stage = .released ∧ d.rst.scope < 3))
    (hstuck : ¬ (5 ≤ ws.foldl min w ∧ (d.rst.stage = .dead ∨ d.rst.stage = .inReset ∨ d.rst.stage = .off))) :
    (d.takeReset c).Recorded (ws.foldl min w) (countsAfter (w :: ws) d.rst.counts) ∧
      (d.takeReset c).rst.scope = scopeOf (ws.foldl min w) := by
  unfold Dev.takeReset
  split
  · next h => exact absurd (h.symm.trans hw) (List.cons_ne_nil w ws).symm
  next h =>
  obtain ⟨rfl, rfl⟩ := List.cons.inj (h.symm.trans hw)
  extract_lets cause early stuck ran _ d1 d2 d3 held flush d4 d5 d6 lastSys cold d7 d8 _ d9 _ d10
  have hno : ¬ ((early || stuck) = true) := by
    simp only [early, stuck, Bool.or_eq_true, Bool.and_eq_true, decide_eq_true_eq]
    rintro (⟨⟨h9, hs⟩, hsc⟩ | ⟨h5, (hs | hs) | hs⟩)
    · exact hearly ⟨h9, hs, hsc⟩
    · exact hstuck ⟨h5, .inl hs⟩
    · exact hstuck ⟨h5, .inr (.inl hs)⟩
    · exact hstuck ⟨h5, .inr (.inr hs)⟩
  rw [if_neg hno]
  by_cases h9 : 9 ≤ cause
  · rw [if_pos h9]
    have h3 : d3.rst = d2.rst := ite_pred (fun x : Dev => x.rst = d2.rst) d2.logFlush_rst rfl
    have hr := d3.recordReset_recorded c cause (d3.flag 0x1040_0A)
    rw [h3] at hr
    generalize d3.recordReset c cause _ = x at hr ⊢
    obtain ⟨hc, hs, -⟩ := x.controlReset_rst
    exact ⟨hr.of (x.get_controlReset (by decide)) (x.get_controlReset (by decide)) hc, hs.trans (scopeOf_control h9).symm⟩
  · rw [if_neg h9]
    have h4 : d4.rst = d2.rst := ite_pred (fun x : Dev => x.rst = d2.rst) d2.logFlush_rst rfl
    have h5 : d5.Recorded cause d2.rst.counts := h4 ▸ d4.recordReset_recorded c cause held
    have h6 : d6.Recorded cause d2.rst.counts :=
      ite_pred (Dev.Recorded cause d2.rst.counts) h5 (((h5.setN _).setN _).setN _)
    have h7 : d7.Recorded cause d2.rst.counts := by
      dsimp only [d7]
      rw [decide_eq_true h1]
      exact h6.fullReset _ _
    clear_value d7
    have hb : d7.bumpEpoch.Recorded cause d2.rst.counts := h7.setN _
    have h8 : d8.Recorded cause d2.rst.counts :=
      ite_pred (Dev.Recorded cause d2.rst.counts) hb (ite_pred (Dev.Recorded cause d2.rst.counts) hb h7)
    have h9 : d9.Recorded cause d2.rst.counts := ite_pred (Dev.Recorded cause d2.rst.counts) (h8.of rfl rfl rfl) h8
    have h10 : d10.Recorded cause d2.rst.counts := h9.of rfl rfl rfl
    exact ⟨h10.setN _, by rw [Dev.restoreConds, Dev.setN_rst]⟩

/-- Settles O24: the lowest code has the widest scope, and the record, the counts and the scope are those
`takeReset_recorded` gives. -/
theorem simultaneousResetSources : Obligations.Simultaneous_reset_sources := by
  intro d c w ws hw hone m e hearly hstuck
  obtain ⟨hmem, hle⟩ := foldl_min_spec w ws
  have hone' : m ≠ 1 := fun h => hone (by rw [hw, ← h]; exact hmem)
  obtain ⟨hrec, hscope⟩ := d.takeReset_recorded c hw hone' hearly hstuck
  rw [hw]
  exact ⟨hmem, fun x hx => ⟨hle x hx, scopeOf_mono (hle x hx)⟩, hrec.cause, hrec.scope, hscope, hrec.counts⟩

end Sys2Proof.Machine


/-!
SUPPORT. The machine that waits for a cold reset (stage dead), in which the causes of ch 13 and ch 15 reset nothing, and
the settling of O16 and O18.
-/
namespace Sys2Proof.Machine

/-! ## A device whose boot has failed (R165, R894) -/

/-- A device whose boot failed, so that only a cold reset helps, with WD0 running and its count past T. -/
def deadWatchdog : State where
  time := 400000000
  dev := { wd0 := { run := true, set := { t := 1000 } }, clk := { tb := true }, rst := { stage := .dead } }

/-- WD0's expiry asks for a system reset, which the device discards. -/
theorem exec_deadWatchdog : ∃ t, exec (.watchdogExpired 0 0 0) deadWatchdog = .next t ∧ t.dev.rst.stage = .dead :=
  ⟨_, show _ = execWatchdogExpired 0 0 0 deadWatchdog from rfl, by decide +kernel⟩

/-- Refutes O16: its clause of WD0's expiry does not ask that the device takes system resets, and `deadWatchdog` stays as
it is. -/
theorem not_watchdogEventLogCommandsComplete : ¬ Obligations.Watchdog_event_log_commands_complete := by
  unfold Obligations.Watchdog_event_log_commands_complete
  rintro ⟨-, -, -, -, -, -, -, hexpire, -⟩
  obtain ⟨t, ht, hdead⟩ := exec_deadWatchdog
  obtain ⟨u, hu, -, -, hreleased⟩ := hexpire deadWatchdog 0 0 0 ⟨rfl, rfl, rfl⟩ (by decide +kernel) (by decide +kernel)
  obtain rfl : t = u := Host.Outcome.next.inj (ht.symm.trans hu)
  rw [hdead] at hreleased
  exact nomatch hreleased

/-- A device whose boot failed, and whose local time advances. -/
def deadDevice : State where
  dev := { clk := { tb := true }, rst := { stage := .dead } }

/-- A scan that finds a corrupted word asks for a system reset, which the device discards. -/
theorem exec_deadDevice : ∃ t, exec (.shadowScan 0 true) deadDevice = .next t ∧ t.dev.rst.stage = .dead :=
  ⟨_, show _ = execShadowScan 0 true deadDevice from rfl, by decide +kernel⟩

/-- Refutes O18: its clause of a scan that finds a corrupted word asks only that local time advances, and `deadDevice`
takes no system reset. -/
theorem not_safetyAndResetCommandsComplete : ¬ Obligations.Safety_and_reset_commands_complete := by
  unfold Obligations.Safety_and_reset_commands_complete
  rintro ⟨-, -, -, -, -, hscan, -⟩
  obtain ⟨t, ht, hdead⟩ := exec_deadDevice
  obtain ⟨u, hu, hreleased, -⟩ := hscan deadDevice 0 ⟨rfl, rfl, rfl⟩ (by decide +kernel)
  obtain rfl : t = u := Host.Outcome.next.inj (ht.symm.trans hu)
  rw [hdead] at hreleased
  exact nomatch hreleased

end Sys2Proof.Machine


/-!
SUPPORT. A state whose cache holds an entry of a slot that is none of the two, and the settling of O13.
-/
namespace Sys2Proof.Machine

/-! ## A cache entry of a slot that the title port does not have (R620) -/

/-- An entry of slot 65,524 hit half a second ago. No fill makes such a tag, but the obligation is about every state. -/
def strayEntry : CEnt := ⟨0, ⟨0xFFF4, 0, false, 0⟩, 1500000, [], false⟩

/-- A device that is up, its cache on with an age limit of 1 s, which holds `strayEntry` and an entry never hit. -/
def strayCache : State where
  time := 800000000
  dev :=
    { obj := [(cacheK 1, .num 1), (cacheK 3, .num 1)]
      cache := { ents := [strayEntry, ⟨1, ⟨0, 0, false, 1⟩, 0, [], false⟩] }
      rst := { stage := .up } }

/-- The identification of slot 65,524 at 0x7000.14 + 65,524 is the object of the evictions, 0x7100.08. The cycle keeps the
slot's entry, whose identification agrees, and counts the other's eviction there. -/
theorem exec_strayCache : ∃ t, exec (.cacheCycle 0 [] []) strayCache = .next t ∧ strayEntry ∈ t.dev.cache.ents ∧
    t.dev.pinned strayEntry = false ∧ t.dev.slotIdent 0xFFF4 = 0x10000 :=
  ⟨_, show _ = execCacheCycle 0 [] [] strayCache from rfl, by decide +kernel, by decide +kernel, by decide +kernel⟩

/-- Refutes O13: its clause of CACHE_CYCLE does not ask that the entries are of slots the title port has, and on
`strayCache` the count of evictions makes an entry stale that stays. -/
theorem not_streamingCommandsComplete : ¬ Obligations.Streaming_commands_complete := by
  unfold Obligations.Streaming_commands_complete
  rintro ⟨-, -, -, -, -, -, -, -, -, -, -, -, hcycle, -⟩
  obtain ⟨t, ht, hmem, hunpinned, hident⟩ := exec_strayCache
  obtain ⟨u, hu, hents⟩ := hcycle strayCache 0 [] [] ⟨rfl, rfl, rfl⟩ (by decide +kernel) rfl (by decide +kernel)
    (by decide +kernel)
  obtain rfl : t = u := Host.Outcome.next.inj (ht.symm.trans hu)
  obtain hpinned | ⟨-, hsame⟩ := hents strayEntry hmem
  · rw [hunpinned] at hpinned
    exact nomatch hpinned
  · have hold : t.dev.slotIdent 0xFFF4 = 0 := hsame
    rw [hident] at hold
    exact nomatch hold

end Sys2Proof.Machine


/-!
SUPPORT. States whose ports have lanes, and whose PMBus reads rails, that the device does not have, and the settling of
O17, O52, O53 and O59.
-/
namespace Sys2Proof.Machine

/-! ## A port whose lanes are none of the device's -/

/-- A device at the last on delay of the power-up that its wake from STANDBY waits for, with port 0 enabled on lane
20,224. No accepted write gives 0x3000.03 such a value, but the obligation is about every state. -/
def wakingPort : State where
  time := 40000000
  dev :=
    { obj := [(portK 0 0x01, .num 1), (portK 0 0x03, .num 0x4F00), (portK 0 0x04, .num 1)]
      pwr := { seq := .up, wait := .onDelay, waking := true }
      rst := { stage := .up } }

/-- The sequence ends with 2 at 0x8000.0C; then the video path starts, and port 0's lane leaves marker lock: its received
marker at 0x3100 + 20,224.0C is the same object. -/
theorem exec_wakingPort : ∃ t, exec (.onDelayEnd 0) wakingPort = .next t ∧ t.dev.nat 0x8000_0C = 0xFF :=
  ⟨_, show _ = execOnDelayEnd 0 wakingPort from rfl, by decide +kernel⟩

/-- Refutes O17: its clause of the end of the last on delay does not ask that the ports' lanes are lanes of the device,
and on `wakingPort` the start of a port overwrites the state of the power-up. -/
theorem not_powerCommandsComplete : ¬ Obligations.Power_commands_complete := by
  unfold Obligations.Power_commands_complete
  rintro ⟨-, -, -, -, -, -, -, -, -, -, honDelay, -⟩
  obtain ⟨t, ht, hlane⟩ := exec_wakingPort
  obtain ⟨u, hu, hup, -⟩ := honDelay wakingPort 0 ⟨rfl, rfl, rfl⟩ rfl rfl (by decide +kernel) (by decide +kernel)
  obtain rfl : t = u := Host.Outcome.next.inj (ht.symm.trans hu)
  rw [hlane] at hup
  exact absurd hup (by decide)

/-! ## Frames that fail -/

/-- A family's frame fails where one of its commands, on a device that is up and stays up, changes an object of a part
that is not of its parts. -/
theorem not_frameOf {i : Instr} {s t : State} {k : Nat} (p : Part) (hq : Quiet s) (he : s.dev.saf.entered = false)
    (hs : s.dev.rst.stage = .up) (hp : p ∉ partsOf i) (hk : partOfKey k = some p)
    (ht : exec i s = .next t ∧ t.dev.rst.stage = .up ∧ t.dev.nat k ≠ s.dev.nat k) : ¬ FrameOf (familyOf i) := by
  intro hframe
  obtain ⟨hnext, hup, hchanged⟩ := ht
  have hsame : Same p s.dev t.dev := hframe i s t rfl ⟨hq, he, hs, hnext, hup⟩ p hp
  exact hchanged (hsame.nat hk)

/-- A device that is up, its port 0 in TRAINING for 100 ms on lane 3,840, where the device has lanes 0 to 47 (R271). The
objects of that lane stand at 0x3100 + 3,840, where capture channel 0 has its own. -/
def strayTraining : State where
  time := 40000000
  dev :=
    { obj := [(portK 0 0x03, .num 0xF00), (portK 0 0x04, .num 1), (portK 0 0x07, .num 2)]
      rst := { stage := .up } }

/-- The attempt fails and the lane leaves marker lock (R289): 0xFF is written over the state of channel 0. -/
theorem exec_strayTraining : ∃ t, exec (.trainingAttemptTimeout 0 0) strayTraining = .next t ∧
    t.dev.rst.stage = .up ∧ t.dev.nat (chanK 0 0x0C) ≠ strayTraining.dev.nat (chanK 0 0x0C) :=
  ⟨_, show _ = execTrainingAttemptTimeout 0 0 strayTraining from rfl, by decide +kernel, by decide +kernel⟩

/-- Refutes O52: it does not ask that a port's lanes are lanes of the device, and on `strayTraining` the timeout of a
training attempt writes an object of the capture. -/
theorem not_frameOfLanes : ¬ Obligations.Frame_of_lanes := by
  unfold Obligations.Frame_of_lanes
  obtain ⟨t, ht⟩ := exec_strayTraining
  exact not_frameOf .capture ⟨rfl, rfl, rfl⟩ rfl rfl (by decide) rfl ht

/-- A device that is up, its port 0 UP on lane 3,840, a SAFE packet waiting for credits since the reset. -/
def strayBlocked : State where
  time := 40000000
  dev :=
    { obj := [(portK 0 0x03, .num 0xF00), (portK 0 0x04, .num 1), (portK 0 0x07, .num 3)]
      ports := [{ flowSeen := true, safe := [⟨8, 0, 0, [], 0⟩] }]
      rst := { stage := .up } }

/-- The credit timeout retrains the port and its lane leaves marker lock (R295, R359). -/
theorem exec_strayBlocked : ∃ t, exec (.creditTimeout 0 0 3) strayBlocked = .next t ∧
    t.dev.rst.stage = .up ∧ t.dev.nat (chanK 0 0x0C) ≠ strayBlocked.dev.nat (chanK 0 0x0C) :=
  ⟨_, show _ = execCreditTimeout 0 0 3 strayBlocked from rfl, by decide +kernel, by decide +kernel⟩

/-- Refutes O53: as O52, by the credit timeout of `strayBlocked`. -/
theorem not_frameOfLinks : ¬ Obligations.Frame_of_links := by
  unfold Obligations.Frame_of_links
  obtain ⟨t, ht⟩ := exec_strayBlocked
  exact not_frameOf .capture ⟨rfl, rfl, rfl⟩ rfl rfl (by decide) rfl ht

/-- A device that is up, whose forme 0, one line of one pixel, runs on port 3,072 (0x5000.02). What stands at the key
0x3000 + 3072.02 makes that port a trunk, so that it sends pixel rows. -/
def strayRow : State where
  dev :=
    { obj := [(portK 0xC00 0x02, .num 2), (formeK 0 0x02, .num 0xC00), (formeK 0 0x03, .num 1), (formeK 0 0x04, .num 1),
        (formeK 0 0x11, .num 2)]
      formes := [{ nopic := false }]
      rst := { stage := .up } }

/-- The row finds no port that is UP and is counted as discarded (R372) at 0x3400 + 3072.08, an object of channel 0. -/
theorem exec_strayRow : ∃ t, exec (.rowLaunch 0 0 0 []) strayRow = .next t ∧
    t.dev.rst.stage = .up ∧ t.dev.nat (chanK 0 0x08) ≠ strayRow.dev.nat (chanK 0 0x08) :=
  ⟨_, show _ = execRowLaunch 0 0 0 [] strayRow from rfl, by decide +kernel, by decide +kernel⟩

/-- Refutes O54: it does not ask that a forme's port is a port of the device, and on `strayRow` a row's launch writes an
object of the capture. -/
theorem not_frameOfVideo : ¬ Obligations.Frame_of_video := by
  unfold Obligations.Frame_of_video
  obtain ⟨t, ht⟩ := exec_strayRow
  exact not_frameOf .capture ⟨rfl, rfl, rfl⟩ rfl rfl (by decide) rfl ht

/-- A device that is up, whose cut poll has the status word of rail 4,096 left. What stands at the key 0x8100 + 4096.0A,
WD0's count of early warnings, is its address. -/
def strayPoll : State where
  time := 40000000
  dev :=
    { obj := [(railK 0x1000 0x0A, .num 1)]
      pwr := { poll := [(0x1000, 2)] }
      rst := { stage := .up } }

/-- The rest of the poll goes with the next AVS update, and stores the word at 0x8100 + 4096.12 (R833). -/
theorem exec_strayPoll : ∃ t, exec (.avsUpdate 0 0 0 [(0x1000, 2, 7, 0)]) strayPoll = .next t ∧
    t.dev.rst.stage = .up ∧ t.dev.nat (railK 0x1000 0x12) ≠ strayPoll.dev.nat (railK 0x1000 0x12) :=
  ⟨_, show _ = execAvsUpdate 0 0 0 [(0x1000, 2, 7, 0)] strayPoll from rfl, by decide +kernel, by decide +kernel⟩

/-- Refutes O59: it does not ask that a poll's rails are rails of the device, and on `strayPoll` an AVS update writes under
an index of the watchdogs. -/
theorem not_frameOfPower : ¬ Obligations.Frame_of_power := by
  unfold Obligations.Frame_of_power
  obtain ⟨t, ht⟩ := exec_strayPoll
  exact not_frameOf .watchdogs ⟨rfl, rfl, rfl⟩ rfl rfl (by decide) rfl ht

end Sys2Proof.Machine


/-!
SUPPORT. The end of a command that asks for no reset, field by field: what it leaves of the core, the trace, the event
controller, the log and the collector.
-/
namespace Sys2Proof.Machine

/-! ## The stages of the end of a command -/

theorem Dev.sendEvents_evc (d : Dev) : d.sendEvents.evc = { d.evc with msgs := [] } := by
  unfold Dev.sendEvents
  refine foldl_pred (fun x : Dev => x.evc = { d.evc with msgs := [] }) _ (fun x m hx => ?_) _ rfl
  show (Dev.toHost _ false false _).evc = _
  rw [Dev.toHost_evc, Dev.sendBoth_evc, hx]

/-- What holds of the device an effect leaves, with no entry to SAFE left, and what every stage of the end of a command
keeps, holds at the end. -/
theorem Dev.settle_induction {P : Dev → Prop} {d : Dev} (c : Ctx) (h : d.rst.want = [])
    (notices : ∀ ps, P { d with ports := ps, saf := { d.saf with entered := false } })
    (seats : ∀ x : Dev, P x → P x.settleSeats)
    (audio : ∀ x : Dev, P x → P (x.settleAudio c))
    (dispatch : ∀ x : Dev, P x → P (x.dispatch c))
    (send : ∀ x : Dev, P x → P x.sendEvents)
    (pins : ∀ (x : Dev) (p : Pins), P x → P { x with pins := p }) : P (d.settle c) := by
  unfold Dev.settle
  extract_lets n0 f0 d1 d2 d3 d4
  have h1 : P d1 ∧ d1.rst = d.rst := by
    have hn : d.PortsOf n0 := d.safeNotices_eta c _ h
    clear_value n0
    obtain ⟨ps, rfl⟩ := hn
    cases hen : d.saf.entered with
    | true =>
      have hd1 : d1 = { d with ports := ps, saf := { d.saf with entered := false } } := if_pos hen
      exact ⟨hd1 ▸ notices ps, by rw [hd1]⟩
    | false =>
      have hd1 : d1 = d := if_neg (by simp [hen])
      have hsaf : P { d with ports := d.ports, saf := { d.saf with entered := false } } := notices d.ports
      rw [← hen] at hsaf
      exact ⟨hd1 ▸ hsaf, by rw [hd1]⟩
  obtain ⟨h1, hr1⟩ := h1
  have hr2 : d2.rst.want = [] :=
    (congrArg Rst.want ((d1.settleSeats_itpRst.trans (d1.settleSeats.settleAudio_itpRst c)).2.trans hr1)).trans h
  have h3 : P d3 := by
    have hd3 : d3 = (d2.takeReset c).dispatch c := rfl
    rw [hd3, Dev.takeReset_none d2 c hr2]
    exact dispatch d2 (audio _ (seats _ h1))
  have h4 : P d4 := ite_pred P (send d3 h3) h3
  exact pins d4 _ h4

/-! ## The event controller and the log -/

/-- Events but `ev` stand as they were raised: mask, counts and details. -/
def Evc.Agrees (ev : Nat) (e f : Evc) : Prop :=
  f.mask = e.mask ∧ ∀ n, n ≠ ev → f.raises[n]? = e.raises[n]? ∧ f.details[n]? = e.details[n]?

theorem Evc.Agrees.trans {ev : Nat} {e f g : Evc} (h : e.Agrees ev f) (k : f.Agrees ev g) : e.Agrees ev g :=
  ⟨k.1.trans h.1, fun n hn => ⟨(k.2 n hn).1.trans (h.2 n hn).1, (k.2 n hn).2.trans (h.2 n hn).2⟩⟩

/-- Raising an event keeps the detail it is raised with. -/
theorem Dev.raiseF_details (d : Dev) (c : Ctx) (b : Bool) (ev n : Nat) :
    (d.raiseF c b ev n).evc.details = modifyAt (fun _ => n) ev d.evc.details ∧
      (d.raiseF c b ev n).evc.mask = d.evc.mask := by
  unfold Dev.raiseF
  extract_lets r e0 m e1 e2 d1 d2
  let P (x : Dev) : Prop := x.evc.details = modifyAt (fun _ => n) ev d.evc.details ∧ x.evc.mask = d.evc.mask
  have h1 : P d1 := ite_pred (fun e : Evc => e.details = e1.details ∧ e.mask = e1.mask) ⟨rfl, rfl⟩ ⟨rfl, rfl⟩
  have h2 : P d2 := by
    refine ite_pred P (ite_pred P ?_ (ite_pred P ?_ h1)) h1
    · show (d1.inc 0x9200_04).evc.details = _ ∧ (d1.inc 0x9200_04).evc.mask = _
      rw [Dev.inc_evc]
      exact h1
    · show (d1.inc 0x9200_05).evc.details = _ ∧ (d1.inc 0x9200_05).evc.mask = _
      rw [Dev.inc_evc]
      exact h1
  clear_value d2
  refine ite_pred P (ite_pred P ?_ h2) h2
  show (Dev.inc _ _).evc.details = _ ∧ (Dev.inc _ _).evc.mask = _
  rw [Dev.inc_evc]
  exact h2

theorem Dev.raise_agrees (d : Dev) (c : Ctx) (ev n : Nat) : d.evc.Agrees ev (d.raise c ev n).evc := by
  obtain ⟨hdet, hmask⟩ := d.raiseF_details c false ev n
  refine ⟨hmask, fun m hm => ⟨?_, ?_⟩⟩
  · rw [Dev.raise, Dev.raiseF_raises, getElem?_modifyAt_ne _ _ hm]
  · rw [Dev.raise, hdet, getElem?_modifyAt_ne _ _ hm]

/-- The fallback of the audio clock raises its own event alone (60, R548). -/
theorem Dev.settleAudio_agrees (d : Dev) (c : Ctx) : d.evc.Agrees 60 (d.settleAudio c).evc := by
  let P (x : Dev) : Prop := d.evc.Agrees 60 x.evc
  have h0 : P d := ⟨rfl, fun _ _ => ⟨rfl, rfl⟩⟩
  unfold Dev.settleAudio
  refine ite_pred P (foldl_pred P _ (fun x t hx => ite_pred P ?_ hx) _ ?_) h0
  · show d.evc.Agrees 60 (Dev.setN _ _ _).evc
    rw [Dev.setN_evc]
    exact hx
  · have := (d.setN 0x6300_06 4).raise_agrees c 60 d.audio.clk.2.2
    rwa [Dev.setN_evc] at this

/-- Where the audio clock's synthesizer is not locked to it, nothing falls back. -/
theorem Dev.settleAudio_idle (d : Dev) (c : Ctx) (h : d.nat 0x6300_06 ≠ 2) : d.settleAudio c = d := by
  unfold Dev.settleAudio
  simp [h]

/-! ## The entry of an interrupt handler -/

/-- The core without what the entry of a handler writes: the registers and the handlers under way. -/
def Core.still (k : Core) : Core := { k with pc := 0, priv := 0, x := [], userPc := 0, waiting := false, ctxs := [] }

theorem Core.halted_of_still {k y : Core} (h : k.still = y.still) : k.halted = y.halted := by
  have hh := congrArg Core.halted h
  exact hh

theorem Dev.dispatch_still (d : Dev) (c : Ctx) : (d.dispatch c).core.still = d.core.still := by
  unfold Dev.dispatch
  refine ite_pred (fun x : Dev => x.core.still = d.core.still) rfl ?_
  cases d.irqClaim with
  | none => rfl
  | some p =>
    obtain ⟨l, e⟩ := p
    exact ite_pred (fun x : Dev => x.core.still = d.core.still) rfl rfl

/-- No handler is entered where no level is enabled, or the hart is halted (R723, R759). -/
theorem Dev.dispatch_calm (d : Dev) (c : Ctx) (h : d.evc.mask = 0 ∨ d.core.halted = true) : d.dispatch c = d := by
  obtain hmask | hhalt := h
  · have hclaim : d.irqClaim = none := by simp [Dev.irqClaim, hmask, bit]
    simp [Dev.dispatch, hclaim]
  · simp [Dev.dispatch, Dev.appRuns, hhalt]

/-! ## What a command leaves -/

/-- What the stages of the end of a command, from `d`, leave as its effect made it. -/
structure Dev.Ending (d x : Dev) : Prop where
  wds : x.wd0 = d.wd0 ∧ x.wd1 = d.wd1
  get : ∀ k, partOfKey k ≠ none → x.get k = d.get k
  saf : x.saf = { d.saf with entered := false }
  still : x.core.still = d.core.still
  halted : x.core.halted = d.core.halted
  calm : d.evc.mask = 0 ∨ d.core.halted = true → x.core = d.core ∧ x.trace = d.trace
  evc : d.evc.Agrees 60 x.evc
  log : d.nat 0x6300_06 ≠ 2 → x.nat 0x6300_06 = d.nat 0x6300_06 ∧ x.log = d.log ∧ x.evc = { d.evc with msgs := x.evc.msgs }

namespace Dev.Ending

variable {d x : Dev} {c : Ctx}

theorem seats (h : d.Ending x) : d.Ending x.settleSeats := by
  have hk : Dev.Keeps [] x x.settleSeats := x.settleSeats_keeps
  have h63 : x.settleSeats.get 0x6300_06 = x.get 0x6300_06 := (x.settleSeats_stands (by decide)).get
  obtain ⟨o, p, e⟩ := x.settleSeats_eta
  rw [e] at hk h63 ⊢
  obtain ⟨hwds, hget, hsaf, hstill, hhalt, hcalm, hevc, hlog⟩ := h
  refine ⟨hwds, fun k hpart => ?_, hsaf, hstill, hhalt, hcalm, hevc, fun h6 => ?_⟩
  · obtain ⟨q, hq⟩ := Option.ne_none_iff_exists'.mp hpart
    exact ((hk q List.not_mem_nil).2 k hq).trans (hget k hpart)
  · obtain ⟨h1, h2, h3⟩ := hlog h6
    exact ⟨(nat_of_get h63).trans h1, h2, h3⟩

theorem audio (h : d.Ending x) : d.Ending (x.settleAudio c) := by
  have hk : Dev.Keeps [] x (x.settleAudio c) := x.settleAudio_keeps c
  have ha := x.settleAudio_agrees c
  have hidle := x.settleAudio_idle c
  obtain ⟨o, e, l, he⟩ := x.settleAudio_eta c
  rw [he] at hk ha hidle ⊢
  obtain ⟨hwds, hget, hsaf, hstill, hhalt, hcalm, hevc, hlog⟩ := h
  refine ⟨hwds, fun k hpart => ?_, hsaf, hstill, hhalt, hcalm, hevc.trans ha, fun h6 => ?_⟩
  · obtain ⟨q, hq⟩ := Option.ne_none_iff_exists'.mp hpart
    exact ((hk q List.not_mem_nil).2 k hq).trans (hget k hpart)
  · rw [hidle (by rw [(hlog h6).1]; exact h6)]
    exact hlog h6

theorem dispatch (h : d.Ending x) : d.Ending (x.dispatch c) := by
  have hs := x.dispatch_still c
  have hcalm' := x.dispatch_calm c
  obtain ⟨k, t, he⟩ := x.dispatch_eta c
  rw [he] at hs hcalm' ⊢
  obtain ⟨hwds, hget, hsaf, hstill, hhalt, hcalm, hevc, hlog⟩ := h
  have hhalt' : k.halted = x.core.halted := Core.halted_of_still hs
  refine ⟨hwds, hget, hsaf, hs.trans hstill, hhalt'.trans hhalt, fun h0 => ?_, hevc, hlog⟩
  rw [hcalm' (by rwa [hevc.1, hhalt])]
  exact hcalm h0

theorem send (h : d.Ending x) : d.Ending x.sendEvents := by
  have hk : Dev.Keeps [] x x.sendEvents := x.sendEvents_keeps
  have h63 : x.sendEvents.get 0x6300_06 = x.get 0x6300_06 := (x.sendEvents_stands (by decide)).get
  have hev := x.sendEvents_evc
  obtain ⟨o, i, e, u, he⟩ := x.sendEvents_eta
  rw [he] at hk h63 hev ⊢
  have he' : e = { x.evc with msgs := [] } := hev
  obtain ⟨hwds, hget, hsaf, hstill, hhalt, hcalm, hevc, hlog⟩ := h
  refine ⟨hwds, fun k hpart => ?_, hsaf, hstill, hhalt, hcalm, ?_, fun h6 => ?_⟩
  · obtain ⟨q, hq⟩ := Option.ne_none_iff_exists'.mp hpart
    exact ((hk q List.not_mem_nil).2 k hq).trans (hget k hpart)
  · rw [he']
    exact hevc
  · obtain ⟨h1, h2, h3⟩ := hlog h6
    refine ⟨(nat_of_get h63).trans h1, h2, ?_⟩
    rw [he', h3]

theorem pins (h : d.Ending x) (p : Pins) : d.Ending { x with pins := p } := by
  obtain ⟨hwds, hget, hsaf, hstill, hhalt, hcalm, hevc, hlog⟩ := h
  exact ⟨hwds, hget, hsaf, hstill, hhalt, hcalm, hevc, hlog⟩

end Dev.Ending

/-- The end of a command that asks for no reset. -/
theorem Dev.settle_ending (d : Dev) (c : Ctx) (h : d.rst.want = []) : d.Ending (d.settle c) :=
  Dev.settle_induction c h
    (fun _ => ⟨⟨rfl, rfl⟩, fun _ _ => rfl, rfl, rfl, rfl, fun _ => ⟨rfl, rfl⟩,
      ⟨rfl, fun _ _ => ⟨rfl, rfl⟩⟩, fun _ => ⟨rfl, rfl, rfl⟩⟩)
    (fun _ => Dev.Ending.seats) (fun _ => Dev.Ending.audio) (fun _ => Dev.Ending.dispatch) (fun _ => Dev.Ending.send)
    fun _ p hx => hx.pins p

/-- A command whose effect asks for no reset completes, and leaves what `Dev.Ending` says: the device it leaves is the
settled one, `x`, with no fuse to burn and no ticks to skip. -/
theorem completes_of_ending {i : Instr} {s : State} {dt : Nat} {f : Ctx → Dev → Dev} {e : Dev} {P : State → Prop}
    (hx : exec i s = s.act dt f) (hf : f (s.ctx dt) s.entry = e) (hw : e.rst.want = [])
    (hP : ∀ (t : State) (x : Dev), e.Ending x → e.out ⊆ x.out →
      t.dev = { x with rst := { x.rst with burn := none, skip := 0 } } → P t) : Completes i s P := by
  subst hf
  obtain ⟨t, ht⟩ : ∃ t, s.act dt f = .next t := ⟨_, rfl⟩
  exact ⟨t, hx.trans ht, hP t _ (Dev.settle_ending _ _ hw) (Dev.settle_out _ _ hw) (State.act_dev ht)⟩

end Sys2Proof.Machine


/-!
SUPPORT. Software events and the clearing of the log (R762, R781), and the settling of O19 and O22.
-/
namespace Sys2Proof.Machine

variable {s : State} {dt : Nat} {o : Org} {v : Int}

/-! ## The device that an accepted write finds -/

/-- Hearing and answering a request leave the event controller. -/
theorem Accepts.found_evc {k base n : Nat} {r : Obj} (h : Accepts s dt o k v) (hk : lookup (s.ctx dt).s12 k = .row base n r) :
    (s.found dt o k v).evc = s.dev.evc := by
  have hreach : (s.heard dt o 8).Reaches o.path := by
    rw [State.heard_eq]
    exact Dev.reaches_of_hears (s.ctx dt) (Accepts.spec h hk).1
  obtain ⟨m, p, t, h, n, hawake⟩ := (State.heard_awake (s := s) (dt := dt) (o := o) (n := 8)).eta
  have hevc : (s.heard dt o 8).evc = s.dev.evc := (congrArg Dev.evc hawake).trans rfl
  by_cases hm : o.path = .mailbox
  · rw [State.found_mailbox hk hm]
    exact hevc
  · rw [State.found_frame hk hm]
    obtain ⟨_, _, _, _, hanswer⟩ := (s.heard dt o 8).answer_answerOf (s.ctx dt) o ((s.heard dt o 8).reqId o)
      (reqData k r.ty.code (encodeVal r.ty (.num v))) (reply o 0x04 (Hdr.bytes ⟨0, r.ty.code, k / 256, k % 256, 0⟩)) hreach
    exact (congrArg Dev.evc hanswer).trans hevc

/-- A command that is the accepted write of a number to an object without a staged value completes, and leaves what
`Dev.Ending` says of the effect on the device found. -/
theorem completes_of_write {i : Instr} {P : State → Prop} {k base n : Nat} {r : Obj} {x : Obs} {e : Dev}
    (hx : exec i s = s.req dt o k v x) (hq : Quiet s) (hb : x.busy = false) (ha : Accepts s dt o k v)
    (hk : ∀ b, lookup b k = .row base n r) (hk24 : k < 2 ^ 24) (hacc : r.acc ≠ .rws)
    (he : (s.found dt o k v).writeObj (s.ctx dt) base n r.sub (.num v) x = e)
    (hr : e.rst = (s.found dt o k v).rst)
    (hP : ∀ (t : State) (x : Dev), e.Ending x → e.out ⊆ x.out →
      t.dev = { x with rst := { x.rst with burn := none, skip := 0 } } → P t) : Completes i s P := by
  have hf := Accepts.found ha (hk _)
  obtain ⟨hwant, haside, hwait⟩ := hq
  refine completes_of_ending (f := fun c d => d.request c o k (.num v) x) hx ?_ (by rw [hr, hf.rst]; exact hwant) hP
  show s.entry.request (s.ctx dt) o k (.num v) x = e
  rw [Dev.request_accepted ⟨hwant, haside, hwait⟩ hk hk24 ha hb, Dev.applyWrite_direct hacc, he]
  rw [he, hr, hf.rst]
  exact haside

/-! ## Software events (R762) -/

/-- A command that raises one event, not the fallback of the audio clock, counts it and keeps its detail. -/
theorem raised_of_ending {d e x : Dev} {t : State} {ev n : Nat} (hev : ev ≠ 60) (hlen : ev < d.evc.details.length)
    (he : e.evc.raises = modifyAt (fun n => (n + 1) % 2 ^ 32) ev d.evc.raises ∧ e.evc.details = modifyAt (fun _ => n) ev d.evc.details)
    (hend : e.Ending x) (ht : t.dev = { x with rst := { x.rst with burn := none, skip := 0 } }) :
    t.dev.evc.details[ev]? = some n ∧ t.dev.evc.raises[ev]? = (d.evc.raises[ev]?).map fun k => (k + 1) % 2 ^ 32 := by
  obtain ⟨hraises, hdetails⟩ := hend.evc.2 ev hev
  rw [ht]
  refine ⟨hdetails.trans ?_, hraises.trans ?_⟩
  · rw [he.2, getElem?_modifyAt_self, List.getElem?_eq_getElem hlen]
    rfl
  · rw [he.1, getElem?_modifyAt_self]

theorem Dev.raise_counts (d : Dev) (c : Ctx) (ev n : Nat) :
    (d.raise c ev n).evc.raises = modifyAt (fun n => (n + 1) % 2 ^ 32) ev d.evc.raises ∧
      (d.raise c ev n).evc.details = modifyAt (fun _ => n) ev d.evc.details :=
  ⟨d.raiseF_raises c false ev n, (d.raiseF_details c false ev n).1⟩

/-- A release raises the release event at most (R863). -/
theorem Dev.release1_agrees (d : Dev) (c : Ctx) (code : Nat) :
    d.evc.Agrees 1 (d.release1 c code).evc ∧ (d.release1 c code).rst = d.rst := by
  have hset : ∀ n, d.evc.Agrees 1 (d.setN 0x9000_0A n).evc ∧ (d.setN 0x9000_0A n).rst = d.rst := fun n => by
    rw [Dev.setN_evc, Dev.setN_rst]
    exact ⟨⟨rfl, fun _ _ => ⟨rfl, rfl⟩⟩, rfl⟩
  let P (x : Dev) : Prop := d.evc.Agrees 1 x.evc ∧ x.rst = d.rst
  unfold Dev.release1
  refine ite_pred P (hset 4) (ite_pred P (hset 5) (ite_pred P (hset 2) (ite_pred P (hset 3) ?_)))
  unfold Dev.doRelease
  extract_lets d1 fs _ d2
  have h2 : d2.evc = d.evc ∧ d2.rst = d.rst := ⟨by simp [d2, d1], by simp [d2, d1]⟩
  have hr := d2.raise_agrees c 1 0
  rw [h2.1] at hr
  exact ⟨hr, (Dev.raise_rst ..).trans h2.2⟩

/-- The write of EVC_SWRAISE0 or 1 counts its event with the value as the detail, and asks for no reset. -/
theorem Dev.swRaise_counts (d : Dev) (c : Ctx) (n v : Nat) :
    ((d.swRaise c n v).evc.raises[94 + n]? = (d.evc.raises[94 + n]?).map (fun k => (k + 1) % 2 ^ 32) ∧
      (d.swRaise c n v).evc.details[94 + n]? = (d.evc.details[94 + n]?).map (fun _ => v % 2 ^ 32)) ∧
      (d.swRaise c n v).rst = d.rst := by
  obtain ⟨hcount, hdetail⟩ := d.raise_counts c (94 + n) (v % 2 ^ 32)
  have h1 : (d.raise c (94 + n) (v % 2 ^ 32)).rst = d.rst := Dev.raise_rst ..
  unfold Dev.swRaise
  generalize d.raise c (94 + n) (v % 2 ^ 32) = e at hcount hdetail h1
  have h2 : e.evc.raises[94 + n]? = (d.evc.raises[94 + n]?).map (fun k => (k + 1) % 2 ^ 32) := by
    rw [hcount, getElem?_modifyAt_self]
  have h3 : e.evc.details[94 + n]? = (d.evc.details[94 + n]?).map (fun _ => v % 2 ^ 32) := by
    rw [hdetail, getElem?_modifyAt_self]
  obtain ⟨hagree, hr⟩ := e.release1_agrees c 1
  obtain ⟨g2, g3⟩ := hagree.2 (94 + n) (by omega)
  dsimp only
  split
  · exact ⟨⟨g2.trans h2, g3.trans h3⟩, hr.trans h1⟩
  · exact ⟨⟨h2, h3⟩, h1⟩

theorem evcSwraise_completes {i : Instr} {n v : Nat} (hq : Quiet s) (hon : s.dev.coreOn = true)
    (hlen : 94 + n < s.dev.evc.details.length) (hn : n < 2)
    (hx : exec i s = s.act dt fun c d => if d.coreOn then d.swRaise c n v else d) :
    Completes i s fun t => t.dev.evc.details[94 + n]? = some (v % 2 ^ 32) ∧
      t.dev.evc.raises[94 + n]? = (s.dev.evc.raises[94 + n]?).map fun k => (k + 1) % 2 ^ 32 := by
  obtain ⟨⟨hcount, hdetail⟩, hr⟩ := s.entry.swRaise_counts (s.ctx dt) n v
  refine completes_of_ending hx (if_pos hon) ((congrArg Rst.want hr).trans hq.1) fun t x hend _ ht => ?_
  obtain ⟨hraises, hdetails⟩ := hend.evc.2 (94 + n) (by omega)
  rw [ht]
  have hthere : s.entry.evc.details[94 + n]? = some _ := List.getElem?_eq_getElem hlen
  rw [hthere] at hdetail
  exact ⟨hdetails.trans hdetail, hraises.trans hcount⟩

theorem lookup_9200_06 : ∃ r, (∀ b, lookup b 0x9200_06 = .row 0x9200 0 r) ∧ r.acc ≠ .rws ∧ r.sub = 6 :=
  ⟨_, fun b => by cases b <;> rfl, by decide, rfl⟩

theorem softwareRaise_completes {v : Nat} (hq : Quiet s) (hv : v < 2) (hlen : 95 < s.dev.evc.details.length)
    (ha : Accepts s dt o 0x9200_06 v) : Completes (.softwareRaise dt o v) s fun t =>
      (t.dev.evc.raises[94 + v]? = (s.dev.evc.raises[94 + v]?).map fun k => (k + 1) % 2 ^ 32) ∧
        t.dev.evc.details[94 + v]? = some 0 := by
  obtain ⟨r, hk, hacc, hsub⟩ := lookup_9200_06
  have hfound := Accepts.found_evc ha (hk _)
  refine completes_of_write (show _ = execSoftwareRaise dt o v s from rfl) hq rfl ha hk (by decide) hacc
    (e := (s.found dt o 0x9200_06 v).raise (s.ctx dt) (94 + v) 0) ?_ (Dev.raise_rst ..) fun t x hend _ ht => ?_
  · rw [hsub]
    rfl
  · obtain ⟨hcount, hdetail⟩ := (s.found dt o 0x9200_06 v).raise_counts (s.ctx dt) (94 + v) 0
    rw [hfound] at hcount hdetail
    obtain ⟨h1, h2⟩ := raised_of_ending (by omega) (by omega) ⟨hcount, hdetail⟩ hend ht
    exact ⟨h2, h1⟩

/-- Settles O19: each write raises its event, and neither a release nor the end of the command touches its count. -/
theorem softwareEventsRaise : Obligations.Software_events_raise := by
  unfold Obligations.Software_events_raise
  exact ⟨fun s dt v hq hon _ hlen => evcSwraise_completes (n := 0) hq hon hlen (by decide) (show _ = execEvcSwraise0 dt v s from rfl),
    fun s dt v hq hon _ hlen => evcSwraise_completes (n := 1) hq hon hlen (by decide) (show _ = execEvcSwraise1 dt v s from rfl),
    fun s dt o v hq hv hlen ha => softwareRaise_completes hq hv hlen ha⟩

/-! ## Clearing the log (R781) -/

theorem lookup_9400_0A : ∃ r, (∀ b, lookup b 0x9400_0A = .row 0x9400 0 r) ∧ r.acc ≠ .rws ∧ r.sub = 0x0A :=
  ⟨_, fun b => by cases b <;> rfl, by decide, rfl⟩

/-- Settles O22: the write leaves no record and the rest of the log as the write finds it; nothing is logged as the command
ends, since no audio clock falls back. -/
theorem logClearEmptiesTheLog : Obligations.Log_clear_empties_the_log := by
  unfold Obligations.Log_clear_empties_the_log
  intro s dt o hq haudio ha
  obtain ⟨r, hk, hacc, hsub⟩ := lookup_9400_0A
  refine completes_of_write (show _ = execLogClear dt o s from rfl) hq rfl ha hk (by decide) hacc
    (e := (s.found dt o 0x9400_0A 1).clearLog) ?_ rfl fun t x hend _ ht => ?_
  · rw [hsub]
    rfl
  · have hnat : (s.found dt o 0x9400_0A 1).clearLog.nat 0x6300_06 = s.dev.nat 0x6300_06 :=
      Dev.nat_of_get ((Accepts.found ha (hk _)).get 0x6300_06 (by decide))
    obtain ⟨-, hlog, -⟩ := hend.log (by rwa [hnat])
    have htlog : t.dev.log = x.log := by rw [ht]
    rw [htlog, hlog]
    exact ⟨rfl, rfl, rfl, rfl⟩

end Sys2Proof.Machine


/-!
SUPPORT. The objects that the end of a command keeps where it takes a reset, and the watchdog's keys (R746): the settling of
O20.
-/
namespace Sys2Proof.Machine

/-! ## The objects that stay through the end of a command -/

/-- A key that no stage of the end of a command but a cold or system reset writes: it is none of the configuration's
commands, the reset's record, the link counters, the audio clock and the TDM ports, the host port, the seats, the events
and the log. -/
def offSettle (k : Nat) : Bool :=
  !([0x1020, 0x1030, 0x1040, 0x6300, 0x7010, 0x9200, 0x9400].contains (k / 256))
    && !(decide (0x3400 ≤ k / 256) && decide (k / 256 < 0x3420)) && !(decide (0x6200 ≤ k / 256) && decide (k / 256 < 0x6204))
    && !(decide (0x8200 ≤ k / 256) && decide (k / 256 < 0x8208))

/-- What `offSettle` says, as numbers. -/
theorem offSettle_iff {k : Nat} (h : offSettle k = true) :
    (k / 256 ≠ 0x1020 ∧ k / 256 ≠ 0x1030 ∧ k / 256 ≠ 0x1040 ∧ k / 256 ≠ 0x6300 ∧ k / 256 ≠ 0x7010 ∧ k / 256 ≠ 0x9200 ∧
      k / 256 ≠ 0x9400) ∧ (k / 256 < 0x3400 ∨ 0x3420 ≤ k / 256) ∧ (k / 256 < 0x6200 ∨ 0x6204 ≤ k / 256) ∧
      (k / 256 < 0x8200 ∨ 0x8208 ≤ k / 256) := by
  simp only [offSettle, Bool.and_eq_true, Bool.not_eq_true', List.contains_eq_mem, decide_eq_false_iff_not, List.mem_cons,
    List.not_mem_nil, or_false, not_or, Bool.and_eq_false_iff, not_le, not_lt] at h
  obtain ⟨⟨⟨⟨h1, h2, h3, h4, h5, h6, h7⟩, hlink⟩, htdm⟩, hseat⟩ := h
  exact ⟨⟨h1, h2, h3, h4, h5, h6, h7⟩, hlink, htdm, hseat⟩

/-- Keys of two indices differ. -/
theorem key_ne_of_index {k j : Nat} (h : k / 256 ≠ j / 256) : k ≠ j := fun e => h (congrArg (· / 256) e)

theorem Dev.sendMarker_obj (d : Dev) (p : Nat) (a b : Bool) : (d.sendMarker p a b).obj = d.obj := by
  unfold Dev.sendMarker
  extract_lets x d1
  have h1 : d1.obj = d.obj := by
    refine foldl_pred (fun y : Dev => y.obj = d.obj) _ ?_ _ rfl
    exact fun _ _ h => h
  exact h1

theorem Dev.openBlock_obj (d : Dev) (p n : Nat) : (d.openBlock p n).obj = d.obj := by
  unfold Dev.openBlock
  exact ite_pred (fun x : Dev => x.obj = d.obj) (d.sendMarker_obj p false true) rfl

theorem Dev.putWords_obj (d : Dev) (p : Nat) (on : Bool) (ws : List Nat) : (d.putWords p on ws).obj = d.obj := by
  induction ws generalizing d on with
  | nil => rfl
  | cons w r ih => exact (ih _ true).trans (d.openBlock_obj p _)

/-- A packet that leaves is counted in its port's own counter of packets. -/
theorem Dev.get_sendPkt (d : Dev) (p vc seq : Nat) (q : QPkt) {k : Nat} (hk : k ≠ linkK p 0x12) :
    (d.sendPkt p vc seq q).get k = d.get k := by
  unfold Dev.sendPkt
  let P (x : Dev) : Prop := x.get k = d.get k
  extract_lets d1 d2
  have h1 : P d1 := Dev.get_of_obj (Dev.putWords_obj ..) k
  have h2 : P d2 := ite_pred P h1 h1
  exact ite_pred P h2 ((d2.get_setN_ne _ k _ hk).trans h2)

/-- A frame to the host that finds no room is counted. -/
theorem Dev.get_toHost (d : Dev) (kept front : Bool) (m : Msg) {k : Nat} (hk : k ≠ 0x9200_05) :
    (d.toHost kept front m).get k = d.get k := by
  let P (y : Dev) : Prop := y.get k = d.get k
  unfold Dev.toHost
  exact ite_pred P rfl (ite_pred P rfl (ite_pred P rfl (ite_pred P rfl (d.get_inc_ne _ k hk))))

section

variable {d x : Dev} {c : Ctx} {k : Nat}

theorem Dev.safeNotices_get (h : offSettle k = true) (w : Nat) : (d.safeNotices c w).get k = d.get k := by
  obtain ⟨-, hlink, -, -⟩ := offSettle_iff h
  unfold Dev.safeNotices
  refine List.foldlRecOn (motive := fun x : Dev => x.get k = d.get k) _ _ rfl fun x hx p hp => ?_
  have hne : k ≠ linkK p 0x12 := by
    have := List.mem_range.mp hp
    unfold linkK key
    omega
  exact ite_pred (fun y : Dev => y.get k = d.get k) hx (ite_pred (fun y : Dev => y.get k = d.get k)
    ((Dev.get_sendPkt _ _ _ _ _ hne).trans hx) hx)

theorem Dev.settleSeats_get (h : offSettle k = true) : d.settleSeats.get k = d.get k := by
  obtain ⟨-, -, -, hseat⟩ := offSettle_iff h
  let P (x : Dev) : Prop := x.get k = d.get k
  unfold Dev.settleSeats
  refine ite_pred P (List.foldlRecOn (motive := P) _ _ rfl fun x hx n hn => ite_pred P ?_ hx) rfl
  have hne : k ≠ key 0x8200 n 0x0A := by
    have := List.mem_range.mp hn
    unfold key
    omega
  exact (Dev.get_setN_ne _ _ _ _ hne).trans hx

theorem Dev.raise_get (h : offSettle k = true) (ev n : Nat) : (d.raise c ev n).get k = d.get k := by
  obtain ⟨⟨-, -, -, -, -, h92, h94⟩, -, -, -⟩ := offSettle_iff h
  exact d.get_raiseF c _ ev n k (key_ne_of_index h92) (key_ne_of_index h92) (key_ne_of_index h94)

theorem Dev.settleAudio_get (h : offSettle k = true) : (d.settleAudio c).get k = d.get k := by
  obtain ⟨⟨-, -, -, h63, -, -, -⟩, -, htdm, -⟩ := offSettle_iff h
  let P (x : Dev) : Prop := x.get k = d.get k
  unfold Dev.settleAudio
  refine ite_pred P (List.foldlRecOn (motive := P) _ _ ?_ fun x hx n hn => ite_pred P ?_ hx) rfl
  · exact (Dev.raise_get h 60 _).trans (d.get_setN_ne _ k _ (key_ne_of_index h63))
  · have hne : k ≠ key 0x6200 n 0x0E := by
      have := List.mem_range.mp hn
      unfold key
      omega
    exact (Dev.get_setN_ne _ _ _ _ hne).trans hx

theorem Dev.logFlush_get (h : offSettle k = true) : d.logFlush.get k = d.get k := by
  obtain ⟨⟨-, -, -, -, -, -, h94⟩, -, -, -⟩ := offSettle_iff h
  unfold Dev.logFlush
  refine foldl_pred (fun x : Dev => x.get k = d.get k) _ (fun x _ hx => ?_) _ rfl
  exact ite_pred (fun y : Dev => y.get k = d.get k) ((Dev.get_inc_ne _ _ k (key_ne_of_index h94)).trans hx) hx

theorem Dev.recordReset_get (h : offSettle k = true) (cause : Nat) (held : Bool) :
    (d.recordReset c cause held).get k = d.get k := by
  obtain ⟨⟨-, -, h10, -, -, -, -⟩, -, -, -⟩ := offSettle_iff h
  unfold Dev.recordReset
  extract_lets sc d1 d2
  have hn : ∀ (x : Dev) (j n : Nat), j / 256 = 0x1040 → (x.setN j n).get k = x.get k := fun x j n hj =>
    x.get_setN_ne j k n (key_ne_of_index (hj ▸ h10))
  show d2.get k = _
  simp only [d2, d1, hn]

theorem Dev.sendEvents_get (h : offSettle k = true) : d.sendEvents.get k = d.get k := by
  obtain ⟨⟨-, -, -, -, -, h92, -⟩, -, -, -⟩ := offSettle_iff h
  unfold Dev.sendEvents
  refine foldl_pred (fun x : Dev => x.get k = d.get k) _ (fun x m hx => ?_) _ rfl
  refine (Dev.get_toHost _ _ _ _ (key_ne_of_index h92)).trans (Eq.trans ?_ hx)
  rw [Dev.sendBoth_same]
  rfl

/-- A reset that is taken keeps an object off the stages that a control reset is asked for, or that AON keeps and no cold or system
reset records. -/
theorem Dev.takeReset_get (h : offSettle k = true)
    (hr : d.OnlyControl ∨ (aonKey k = true ∧ k / 256 ≠ 0x1050 ∧ k / 256 ≠ 0x9000 ∧ ∀ w ∈ d.rst.want, w ≠ 1)) :
    (d.takeReset c).get k = d.get k := by
  let P (x : Dev) : Prop := x.get k = d.get k
  unfold Dev.takeReset
  split
  · rfl
  next w ws hw =>
  extract_lets cause early stuck ran _ d1 d2 d3 held flush d4 d5 d6 lastSys cold d7 d8 _ d9 _ d10
  have hmem := (foldl_min_spec w ws).1
  refine ite_pred P rfl ?_
  by_cases h9 : 9 ≤ cause
  · rw [if_pos h9]
    have h3 : P d3 := ite_pred P (Dev.logFlush_get h) rfl
    obtain ⟨⟨h20, h30, -, -, h70, -, -⟩, -, -, -⟩ := offSettle_iff h
    exact (Dev.get_controlReset _ ⟨key_ne_of_index h30, key_ne_of_index h20, key_ne_of_index h70⟩).trans ((Dev.recordReset_get h _ _).trans h3)
  · rw [if_neg h9]
    obtain hcontrol | ⟨haon, h50, h90, hone⟩ := hr
    · exact absurd (hcontrol _ (hw ▸ hmem)) h9
    have h4 : P d4 := ite_pred P (Dev.logFlush_get h) rfl
    have h5 : P d5 := (Dev.recordReset_get h _ _).trans h4
    have h6 : P d6 := ite_pred P h5 <| (Dev.get_setN_ne _ _ _ _ (key_ne_of_index h90)).trans <|
      (Dev.get_setN_ne _ _ _ _ (key_ne_of_index h90)).trans <| (Dev.get_setN_ne _ _ _ _ (key_ne_of_index h90)).trans h5
    have h7 : P d7 := by
      dsimp only [d7]
      rw [decide_eq_true (hone _ (hw ▸ hmem))]
      exact (d6.get_fullReset _ _ haon).trans h6
    clear_value d7
    have hb : P d7.bumpEpoch := (d7.get_setN_ne _ k _ (key_ne_of_index h50)).trans h7
    have h8 : P d8 := ite_pred P hb (ite_pred P hb h7)
    have h9' : P d9 := ite_pred P h8 h8
    have h10 : P d10 := h9'
    exact (d10.get_setN_ne _ k _ (key_ne_of_index h90)).trans h10

/-- What ends a command keeps an object off the stages, unless a cold or system reset takes it. -/
theorem Dev.settle_offSettle (h : offSettle k = true)
    (hr : d.OnlyControl ∨ (aonKey k = true ∧ k / 256 ≠ 0x1050 ∧ k / 256 ≠ 0x9000 ∧ ∀ w ∈ d.rst.want, w ≠ 1)) :
    (d.settle c).get k = d.get k := by
  let P (x : Dev) : Prop := x.get k = d.get k
  unfold Dev.settle
  extract_lets n0 f0 d1 d2 d3 d4
  have h0 : P n0 := Dev.safeNotices_get h _
  have hr0 : n0.rst = d.rst := d.safeNotices_rst c _
  clear_value n0
  have h1 : P d1 := ite_pred P h0 rfl
  have hr1 : d1.rst = d.rst := ite_pred (fun x : Dev => x.rst = d.rst) hr0 rfl
  have h2 : P d2 := (Dev.settleAudio_get h).trans ((Dev.settleSeats_get h).trans h1)
  have hr2 : d2.rst = d.rst := ((d1.settleSeats_itpRst.trans (d1.settleSeats.settleAudio_itpRst c)).2).trans hr1
  have h3 : P d3 := by
    obtain ⟨_, _, e⟩ := (d2.takeReset c).dispatch_eta c
    dsimp only [d3]
    rw [e]
    refine (Dev.takeReset_get h ?_).trans h2
    rw [Dev.OnlyControl, hr2]
    exact hr
  have h4 : P d4 := ite_pred P ((Dev.sendEvents_get h).trans h3) h3
  clear_value d4
  exact h4

end

end Sys2Proof.Machine


/-!
SUPPORT. What a detection writes, the watchdogs' keys and their expiry (R746, R747, R751): the settling of O20.
-/
namespace Sys2Proof.Machine

/-! ## A detection -/

theorem Dev.emergency_rst (d : Dev) (c : Ctx) (cls ev w : Nat) : (d.emergency c cls ev w).rst = d.rst := by
  unfold Dev.emergency
  exact (Dev.toHost_rst ..).trans (Dev.sendBoth_rst ..)

/-- A detection asks for a system reset where its class is 3, and for none else. -/
theorem Dev.detect_escalates (d : Dev) (c : Ctx) (code inst : Nat) : ∃ x : Dev, x.rst = d.rst ∧
    d.detect c code inst = if d.classOf code = 3 then x.wantReset (escalCause code) else x := by
  let P (x : Dev) : Prop := x.rst = d.rst
  unfold Dev.detect
  extract_lets cls word _ d1 had n0 n1 d2 d3 d4 d5 _ d6 _ d7 _ d8
  have h2 : P d2 := Dev.set_rst ..
  have h3 : P d3 := ite_pred P ((Dev.enterSafe_rst ..).trans h2) h2
  have h4 : P d4 := ite_pred P ((Dev.setN_rst ..).trans h3) h3
  have h5 : P d5 := ite_pred P ((Dev.setN_rst ..).trans h4) h4
  have h6 : P d6 := ite_pred P h5 h5
  have h7 : P d7 := ite_pred P h6 (ite_pred P h6 ((Dev.emergency_rst ..).trans h6))
  have h8 : P d8 := ite_pred P h7 h7
  clear_value d8
  by_cases h3 : cls = 3
  · refine ⟨(d8.inc 0x9300_03).recordEntry c word, ?_, ?_⟩
    · rw [Dev.recordEntry_rst, Dev.inc_rst]
      exact h8
    · rw [if_pos h3, if_pos (show d.classOf code = 3 from h3)]
  · exact ⟨d8, h8, by rw [if_neg h3, if_neg (show d.classOf code ≠ 3 from h3)]⟩

/-- The objects a detection writes: those of the collector and of the event controller. -/
theorem Dev.detect_get (d : Dev) (c : Ctx) (code inst : Nat) {k : Nat} (h90 : k / 256 ≠ 0x9000) (h92 : k / 256 ≠ 0x9200)
    (h93 : k / 256 ≠ 0x9300) (h94 : k / 256 ≠ 0x9400) : (d.detect c code inst).get k = d.get k := by
  let P (x : Dev) : Prop := x.get k = d.get k
  have hset : ∀ (x : Dev) (j : Nat) (v : Val), P x → k / 256 ≠ j / 256 → P (x.set j v) := fun x j v hx hj =>
    (x.get_set_ne j k v (key_ne_of_index hj)).trans hx
  have hrec : ∀ (x : Dev) (w : Nat), P x → P (x.recordEntry c w) := fun x w hx =>
    hset _ 0x9000_05 _ (hset _ 0x9000_04 _ (hset _ 0x9000_03 _ hx h90) h90) h90
  have hemg : ∀ (x : Dev) (cls ev w : Nat), P x → P (x.emergency c cls ev w) := fun x cls ev w hx => by
    refine (Dev.get_toHost _ _ _ _ (key_ne_of_index h92)).trans ?_
    rw [Dev.sendBoth_same]
    exact hx
  have hsafe : ∀ (x : Dev) (w : Nat), P x → P (x.enterSafe c w) := fun x w hx => by
    unfold Dev.enterSafe
    refine ite_pred P ?_ hx
    refine (Dev.get_raiseF _ c _ _ _ k (key_ne_of_index h92) (key_ne_of_index h92) (key_ne_of_index h94)).trans (hset _ 0x9000_0B _ ?_ h90)
    exact hset _ 0x9300_02 _ (hrec _ _ (hset _ 0x9000_01 _ hx h90)) h93
  unfold Dev.detect
  extract_lets cls word _ d1 had n0 n1 d2 d3 d4 d5 _ d6 _ d7 _ d8
  have h2 : P d2 := hset _ 0x9300_01 _ rfl h93
  have h3 : P d3 := ite_pred P (hsafe _ _ h2) h2
  have h4 : P d4 := ite_pred P (hset _ 0x9000_0B _ h3 h90) h3
  have h5 : P d5 := ite_pred P (hset _ 0x9000_06 _ h4 h90) h4
  have h6 : P d6 := ite_pred P h5 h5
  have h7 : P d7 := ite_pred P h6 (ite_pred P h6 (hemg _ _ _ _ h6))
  have h8 : P d8 := ite_pred P h7 h7
  clear_value d8
  exact ite_pred P (hrec _ _ (hset _ 0x9300_03 _ h8 h93)) h8

/-- A detection asks for a system reset at most. -/
theorem Dev.detect_want (d : Dev) (c : Ctx) (code inst : Nat) :
    (d.detect c code inst).rst.want = d.rst.want ∨
      ∃ w, 5 ≤ w ∧ w ≤ 8 ∧ (d.detect c code inst).rst.want = w :: d.rst.want := by
  obtain ⟨x, hx, e⟩ := d.detect_escalates c code inst
  rw [e]
  split
  · refine .inr ⟨escalCause code, ?_, ?_, congrArg (fun r : Rst => escalCause code :: r.want) hx⟩ <;> unfold escalCause <;>
      split_ifs <;> decide
  · exact .inl (congrArg Rst.want hx)

/-! ## The watchdogs -/

section

variable (d : Dev) (c : Ctx) (n : Nat)

@[simp] theorem Dev.wd_modWd (f : Wdg → Wdg) : (d.modWd n f).wd n = f (d.wd n) := by
  by_cases h : n = 0 <;> simp [Dev.modWd, Dev.wd, h]

/-- What changing a watchdog writes. -/
theorem Dev.modWd_eta (f : Wdg → Wdg) : ∃ a b, d.modWd n f = { d with wd0 := a, wd1 := b } := by
  unfold Dev.modWd
  split
  · exact ⟨_, _, rfl⟩
  · exact ⟨_, _, rfl⟩

@[simp] theorem Dev.modWd_get (f : Wdg → Wdg) (k : Nat) : (d.modWd n f).get k = d.get k := by
  obtain ⟨_, _, e⟩ := d.modWd_eta n f
  rw [e]
  rfl

@[simp] theorem Dev.modWd_rst (f : Wdg → Wdg) : (d.modWd n f).rst = d.rst := by
  obtain ⟨_, _, e⟩ := d.modWd_eta n f
  rw [e]

theorem Dev.wd_of_eq {x : Dev} (h0 : x.wd0 = d.wd0) (h1 : x.wd1 = d.wd1) : x.wd n = d.wd n := by
  simp [Dev.wd, h0, h1]

/-- R751: the judged set is in force where it is consistent; the count goes on. -/
theorem Dev.wdJudge_spec : ∃ x h, (d.wdJudge c n).wd n = { d.wd n with set := x, held := h } ∧
    ((d.wdSet n).ok n = true → x = d.wdSet n) := by
  unfold Dev.wdJudge
  dsimp only
  split
  next hok =>
    have h : (if (d.wd n).held then d.unheld c (wdK n 2) else d).wd n = d.wd n := ite_pred (fun x : Dev => x.wd n = d.wd n)
      (d.wd_of_eq n (Dev.raiseClr_wd0 ..) (Dev.raiseClr_wd1 ..)) rfl
    exact ⟨d.wdSet n, false, (Dev.wd_modWd _ n _).trans (by rw [h]), fun _ => rfl⟩
  next hok =>
    have h : (if (d.wd n).held then d else d.held c (wdK n 2)).wd n = d.wd n := ite_pred (fun x : Dev => x.wd n = d.wd n)
      rfl (d.wd_of_eq n (Dev.raise_wd0 ..) (Dev.raise_wd1 ..))
    exact ⟨(d.wd n).set, true, (Dev.wd_modWd _ n _).trans (by rw [h]), fun hok' => absurd hok' hok⟩

theorem Dev.wdJudge_stands {k : Nat} (hk : k < 0x9200_00) : d.Stands k (d.wdJudge c n) := by
  unfold Dev.wdJudge
  dsimp only
  have hmod : ∀ (x : Dev) (f : Wdg → Wdg), d.Stands k x → d.Stands k (x.modWd n f) := fun x f hx =>
    ⟨(x.modWd_get n f k).trans hx.get, (x.modWd_rst n f).trans hx.rst⟩
  refine ite_pred (d.Stands k) (hmod _ _ (ite_pred (d.Stands k) ?_ (.refl k d))) (hmod _ _ (ite_pred (d.Stands k) (.refl k d) ?_))
  · exact (Dev.Stands.refl k d).raiseF c _ _ _ hk
  · exact (Dev.Stands.refl k d).raiseF c _ _ _ hk

/-- R746: an accepted service restarts the count, is counted, and judges the set. -/
theorem Dev.wdServed_spec (hn : n < 2) : ∃ x h,
    (((d.wdZero c n).inc (wdK n 9)).wdJudge c n).wd n =
      { d.wd n with t0 := c.t, last := c.t, lastEpoch := d.epoch, warned := false, key1 := false, grace := false
                    frozen := (d.wd n).frozen.map fun _ => 0, set := x, held := h } ∧
    ((d.wdSet n).ok n = true → x = d.wdSet n) ∧
    (((d.wdZero c n).inc (wdK n 9)).wdJudge c n).nat (wdK n 9) = (d.nat (wdK n 9) + 1) % 2 ^ 32 ∧
    (((d.wdZero c n).inc (wdK n 9)).wdJudge c n).rst = d.rst := by
  obtain ⟨x, h, hwd, hset⟩ := ((d.wdZero c n).inc (wdK n 9)).wdJudge_spec c n
  have hs := ((d.wdZero c n).inc (wdK n 9)).wdJudge_stands c n (k := wdK n 9) (by unfold wdK key; omega)
  have hz : ∀ k, (d.wdZero c n).nat k = d.nat k := fun k => Dev.nat_of_get (d.modWd_get n _ k)
  have hkeep : ((d.wdZero c n).inc (wdK n 9)).wdSet n = d.wdSet n := by
    have hne : ∀ m sub, m < 2 → sub < 9 → ((d.wdZero c n).inc (wdK n 9)).nat (wdK m sub) = d.nat (wdK m sub) := fun m sub hm hs =>
      (Dev.nat_of_get (Dev.get_inc_ne _ _ _ (by unfold wdK key; omega))).trans (hz _)
    simp [Dev.wdSet, hne, hn]
  have hinc : ((d.wdZero c n).inc (wdK n 9)).wd n = (d.wdZero c n).wd n := Dev.wd_of_eq _ n (by simp) (by simp)
  refine ⟨x, h, ?_, fun hok => ?_, ?_, ?_⟩
  · rw [hwd, hinc, Dev.wdZero, Dev.wd_modWd]
  · rw [hset (by rwa [hkeep]), hkeep]
  · rw [hs.nat, Dev.nat_inc_same, hz]
  · exact hs.rst.trans ((Dev.inc_rst _ _).trans (d.modWd_rst n _))

/-- R747: an expiry is counted in an object that AON keeps, and asks for a system or a control reset. -/
theorem Dev.wdExpire_counts (hn : n < 2) (hst : d.pwr.st ≠ .standby) (reason pc priv : Nat) :
    (d.wdExpire c n reason pc priv).nat (wdK n 0x0B) = (d.nat (wdK n 0x0B) + 1) % 2 ^ 32 ∧
      ∀ w ∈ (d.wdExpire c n reason pc priv).rst.want, w ∈ d.rst.want ∨ 5 ≤ w := by
  have hk : wdK n 0x0B / 256 = 0x9100 + n := key_div _ _ _ (by decide)
  have hdet : ∀ (x : Dev) (code : Nat), (x.detect c code 0).get (wdK n 0x0B) = x.get (wdK n 0x0B) := fun x code =>
    x.detect_get c code 0 (by omega) (by omega) (by omega) (by omega)
  have hwant : ∀ (x : Dev) (code : Nat), x.rst = d.rst → ∀ w ∈ (x.detect c code 0).rst.want, w ∈ d.rst.want ∨ 5 ≤ w :=
    fun x code hx w hw => by
      obtain h | ⟨w', h5, -, h⟩ := x.detect_want c code 0
      · rw [h, hx] at hw
        exact .inl hw
      · rw [h, hx] at hw
        obtain rfl | hw := List.mem_cons.mp hw
        · exact .inr h5
        · exact .inl hw
  unfold Dev.wdExpire
  extract_lets d1 d2 d3 again d4
  have h2 : d2.nat (wdK n 0x0B) = (d.nat (wdK n 0x0B) + 1) % 2 ^ 32 ∧ d2.rst = d.rst ∧ d2.pwr = d.pwr := by
    refine ⟨?_, by simp [d2, d1], by simp [d2, d1]⟩
    have hr : d2.nat (wdK n 0x0B) = (d1.inc (wdK n 0x0B)).nat (wdK n 0x0B) :=
      Dev.nat_of_get (Dev.get_raiseF _ c _ _ _ _ (by omega) (by omega) (by omega))
    have h1 : d1.nat (wdK n 0x0B) = d.nat (wdK n 0x0B) :=
      Dev.nat_of_get (d.get_set_ne _ _ _ (by unfold wdK key; omega))
    rw [hr, Dev.nat_inc_same, h1]
  obtain ⟨hnat, hr, hp⟩ := h2
  have h3 : d3 = d2 := if_neg (by rw [hp]; exact hst)
  split
  · exact ⟨(Dev.nat_of_get (hdet d2 0x0C)).trans hnat, hwant d2 0x0C hr⟩
  · have h4 : d4.nat (wdK n 0x0B) = d2.nat (wdK n 0x0B) := by
      dsimp only [d4]
      rw [h3]
      exact Dev.nat_of_get (hdet d2 0x0D)
    refine ⟨?_, fun w hw => ?_⟩
    · refine Eq.trans ?_ (h4.trans hnat)
      exact Dev.nat_of_get (d4.modWd_get 1 (fun w => { w with run := false }) _)
    · have hw' : w ∈ d4.rst.want := by
        have := d4.modWd_rst 1 fun w => { w with run := false }
        rw [← this]
        exact hw
      have hd4 : d4.rst.want = 9 :: (d2.detect c 0x0D 0).rst.want := by
        dsimp only [d4]
        rw [h3]
        rfl
      rw [hd4] at hw'
      obtain rfl | hw' := List.mem_cons.mp hw'
      · exact .inr (by decide)
      · exact hwant d2 0x0D hr w hw'

end

/-! ## The key register (R746) -/

section

variable {s : State} {dt n v : Nat}

/-- A write of WDG_nSVC by the core is the key. -/
theorem Dev.coreWrite_wdgSvc {d : Dev} (c : Ctx) (v : Nat) (hon : d.coreOn = true) (hn : n < 2) :
    d.coreWrite c false (0x40 * n + 8) v = d.wdKey c n v := by
  obtain rfl | rfl : n = 0 ∨ n = 1 := by omega
  · simp [Dev.coreWrite, hon, Dev.regWrite, Dev.wdgRegWrite]
  · simp [Dev.coreWrite, hon, Dev.regWrite, Dev.wdgRegWrite]

theorem wdgSvc_completes {k : Nat} {e : Dev} {P : State → Prop} (hon : s.dev.coreOn = true) (hn : n < 2) (hv : v % 2 ^ 32 = k)
    (he : s.entry.wdKey (s.ctx dt) n k = e) (hw : e.rst.want = [])
    (hP : ∀ (t : State) (x : Dev), e.Ending x → (∀ k, t.dev.nat k = x.nat k) → t.dev.wd n = e.wd n → P t) :
    Completes (.wdgSvc dt n v false) s P := by
  have hx : exec (.wdgSvc dt n v false) s =
      s.act dt fun c d => d.coreWrite c false (0x40 * n + 8) (v % 2 ^ 32) :=
    State.actOn_act (decide_eq_true hn)
  refine completes_of_ending hx ((Dev.coreWrite_wdgSvc (d := s.entry) _ _ hon hn).trans (hv ▸ he)) hw fun t x hend _ ht => ?_
  refine hP t x hend (fun k => Dev.nat_of_get (Dev.get_of_obj (by rw [ht]) k)) ?_
  exact e.wd_of_eq n (by rw [ht]; exact hend.wds.1) (by rw [ht]; exact hend.wds.2)

/-- The first key is held. -/
theorem wdgSvc_first (hq : Quiet s) (hon : s.dev.coreOn = true) (hn : n < 2) (hrun : (s.dev.wd n).run = true)
    (hkey : (s.dev.wd n).key1 = false) (hv : v % 2 ^ 32 = 0x3C5A) (hlim : (s.dev.wd n).count (s.ctx dt).t ≤ (s.dev.wd n).limit) :
    Completes (.wdgSvc dt n v false) s fun t => (t.dev.wd n).key1 = true := by
  refine wdgSvc_completes (e := s.entry.modWd n fun w => { w with key1 := true }) hon hn hv ?_ ?_ fun t _ _ _ hwd => ?_
  · have hw : s.entry.wd n = s.dev.wd n := rfl
    simp [Dev.wdKey, hw, hrun, hkey, Nat.not_lt.mpr hlim]
  · rw [Dev.modWd_rst]
    exact hq.1
  · rw [hwd, Dev.wd_modWd]

/-- The second key within the window is a service. -/
theorem wdgSvc_second {P : State → Prop} (hq : Quiet s) (hon : s.dev.coreOn = true) (hn : n < 2)
    (hrun : (s.dev.wd n).run = true) (hkey : (s.dev.wd n).key1 = true) (hv : v % 2 ^ 32 = 0xC3A5)
    (hopen : (s.dev.wd n).set.opens ≤ (s.dev.wd n).count (s.ctx dt).t)
    (hlim : (s.dev.wd n).count (s.ctx dt).t ≤ (s.dev.wd n).limit)
    (hP : ∀ (t : State) (x : WSet) (h : Bool), ((s.dev.wdSet n).ok n = true → x = s.dev.wdSet n) →
      t.dev.wd n = { s.dev.wd n with
        t0 := (s.ctx dt).t, last := (s.ctx dt).t, lastEpoch := s.dev.epoch, warned := false, key1 := false, grace := false
        frozen := (s.dev.wd n).frozen.map fun _ => 0, set := x, held := h } →
      t.dev.nat (wdK n 9) = (s.dev.nat (wdK n 9) + 1) % 2 ^ 32 → P t) :
    Completes (.wdgSvc dt n v false) s P := by
  obtain ⟨x, h, hwd, hset, hnat, hr⟩ := s.entry.wdServed_spec (s.ctx dt) n hn
  refine wdgSvc_completes (e := ((s.entry.wdZero (s.ctx dt) n).inc (wdK n 9)).wdJudge (s.ctx dt) n) hon hn hv ?_ ?_
    fun t y hend htnat htwd => ?_
  · have hw : s.entry.wd n = s.dev.wd n := rfl
    simp [Dev.wdKey, hw, hrun, hkey, Nat.not_lt.mpr hlim, Nat.not_lt.mpr hopen]
  · rw [hr]
    exact hq.1
  · refine hP t x h hset (htwd.trans hwd) ?_
    refine (htnat _).trans ((Dev.nat_of_get (hend.get _ ?_)).trans hnat)
    rw [show partOfKey (wdK n 9) = some .watchdogs from partOfKey_key 0x91 n 9 (by omega) (by decide) (by decide) (by decide)
      (by decide) (by decide)]
    exact Option.some_ne_none _

/-- A key before the window opens is an expiry. -/
theorem wdgSvc_early (hq : Quiet s) (hon : s.dev.coreOn = true) (hn : n < 2) (hrun : (s.dev.wd n).run = true)
    (hkey : (s.dev.wd n).key1 = true) (hv : v % 2 ^ 32 = 0xC3A5)
    (hearly : (s.dev.wd n).count (s.ctx dt).t < (s.dev.wd n).set.opens) :
    Completes (.wdgSvc dt n v false) s fun t => t.dev.nat (wdK n 0x0B) = (s.dev.nat (wdK n 0x0B) + 1) % 2 ^ 32 := by
  have hbad : ∃ r p q, s.entry.wdKey (s.ctx dt) n (v % 2 ^ 32) = s.entry.wdExpire (s.ctx dt) n r p q := by
    have hw : s.entry.wd n = s.dev.wd n := rfl
    rw [hv]
    unfold Dev.wdKey
    simp only [hw, hrun, hkey, hearly, Bool.not_true, Bool.false_eq_true, if_false, ne_eq, not_true_eq_false, if_true]
    split
    · exact ⟨_, _, _, rfl⟩
    · exact ⟨_, _, _, rfl⟩
  obtain ⟨r, p, q, he⟩ := hbad
  have hst : s.entry.pwr.st ≠ .standby := fun h => by
    have : s.dev.pwr.st = .standby := h
    simp [Dev.coreOn, this] at hon
  obtain ⟨hnat, hwant⟩ := s.entry.wdExpire_counts (s.ctx dt) n hn hst r p q
  have hx : exec (.wdgSvc dt n v false) s =
      s.act dt fun c d => d.coreWrite c false (0x40 * n + 8) (v % 2 ^ 32) :=
    State.actOn_act (decide_eq_true hn)
  obtain ⟨t, ht⟩ : ∃ t, s.act dt (fun c d => d.coreWrite c false (0x40 * n + 8) (v % 2 ^ 32)) = .next t := ⟨_, rfl⟩
  refine ⟨t, hx.trans ht, ?_⟩
  have hdev := State.act_dev ht
  rw [(Dev.coreWrite_wdgSvc (d := s.entry) (s.ctx dt) (v % 2 ^ 32) hon hn).trans he] at hdev
  have hget : t.dev.get (wdK n 0x0B) = (s.entry.wdExpire (s.ctx dt) n r p q).get (wdK n 0x0B) := by
    have hobj : t.dev.obj = ((s.entry.wdExpire (s.ctx dt) n r p q).settle (s.ctx dt)).obj := by rw [hdev]
    refine (Dev.get_of_obj hobj _).trans (Dev.settle_offSettle ?_ (.inr ⟨?_, ?_, ?_, fun w hw => ?_⟩))
    · obtain rfl | rfl : n = 0 ∨ n = 1 := by omega
      · decide
      · decide
    · obtain rfl | rfl : n = 0 ∨ n = 1 := by omega
      · decide
      · decide
    · rw [show wdK n 0x0B / 256 = 0x9100 + n from key_div _ _ _ (by decide)]
      omega
    · rw [show wdK n 0x0B / 256 = 0x9100 + n from key_div _ _ _ (by decide)]
      omega
    · obtain h | h := hwant w hw
      · exact absurd (hq.1 ▸ h : w ∈ []) List.not_mem_nil
      · omega
  exact (Dev.nat_of_get hget).trans hnat

end

/-- Settles O20: each key is judged where it is written; what ends the command keeps the watchdog, and an expiry's reset
keeps the count of expiries. -/
theorem watchdogService : Obligations.Watchdog_service := by
  unfold Obligations.Watchdog_service
  refine ⟨fun s dt n v hq hon hn hrun hkey hv hlim => wdgSvc_first hq hon hn hrun hkey hv hlim,
    fun s dt n v hq hon hn hrun hkey hv hopen hlim => ?_,
    fun s dt n v hq hon hn hrun hkey hv hopen hok hlim => ?_,
    fun s dt n v hq hon hn hrun hkey hv hearly => wdgSvc_early hq hon hn hrun hkey hv hearly⟩
  · refine wdgSvc_second hq hon hn hrun hkey hv hopen hlim fun t x h _ hwd hnat => ?_
    rw [hwd]
    exact ⟨rfl, rfl, hnat⟩
  · refine wdgSvc_second hq hon hn hrun hkey hv hopen hlim fun t x h hset hwd _ => ?_
    rw [hwd]
    refine ⟨rfl, ?_, hset hok⟩
    cases hf : (s.dev.wd n).frozen <;> simp [Wdg.count, hrun]

end Sys2Proof.Machine


/-!
SUPPORT. Accesses of the bus matrix to the memories of the core (R690, R691, R722): the settling of O44.
-/
namespace Sys2Proof.Machine

/-! ## What leaves the memories alone -/

/-- The memories of the core, frame memory and the reset state stand. -/
structure Dev.SameMem (d x : Dev) : Prop where
  mem : x.core.mem = d.core.mem
  fmem : x.core.fmem = d.core.fmem
  rst : x.rst = d.rst

namespace Dev.SameMem

variable {d x y : Dev}

theorem refl (d : Dev) : d.SameMem d := ⟨rfl, rfl, rfl⟩

theorem trans (h : d.SameMem x) (g : x.SameMem y) : d.SameMem y :=
  ⟨g.mem.trans h.mem, g.fmem.trans h.fmem, g.rst.trans h.rst⟩

theorem inc (h : d.SameMem x) (k : Nat) : d.SameMem (x.inc k) :=
  h.trans ⟨by rw [Dev.inc_core], by rw [Dev.inc_core], Dev.inc_rst ..⟩

end Dev.SameMem

section

variable {d x : Dev} {c : Ctx}

theorem Dev.offer_sameMem (d : Dev) (r : BusReq) : d.SameMem (d.offer r) := by
  unfold Dev.offer
  exact ite_pred d.SameMem ⟨rfl, rfl, rfl⟩ ⟨rfl, rfl, rfl⟩

theorem Dev.release2_sameMem (d : Dev) : d.SameMem d.release2 := by
  unfold Dev.release2
  exact foldl_pred d.SameMem _ (fun x r hx => hx.trans (x.offer_sameMem r)) _ ⟨rfl, rfl, rfl⟩

theorem Dev.cacheLine_sameMem (d : Dev) (c : Ctx) (ln : Nat) (b : List Byte) : d.SameMem (d.cacheLine c ln b) := ⟨rfl, rfl, rfl⟩

theorem Dev.bufferFetch_sameMem (d : Dev) (a : Nat) (b : List Byte) : d.SameMem (d.bufferFetch a b) := ⟨rfl, rfl, rfl⟩

theorem Dev.emit_sameMem (d : Dev) (o : Out) : d.SameMem (d.emit o) := ⟨rfl, rfl, rfl⟩

/-! ## A target's answer -/

/-- The device with bytes stored in the memories of the core. -/
def Dev.stored2 (d : Dev) (a : Nat) (b : List Byte) : Dev :=
  { d with core := { d.core with mem := memWrite d.core.mem (memAddr a) b } }

/-- A write to a memory of the core stores its bytes at its address. -/
theorem Dev.complete_write (d : Dev) (c : Ctx) {r : BusReq} {b : List Byte} (ext : List Byte) (mem : Nat) (vacant : Bool)
    (h : busRoute r = .mem) (hw : r.wdata = some b) :
    d.complete c r ext mem vacant = (d.stored2 r.addr (b.take r.len), some []) := by
  simp only [Dev.complete, h, hw]
  rfl

/-- The bytes of the memories of the core after a store. -/
theorem Dev.memGet_stored2 (d : Dev) (r : Nat) (b : List Byte) (n a : Nat) :
    memGet (d.stored2 r (b.take n)).core.mem a =
      if memAddr r ≤ a ∧ a < memAddr r + (b.take n).length then (b[a - memAddr r]?).getD 0#8 else memGet d.core.mem a := by
  refine (memGet_memWrite (b.take n) d.core.mem (memAddr r) a).trans (if_ctx_congr Iff.rfl (fun ha => ?_) fun _ => rfl)
  rw [List.length_take] at ha
  rw [List.getElem?_take_of_lt (by omega)]

/-- A read of a memory of the core that meets no uncorrectable word leaves the memories. -/
theorem Dev.complete_read (d : Dev) (c : Ctx) {r : BusReq} (ext : List Byte) {mem : Nat} (vacant : Bool)
    (h : busRoute r = .mem) (hw : r.wdata = none) (hm : mem ≠ 2) :
    ∃ x, d.SameMem x ∧ d.complete c r ext mem vacant = (x, some (memRead d.core.mem (memAddr r.addr) r.len)) := by
  refine ⟨if mem = 1 then d.transient else if mem = 3 then d.inc 0xA000_0E else d,
    ite_pred d.SameMem ((Dev.SameMem.refl d).inc _) (ite_pred d.SameMem ((Dev.SameMem.refl d).inc _) (.refl d)), ?_⟩
  simp only [Dev.complete, h, hw, hm, decide_false, Bool.false_eq_true, if_false]

/-- What a response does once its target has completed the request: the request leaves the matrix, its bytes go to the
master, a fetch to the cache and the fetch buffer, and what was held back is offered again. -/
def Dev.busClose (p : Dev × Option (List Byte)) (c : Ctx) (master id : Nat) (r : BusReq) : Dev :=
  let k := p.1.core
  let turns := (tgtNo r, master) :: k.turns.filter fun q => q.1 ≠ tgtNo r
  let d := { p.1 with core := { k with issued := k.issued.erase r, turns := turns } }
  let d := if r.refetch && p.2.isSome then d.transient else d
  let d := d.emit (.bus master id p.2.isNone (p.2.getD []))
  let d := match p.2, r.fetch with
    | some b, true =>
      let d := match busRoute r with
        | .xip _ => if r.addr % 64 = 0 && r.len = 64 then d.cacheLine c (r.addr / 64) b else d
        | _ => d
      d.bufferFetch r.addr b
    | _, _ => d
  d.release2

/-- The effect of BUS_RESPONSE. -/
def Dev.respond (d : Dev) (c : Ctx) (master id : Nat) (ext : List Byte) (mem : Nat) (vacant : Bool) : Dev :=
  match d.answers master id with
  | none => d
  | some r => Dev.busClose (d.complete c r ext mem vacant) c master id r

theorem exec_busResponse (dt master id : Nat) (ext : List Byte) (mem : Nat) (vacant : Bool) (s : State) :
    exec (.busResponse dt master id ext mem vacant) s = s.act dt fun c d => d.respond c master id ext mem vacant := rfl

theorem Dev.busClose_sameMem (p : Dev × Option (List Byte)) (c : Ctx) (master id : Nat) (r : BusReq) :
    p.1.SameMem (Dev.busClose p c master id r) := by
  unfold Dev.busClose
  extract_lets k turns _ d1 d2 d3 d4
  have h1 : p.1.SameMem d1 := ⟨rfl, rfl, rfl⟩
  have h2 : p.1.SameMem d2 := ite_pred p.1.SameMem (h1.inc _) h1
  have h3 : p.1.SameMem d3 := h2.trans (Dev.emit_sameMem ..)
  have h4 : p.1.SameMem d4 := by
    dsimp only [d4]
    clear_value d3
    split
    · refine Dev.SameMem.trans ?_ (Dev.bufferFetch_sameMem ..)
      split
      · exact ite_pred p.1.SameMem (h3.trans (Dev.cacheLine_sameMem ..)) h3
      · exact h3
    · exact h3
  exact h4.trans (Dev.release2_sameMem _)

end

/-! ## The commands -/

section

variable {s : State} {dt : Nat} {P : State → Prop}

/-- A command whose effect leaves the memories of `x`, and asks for no reset. -/
theorem completes_of_sameMem {i : Instr} {f : Ctx → Dev → Dev} {x : Dev} (hq : Quiet s) (hx : exec i s = s.act dt f)
    (hr : x.rst = s.dev.rst) (hf : x.SameMem (f (s.ctx dt) s.entry))
    (hP : ∀ t : State, t.dev.core.mem = x.core.mem → t.dev.core.fmem = x.core.fmem → P t) : Completes i s P := by
  refine completes_of_ending hx rfl ?_ fun t y hend _ ht => ?_
  · rw [hf.rst, hr]
    exact hq.1
  · have hm := congrArg Core.mem hend.still
    have hfm := congrArg Core.fmem hend.still
    have hc : t.dev.core = y.core := by rw [ht]
    exact hP t (by rw [hc]; exact hm.trans hf.mem) (by rw [hc]; exact hfm.trans hf.fmem)

/-- A response answered with bytes leaves the memories as its target's access made them. -/
theorem busResponse_sameMem {master id mem : Nat} {ext got : List Byte} {vacant : Bool} {r : BusReq} {x : Dev} (hq : Quiet s)
    (ha : s.dev.answers master id = some r) (hc : s.entry.complete (s.ctx dt) r ext mem vacant = (x, some got))
    (hr : x.rst = s.dev.rst)
    (hP : ∀ t : State, t.dev.core.mem = x.core.mem → t.dev.core.fmem = x.core.fmem → P t) :
    Completes (.busResponse dt master id ext mem vacant) s P := by
  refine completes_of_sameMem hq (exec_busResponse ..) hr ?_ hP
  have he : s.entry.respond (s.ctx dt) master id ext mem vacant = Dev.busClose (x, some got) (s.ctx dt) master id r := by
    have ha' : s.entry.answers master id = some r := ha
    simp only [Dev.respond, ha', hc]
  rw [he]
  exact Dev.busClose_sameMem (x, some got) (s.ctx dt) master id r

/-- An answered system bus access leaves the memories as its target's access made them. -/
theorem systemBusAccess_sameMem {write : Bool} {size addr data mem : Nat} {ext got : List Byte} {vacant : Bool} {x : Dev}
    (hq : Quiet s) (hon : s.dev.debugOn = true) (hs : size = 1 ∨ size = 2 ∨ size = 4) (hal : addr % size = 0)
    (hc : s.entry.complete (s.ctx dt) ⟨3, 0, addr % 2 ^ 32, size, if write then some (le size data) else none, false, false,
      s.dev.core.remap, s.dev.core.apw, false⟩ ext mem vacant = (x, some got))
    (hr : x.rst = s.dev.rst)
    (hP : ∀ t : State, t.dev.core.mem = x.core.mem → t.dev.core.fmem = x.core.fmem → P t) :
    Completes (.systemBusAccess dt write size addr data ext mem vacant) s P := by
  refine completes_of_sameMem hq (show _ = execSystemBusAccess dt write size addr data ext mem vacant s from rfl) hr ?_ hP
  have hsize : (!(decide (size = 1) || decide (size = 2) || decide (size = 4))) = false := by
    obtain rfl | rfl | rfl := hs <;> rfl
  have hacc : s.entry.sbAccess (s.ctx dt) write size addr data ext mem vacant =
      (if write then x else x.modDbg fun g => { g with sbdata := unle got }).emit (.bus 3 0 false got) := by
    simp only [Dev.sbAccess, hsize, hal, Bool.false_eq_true, if_false, ne_eq, not_true_eq_false]
    rw [show s.entry.core = s.dev.core from rfl, hc]
  show x.SameMem (if s.dev.debugOn then s.entry.sbAccess (s.ctx dt) write size addr data ext mem vacant else s.entry)
  rw [if_pos hon, hacc]
  exact Dev.SameMem.trans (x := if write then x else x.modDbg fun g => { g with sbdata := unle got })
    (ite_pred x.SameMem (.refl x) ⟨rfl, rfl, rfl⟩) (Dev.emit_sameMem ..)

/-- The core's own access to a TCM leaves the memories as the access made them. -/
theorem busRequest_sameMem {id addr len mem : Nat} {w : Option (List Byte)} {user parity : Bool} {got : List Byte} {x : Dev}
    (hq : Quiet s) (hon : s.dev.coreOn = true) (hid : id < 4) (hlen : len ≠ 0)
    (ht : tgtNo ⟨1, id, addr % 2 ^ 32, len, w, false, user, s.dev.core.remap, [], false⟩ = 1 ∨
      tgtNo ⟨1, id, addr % 2 ^ 32, len, w, false, user, s.dev.core.remap, [], false⟩ = 2)
    (hc : s.entry.complete (s.ctx dt) ⟨1, id, addr % 2 ^ 32, len, w, false, user, s.dev.core.remap, [], false⟩ [] mem true =
      (x, some got))
    (hr : x.rst = s.dev.rst)
    (hP : ∀ t : State, t.dev.core.mem = x.core.mem → t.dev.core.fmem = x.core.fmem → P t) :
    Completes (.busRequest dt 1 id addr len w user false parity mem) s P := by
  refine completes_of_sameMem hq (show _ = execBusRequest dt 1 id addr len w user false parity mem s from rfl) hr ?_ hP
  have hon' : s.entry.coreOn = true := hon
  have hids : idsOf 1 = 4 := rfl
  have hrun : (!s.entry.coreOn || decide (4 ≤ 1) || decide (idsOf 1 ≤ id) || decide (len = 0)) = false := by
    simp [hon', hids, hid, hlen]
  have hremap : s.entry.core.remap = s.dev.core.remap := rfl
  generalize s.dev.core.remap = m at ht hc hremap
  have htcm : (decide (1 ≤ 1) && (decide (tgtNo ⟨1, id, addr % 2 ^ 32, len, w, false, user, m, [], false⟩ = 1) ||
      decide (tgtNo ⟨1, id, addr % 2 ^ 32, len, w, false, user, m, [], false⟩ = 2))) = true := by
    simpa using ht
  simp only [hrun, hremap, Nat.one_ne_zero, decide_false, Bool.and_false, Bool.false_and, Bool.false_eq_true, if_false, le_refl,
    decide_true, Bool.and_true, ne_eq, not_false_eq_true, if_true] at htcm ⊢
  rw [hc]
  simp only [htcm, if_true]
  exact Dev.emit_sameMem ..

end

/-- Settles O44: the target's access stores its bytes or reads them; nothing else of the command, nor its end, touches the
memories. -/
theorem busAccessesStoreTheirOwnBytes : Obligations.Bus_accesses_store_their_own_bytes := by
  unfold Obligations.Bus_accesses_store_their_own_bytes
  refine ⟨fun s dt master id mem ext b vacant r hq hr hw ha => ?_,
    fun s dt size addr data mem ext vacant hq hon hs hal hr => ?_,
    fun s dt master id mem ext vacant r hq hr hw ha hm => ?_,
    fun s dt size addr data mem ext vacant hq hon hs hal hr hm => ?_,
    fun s dt id addr len mem b user parity hq hon hid hlen hr ht => ?_,
    fun s dt id addr len mem user parity hq hon hid hlen hr ht hm => ?_⟩
  · refine busResponse_sameMem hq ha (s.entry.complete_write _ ext mem vacant hr hw) rfl fun t hmem _ a => ?_
    rw [hmem, Dev.memGet_stored2]
    rfl
  · refine systemBusAccess_sameMem (write := true) hq hon hs hal (s.entry.complete_write _ ext mem vacant hr rfl) rfl
      fun t hmem _ a => ?_
    rw [hmem, Dev.memGet_stored2, List.take_of_length_le (by simp), le_length]
    rfl
  · obtain ⟨x, hx, he⟩ := s.entry.complete_read (s.ctx dt) ext vacant hr hw hm
    exact busResponse_sameMem hq ha he hx.rst fun t h h' => ⟨h.trans hx.mem, h'.trans hx.fmem⟩
  · obtain ⟨x, hx, he⟩ := s.entry.complete_read (s.ctx dt) ext vacant hr rfl hm
    exact systemBusAccess_sameMem (write := false) hq hon hs hal he hx.rst fun t h h' => ⟨h.trans hx.mem, h'.trans hx.fmem⟩
  · refine busRequest_sameMem hq hon hid hlen ht (s.entry.complete_write _ [] mem true hr rfl) rfl fun t hmem _ a => ?_
    rw [hmem, Dev.memGet_stored2]
    rfl
  · obtain ⟨x, hx, he⟩ := s.entry.complete_read (s.ctx dt) [] true hr rfl hm
    exact busRequest_sameMem hq hon hid hlen ht he hx.rst fun t h h' => ⟨h.trans hx.mem, h'.trans hx.fmem⟩

end Sys2Proof.Machine


/-!
SUPPORT. What a control reset, a debug halt and DOZE leave of the safety state, the monitor and the collector (R871): the
settling of O47.
-/
namespace Sys2Proof.Machine

/-! ## The safety state, the monitor and the collector -/

/-- The collector, the windows and formes of the monitor, and the objects of the safety state stand; no wider reset than a
control reset is asked for. -/
structure Dev.HoldsSafety (d x : Dev) : Prop where
  saf : x.saf = d.saf
  wins : x.wins = d.wins
  formes : x.formes = d.formes
  get : ∀ k, k / 256 = 0x9000 ∨ k / 256 = 0x9300 → x.get k = d.get k
  control : d.OnlyControl → x.OnlyControl

/-- The part of an object is that of its index, but for the states of the audio clock and of the TDM ports. -/
theorem partOfKey_of_index {k h : Nat} (hk : k / 256 = h) (h63 : h ≠ 0x6300) (h62 : h / 256 ≠ 0x62) : partOfKey k = partOf h := by
  have hne : k ≠ 0x6300_06 := fun e => h63 (hk.symm.trans (congrArg (· / 256) e))
  have hpage : k / 65536 ≠ 0x62 := fun e => h62 (by rw [← hk, Nat.div_div_eq_div_mul]; exact e)
  unfold partOfKey
  rw [if_neg (by simp [hne, hpage]), hk]

namespace Dev.HoldsSafety

variable {d x y : Dev} {l : List Part}

theorem refl (d : Dev) : d.HoldsSafety d := ⟨rfl, rfl, rfl, fun _ _ => rfl, id⟩

theorem trans (h : d.HoldsSafety x) (g : x.HoldsSafety y) : d.HoldsSafety y :=
  ⟨g.saf.trans h.saf, g.wins.trans h.wins, g.formes.trans h.formes, fun k hk => (g.get k hk).trans (h.get k hk),
    fun hd => g.control (h.control hd)⟩

theorem of_leaves (h : d.Leaves l x) (hc : .collector ∉ l := by decide) (hf : .formes ∉ l := by decide) : d.HoldsSafety x := by
  obtain ⟨hsaf, hobj⟩ := h.keeps .collector hc
  obtain ⟨⟨hformes, hwins⟩, -⟩ := h.keeps .formes hf
  refine ⟨hsaf.symm, hwins.symm, hformes.symm, fun k hk => hobj k ?_, fun hd w hw => hd w (h.rst ▸ hw)⟩
  obtain h | h := hk
  · exact partOfKey_of_index h (by decide) (by decide)
  · exact partOfKey_of_index h (by decide) (by decide)

theorem safety (h : d.HoldsSafety x) : x.safety = d.safety := nat_of_get (h.get _ (.inl rfl))

end Dev.HoldsSafety

/-! ## The end of a command -/

/-- A control reset leaves the collector, the windows and the formes. -/
theorem Dev.controlReset_monitor (d : Dev) :
    d.controlReset.saf = d.saf ∧ d.controlReset.wins = d.wins ∧ d.controlReset.formes = d.formes := by
  unfold Dev.controlReset
  extract_lets q armed d1 d2 _ d3 d4 _ d5 slots _ d6 d7
  have h1 : d1.saf = d.saf ∧ d1.wins = d.wins ∧ d1.formes = d.formes :=
    ite_pred (fun x : Dev => x.saf = d.saf ∧ x.wins = d.wins ∧ x.formes = d.formes) ⟨rfl, rfl, rfl⟩ (by simp)
  have h4 : d4.saf = d.saf ∧ d4.wins = d.wins ∧ d4.formes = d.formes := by
    simpa [d4, d3, d2, Dev.addTo] using h1
  clear_value d4
  exact h4

/-- A control reset that is taken leaves the collector, the windows and the formes. -/
theorem Dev.takeReset_monitor (d : Dev) (c : Ctx) (h : d.OnlyControl) :
    (d.takeReset c).saf = d.saf ∧ (d.takeReset c).wins = d.wins ∧ (d.takeReset c).formes = d.formes := by
  let P (x : Dev) : Prop := x.saf = d.saf ∧ x.wins = d.wins ∧ x.formes = d.formes
  have hrefl : P d := ⟨rfl, rfl, rfl⟩
  unfold Dev.takeReset
  split
  · exact hrefl
  next w ws hw =>
  extract_lets cause early stuck _ _ d1 d2 d3
  have hcause : 9 ≤ cause := le_foldl_min (hw ▸ h)
  have h2 : P d2 := hrefl
  have h3 : P d3 := by
    obtain ⟨_, _, e⟩ := d2.logFlush_eta
    exact ite_pred P (by rw [e]; exact h2) h2
  have h4 : ∀ held, P (d3.recordReset c cause held).controlReset := fun held => by
    obtain ⟨h5, h6, h7⟩ := (d3.recordReset c cause held).controlReset_monitor
    obtain ⟨_, _, e⟩ := d3.recordReset_eta c cause held
    rw [e] at h5 h6 h7 ⊢
    exact ⟨h5.trans h3.1, h6.trans h3.2.1, h7.trans h3.2.2⟩
  rw [if_pos hcause]
  exact ite_pred P h2 (h4 _)

/-- What ends a command leaves the safety state where no wider reset than a control reset is asked for. -/
theorem Dev.settle_holdsSafety (d : Dev) (c : Ctx) (h : d.OnlyControl) (he : d.saf.entered = false) :
    (d.settle c).saf = d.saf ∧ (d.settle c).wins = d.wins ∧ (d.settle c).formes = d.formes ∧
      ∀ k, k / 256 = 0x9000 ∨ k / 256 = 0x9300 → (d.settle c).get k = d.get k := by
  let P (x : Dev) : Prop := x.saf = d.saf ∧ x.wins = d.wins ∧ x.formes = d.formes
  have hget : ∀ k, k / 256 = 0x9000 ∨ k / 256 = 0x9300 → (d.settle c).get k = d.get k := fun k hk =>
    Dev.settle_offSettle (by obtain h | h := hk <;> simp [offSettle, h]) (.inl h)
  suffices hP : P (d.settle c) from ⟨hP.1, hP.2.1, hP.2.2, hget⟩
  unfold Dev.settle
  extract_lets n0 f0 d1 d2 d3 d4
  have h1 : d1 = d := if_neg (by simp [he])
  have h2 : P d2 ∧ d2.rst = d.rst := by
    obtain ⟨_, _, es⟩ := d1.settleSeats_eta
    obtain ⟨_, _, _, ea⟩ := d1.settleSeats.settleAudio_eta c
    have hr := ((d1.settleSeats_itpRst.trans (d1.settleSeats.settleAudio_itpRst c)).2).trans (congrArg Dev.rst h1)
    dsimp only [d2] at hr ⊢
    rw [ea, es, h1] at hr ⊢
    exact ⟨⟨rfl, rfl, rfl⟩, hr⟩
  obtain ⟨⟨hsaf, hwins, hformes⟩, hr⟩ := h2
  have h3 : P d3 := by
    obtain ⟨tsaf, twins, tformes⟩ := d2.takeReset_monitor c (fun w hw => h w (hr ▸ hw))
    obtain ⟨_, _, e⟩ := (d2.takeReset c).dispatch_eta c
    dsimp only [d3]
    rw [e]
    exact ⟨tsaf.trans hsaf, twins.trans hwins, tformes.trans hformes⟩
  have h4 : P d4 := by
    obtain ⟨_, _, _, _, e⟩ := d3.sendEvents_eta
    exact ite_pred P (by rw [e]; exact h3) h3
  clear_value d4
  exact h4

/-- SAFE_N follows from the collector and the safety state (R846). -/
theorem Dev.settlePins_safeN {d x : Dev} (h : x.saf = d.saf) (hs : x.safety = d.safety) :
    x.settlePins.pins.safeN = d.settlePins.pins.safeN := by
  show (!(x.saf.latchA || x.saf.latchB || x.saf.cmonLow || decide (x.safety ≠ 1))) = _
  rw [h, hs]
  rfl

/-! ## Commands that hold the safety state -/

section

variable {s : State} {dt : Nat}

/-- A command whose effect holds the safety state completes and holds it, SAFE_N included. -/
theorem completes_holdingSafety {i : Instr} {f : Ctx → Dev → Dev} (hx : exec i s = s.act dt f) (hq : Quiet s)
    (hp : s.dev.pins = s.dev.settlePins.pins) (he : s.dev.saf.entered = false)
    (hf : s.entry.HoldsSafety (f (s.ctx dt) s.entry)) :
    Completes i s fun t => t.dev.saf = s.dev.saf ∧ t.dev.safety = s.dev.safety ∧ t.dev.pins.safeN = s.dev.pins.safeN ∧
      t.dev.wins = s.dev.wins ∧ t.dev.formes = s.dev.formes ∧ t.dev.raw 0x9300_01 = s.dev.raw 0x9300_01 ∧
      t.dev.nat 0x9000_06 = s.dev.nat 0x9000_06 := by
  have hctl : s.entry.OnlyControl := fun w hw => by
    rw [show s.entry.rst.want = [] from hq.1] at hw
    exact nomatch hw
  obtain ⟨t, ht⟩ : ∃ t, s.act dt f = .next t := ⟨_, rfl⟩
  refine ⟨t, hx.trans ht, ?_⟩
  obtain ⟨gsaf, gwins, gformes, gget⟩ := Dev.settle_holdsSafety _ (s.ctx dt) (hf.control hctl) (by rw [hf.saf]; exact he)
  have hobj : t.dev.obj = ((f (s.ctx dt) s.entry).settle (s.ctx dt)).obj := by rw [State.act_dev ht]
  have hget : ∀ k, k / 256 = 0x9000 ∨ k / 256 = 0x9300 → t.dev.get k = s.dev.get k := fun k hk =>
    (Dev.get_of_obj hobj k).trans ((gget k hk).trans (hf.get k hk))
  have hsaf : t.dev.saf = s.dev.saf := Eq.trans (by rw [State.act_dev ht]) (gsaf.trans hf.saf)
  have hsafety : t.dev.safety = s.dev.safety := Dev.nat_of_get (hget _ (.inl rfl))
  refine ⟨hsaf, hsafety, ?_, Eq.trans (by rw [State.act_dev ht]) (gwins.trans hf.wins),
    Eq.trans (by rw [State.act_dev ht]) (gformes.trans hf.formes), congrArg Val.raw (hget _ (.inr rfl)),
    Dev.nat_of_get (hget _ (.inl rfl))⟩
  rw [(State.act_settled ht).pins, hp]
  exact Dev.settlePins_safeN hsaf hsafety

theorem Dev.softReset_holdsSafety (d : Dev) (v : Val) : d.HoldsSafety (d.softReset v) :=
  ⟨rfl, rfl, rfl, fun _ _ => rfl, fun h => List.forall_mem_cons.mpr ⟨by decide, h⟩⟩

/-- An accepted control reset holds the safety state until it is taken. -/
theorem controlReset_holdsSafety {o : Org} {v : Int} (hq : Quiet s) (ha : Accepts s dt o 0x1041_01 v) :
    s.entry.HoldsSafety (s.entry.request (s.ctx dt) o 0x1041_01 (.num v) Obs.quiet) := by
  have hfound := Accepts.found ha (lookup_softReset _)
  have hobj : (s.found dt o 0x1041_01 v).writeObj (s.ctx dt) 0x1041 0 0x01 (.num v) Obs.quiet =
      (s.found dt o 0x1041_01 v).softReset (.num v) := rfl
  have haside : ((s.found dt o 0x1041_01 v).softReset (.num v)).rst.aside = [] := by
    show (s.found dt o 0x1041_01 v).rst.aside = []
    rw [hfound.rst]
    exact hq.2.1
  rw [Dev.request_accepted hq lookup_softReset (by decide) ha rfl, Dev.applyWrite_direct (by decide) (by rw [hobj, haside]),
    hobj]
  have hleaves : s.entry.Leaves [.links, .power] (s.found dt o 0x1041_01 v) :=
    ⟨Accepts.found_keeps ha (lookup_softReset _), hfound.rst⟩
  exact (Dev.HoldsSafety.of_leaves hleaves).trans (Dev.softReset_holdsSafety _ _)

/-! ## The debug halt -/

namespace Dev.Leaves

variable {d x y : Dev} {l : List Part}

theorem trace (h : d.Leaves l x) (ht : x.TraceOf y) : d.Leaves l y := by
  refine h.trans ⟨ht.keeps, ?_⟩
  obtain ⟨_, rfl⟩ := ht
  rfl

theorem core (h : d.Leaves l x) (k : Core) (hm : k.mem = x.core.mem) (hf : k.fmem = x.core.fmem) :
    d.Leaves l { x with core := k } :=
  h.trans ⟨.core x k x.trace hm hf, rfl⟩

theorem modWd (h : d.Leaves l x) (n : Nat) (f : Wdg → Wdg) (hl : .watchdogs ∈ l) :
    d.Leaves l (x.modWd n f) := by
  obtain ⟨_, _, e⟩ := x.modWd_eta n f
  rw [e]
  refine h.trans ⟨.of_fields rfl fun p hp => ?_, rfl⟩
  have hsame := SameFields.refl p x
  cases p with
  | watchdogs => exact absurd hl hp
  | _ => exact hsame

end Dev.Leaves

section

variable (d : Dev) (c : Ctx)

theorem Dev.wdFreeze_leaves : d.Leaves [.watchdogs] (d.wdFreeze c) := by
  have h0 := Dev.Leaves.refl [.watchdogs] d
  unfold Dev.wdFreeze
  exact Dev.Leaves.modWd (ite_pred (d.Leaves _) h0 (h0.modWd 0 _ (by decide))) 1 _ (by decide)

/-- A halt writes the hart, the debug module, the trace and the watchdogs. -/
theorem Dev.halt_leaves (cause pc priv : Nat) (x : List Nat) : d.Leaves [.watchdogs] (d.halt c cause pc priv x) := by
  unfold Dev.halt
  extract_lets d1 _ d2 d3 d4
  have h1 : d.Leaves [.watchdogs] d1 := (Dev.Leaves.refl _ d).trace (d.trc_eta _)
  have h2 : d.Leaves [.watchdogs] d2 := h1.trace ⟨_, rfl⟩
  have h3 : d.Leaves [.watchdogs] d3 := h2.trans (d2.wdFreeze_leaves c)
  exact h3.core _ (by rfl) (by rfl)

end

/-! ## DOZE (R791, R792) -/

theorem Dev.Keeps.title {l : List Part} (d : Dev) (x : Title) (h : .title ∈ l) : d.Keeps l { d with title := x } :=
  .of_fields rfl fun p hp => by
    have hsame := SameFields.refl p d
    cases p with
    | title => exact absurd h hp
    | _ => exact hsame

section

variable (d : Dev) (c : Ctx)

theorem Dev.title_leaves (x : Title) : d.Leaves [.title] { d with title := x } := ⟨.title d x (by decide), rfl⟩

theorem Dev.record_leaves (i step : Nat) : d.Leaves [.title] (d.record c i step) := by
  unfold Dev.record
  cases (d.tslot i).pb with
  | none => exact .refl _ d
  | some b => exact d.title_leaves _

theorem Dev.txn_leaves (i : Nat) (tmpl : List Byte) (addr : Nat) (w : List Byte) (n : Nat) :
    d.Leaves [.title] (d.txn i tmpl addr w n) := by
  unfold Dev.txn
  extract_lets t phases m
  have h1 : d.Leaves [.title] (d.emit (.title i m (d.nat (titleK 4)) phases)) :=
    ⟨.unparted d d.trace d.evc d.log _ d.pins, rfl⟩
  exact h1.trans (Dev.title_leaves _ _)

theorem Dev.startTxn_leaves (r : TReq) (again : Bool) (addr len : Nat) : d.Leaves [.title] (d.startTxn c r again addr len) := by
  unfold Dev.startTxn
  extract_lets _ d1 rd
  have h1 : d.Leaves [.title] d1 := d.title_leaves _
  cases r.kind with
  | line | ident | fill | header => exact h1.trans (Dev.txn_leaves ..)
  | writeEnable => exact (h1.trans (d1.record_leaves c r.slot 2)).trans (Dev.txn_leaves ..)
  | program =>
    cases (d1.tslot r.slot).pb with
    | none => exact h1
    | some b => exact (h1.trans (d1.record_leaves c r.slot 3)).trans (Dev.txn_leaves ..)
  | raw => exact (h1.trans ⟨.set_of_part d1 (titleK 0x18) _ rfl (by decide), Dev.setN_rst ..⟩).trans (Dev.txn_leaves ..)

theorem Dev.openFlush_leaves (i : Nat) : d.Leaves [.title] (d.openFlush i) := by
  unfold Dev.openFlush
  exact ite_pred (d.Leaves [.title]) (d.title_leaves _) (.refl _ d)

theorem Dev.titleNext_leaves : d.Leaves [.title] (d.titleNext c) := by
  unfold Dev.titleNext
  extract_lets d1
  have h1 : d.Leaves [.title] d1 := foldl_pred (d.Leaves [.title]) _
    (fun b i hb => ite_pred (d.Leaves [.title]) (hb.trans (b.openFlush_leaves i)) hb) _ (.refl _ d)
  refine ite_pred (d.Leaves [.title]) h1 ?_
  cases d1.chooseReq with
  | none => exact h1
  | some r => exact (h1.trans (d1.title_leaves _)).trans (Dev.startTxn_leaves ..)

theorem Dev.startFlush_leaves (i : Nat) : d.Leaves [.title] (d.startFlush c i) := by
  unfold Dev.startFlush
  exact ite_pred (d.Leaves [.title]) ((d.openFlush_leaves i).trans (Dev.titleNext_leaves _ c)) (.refl _ d)

theorem Dev.leaveDoze_leaves : d.Leaves [.power] (d.leaveDoze c) := by
  refine ⟨d.leaveDoze_keeps c (by decide), ?_⟩
  unfold Dev.leaveDoze
  refine ite_pred (fun x : Dev => x.rst = d.rst) ?_ rfl
  obtain ⟨_, e⟩ := Dev.trcWake_eta { (d.setN 0x8000_01 0) with pwr := { d.pwr with st := .run } } c 0
  rw [e]
  exact Dev.setN_rst ..

theorem Dev.trcSleep_eta (why : Nat) : d.TraceOf (d.trcSleep c why) := by
  obtain ⟨_, e⟩ := d.trc_eta ([byte (0x70 + why)] ++ d.stampBytes c)
  unfold Dev.trcSleep
  rw [e]
  exact ⟨_, rfl⟩

/-- The entry to DOZE, or the flushes it waits for. -/
theorem Dev.doze_leaves : d.Leaves [.title, .power]
    (if !d.mayDoze then d
    else if [0, 1].any fun i => (d.tslot i).pb.isSome then (d.startFlush c 0).startFlush c 1
    else (((d.setN 0x8000_01 1).inc 0x8000_0A).modPwr fun p => { p with st := .doze }).trcSleep c 0) := by
  refine ite_pred (d.Leaves _) (.refl _ d) (ite_pred (d.Leaves _) ?flushes ?dozes)
  case flushes => exact ((d.startFlush_leaves c 0).trans (Dev.startFlush_leaves _ c 1)).mono (by decide)
  case dozes =>
    have h1 : d.Leaves [.power] (d.setN 0x8000_01 1) := ⟨.set_of_part d _ _ rfl (by decide), Dev.setN_rst ..⟩
    have h2 := h1.trans ⟨.set_of_part _ 0x8000_0A _ rfl (by decide), Dev.inc_rst ..⟩
    have h3 := h2.trans (⟨.pwr _ _ (by decide), rfl⟩ : Dev.Leaves _ _ (Dev.modPwr _ fun p => { p with st := .doze }))
    exact (h3.trace (Dev.trcSleep_eta _ c 0)).mono (by decide)

end

end

/-- Settles O47: none of the effects touches the safety state, and where one asks for a reset it is a control reset. -/
theorem safetyOutlivesControlResetHaltAndDoze : Obligations.Safety_outlives_control_reset_halt_and_doze := by
  unfold Obligations.Safety_outlives_control_reset_halt_and_doze
  refine ⟨fun s dt o hq hp he ha => ?_, fun s dt pc priv x hq hp he => ?_, fun s dt hq hp he => ?_, fun s dt hq hp he => ?_,
    fun s dt v hq hh => ?_⟩
  · exact completes_holdingSafety (f := fun c d => d.request c o 0x1041_01 (.num 0x7C3A) Obs.quiet)
      (show _ = execControlReset dt o s from rfl) hq hp he (controlReset_holdsSafety hq ha)
  · refine completes_holdingSafety (show _ = execHaltreq dt pc priv x s from rfl) hq hp he ?_
    exact ite_pred s.entry.HoldsSafety (.of_leaves (s.entry.halt_leaves (s.ctx dt) 3 pc priv x)) (.refl _)
  · exact completes_holdingSafety (show _ = execDozeEntry dt s from rfl) hq hp he (.of_leaves (s.entry.doze_leaves (s.ctx dt)))
  · exact completes_holdingSafety (show _ = execDozeExit dt s from rfl) hq hp he
      (.of_leaves (s.entry.leaveDoze_leaves (s.ctx dt)))
  · have hraise : s.entry.swRaise (s.ctx dt) 1 v = s.entry.raise (s.ctx dt) (94 + 1) (v % 2 ^ 32) := by
      have hh' : (s.entry.raise (s.ctx dt) (94 + 1) (v % 2 ^ 32)).core.halted = true := by
        rw [Dev.raise_core]
        exact hh
      simp only [Dev.swRaise, hh', Bool.not_true, Bool.and_false, Bool.false_eq_true, if_false]
    have hl : s.entry.Leaves [] (if s.entry.coreOn then s.entry.swRaise (s.ctx dt) 1 v else s.entry) := by
      rw [hraise]
      exact ite_pred (s.entry.Leaves []) ((Dev.Leaves.refl _ _).raise _ _ _) (.refl _ _)
    refine completes_of_ending (show _ = execEvcSwraise1 dt v s from rfl) rfl ?_ fun t x hend _ ht => ?_
    · exact (congrArg Rst.want hl.rst).trans hq.1
    · have hobj : t.dev.obj = x.obj := by rw [ht]
      exact Dev.nat_of_get ((Dev.get_of_obj hobj _).trans ((hend.get _ (by decide)).trans
        ((hl.keeps .collector (by decide)).2 0x9000_01 rfl)))

end Sys2Proof.Machine


/-!
SUPPORT. What a command that leaves the device up changes of each part, a reset asked for leaving nothing to show: the
watchdogs, software events and releases, and the watchdog, event and log commands (ch 13).
-/
namespace Sys2Proof.Machine

variable {l m : List Part} {d x y : Dev} {s t : State} {dt : Nat}

/-! ## Frames of what asks for no reset -/

/-- Where no reset is asked for in `x`, none is in `d`, and no part changes but those listed. A device that a command
leaves up has asked for none. -/
def Dev.UpFrame (l : List Part) (d x : Dev) : Prop := x.rst.want = [] → d.rst.want = [] ∧ d.Keeps l x

namespace Dev.UpFrame

theorem refl (l : List Part) (d : Dev) : d.UpFrame l d := fun h => ⟨h, .refl l d⟩

theorem trans (h : d.UpFrame l x) (g : x.UpFrame l y) : d.UpFrame l y := fun hy =>
  have ⟨hx, hk⟩ := g hy
  have ⟨hd, hk'⟩ := h hx
  ⟨hd, hk'.trans hk⟩

theorem of_leaves (h : d.Leaves l x) : d.UpFrame l x := fun hx => ⟨h.rst ▸ hx, h.keeps⟩

theorem mono (h : d.UpFrame m x) (hm : m ⊆ l) : d.UpFrame l x := fun hx => ⟨(h hx).1, (h hx).2.mono hm⟩

theorem leaves (h : d.UpFrame l x) (g : x.Leaves l y) : d.UpFrame l y := h.trans (.of_leaves g)

theorem of_asks (h : x.rst.want ≠ []) : d.UpFrame l x := fun hx => absurd hx h

end Dev.UpFrame

namespace Dev.Leaves

theorem setPart (h : d.Leaves l x) (k : Nat) (v : Val) {p : Part} (hk : partOfKey k = some p) (hp : p ∈ l) :
    d.Leaves l (x.set k v) :=
  h.trans ⟨.set_of_part x k v hk hp, Dev.set_rst ..⟩

theorem setFree (h : d.Leaves l x) (k : Nat) (v : Val) (hk : partOfKey k = none) : d.Leaves l (x.set k v) :=
  h.trans ⟨.set_of_none x k v hk, Dev.set_rst ..⟩

theorem unparted (h : d.Leaves l x) (t : Trace) (e : Evc) (g : Log) (u : List Out) :
    d.Leaves l { x with trace := t, evc := e, log := g, out := u } :=
  h.trans ⟨.unparted x t e g u x.pins, rfl⟩

theorem emit (h : d.Leaves l x) (o : Out) : d.Leaves l (x.emit o) := h.unparted _ _ _ _

theorem saf (h : d.Leaves l x) (v : Saf) (hl : .collector ∈ l) : d.Leaves l { x with saf := v } :=
  h.trans ⟨.saf x v hl, rfl⟩

theorem safFormes (h : d.Leaves l x) (v : Saf) (w : List Forme) (hc : .collector ∈ l) (hf : .formes ∈ l) :
    d.Leaves l { x with saf := v, formes := w } := by
  refine h.trans ⟨.of_fields rfl fun p hp => ?_, rfl⟩
  have hsame := SameFields.refl p x
  cases p with
  | collector => exact absurd hc hp
  | formes => exact absurd hf hp
  | _ => exact hsame

theorem pwr (h : d.Leaves l x) (v : Pwr) (hl : .power ∈ l) : d.Leaves l { x with pwr := v } :=
  h.trans ⟨.pwr x v hl, rfl⟩

theorem foldl {α : Type} {f : Dev → α → Dev} {r : List α} (h : ∀ (b : Dev), ∀ a ∈ r, b.Leaves l (f b a)) (d : Dev) :
    d.Leaves l (r.foldl f d) :=
  List.foldlRecOn (motive := d.Leaves l) r f (.refl l d) fun b hb a ha => hb.trans (h b a ha)

end Dev.Leaves

/-- The frame of a command that leaves the device up from that of its effect. -/
theorem State.act_upFrame {i : Instr} {f : Ctx → Dev → Dev} (h : RunsUp i s t) (hx : exec i s = s.act dt f)
    (hl : .collector ∈ l → .links ∈ l) (hf : s.entry.UpFrame l (f (s.ctx dt) s.entry)) : s.dev.Keeps l t.dev := by
  obtain ⟨-, he, -, ht, hup⟩ := h
  replace ht := hx.symm.trans ht
  refine State.act_keeps he ht hup hl fun _ => (hf ?_).2
  have hstage : t.dev.rst.stage = ((f (s.ctx dt) s.entry).settle (s.ctx dt)).rst.stage := by rw [State.act_dev ht]
  exact (Dev.settle_up _ (s.ctx dt) (hstage.symm.trans hup)).1

/-- The same of a command that names a unit of the variant. -/
theorem State.actOn_upFrame {i : Instr} {b : Bool} {f : Ctx → Dev → Dev} (h : RunsUp i s t) (hx : exec i s = s.actOn b dt f)
    (hl : .collector ∈ l → .links ∈ l) (hf : b = true → s.entry.UpFrame l (f (s.ctx dt) s.entry)) : s.dev.Keeps l t.dev := by
  have hn := State.actOn_eq_next (hx.symm.trans h.2.2.2.1)
  exact State.act_upFrame h (hx.trans (State.actOn_act hn.1)) hl (hf hn.1)

/-- A write request of a number to an object without a staged value changes the parts its effect does, where that keeps the
state of resets. -/
theorem Dev.write_keeps {c : Ctx} {k base n : Nat} {r : Obj} {x : Obs} (hk : ∀ b, lookup b k = .row base n r)
    (hk24 : k < 2 ^ 24) (hacc : r.acc ≠ .rws) (hw : ∀ (e : Dev) (v : Val), e.Leaves l (e.writeObj c base n r.sub v x))
    (hl : .links ∈ l) (hp : .power ∈ l) (ha : d.rst.aside = []) (hq : d.itp.waiting = []) (o : Org) (v : Int) :
    d.Keeps l (d.request c o k (.num v) x) := by
  refine Dev.WriteKeeps.request (fun e hrst w => ?_) hk hk24 hl hp hq o v
  have hleaves := hw e w
  rw [Dev.applyWrite_direct hacc (by rw [hleaves.rst, hrst]; exact ha)]
  exact hleaves.keeps

/-- The frame of such a write request. -/
theorem frame_of_write {i : Instr} {o : Org} {k base n : Nat} {r : Obj} {v : Int} {x : Obs} (h : RunsUp i s t)
    (hx : exec i s = s.req dt o k v x) (hk : ∀ b, lookup b k = .row base n r) (hk24 : k < 2 ^ 24) (hacc : r.acc ≠ .rws)
    (hl : .links ∈ l) (hp : .power ∈ l) (hw : ∀ (d : Dev) (v : Val), d.Leaves l (d.writeObj (s.ctx dt) base n r.sub v x)) :
    s.dev.Keeps l t.dev := by
  obtain ⟨⟨-, ha, hq⟩, he, -, ht, hup⟩ := h
  replace ht := hx.symm.trans ht
  unfold State.req at ht
  exact State.act_keeps he ht hup (fun _ => hl) fun _ => Dev.write_keeps (d := s.entry) hk hk24 hacc hw hl hp ha hq o v

/-! ## Detections, conditions, releases -/

/-- A detection: of class 3 it asks for a system reset. -/
theorem Dev.detect_upFrame (d : Dev) (c : Ctx) (code inst : Nat) (h : .collector ∈ l) : d.UpFrame l (d.detect c code inst) := by
  by_cases h3 : d.classOf code = 3
  · obtain ⟨y, -, e⟩ := d.detect_escalates c code inst
    rw [e, if_pos h3]
    exact .of_asks (List.cons_ne_nil _ _)
  · exact .of_leaves ⟨d.detect_keeps c code inst h, d.detect_rst c inst h3⟩

theorem Dev.endCond_leaves (d : Dev) (code inst : Nat) (h : .collector ∈ l) : d.Leaves l (d.endCond code inst) := by
  refine ⟨d.endCond_keeps code inst h, ?_⟩
  unfold Dev.endCond
  exact ite_pred (fun x : Dev => x.rst = d.rst) rfl (Dev.setN_rst ..)

theorem Dev.release1_leaves (d : Dev) (c : Ctx) (code : Nat) : d.Leaves [.formes, .collector] (d.release1 c code) := by
  have h0 := Dev.Leaves.refl [.formes, .collector] d
  have hset : ∀ n, d.Leaves [.formes, .collector] (d.setN 0x9000_0A n) := fun n => h0.setPart 0x9000_0A _ rfl (by decide)
  let P := d.Leaves [.formes, .collector]
  unfold Dev.release1
  refine ite_pred P (hset 4) (ite_pred P (hset 5) (ite_pred P (hset 2) (ite_pred P (hset 3) ?_)))
  unfold Dev.doRelease
  extract_lets d1 fs _ d2
  have h1 : P d1 := (h0.setPart 0x9000_01 _ rfl (by decide)).setPart 0x9000_0A _ rfl (by decide)
  have h2 : P d2 := h1.safFormes _ _ (by decide) (by decide)
  exact h2.raise c 1 0

theorem Dev.swRaise_leaves (d : Dev) (c : Ctx) (n v : Nat) : d.Leaves [.formes, .collector] (d.swRaise c n v) := by
  have h1 := (Dev.Leaves.refl [.formes, .collector] d).raise c (94 + n) (v % 2 ^ 32)
  exact ite_pred (d.Leaves _) (h1.trans (Dev.release1_leaves _ c 1)) h1

/-! ## The watchdogs -/

theorem partOfKey_wdK {n sub : Nat} (hn : n < 2) (hs : sub < 256) : partOfKey (wdK n sub) = some .watchdogs :=
  partOfKey_key 0x91 n sub (by omega) hs (by decide) (by decide) (by decide) (by decide)

section

variable (d : Dev) (c : Ctx) {n : Nat}

theorem Dev.wdJudge_leaves : d.Leaves [.watchdogs] (d.wdJudge c n) := by
  have h0 := Dev.Leaves.refl [.watchdogs] d
  unfold Dev.wdJudge
  refine ite_pred (d.Leaves _) (Dev.Leaves.modWd ?_ n _ (by decide)) (Dev.Leaves.modWd ?_ n _ (by decide))
  · exact ite_pred (d.Leaves _) (h0.raiseClr c _ _) h0
  · exact ite_pred (d.Leaves _) h0 (h0.raise c _ _)

theorem Dev.wdZero_leaves : d.Leaves [.watchdogs] (d.wdZero c n) :=
  (Dev.Leaves.refl _ d).modWd n _ (by decide)

theorem Dev.wdStart_leaves : d.Leaves [.watchdogs] (d.wdStart c n) := by
  unfold Dev.wdStart
  refine ite_pred (d.Leaves _) (.refl _ d) ?_
  exact (((Dev.Leaves.refl [.watchdogs] d).modWd n _ (by decide)).trans (Dev.wdZero_leaves _ c)).trans (Dev.wdJudge_leaves _ c)

/-- An expiry always asks for a reset. -/
theorem Dev.wdExpire_asks (reason pc priv : Nat) : (d.wdExpire c n reason pc priv).rst.want ≠ [] := by
  have hdet : ∀ x : Dev, (x.detect c 0x0C 0).rst.want ≠ [] := fun x => by
    obtain ⟨y, -, e⟩ := x.detect_escalates c 0x0C 0
    rw [e, if_pos (show x.classOf 0x0C = 3 from rfl)]
    exact List.cons_ne_nil _ _
  unfold Dev.wdExpire
  extract_lets d1 d2 d3 again d4
  by_cases hn : n = 0
  · rw [if_pos hn]
    exact hdet d2
  · rw [if_neg hn]
    have hr : (d4.modWd 1 fun w => { w with run := false }).rst.want = 9 :: (d3.detect c 0x0D 0).rst.want :=
      congrArg Rst.want (d4.modWd_rst 1 _)
    exact fun h => absurd (hr.symm.trans h) (List.cons_ne_nil _ _)

theorem Dev.wdKey_upFrame (hn : n < 2) (v : Nat) : d.UpFrame [.watchdogs] (d.wdKey c n v) := by
  have hbad : ∀ r p q, d.UpFrame [.watchdogs] (d.wdExpire c n r p q) := fun r p q => .of_asks (d.wdExpire_asks c r p q)
  have h0 := Dev.Leaves.refl [.watchdogs] d
  let P := d.UpFrame [.watchdogs]
  unfold Dev.wdKey
  refine ite_pred P (ite_pred P (.of_leaves (d.wdStart_leaves c)) (.refl _ d)) (ite_pred P (hbad _ _ _) (ite_pred P
    (ite_pred P (.of_leaves (h0.modWd n _ (by decide))) (hbad _ _ _)) (ite_pred P (hbad _ _ _) (ite_pred P (hbad _ _ _) ?_))))
  exact .of_leaves (((d.wdZero_leaves c).setPart (wdK n 9) _ (partOfKey_wdK hn (by decide)) (by decide)).trans (Dev.wdJudge_leaves _ c))

/-- A write of a WDG_ register. -/
theorem Dev.wdgRegWrite_upFrame (hn : n < 2) (r v : Nat) : d.UpFrame [.watchdogs] (d.wdgRegWrite c n r v).1 := by
  have h0 := Dev.Leaves.refl [.watchdogs] d
  have hset : ∀ {x : Dev}, d.Leaves [.watchdogs] x → ∀ sub v, sub < 256 → d.Leaves [.watchdogs] (x.setN (wdK n sub) v) :=
    fun hx sub v hs => hx.setPart _ _ (partOfKey_wdK hn hs) (by decide)
  let P (p : Dev × Option Nat) := d.UpFrame [.watchdogs] p.1
  have hgo : ∀ x : Dev, d.Leaves [.watchdogs] x → d.UpFrame [.watchdogs] (if n = 1 then x.wdStart c 1 else x) := fun x hx =>
    .of_leaves (ite_pred (d.Leaves _) (hx.trans (x.wdStart_leaves c)) hx)
  have hrefl : P (d, none) := .refl _ d
  unfold Dev.wdgRegWrite
  extract_lets lock bad go
  split
  · rename_i w e lk same d1 d2 _
    have h1 : d.Leaves [.watchdogs] d1 := hset (hset (hset h0 3 w (by decide)) 4 e (by decide)) 6 _ (by decide)
    have h2 : d.Leaves [.watchdogs] d2 := ite_pred (d.Leaves _) (h1.modWd n _ (by decide)) h1
    refine ite_pred P hrefl (ite_pred P hrefl (ite_pred P (hgo d2 h2) (ite_pred P ?_ (.of_leaves h2))))
    exact .of_leaves ((h2.setPart (wdK 0 1) _ rfl (by decide)).trans (Dev.wdStart_leaves _ c))
  · exact ite_pred P hrefl (ite_pred P hrefl (hgo _ (hset h0 2 v (by decide))))
  · exact d.wdKey_upFrame c hn v
  · exact ite_pred P hrefl (ite_pred P hrefl (hgo _ (h0.setPart (wdK 0 5) _ rfl (by decide))))
  · exact ite_pred P hrefl hrefl

theorem Dev.busError_leaves (master id addr : Nat) (w : Bool) (reason : Nat) :
    d.Leaves l (d.busError c master id addr w reason) := by
  unfold Dev.busError
  refine Dev.Leaves.raise (Dev.Leaves.core (.refl l d) _ ?_ ?_) c 14 0
  · dsimp only
    split <;> rfl
  · dsimp only
    split <;> rfl

/-- A register write of the core, error response included, from the frame of the register's own write. -/
theorem Dev.coreWrite_upFrame (user : Bool) (o v : Nat) (h : d.UpFrame l (d.regWrite c user o v).1) :
    d.UpFrame l (d.coreWrite c user o v) := by
  unfold Dev.coreWrite
  refine ite_pred (d.UpFrame l) (.refl l d) ?_
  dsimp only
  split
  · exact h
  · exact h.leaves ((Dev.busError_leaves _ c ..).emit _)

/-- The registers of the watchdogs. -/
theorem Dev.regWrite_wdg (user : Bool) (hn : n < 2) {r : Nat} (hr : r < 0x40) (v : Nat) :
    d.UpFrame [.watchdogs] (d.regWrite c user (0x40 * n + r) v).1 := by
  have hlt : 0x40 * n + r < 0x80 := by omega
  have h0 : (0x40 * n + r) / 0x1000 = 0 := Nat.div_eq_of_lt (hlt.trans (by decide))
  have hmod : (0x40 * n + r) % 0x1000 = 0x40 * n + r := Nat.mod_eq_of_lt (hlt.trans (by decide))
  have h2 : (0x40 * n + r) / 0x40 = n := by rw [Nat.mul_add_div (by decide), Nat.div_eq_of_lt hr, Nat.add_zero]
  have h3 : (0x40 * n + r) % 0x40 = r := by rw [Nat.mul_add_mod, Nat.mod_eq_of_lt hr]
  unfold Dev.regWrite
  extract_lets q
  refine ite_pred (fun p : Dev × Option Nat => d.UpFrame [.watchdogs] p.1) (.refl _ d) ?_
  simp only [h0, show q = (0x40 * n + r) % 0x1000 from rfl, hmod, hlt, if_true, h2, h3]
  exact d.wdgRegWrite_upFrame c hn r v

/-- The commands and fields of a watchdog's objects. -/
theorem Dev.writeWdg_leaves (hn : n < 2) {sub : Nat} (hs : sub < 256) (v : Val) :
    d.Leaves [.watchdogs] (d.writeWdg c n sub v) := by
  have h0 := Dev.Leaves.refl [.watchdogs] d
  let P := d.Leaves [.watchdogs]
  unfold Dev.writeWdg
  refine ite_pred P (ite_pred P ?starts (h0.setPart _ _ (partOfKey_wdK hn (by decide)) (by decide))) (ite_pred P
    ((h0.setPart _ _ (partOfKey_wdK hn (by decide)) (by decide)).modWd n _ (by decide)) (ite_pred P (h0.setPart _ _ (partOfKey_wdK hn (by decide)) (by decide))
      (h0.setPart _ _ (partOfKey_wdK hn hs) (by decide))))
  case starts =>
    exact Dev.Leaves.trans (ite_pred P (h0.setPart (wdK 0 1) _ rfl (by decide)) h0) (Dev.wdStart_leaves _ c)

end

/-! ## The commands -/

theorem wdgSvc_keeps {n v : Nat} {user : Bool} (h : RunsUp (.wdgSvc dt n v user) s t) : s.dev.Keeps [.watchdogs] t.dev :=
  State.actOn_upFrame h (show _ = execWdgSvc dt n v user s from rfl) (by decide) fun hn =>
    Dev.coreWrite_upFrame _ _ user _ _ (Dev.regWrite_wdg _ _ user (of_decide_eq_true hn) (by decide) _)

theorem wdgCtl_keeps {n r v : Nat} {user : Bool} (h : RunsUp (.wdgCtl dt n r v user) s t) :
    s.dev.Keeps [.watchdogs] t.dev := by
  refine State.actOn_upFrame h (show _ = execWdgCtl dt n r v user s from rfl) (by decide) fun hn => ?_
  simp only [Bool.and_eq_true, Bool.or_eq_true, decide_eq_true_eq] at hn
  obtain ⟨hn, hr⟩ := hn
  exact Dev.coreWrite_upFrame _ _ user _ _ (Dev.regWrite_wdg _ _ user hn (by omega) _)

theorem wd0Service_keeps (h : RunsUp (.wd0Service dt) s t) : s.dev.Keeps [.watchdogs] t.dev := by
  refine State.act_upFrame h (show _ = execWd0Service dt s from rfl) (by decide) ?_
  refine ite_pred (s.entry.UpFrame _) (Dev.UpFrame.trans ?_ (Dev.wdKey_upFrame _ _ (by decide) _)) (.refl _ _)
  exact ite_pred (s.entry.UpFrame _) (.refl _ _) (s.entry.wdKey_upFrame _ (by decide) _)

theorem earlyWarning_keeps {n : Nat} (h : RunsUp (.earlyWarning dt n) s t) : s.dev.Keeps [.watchdogs] t.dev := by
  refine State.actOn_upFrame h (show _ = execEarlyWarning dt n s from rfl) (by decide) fun hn => .of_leaves ?_
  have h1 := (Dev.Leaves.refl [.watchdogs] s.entry).modWd n (fun w => { w with warned := true }) (by decide)
  exact ite_pred (s.entry.Leaves _)
    ((h1.setPart (wdK n 0x0A) _ (partOfKey_wdK (of_decide_eq_true hn) (by decide)) (by decide)).raise _ _ _) (.refl _ _)

theorem lookup_wdK {n sub : Nat} {r : Obj} (hn : n < 2) (h0 : sub ≠ 0) (hs : sub < 256)
    (hr : Fam.row ⟨0x9100, 2, 2, tbl9100⟩ n sub = some r) (b : Bool) : lookup b (wdK n sub) = .row 0x9100 n r := by
  refine lookup_of_famOf (f := ⟨0x9100, 2, 2, tbl9100⟩) ?_ h0 hs hr
  interval_cases n <;> cases b <;> rfl

theorem wdgStart_keeps {i : Instr} {o : Org} {n : Nat} (h : RunsUp i s t) (hn : n < 2)
    (hx : exec i s = s.req dt o (wdK n 0x01) 1 Obs.quiet) : s.dev.Keeps [.links, .watchdogs, .power] t.dev := by
  obtain ⟨r, hr, hacc, hsub⟩ : ∃ r, Fam.row ⟨0x9100, 2, 2, tbl9100⟩ n 0x01 = some r ∧ r.acc ≠ .rws ∧ r.sub < 256 := by
    interval_cases n
    · exact ⟨_, rfl, by decide, by decide⟩
    · exact ⟨_, rfl, by decide, by decide⟩
  exact frame_of_write h hx (lookup_wdK hn (by decide) (by decide) hr) (by unfold wdK key; omega) hacc (by decide)
    (by decide) fun d v => (d.writeWdg_leaves _ hn hsub v).mono (by decide)

theorem clearEvidence_keeps {o : Org} {n : Nat} (h : RunsUp (.clearEvidence dt o n) s t) :
    s.dev.Keeps [.links, .watchdogs, .power] t.dev := by
  have hx : exec (.clearEvidence dt o n) s = s.req dt o (keyAt 2 n (wdK n 0x0D)) 1 Obs.quiet := rfl
  by_cases hn : n < 2
  · rw [keyAt_of_lt _ hn] at hx
    obtain ⟨r, hr, hacc, hsub⟩ : ∃ r, Fam.row ⟨0x9100, 2, 2, tbl9100⟩ n 0x0D = some r ∧ r.acc ≠ .rws ∧ r.sub < 256 := by
      interval_cases n
      · exact ⟨_, rfl, by decide, by decide⟩
      · exact ⟨_, rfl, by decide, by decide⟩
    exact frame_of_write h hx (lookup_wdK hn (by decide) (by decide) hr) (by unfold wdK key; omega) hacc (by decide)
      (by decide) fun d v => (d.writeWdg_leaves _ hn hsub v).mono (by decide)
  · rw [show keyAt 2 n (wdK n 0x0D) = 0 from if_neg hn] at hx
    obtain ⟨-, he, -, ht, hup⟩ := h
    replace ht := hx.symm.trans ht
    unfold State.req at ht
    exact State.act_keeps he ht hup (by decide) fun _ => Dev.request_zero_keeps _ _ _ _ _ (by decide)

theorem evcAck_keeps {k v : Nat} (h : RunsUp (.evcAck dt k v) s t) : s.dev.Keeps [] t.dev := by
  refine State.actOn_upFrame h (show _ = execEvcAck dt k v s from rfl) (by decide) fun hk => .of_leaves ?_
  have hreg : (decide (0x10 + 4 * k = 0x10) || decide (0x10 + 4 * k = 0x14) || decide (0x10 + 4 * k = 0x18)) = true := by
    have := of_decide_eq_true hk
    interval_cases k <;> rfl
  refine ite_pred (s.entry.Leaves _) ?_ (.refl _ _)
  unfold Dev.evcRegWrite
  rw [if_pos hreg]
  exact (Dev.Leaves.refl [] s.entry).unparted _ _ _ _

theorem evcSwraise_keeps {i : Instr} {n v : Nat} (h : RunsUp i s t)
    (hx : exec i s = s.act dt fun c d => if d.coreOn then d.swRaise c n v else d) :
    s.dev.Keeps [.links, .formes, .collector] t.dev :=
  State.act_upFrame h hx (by decide) (.of_leaves (ite_pred (s.entry.Leaves _) ((s.entry.swRaise_leaves _ n v).mono (by decide))
    (.refl _ _)))

theorem clear_leaves_of_none (d : Dev) {ks : List Nat} (h : ∀ k ∈ ks, partOfKey k = none) : d.Leaves l (d.clear ks) :=
  .foldl (fun b k hk => (Dev.Leaves.refl l b).setFree k _ (h k hk)) d

theorem lookup_9200_07 : ∃ r, (∀ b, lookup b 0x9200_07 = .row 0x9200 0 r) ∧ r.acc ≠ .rws ∧ r.sub = 7 :=
  ⟨_, fun b => by cases b <;> rfl, by decide, rfl⟩

theorem lookup_9400_07 : ∃ r, (∀ b, lookup b 0x9400_07 = .row 0x9400 0 r) ∧ r.acc ≠ .rws ∧ r.sub = 7 :=
  ⟨_, fun b => by cases b <;> rfl, by decide, rfl⟩

theorem softwareRaise_keeps {o : Org} {v : Nat} (h : RunsUp (.softwareRaise dt o v) s t) :
    s.dev.Keeps [.links, .power] t.dev := by
  obtain ⟨r, hk, hacc, hsub⟩ := lookup_9200_06
  refine frame_of_write h (show _ = execSoftwareRaise dt o v s from rfl) hk (by decide) hacc (by decide) (by decide) fun d v => ?_
  rw [hsub]
  exact (Dev.Leaves.refl _ d).raise _ _ _

theorem eventClearCounters_keeps {o : Org} (h : RunsUp (.eventClearCounters dt o) s t) :
    s.dev.Keeps [.links, .power] t.dev := by
  obtain ⟨r, hk, hacc, hsub⟩ := lookup_9200_07
  refine frame_of_write h (show _ = execEventClearCounters dt o s from rfl) hk (by decide) hacc (by decide) (by decide) fun d v => ?_
  rw [hsub]
  exact (clear_leaves_of_none d (by decide)).unparted _ _ _ _

theorem logRecordCommit_keeps (h : RunsUp (.logRecordCommit dt) s t) : s.dev.Keeps [] t.dev := by
  refine State.act_upFrame h (show _ = execLogRecordCommit dt s from rfl) (by decide) (.of_leaves ?_)
  refine ite_pred (s.entry.Leaves _) ?_ (.refl _ _)
  have h1 := (Dev.Leaves.refl [] s.entry).unparted s.entry.trace s.entry.evc s.entry.log.write1.1 s.entry.out
  exact ite_pred (s.entry.Leaves _) (h1.setFree 0x9400_06 _ rfl) h1

theorem Dev.copyLog_leaves (d : Dev) (c : Ctx) (reason bad : Nat) : d.Leaves [.copies, .collector] (d.copyLog c reason bad) := by
  let P := d.Leaves [.copies, .collector]
  have h0 : P d := .refl _ d
  unfold Dev.copyLog
  extract_lets d1 g recs prev seq toOne x0 x1 x d2 d3 fail
  have h1 : P d1 := by
    dsimp only [d1, Dev.dropBad]
    exact ite_pred P h0 ((h0.setFree 0x9400_08 _ rfl).unparted _ _ _ _)
  have hslot : P d2 := by
    have hs : ∀ a b, P { d1 with slot0 := a, slot1 := b } := fun a b => by
      refine h1.trans ⟨.of_fields rfl fun p hp => ?_, rfl⟩
      have hsame := SameFields.refl p d1
      cases p with
      | copies => exact absurd (List.mem_cons_self ..) hp
      | _ => exact hsame
    exact ite_pred P (hs d1.slot0 x) (hs x d1.slot1)
  have h3 : P d3 := ite_pred P (hslot.setPart 0x9300_04 _ rfl (by decide)) hslot
  exact ite_pred P ((h1.setFree 0x9400_07 _ rfl).raise c _ _) ((h3.setFree 0x9400_07 _ rfl).raise c _ _)

theorem copy_keeps {o : Org} {x : Obs} (h : RunsUp (.copy dt o x) s t) :
    s.dev.Keeps [.copies, .links, .formes, .collector, .power] t.dev := by
  obtain ⟨r, hk, hacc, hsub⟩ := lookup_9400_07
  refine frame_of_write h (show _ = execCopy dt o x s from rfl) hk (by decide) hacc (by decide) (by decide) fun d v => ?_
  rw [hsub]
  exact (d.copyLog_leaves (s.ctx dt) 2 x.bad).mono (by decide)

theorem logClear_keeps {o : Org} (h : RunsUp (.logClear dt o) s t) :
    s.dev.Keeps [.copies, .links, .formes, .collector, .power] t.dev := by
  obtain ⟨r, hk, hacc, hsub⟩ := lookup_9400_0A
  refine frame_of_write h (show _ = execLogClear dt o s from rfl) hk (by decide) hacc (by decide) (by decide) fun d v => ?_
  rw [hsub]
  exact (Dev.Leaves.refl _ d).unparted _ _ _ _

theorem safeReqNHigh_keeps (h : RunsUp (.safeReqNHigh dt) s t) : s.dev.Keeps [.links, .formes, .collector] t.dev := by
  refine State.act_upFrame h (show _ = execSafeReqNHigh dt s from rfl) (by decide) (.of_leaves ?_)
  refine ite_pred (s.entry.Leaves _) ?_ (.refl _ _)
  have h1 : s.entry.Leaves [.links, .formes, .collector] { s.entry with saf := { s.entry.saf with reqLow := false } } :=
    (Dev.Leaves.refl _ _).saf _ (by decide)
  exact ite_pred (s.entry.Leaves _) ((h1.trans (Dev.endCond_leaves _ _ _ (by decide))).raiseClr _ _ _) h1

theorem supplyBackInWindow_keeps {n : Nat} (h : RunsUp (.supplyBackInWindow dt n) s t) :
    s.dev.Keeps [.links, .formes, .collector, .power] t.dev := by
  refine State.actOn_upFrame h (show _ = execSupplyBackInWindow dt n s from rfl) (by decide) fun _ => .of_leaves ?_
  have h1 : s.entry.Leaves [.links, .formes, .collector, .power]
      (s.entry.modPwr fun p => { p with supOut := setBit p.supOut n false }) := (Dev.Leaves.refl _ _).pwr _ (by decide)
  exact ite_pred (s.entry.Leaves _) ((h1.trans (Dev.endCond_leaves _ _ _ (by decide))).raiseClr _ _ _) (.refl _ _)

theorem Part.mem_all (p : Part) : p ∈ Part.all := List.elem_iff.mp (by cases p <;> rfl)

end Sys2Proof.Machine


/-!
SUPPORT. What an access of the bus matrix, a core-local register and the debug module change of each part.
-/
namespace Sys2Proof.Machine

variable {l : List Part} {d x : Dev}

namespace Dev.Leaves

/-- The memories of the core written, with whatever else of the core. -/
theorem memory (h : d.Leaves l x) (k : Core) (hl : .memory ∈ l) : d.Leaves l { x with core := k } :=
  h.trans ⟨.of_fields rfl fun p hp => by
    have hsame := SameFields.refl p x
    cases p with
    | memory => exact absurd hl hp
    | _ => exact hsame, rfl⟩

theorem modDbg (h : d.Leaves l x) (f : Dbg → Dbg) : d.Leaves l (x.modDbg f) := h.core _ (by rfl) (by rfl)

theorem modDma (h : d.Leaves l x) (n : Nat) (f : Dma → Dma) : d.Leaves l (x.modDma n f) := h.core _ (by rfl) (by rfl)

theorem trcStart (h : d.Leaves l x) (c : Ctx) (info : Nat) : d.Leaves l (x.trcStart c info) :=
  (h.trace (x.trc_eta _)).trace (Dev.trcSync_eta _ c 1)

end Dev.Leaves

/-- Trace written from an eta of the trace. -/
theorem Dev.TraceOf.leaves (h : d.TraceOf x) : d.Leaves l x := (Dev.Leaves.refl l d).trace h

/-! ## The registers -/

/-- No object lies above the application's pages. -/
theorem partOf_above {h m : Nat} (hh : h / 256 = m + 0xA3) : partOf h = none := by
  unfold partOf
  rw [hh]
  rfl

/-- No object of an aperture window lies outside the application's part. -/
theorem partOfKey_apK (a sub : Nat) (hs : sub < 256) : ∀ p ∈ partOfKey (apK a sub), p = .app := by
  have hpart : partOf (0xA100 + a) = some .app ∨ partOf (0xA100 + a) = none := by
    rcases Nat.lt_or_ge a 256 with ha | ha
    · exact .inl (partOf_add 0xA1 a ha (by decide) (by decide))
    obtain ⟨n, rfl⟩ := Nat.exists_eq_add_of_le ha
    rcases Nat.lt_or_ge n 256 with hn | hn
    · exact .inl ((congrArg partOf (by omega)).trans (partOf_add 0xA2 n hn (by decide) (by decide)))
    · exact .inr (partOf_above (m := n / 256 - 1) (by omega))
  intro p hp
  rw [apK, partOfKey_of_index (key_div _ _ _ hs : key 0xA100 a sub / 256 = 0xA100 + a) (by omega) (by omega)] at hp
  rcases hpart with e | e
  · exact (Option.some.inj (e.symm.trans hp)).symm
  · exact nomatch e.symm.trans hp

theorem Dev.Leaves.setAp (h : d.Leaves l x) (a sub : Nat) (v : Val) (hs : sub < 256) (hl : .app ∈ l) :
    d.Leaves l (x.set (apK a sub) v) :=
  h.trans ⟨.set_of_mem x _ v fun p hp => partOfKey_apK a sub hs p hp ▸ hl, Dev.set_rst ..⟩

section

variable (d) (c : Ctx)

theorem Dev.apApply_leaves (a : Nat) : d.Leaves l (d.apApply c a) := by
  have h0 := Dev.Leaves.refl l d
  unfold Dev.apApply
  refine ite_pred (d.Leaves l) (Dev.Leaves.core ?_ _ (by rfl) (by rfl)) (Dev.Leaves.core ?_ _ (by rfl) (by rfl))
  · exact ite_pred (d.Leaves l) (h0.raiseClr c _ _) h0
  · exact ite_pred (d.Leaves l) h0 (h0.raise c _ _)

theorem Dev.evcRegWrite_leaves (r v : Nat) : d.Leaves l (d.evcRegWrite c r v).1 := by
  have h0 := Dev.Leaves.refl l d
  let P (p : Dev × Option Nat) := d.Leaves l p.1
  have hevc : ∀ e, d.Leaves l { d with evc := e } := fun e => h0.unparted _ e _ _
  exact ite_pred P (hevc _) (ite_pred P (hevc _) (ite_pred P (h0.raise c _ _) (ite_pred P (h0.raise c _ _)
    (ite_pred P h0 h0))))

theorem Dev.tmrWrite_leaves (r v : Nat) : d.Leaves l (d.tmrWrite r v).1 := by
  have h0 := Dev.Leaves.refl l d
  let P (p : Dev × Option Nat) := d.Leaves l p.1
  exact ite_pred P h0 (ite_pred P (h0.core _ (by rfl) (by rfl)) (ite_pred P (h0.core _ (by rfl) (by rfl)) (ite_pred P (ite_pred P (h0.core _ (by rfl) (by rfl)) (h0.core _ (by rfl) (by rfl)))
    (ite_pred P h0 h0))))

theorem Dev.setTrace_leaves (on : Bool) : d.Leaves [.app] (d.setTrace c on) := by
  have h1 : d.Leaves [.app] (d.setN 0xA200_01 (b2n on)) := (Dev.Leaves.refl _ d).setPart 0xA200_01 _ rfl (by decide)
  exact ite_pred (d.Leaves _) (h1.trcStart c 0) h1

theorem Dev.trcWrite_leaves (r v : Nat) : d.Leaves [.app] (d.trcWrite c r v).1 := by
  have h0 := Dev.Leaves.refl [.app] d
  let P (p : Dev × Option Nat) := d.Leaves [.app] p.1
  refine ite_pred P ((h0.setPart 0xA200_02 _ rfl (by decide)).trans (Dev.setTrace_leaves _ c _)) (ite_pred P ?_
    (ite_pred P h0 h0))
  exact ite_pred (d.Leaves _) (d.trc_eta _).leaves h0

theorem Dev.bmxWrite_leaves (r v : Nat) : d.Leaves l (d.bmxWrite r v).1 := by
  have h0 := Dev.Leaves.refl l d
  let P (p : Dev × Option Nat) := d.Leaves l p.1
  unfold Dev.bmxWrite
  refine ite_pred P (h0.core _ (by rfl) (by rfl)) (ite_pred P ?_ (ite_pred P h0 (ite_pred P ?_ (ite_pred P ?_ h0))))
  · exact ite_pred (d.Leaves l) (h0.core _ (by rfl) (by rfl)) h0
  · exact ite_pred (d.Leaves l) (h0.core _ (by rfl) (by rfl)) h0
  · dsimp only
    split
    · exact h0.core _ (by rfl) (by rfl)
    · exact h0.core _ (by rfl) (by rfl)
    · exact h0

theorem Dev.apwWrite_leaves (r v : Nat) : d.Leaves [.app] (d.apwWrite c r v).1 := by
  have h0 := Dev.Leaves.refl [.app] d
  unfold Dev.apwWrite
  refine ite_pred (fun p : Dev × Option Nat => d.Leaves [.app] p.1) h0 ?_
  split
  · exact (((h0.setAp _ 1 _ (by decide) (by decide)).setAp _ 5 _ (by decide) (by decide)).setAp _ 3 _ (by decide) (by decide)).trans (Dev.apApply_leaves _ c _)
  · exact h0.setAp _ 2 _ (by decide) (by decide)
  · exact h0.setAp _ 4 _ (by decide) (by decide)
  · exact h0

/-- A write of a core-local register, in user mode or not. -/
theorem Dev.regWrite_upFrame (user : Bool) (o v : Nat) :
    d.UpFrame [.formes, .app, .watchdogs, .collector] (d.regWrite c user o v).1 := by
  have h0 := Dev.UpFrame.refl [.formes, .app, .watchdogs, .collector] d
  let P (p : Dev × Option Nat) := d.UpFrame [.formes, .app, .watchdogs, .collector] p.1
  unfold Dev.regWrite
  extract_lets r
  refine ite_pred P h0 ?_
  split
  · by_cases hr : r < 0x80
    · rw [if_pos hr]
      exact (d.wdgRegWrite_upFrame c (n := r / 0x40) (by omega) _ v).mono (by decide)
    · rw [if_neg hr]
      exact h0
  · exact ite_pred P (.of_leaves ((d.swRaise_leaves c 1 v).mono (by decide))) (.of_leaves (d.evcRegWrite_leaves c r v))
  · exact .of_leaves (d.tmrWrite_leaves r v)
  · exact .of_leaves ((d.trcWrite_leaves c r v).mono (by decide))
  · exact .of_leaves (d.bmxWrite_leaves r v)
  · exact .of_leaves ((d.apwWrite_leaves c r v).mono (by decide))
  · exact h0

/-- Reading a register changes the latch of the time at most. -/
theorem Dev.regRead_leaves (user : Bool) (o : Nat) : d.Leaves l (d.regRead c user o).1 := by
  have h0 := Dev.Leaves.refl l d
  let P (p : Dev × (Nat ⊕ Nat)) := d.Leaves l p.1
  have htmr : ∀ r, d.Leaves l (d.tmrRead c r).1 := fun r => by
    let Q (p : Dev × Option Nat) := d.Leaves l p.1
    exact ite_pred Q (h0.core _ (by rfl) (by rfl)) (ite_pred Q h0 (ite_pred Q h0 (ite_pred Q h0 (ite_pred Q h0 (ite_pred Q h0 h0)))))
  unfold Dev.regRead
  refine ite_pred P h0 ?_
  split
  · exact ite_pred P h0 h0
  · exact h0
  · exact htmr _
  · exact h0
  · exact h0
  · exact h0
  · exact h0

/-! ## A target's completion -/

theorem Dev.apPart_leaves (aps : List Apw) (addr n : Nat) (w : Option (List Byte)) (ext : List Byte) (bad vacant : Bool) :
    d.Leaves [.memory, .app] (d.apPart aps addr n w ext bad vacant).1 := by
  have h0 := Dev.Leaves.refl [.memory, .app] d
  let P (p : Dev × Option (List Byte)) := d.Leaves [.memory, .app] p.1
  unfold Dev.apPart
  split
  · exact h0
  · next a z _ =>
    extract_lets off d1 refuse
    have h1 : d.Leaves [.memory, .app] d1 := h0.setAp a 7 _ (by decide) (by decide)
    have hrefuse : P refuse := h1.setAp a 8 _ (by decide) (by decide)
    split
    · exact ite_pred P (h1.memory _ (by decide)) hrefuse
    · exact ite_pred P hrefuse h1

theorem Dev.apBurst_leaves (r : BusReq) (ext : List Byte) (bad vacant : Bool) :
    d.Leaves [.memory, .app] (d.apBurst c r ext bad vacant).1 := by
  unfold Dev.apBurst
  refine foldl_pred (fun p : Dev × Option (List Byte) => d.Leaves [.memory, .app] p.1) _ (fun p q hp => ?_) _ (.refl _ d)
  dsimp only
  split
  · exact hp
  · have h1 := hp.trans (p.1.apPart_leaves r.aps (r.addr + q.1) q.2 (r.wdata.map fun b => (b.drop q.1).take q.2)
      (ext.drop q.1) bad vacant)
    exact ite_pred (d.Leaves _) (h1.trans (Dev.busError_leaves _ c ..)) h1

theorem Dev.checkRead_upFrame (mem : Nat) : d.UpFrame [.collector] (d.checkRead c mem) := by
  have h0 := Dev.Leaves.refl [.collector] d
  unfold Dev.checkRead
  split
  · exact .of_leaves h0
  · exact .of_leaves (h0.setPart 0x9300_04 _ rfl (by decide))
  · exact (UpFrame.of_leaves (h0.raise c 6 0)).trans (Dev.detect_upFrame _ c 0x06 0 (by decide))
  · exact .of_leaves (h0.setPart 0x9300_05 _ rfl (by decide))

/-- An access to the memories of the core. -/
theorem Dev.complete_memory {r : BusReq} (hr : busRoute r = .mem) (ext : List Byte) (mem : Nat) (vacant : Bool) :
    d.UpFrame [.memory, .app, .collector] (d.complete c r ext mem vacant).1 := by
  have h0 := Dev.Leaves.refl [.memory, .app, .collector] d
  let P (p : Dev × Option (List Byte)) := d.UpFrame [.memory, .app, .collector] p.1
  unfold Dev.complete
  simp only [hr]
  split
  · exact .of_leaves (h0.memory _ (by decide))
  · have hfixed : d.Leaves _ d.transient := h0.setPart 0x9300_04 _ rfl (by decide)
    have hcorrected : d.Leaves _ (d.inc 0xA000_0E) := h0.setPart 0xA000_0E _ rfl (by decide)
    have hlost : d.Leaves _ (d.inc 0xA000_0F) := h0.setPart 0xA000_0F _ rfl (by decide)
    refine ite_pred P ?_ (.of_leaves (ite_pred (d.Leaves _) hfixed (ite_pred (d.Leaves _) hcorrected h0)))
    exact (UpFrame.of_leaves (hlost.raise c 6 0)).trans (Dev.detect_upFrame _ c 0x07 0 (by decide))

/-- The parts an access of the matrix may change. -/
def accessParts : List Part := [.formes, .memory, .app, .watchdogs, .collector]

/-- A write of a core-local register: what holds of every register's write holds of the access. -/
theorem Dev.complete_regs_write {r : BusReq} {b : List Byte} (hroute : busRoute r = .regs) (hd : r.wdata = some b)
    (P : Dev × Option (List Byte) → Prop) (Q : Dev × Option Nat → Prop)
    (hw : ∀ o v, Q (d.regWrite c r.user o v)) (h0 : Q (d, some 0))
    (hok : ∀ p a, Q p → P (p.1, a)) (herr : ∀ p a, Q p → P (p.1.busError c r.master r.id r.addr true a, none))
    (ext : List Byte) (mem : Nat) (vacant : Bool) : P (d.complete c r ext mem vacant) := by
  unfold Dev.complete
  simp -zeta only [hroute, hd]
  extract_lets o p
  have hp : Q p := ite_pred Q (hw _ _) h0
  clear_value p
  split
  · exact hok _ _ hp
  · exact herr _ _ hp

/-- A read of a core-local register: what holds of every register's answer holds of the access. -/
theorem Dev.complete_regs_read {r : BusReq} (hroute : busRoute r = .regs) (hd : r.wdata = none)
    (P : Dev × Option (List Byte) → Prop) (Q : Dev × (Nat ⊕ Nat) → Prop)
    (hr : ∀ o, Q (d.regRead c r.user o)) (h0 : Q (d, .inr 0))
    (hok : ∀ p a, Q p → P (p.1, a)) (herr : ∀ p a, Q p → P (p.1.busError c r.master r.id r.addr false a, none))
    (ext : List Byte) (mem : Nat) (vacant : Bool) : P (d.complete c r ext mem vacant) := by
  unfold Dev.complete
  simp -zeta only [hroute, hd]
  extract_lets o w p
  have hp : Q p := ite_pred Q (hr _) h0
  clear_value p
  split
  · exact hok _ _ hp
  · exact herr _ _ hp

/-- An access to a core-local register. -/
theorem Dev.complete_regs {r : BusReq} (hroute : busRoute r = .regs) (ext : List Byte) (mem : Nat) (vacant : Bool) :
    d.UpFrame accessParts (d.complete c r ext mem vacant).1 := by
  let P (p : Dev × Option (List Byte)) := d.UpFrame accessParts p.1
  let Q (p : Dev × Option Nat) := d.UpFrame accessParts p.1
  let R (p : Dev × (Nat ⊕ Nat)) := d.UpFrame accessParts p.1
  match hd : r.wdata with
  | some _ =>
    exact d.complete_regs_write c hroute hd P Q (fun o v => (d.regWrite_upFrame c r.user o v).mono (by decide))
      (.refl _ d) (fun _ _ hp => hp) (fun p a hp => hp.leaves (Dev.busError_leaves _ c r.master r.id r.addr true a))
      ext mem vacant
  | none =>
    exact d.complete_regs_read c hroute hd P R (fun o => .of_leaves (d.regRead_leaves c r.user o))
      (.refl _ d) (fun _ _ hp => hp) (fun p a hp => hp.leaves (Dev.busError_leaves _ c r.master r.id r.addr false a))
      ext mem vacant

/-- A target completes a request. -/
theorem Dev.complete_upFrame (r : BusReq) (ext : List Byte) (mem : Nat) (vacant : Bool) :
    d.UpFrame accessParts (d.complete c r ext mem vacant).1 := by
  have h0 := Dev.UpFrame.refl accessParts d
  let P (p : Dev × Option (List Byte)) := d.UpFrame accessParts p.1
  cases hroute : busRoute r with
  | mem => exact (d.complete_memory c hroute ext mem vacant).mono (by decide)
  | err e =>
    unfold Dev.complete
    simp only [hroute]
    exact .of_leaves (d.busError_leaves c ..)
  | rom =>
    unfold Dev.complete
    simp only [hroute]
    exact h0
  | mram =>
    unfold Dev.complete
    simp only [hroute]
    exact ite_pred P h0 h0
  | trc =>
    unfold Dev.complete
    simp only [hroute]
    exact h0
  | regs => exact d.complete_regs c hroute ext mem vacant
  | xip n =>
    unfold Dev.complete
    simp only [hroute]
    exact ite_pred P h0 h0
  | ap =>
    unfold Dev.complete
    simp only [hroute]
    have h1 : d.UpFrame accessParts (if r.wdata.isNone then d.checkRead c mem else d) :=
      ite_pred (d.UpFrame _) ((d.checkRead_upFrame c mem).mono (by decide)) h0
    exact h1.leaves ((Dev.apBurst_leaves _ c r ext _ vacant).mono (by decide))

/-! ## The end of a response -/

theorem Dev.release2_leaves : d.Leaves l d.release2 := by
  unfold Dev.release2
  refine foldl_pred (d.Leaves l) _ (fun y r hy => ?_) _ ((Dev.Leaves.refl l d).core _ (by rfl) (by rfl))
  exact ite_pred (d.Leaves l) (hy.core _ (by rfl) (by rfl)) (hy.core _ (by rfl) (by rfl))

theorem Dev.busClose_leaves (p : Dev × Option (List Byte)) (master id : Nat) (r : BusReq) :
    p.1.Leaves [.collector] (Dev.busClose p c master id r) := by
  unfold Dev.busClose
  extract_lets k turns _ d1 d2 d3 d4
  have h1 : p.1.Leaves [.collector] d1 := (Dev.Leaves.refl _ p.1).core _ (by rfl) (by rfl)
  have h2 : p.1.Leaves [.collector] d2 := ite_pred (p.1.Leaves _) (h1.setPart 0x9300_04 _ rfl (by decide)) h1
  have h3 : p.1.Leaves [.collector] d3 := h2.emit _
  have h4 : p.1.Leaves [.collector] d4 := by
    dsimp only [d4]
    clear_value d3
    split
    · refine Dev.Leaves.core ?_ _ (by rfl) (by rfl)
      split
      · exact ite_pred (p.1.Leaves _) (h3.core _ (by rfl) (by rfl)) h3
      · exact h3
    · exact h3
  exact h4.trans (Dev.release2_leaves _)

theorem Dev.respond_upFrame (master id : Nat) (ext : List Byte) (mem : Nat) (vacant : Bool) :
    d.UpFrame accessParts (d.respond c master id ext mem vacant) := by
  unfold Dev.respond
  split
  · exact .refl _ d
  · exact (d.complete_upFrame c _ ext mem vacant).leaves ((Dev.busClose_leaves c _ master id _).mono (by decide))

/-! ## DMA bursts -/

theorem Dev.dmaError_leaves (n reason : Nat) : d.Leaves l (d.dmaError c n reason) :=
  ((Dev.Leaves.refl l d).modDma n _).raise c 16 n

theorem Dev.dmaAdvance_leaves (n m : Nat) : d.Leaves l (d.dmaAdvance c n m) := by
  unfold Dev.dmaAdvance
  extract_lets y z d1 stopped d2
  have h1 : d.Leaves l d1 := (Dev.Leaves.refl l d).modDma n _
  have h2 : d.Leaves l d2 := ite_pred (d.Leaves l) (h1.raise c 15 n) h1
  exact ite_pred (d.Leaves l) (ite_pred (d.Leaves l) (h2.modDma n _) (h2.modDma n _))
    (ite_pred (d.Leaves l) (h1.modDma n _) h1)

/-! ## The debug module -/

theorem Dev.csrSet_leaves (n v : Nat) : d.Leaves l (d.csrSet n v) := by
  have h0 := Dev.Leaves.refl l d
  let P := d.Leaves l
  unfold Dev.csrSet
  exact ite_pred P (h0.modDbg _) (ite_pred P (h0.modDbg _) (ite_pred P (ite_pred P (h0.modDbg _) h0)
    (ite_pred P (h0.modDbg _) (ite_pred P (h0.modDbg _) (ite_pred P h0 (h0.core _ (by rfl) (by rfl)))))))

theorem Dev.abstractCmd_leaves (w : Nat) (after : Option (List Nat)) : d.Leaves l (d.abstractCmd w after) := by
  let P := d.Leaves l
  have h0 := Dev.Leaves.refl l d
  unfold Dev.abstractCmd
  extract_lets regno g d1 r v d2 _
  have h1 : P d1 := h0.modDbg _
  have herr : ∀ {y : Dev}, P y → ∀ e, P (y.cmdErr e) := fun hy e => hy.modDbg _
  have h2 : P d2 := ite_pred P h1 (ite_pred P (ite_pred P (h1.trans (d1.csrSet_leaves regno g.data0))
    (ite_pred P h1 (h1.core _ (by rfl) (by rfl)))) (h1.modDbg _))
  refine ite_pred P h0 (ite_pred P (herr h1 2) (ite_pred P (herr h1 4) (ite_pred P (herr h1 2) (ite_pred P (herr h1 2)
    (ite_pred P h2 ?_)))))
  split
  · exact h2.core _ (by rfl) (by rfl)
  · exact herr h2 3

theorem Dev.sbAccess_upFrame (write : Bool) (size addr data : Nat) (ext : List Byte) (mem : Nat) (vacant : Bool) :
    d.UpFrame accessParts (d.sbAccess c write size addr data ext mem vacant) := by
  have h0 := Dev.Leaves.refl accessParts d
  let P := d.UpFrame accessParts
  unfold Dev.sbAccess
  refine ite_pred P (.of_leaves (h0.modDbg _)) (ite_pred P (.of_leaves (h0.modDbg _)) ?_)
  extract_lets r p
  have h1 : P p.1 := d.complete_upFrame c r ext mem vacant
  split
  · exact h1.leaves (((Dev.Leaves.refl _ p.1).modDbg _).emit _)
  · exact h1.leaves (Dev.Leaves.emit (ite_pred (p.1.Leaves _) (.refl _ p.1) ((Dev.Leaves.refl _ p.1).modDbg _)) _)

theorem Dev.wdThaw_leaves : d.Leaves [.watchdogs] (d.wdThaw c) := by
  unfold Dev.wdThaw
  exact ((Dev.Leaves.refl [.watchdogs] d).modWd 0 _ (by decide)).modWd 1 _ (by decide)

theorem Dev.unhalt_leaves : d.Leaves [.watchdogs] (d.unhalt c) := by
  unfold Dev.unhalt
  extract_lets pc _ d1 _ _ d2
  have h1 : d.Leaves [.watchdogs] d1 := (Dev.Leaves.refl _ d).core _ (by rfl) (by rfl)
  have h2 : d.Leaves [.watchdogs] d2 := (h1.trans (d1.wdThaw_leaves c)).unparted _ _ _ _
  exact (h2.trace (d2.trc_eta _)).trace (Dev.trcSync_eta _ c 4)

theorem Dev.setIr_leaves (ir : Nat) (h : d.rst.stage = .up) : d.Leaves l (d.setIr ir) := by
  have hst : (decide ((d.modDbg fun g => { g with ir := ir, extest := false }).rst.stage = .inReset)) = false :=
    decide_eq_false fun h' => nomatch h.symm.trans h'
  unfold Dev.setIr
  simp only [hst, Bool.and_false, Bool.false_eq_true, if_false]
  exact (Dev.Leaves.refl l d).modDbg _

theorem Dev.dmWrite_upFrame (a v pc priv : Nat) (x : List Nat) (ext : List Byte) (after : Option (List Nat)) :
    d.UpFrame accessParts (d.dmWrite c a v pc priv x ext after) := by
  have h0 := Dev.Leaves.refl accessParts d
  let P := d.UpFrame accessParts
  have hdbg : ∀ f, P (d.modDbg f) := fun f => .of_leaves (h0.modDbg f)
  unfold Dev.dmWrite
  refine ite_pred P (hdbg _) (ite_pred P (hdbg _) (ite_pred P ?control (ite_pred P (hdbg _) (ite_pred P ?abstract
    (ite_pred P (hdbg _) (ite_pred P (hdbg _) (ite_pred P ?address (ite_pred P ?data (.refl _ d)))))))))
  case control =>
    extract_lets d1 d2
    have h1 : d.Leaves accessParts d1 := h0.modDbg _
    have h2 : P d2 := .of_leaves (ite_pred (d.Leaves _) (h1.trans ((d1.halt_leaves c 3 pc priv x).mono (by decide)))
      (ite_pred (d.Leaves _) (h1.trans ((d1.unhalt_leaves c).mono (by decide))) h1))
    exact ite_pred P (.of_asks (List.cons_ne_nil _ _)) h2
  case abstract => exact .of_leaves (d.abstractCmd_leaves v after)
  case address =>
    have h1 := hdbg fun g => { g with sbaddr := v }
    exact ite_pred P (Dev.UpFrame.trans h1 (Dev.sbAccess_upFrame _ c false (2 ^ bits d.core.dbg.sbcs 17 3) v 0 ext 0 false)) h1
  case data =>
    have h1 := Dev.UpFrame.trans (hdbg fun g => { g with sbdata := v })
      (Dev.sbAccess_upFrame _ c true (2 ^ bits d.core.dbg.sbcs 17 3) d.core.dbg.sbaddr v ext 0 false)
    exact ite_pred P (h1.leaves ((Dev.Leaves.refl _ _).modDbg _)) h1

end

end Sys2Proof.Machine


/-!
SUPPORT. The frame of the control core and debug commands (ch 12), and the settling of O57.
-/
namespace Sys2Proof.Machine

variable {l : List Part} {d e x y : Dev} {c : Ctx} {s t : State} {dt : Nat}

/-! ## A write request of one value -/

/-- What the effect of given bytes on an object leaves as it was, from any device where the resets stand as `d`'s. -/
def Dev.BytesKeep (d : Dev) (l : List Part) (c : Ctx) (k : Nat) (b : List Byte) (x : Obs) : Prop :=
  ∀ e : Dev, e.rst = d.rst → e.Keeps l (e.acceptBytes c k b x)

namespace Dev.BytesKeep

variable {k : Nat} {b : List Byte} {x : Obs}

theorem mailPut (hb : d.BytesKeep l c k b x) (he : e.rst = d.rst) (ty : Nat) : e.Keeps l (e.mailPut c k ty b x) := by
  unfold Dev.mailPut
  cases firstCode (e.writeCodes c k ty b false) with
  | some code => exact e.mailReturn_keeps code
  | none => exact (e.mailReturn_keeps 0).trans (hb (e.mailReturn 0) he)

theorem writeReq (hb : d.BytesKeep l c k b x) (he : e.rst = d.rst) (hl : .links ∈ l) {o : Org} (ho : e.Reaches o.path)
    (id : Nat) (ty : Ty) (hk : k < 2 ^ 24) (hlen : b.length < 256) :
    e.Keeps l (e.writeReq c o id (reqData k ty.code b) x) := by
  have ha (m : Msg) := e.answer_answerOf c o id (reqData k ty.code b) m ho
  unfold Dev.writeReq
  extract_lets h b' short
  have hh : h = ⟨0, ty.code, k / 256, k % 256, b.length⟩ := parseHdr_reqData ty b hk hlen
  have hb' : b' = b := by
    show ((reqData k ty.code b).drop 8).take h.len = b
    rw [reqData, drop_hdr_bytes, hh, List.take_length]
  have hkey : h.key = k := reqData_key ty b hk hlen
  rw [hkey, hb']
  split
  · exact (ha _).keeps hl
  · exact ((ha _).keeps hl).trans (hb _ ((ha _).rst.trans he))

theorem serveFrame (hb : d.BytesKeep l c k b x) (he : e.rst = d.rst) (hl : .links ∈ l) {o : Org} (ho : e.Reaches o.path)
    (id : Nat) (ty : Ty) (hk : k < 2 ^ 24) (hlen : b.length < 256) :
    e.Keeps l (e.serveFrame c o 0x03 id (reqData k ty.code b) x) := by
  unfold Dev.serveFrame
  cases h : e.stored c o id (reqData k ty.code b) with
  | some a => exact (e.again_answerOf c a (by rw [Dev.stored_path h]; exact ho)).keeps hl
  | none => exact hb.writeReq he hl ho id ty hk hlen

/-- A request that finds none waiting: it waits, or it is served now. -/
theorem arrive {w : Wait} (hq : e.itp.waiting = []) (hs : ∀ n, { e with itp := { e.itp with turn := n } }.Keeps l
      ({ e with itp := { e.itp with turn := n } }.serveJob c w)) : e.Keeps l (e.arrive c w) := by
  have ht : e.Keeps l (e.turnFrom w.org.path) := .itp e e.itp.waiting _ e.itp.hist e.itp.resp e.itp.hostQ
  rw [Dev.arrive_first hq]
  exact ite_pred (e.Keeps l) (.itp e _ e.itp.turn e.itp.hist e.itp.resp e.itp.hostQ) (ht.trans (hs _))

/-- The frame of a write request of one value, a segmented one too: beside what its effect may change, the ports and the
power state. -/
theorem request {base n : Nat} {r : Obj} {v : Val} (hb : d.BytesKeep l c k (encodeVal r.ty v) x)
    (hk : lookup false k = .row base n r) (hk24 : k < 2 ^ 24) (hl : .links ∈ l) (hp : .power ∈ l)
    (hq : d.itp.waiting = []) (o : Org) : d.Keeps l (d.request c o k v x) := by
  by_cases h : d.hears o = true
  · have h1 : d.Keeps l (d.leaveDoze c) := d.leaveDoze_keeps c hp
    have hr : (d.leaveDoze c).rst = d.rst := (d.leaveDoze_awake c).rst
    have hq1 : (d.leaveDoze c).itp.waiting = [] := by
      obtain ⟨_, _, e⟩ := (d.leaveDoze_awake c).itp
      rw [e]
      exact hq
    have ho := Dev.reaches_of_hears c h
    unfold Dev.request
    simp only [h, hk, Bool.not_true, Bool.false_eq_true, if_false]
    generalize d.leaveDoze c = e at h1 hr hq1 ho
    refine h1.trans ?_
    by_cases hm : o.path = .mailbox
    · rw [if_pos hm]
      exact arrive hq1 fun n => ite_pred (Keeps l _) (.refl l _) (hb.mailPut (e := { e with itp := { e.itp with turn := n } }) hr _)
    rw [if_neg hm]
    by_cases hlong : 56 < (encodeVal r.ty v).length
    · rw [if_pos hlong]
      have hs (m : Msg) : e.AnswerOf (e.sendTo c o.path m) := e.sendTo_answerOf c o.path m ho
      split
      · exact (hs _).keeps hl
      · exact ((hs _).keeps hl).trans (hb _ ((hs _).rst.trans hr))
    · simp only [hlong, if_false]
      exact arrive hq1 fun n => ite_pred (Keeps l _) (.refl l _)
        (hb.serveFrame (e := { e with itp := { e.itp with turn := n } }) hr hl ho _ r.ty hk24 (by omega))
  · unfold Dev.request
    rw [if_pos (by simpa using h)]
    exact .refl l d

end Dev.BytesKeep

end Sys2Proof.Machine


/-!
SUPPORT. The effects of the control core and debug commands (ch 12) on the parts of the state, and the settling of O57 and
O58.
-/
namespace Sys2Proof.Machine

variable {l : List Part} {d e x y : Dev} {s t : State} {dt : Nat}

/-! ## Requests of the bus matrix -/

section

variable (d) (c : Ctx)

theorem Dev.offer_leaves (r : BusReq) : d.Leaves l (d.offer r) := by
  unfold Dev.offer
  exact ite_pred (d.Leaves l) ((Dev.Leaves.refl l d).core _ (by rfl) (by rfl)) ((Dev.Leaves.refl l d).core _ (by rfl) (by rfl))

/-- The tightly coupled memories are memories. -/
theorem busRoute_of_tcm {r : BusReq} (h : tgtNo r = 1 ∨ tgtNo r = 2) : busRoute r = .mem := by
  unfold tgtNo at h
  split at h <;> first | assumption | omega

theorem busRequest_keeps {master id addr len mem : Nat} {w : Option (List Byte)} {user amo parity : Bool}
    (h : RunsUp (.busRequest dt master id addr len w user amo parity mem) s t) :
    s.dev.Keeps [.links, .memory, .app, .collector] t.dev := by
  refine State.act_upFrame h (show _ = execBusRequest dt master id addr len w user amo parity mem s from rfl) (by decide) ?_
  have h0 := Dev.Leaves.refl [.links, .memory, .app, .collector] s.entry
  let P := s.entry.UpFrame [.links, .memory, .app, .collector]
  extract_lets w' bad r _ d1 hit p d2
  refine ite_pred P (.of_leaves h0) (ite_pred P (.of_leaves (h0.emit _)) ?_)
  have h1 : s.entry.Leaves [.links, .memory, .app, .collector] d1 := ite_pred (s.entry.Leaves _) (h0.core _ (by rfl) (by rfl)) h0
  clear_value d1 hit
  split
  · exact .of_leaves ((h1.core _ (by rfl) (by rfl)).emit _)
  by_cases hm : (decide (master ≤ 1) && (decide (tgtNo r = 1) || decide (tgtNo r = 2))) = true
  · rw [if_pos hm]
    have hroute : busRoute r = .mem := busRoute_of_tcm (by simp at hm; exact hm.2)
    have hp : s.entry.UpFrame _ p.1 := Dev.UpFrame.trans (.of_leaves h1)
      ((d1.complete_memory (s.ctx dt) hroute [] mem true).mono (by decide))
    have h2 : P d2 := hp.leaves ((Dev.Leaves.refl _ p.1).emit _)
    clear_value p d2
    split
    · exact h2.leaves ((Dev.Leaves.refl _ d2).core _ (by rfl) (by rfl))
    · exact h2
  · rw [if_neg hm]
    exact .of_leaves (h1.trans (d1.offer_leaves r))

end

theorem busResponse_keeps {master id mem : Nat} {ext : List Byte} {vacant : Bool}
    (h : RunsUp (.busResponse dt master id ext mem vacant) s t) : s.dev.Keeps (.links :: accessParts) t.dev :=
  State.act_upFrame h (exec_busResponse ..) (by decide)
    ((Dev.respond_upFrame _ _ master id ext mem vacant).mono (by decide))

theorem dmaBurst_keeps {err beat : Nat} {ext : List Byte} {vacant : Bool}
    (h : RunsUp (.dmaBurst dt ext err beat vacant) s t) : s.dev.Keeps (.links :: accessParts) t.dev := by
  refine State.act_upFrame h (show _ = execDmaBurst dt ext err beat vacant s from rfl) (by decide) ?_
  generalize s.ctx dt = c
  have h0 := Dev.Leaves.refl (.links :: accessParts) s.entry
  let P := s.entry.UpFrame (.links :: accessParts)
  refine ite_pred P (.of_leaves h0) ?_
  split
  · exact .of_leaves h0
  next n _ =>
  extract_lets _ d1 x ld
  have h1 : s.entry.Leaves (.links :: accessParts) d1 := h0.core _ (by rfl) (by rfl)
  refine ite_pred P (.of_leaves (h1.trans (d1.dmaError_leaves c n 3))) ?_
  clear_value d1 ld
  split
  · exact .of_leaves (h1.trans (d1.dmaError_leaves c n 4))
  next x _ =>
  extract_lets d2 m beat srcLen rd
  have h2 : s.entry.Leaves (.links :: accessParts) d2 := h1.modDma n _
  have h3 : P rd.1 := Dev.UpFrame.trans (.of_leaves h2) ((d2.complete_upFrame c _ ext _ true).mono (by decide))
  clear_value d2 rd
  split
  · exact h3.leaves (Dev.dmaError_leaves _ c n 1)
  next got _ =>
  extract_lets got put wr
  have h4 : P wr.1 := h3.trans ((rd.1.complete_upFrame c _ [] _ vacant).mono (by decide))
  clear_value wr
  split
  · exact h4.leaves (wr.1.dmaAdvance_leaves c n m)
  · exact h4.leaves (wr.1.dmaError_leaves c n 2)

/-! ## Registers -/

/-- What a write of a core-local register may change, with the ports for the frames of it. -/
def registerParts : List Part := [.links, .formes, .app, .watchdogs, .collector]

theorem registerWrite_upFrame (d : Dev) (c : Ctx) (user : Bool) (o v : Nat) : d.UpFrame registerParts (d.coreWrite c user o v) :=
  d.coreWrite_upFrame c user o v ((d.regWrite_upFrame c user o v).mono (by decide))

/-- The frame of a command that is the write of a register. -/
theorem register_keeps {i : Instr} {b user : Bool} {o v : Nat} (h : RunsUp i s t)
    (hx : exec i s = s.actOn b dt fun c d => d.coreWrite c user o v) : s.dev.Keeps registerParts t.dev :=
  State.actOn_upFrame h hx (by decide) fun _ => registerWrite_upFrame _ _ user o v

theorem registerWrite_keeps {o v : Nat} {user : Bool} (h : RunsUp (.registerWrite dt o v user) s t) :
    s.dev.Keeps registerParts t.dev :=
  State.act_upFrame h (show _ = execRegisterWrite dt o v user s from rfl) (by decide)
    (ite_pred (s.entry.UpFrame _) (registerWrite_upFrame _ _ user o _) (.refl _ _))

theorem row_A100 (a sub : Nat) : Fam.row ⟨0xA100, 8, 8, tblA100⟩ a sub = tblA100.find? fun o => o.sub = sub := by
  unfold Fam.row
  rw [if_pos (show subPresent 0xA100 a sub = true from rfl)]
  split
  · next h => exact h.symm
  · next h => exact h.symm

/-- The object of an aperture window that a key names, if any. -/
theorem lookup_apK {a sub : Nat} (ha : a < 8) (hs : sub < 256) :
    (∃ r, (∀ b, lookup b (apK a sub) = .row 0xA100 a r) ∧ r.acc ≠ .rws ∧ r.sub = sub) ∨
      ∀ n m r, lookup false (apK a sub) ≠ .row n m r := by
  have hfam (b : Bool) : famOf b (0xA100 + a) = some (⟨0xA100, 8, 8, tblA100⟩, a) := by
    interval_cases a <;> cases b <;> rfl
  have hacc : ∀ r ∈ tblA100, r.acc ≠ .rws := by decide
  by_cases h0 : sub = 0
  · refine .inr fun n m r h => ?_
    unfold lookup at h
    rw [apK, key_div _ _ _ hs, key_mod _ _ _ hs, hfam, h0] at h
    exact nomatch h
  cases hr : tblA100.find? fun o => o.sub = sub with
  | some r =>
    exact .inl ⟨r, fun b => lookup_of_famOf (f := ⟨0xA100, 8, 8, tblA100⟩) (hfam b) h0 hs ((row_A100 a sub).trans hr),
      hacc r (List.mem_of_find?_eq_some hr), by simpa using List.find?_some hr⟩
  | none =>
    refine .inr fun n m r h => ?_
    unfold lookup at h
    rw [apK, key_div _ _ _ hs, key_mod _ _ _ hs, hfam] at h
    simp only [h0, if_false, row_A100, hr] at h
    exact nomatch h

/-- A request to what is no object does no more than wake the device. -/
theorem Dev.request_none_leaves (d : Dev) (c : Ctx) (o : Org) {k : Nat} (v : Val) (x : Obs)
    (hk : ∀ n m r, lookup false k ≠ .row n m r) (hp : .power ∈ l) : d.Leaves l (d.request c o k v x) := by
  have h1 : d.Leaves l (d.leaveDoze c) := ⟨d.leaveDoze_keeps c hp, (d.leaveDoze_awake c).rst⟩
  unfold Dev.request
  refine ite_pred (d.Leaves l) (.refl _ d) ?_
  dsimp only
  split
  · next h => exact absurd h (hk _ _ _)
  · exact h1

theorem apwObject_keeps {o : Org} {a sub v : Nat} {user : Bool} (h : RunsUp (.apwCtl dt (some o) a sub v user) s t) :
    s.dev.Keeps [.links, .app, .power] t.dev := by
  have hx : exec (.apwCtl dt (some o) a sub v user) s =
      s.actOn (a < 8) dt fun c d => d.request c o (keyAt 16 sub (apK a sub)) (.num v) Obs.quiet := rfl
  have hn := State.actOn_eq_next (hx.symm.trans h.2.2.2.1)
  have ha : a < 8 := of_decide_eq_true hn.1
  have hact := hx.trans (State.actOn_act hn.1)
  have hnone (hk : ∀ n m r, lookup false (keyAt 16 sub (apK a sub)) ≠ .row n m r) :
      s.dev.Keeps [.links, .app, .power] t.dev :=
    State.act_upFrame h hact (by decide) (.of_leaves (Dev.request_none_leaves _ _ o (.num v) _ hk (by decide)))
  by_cases hsub : sub < 16
  · rw [keyAt_of_lt _ hsub] at hact hnone
    obtain ⟨r, hk, hacc, hr⟩ | hk := lookup_apK ha (sub := sub) (by omega)
    · refine frame_of_write h hact hk (by unfold apK key; omega) hacc (by decide) (by decide) fun d w => ?_
      rw [hr]
      exact ((Dev.Leaves.refl _ d).setAp a sub w (by omega) (by decide)).trans (Dev.apApply_leaves _ _ a)
    · exact hnone hk
  · exact hnone (by rw [show keyAt 16 sub (apK a sub) = 0 from if_neg hsub]; exact fun n m r h => nomatch h)

theorem apwCtl_keeps {o : Option Org} {a sub v : Nat} {user : Bool} (h : RunsUp (.apwCtl dt o a sub v user) s t) :
    s.dev.Keeps (.power :: registerParts) t.dev := by
  cases o with
  | some o => exact (apwObject_keeps h).mono (by decide)
  | none =>
    exact (register_keeps h (b := a < 8) (o := 0x5000 + 0x10 * a + sub) (v := v) (user := user) rfl).mono (by decide)

theorem timer_keeps {n : Nat} (h : RunsUp (.timer dt n) s t) : s.dev.Keeps [] t.dev :=
  State.actOn_upFrame h (show _ = execTimer dt n s from rfl) (by decide) fun _ =>
    .of_leaves (ite_pred (s.entry.Leaves []) (((Dev.Leaves.refl _ _).core _ (by rfl) (by rfl)).raise _ _ _) (.refl _ _))

theorem tmrMtimelo_keeps (h : RunsUp (.tmrMtimelo dt) s t) : s.dev.Keeps [] t.dev :=
  State.act_upFrame h (show _ = execTmrMtimelo dt s from rfl) (by decide)
    (.of_leaves (ite_pred (s.entry.Leaves []) (((Dev.Leaves.refl _ _).core _ (by rfl) (by rfl)).emit _) (.refl _ _)))

/-! ## The trace -/

theorem Dev.trcFlow_eta (d : Dev) (f : Flow) : d.TraceOf (d.trcFlow f) := by
  unfold Dev.trcFlow
  refine ite_pred d.TraceOf ⟨d.trace, rfl⟩ ?_
  cases f with
  | branch b => exact ⟨_, rfl⟩
  | target a =>
    obtain ⟨_, e⟩ := d.trc_eta
      ([byte (0x30 + if a / 2 ^ 8 = d.trace.lastAddr / 2 ^ 8 then 1 else if a / 2 ^ 16 = d.trace.lastAddr / 2 ^ 16 then 2
        else if a / 2 ^ 24 = d.trace.lastAddr / 2 ^ 24 then 3 else 4)] ++
        le (if a / 2 ^ 8 = d.trace.lastAddr / 2 ^ 8 then 1 else if a / 2 ^ 16 = d.trace.lastAddr / 2 ^ 16 then 2
        else if a / 2 ^ 24 = d.trace.lastAddr / 2 ^ 24 then 3 else 4) a)
    dsimp only
    rw [e]
    exact ⟨_, rfl⟩

theorem traceSyncInterval_keeps {flow : List Flow} {pc : Nat} (h : RunsUp (.traceSyncInterval dt flow pc) s t) :
    s.dev.Keeps [] t.dev := by
  refine State.act_upFrame h (show _ = execTraceSyncInterval dt flow pc s from rfl) (by decide) (.of_leaves ?_)
  extract_lets d1
  have h1 : s.entry.Leaves [] d1 := ite_pred (s.entry.Leaves [])
    (.foldl (fun b f _ => (b.trcFlow_eta f).leaves) s.entry) (.refl _ _)
  exact ite_pred (s.entry.Leaves []) ((h1.core _ (by rfl) (by rfl)).trace (Dev.trcSync_eta _ _ 0)) h1

theorem traceOverflow_keeps {n pc : Nat} (h : RunsUp (.traceOverflow dt n pc) s t) : s.dev.Keeps [] t.dev := by
  refine State.act_upFrame h (show _ = execTraceOverflow dt n pc s from rfl) (by decide) (.of_leaves ?_)
  refine ite_pred (s.entry.Leaves []) ?_ (.refl _ _)
  extract_lets d1 _ d2
  have h1 : s.entry.Leaves [] d1 := (s.entry.trc_eta _).leaves
  have h2 : s.entry.Leaves [] d2 := h1.unparted _ _ _ _
  exact (h2.core _ (by rfl) (by rfl)).trace (Dev.trcSync_eta _ _ 3)

theorem traceClear_keeps {o : Org} (h : RunsUp (.traceClear dt o) s t) : s.dev.Keeps [.links, .app, .power] t.dev := by
  obtain ⟨r, hk, hacc, hsub⟩ : ∃ r, (∀ b, lookup b 0xA200_08 = .row 0xA200 0 r) ∧ r.acc ≠ .rws ∧ r.sub = 8 :=
    ⟨_, fun b => by cases b <;> rfl, by decide, rfl⟩
  refine frame_of_write h (show _ = execTraceClear dt o s from rfl) hk (by decide) hacc (by decide) (by decide) fun d v => ?_
  rw [hsub]
  let t : Trace := { sleeping := d.trace.sleeping, halted := d.trace.halted, lastAddr := d.trace.lastAddr }
  exact ((Dev.Leaves.refl _ d).unparted t d.evc d.log d.out).trace (Dev.trc_eta _ _)

/-! ## The application -/

theorem Dev.ecall_leaves (d : Dev) (pc : Nat) : d.Leaves l (d.ecall pc) :=
  Dev.Leaves.core (d.trcTrap_eta false 8 (pc % 2 ^ 32)).leaves _ (by rfl) (by rfl)

theorem returnFromInterrupt_keeps {pc : Nat} (h : RunsUp (.returnFromInterrupt dt pc) s t) : s.dev.Keeps [] t.dev := by
  refine State.act_upFrame h (show _ = execReturnFromInterrupt dt pc s from rfl) (by decide) (.of_leaves ?_)
  have h1 := s.entry.ecall_leaves (l := []) pc
  refine ite_pred (s.entry.Leaves []) (.refl _ _) ?_
  dsimp only
  split
  · exact h1
  · exact h1.core _ (by rfl) (by rfl)

theorem waitForInterrupt_keeps {pc : Nat} (h : RunsUp (.waitForInterrupt dt pc) s t) : s.dev.Keeps [] t.dev :=
  State.act_upFrame h (show _ = execWaitForInterrupt dt pc s from rfl) (by decide)
    (.of_leaves (ite_pred (s.entry.Leaves []) (.refl _ _) ((s.entry.ecall_leaves pc).core _ (by rfl) (by rfl))))

theorem unsupportedService_keeps {a7 pc : Nat} (h : RunsUp (.unsupportedService dt a7 pc) s t) : s.dev.Keeps [] t.dev :=
  State.act_upFrame h (show _ = execUnsupportedService dt a7 pc s from rfl) (by decide)
    (.of_leaves (ite_pred (s.entry.Leaves []) (.refl _ _) (((s.entry.ecall_leaves pc).core _ (by rfl) (by rfl)).emit _)))

theorem Dev.appException_asks (d : Dev) (c : Ctx) (cause epc tval : Nat) : d.UpFrame l (d.appException c cause epc tval) :=
  .of_asks (List.cons_ne_nil _ _)

theorem applicationException_keeps {cause epc tval : Nat} (h : RunsUp (.applicationException dt cause epc tval) s t) :
    s.dev.Keeps [.app] t.dev :=
  State.act_upFrame h (show _ = execApplicationException dt cause epc tval s from rfl) (by decide)
    (ite_pred (s.entry.UpFrame _) (s.entry.appException_asks _ cause epc tval) (.refl _ _))

theorem agentException_keeps (h : RunsUp (.agentException dt) s t) : s.dev.Keeps [.links, .formes, .collector] t.dev :=
  State.act_upFrame h (show _ = execAgentException dt s from rfl) (by decide)
    (ite_pred (s.entry.UpFrame _) (s.entry.detect_upFrame _ 0x0E 0 (by decide)) (.refl _ _))

theorem Dev.stopApp_leaves (d : Dev) : d.Leaves [.app] d.stopApp := by
  have h0 := Dev.Leaves.refl [.app] d
  unfold Dev.stopApp
  exact Dev.Leaves.core (ite_pred (d.Leaves _) (h0.setPart 0xA000_05 _ rfl (by decide)) h0) _ (by rfl) (by rfl)

theorem Dev.startApp_leaves (d : Dev) (c : Ctx) (img img2 : Option (List Byte)) :
    d.Leaves [.memory, .app, .collector] (d.startApp c img img2) := by
  have h0 := Dev.Leaves.refl [.memory, .app, .collector] d
  let P := d.Leaves [.memory, .app, .collector]
  have hfailed (reason : Nat) : P (d.bootFailed c reason) :=
    ((h0.setPart 0xA000_05 _ rfl (by decide)).setPart 0xA000_0D _ rfl (by decide)).raise c 19 reason
  have henter {y : Dev} (hy : P y) (src : Nat) (x : Image) : P ((y.setN 0xA000_0D 0).enterImage c src x) :=
    Dev.Leaves.memory ((hy.setPart 0xA000_0D _ rfl (by decide)).setPart 0xA000_05 _ rfl (by decide)) _ (by decide)
  have hfixed : P d.transient := h0.setPart 0x9300_04 _ rfl (by decide)
  unfold Dev.startApp
  extract_lets src slot try1
  refine ite_pred P h0 (ite_pred P (hfailed 1) ?_)
  split
  · exact henter h0 _ _
  · split
    · exact henter hfixed _ _
    · exact hfailed _

theorem Dev.startAppCmd_leaves (d : Dev) (c : Ctx) (img img2 : Option (List Byte)) :
    d.Leaves [.memory, .app, .watchdogs, .collector] (d.startAppCmd c img img2) := by
  have h0 := Dev.Leaves.refl [.memory, .app, .watchdogs, .collector] d
  have h1 := h0.core { d.core with noStart := false, appCause := false } rfl rfl
  exact (h1.modWd 1 (fun w => { w with restartT := none }) (by decide)).trans
    ((Dev.startApp_leaves _ c img img2).mono (by decide))

theorem lookup_A000_04 : ∃ r, (∀ b, lookup b 0xA000_04 = .row 0xA000 0 r) ∧ r.acc ≠ .rws ∧ r.sub = 4 ∧ r.ty = .u8 :=
  ⟨_, fun b => by cases b <;> rfl, by decide, rfl, rfl⟩

theorem applicationStart_keeps {o : Org} {x : Obs} (h : RunsUp (.applicationStart dt o x) s t) :
    s.dev.Keeps [.links, .formes, .memory, .app, .watchdogs, .collector, .power] t.dev := by
  obtain ⟨r, hk, hacc, hsub, -⟩ := lookup_A000_04
  refine frame_of_write h (show _ = execApplicationStart dt o x s from rfl) hk (by decide) hacc (by decide) (by decide) fun d v => ?_
  rw [hsub]
  exact ite_pred (d.Leaves _) ((d.startAppCmd_leaves _ _ _).mono (by decide)) (d.stopApp_leaves.mono (by decide))

/-- The frame of a command that is a write request of one value to an object without a staged value, from its effect. -/
theorem frame_of_value {i : Instr} {o : Org} {k base n : Nat} {r : Obj} {v : Val} {x : Obs} (h : RunsUp i s t)
    (hx : exec i s = s.act dt fun c d => d.request c o k v x) (hk : ∀ b, lookup b k = .row base n r) (hk24 : k < 2 ^ 24)
    (hacc : r.acc ≠ .rws) (hl : .links ∈ l) (hp : .power ∈ l) (hw : ∀ (d : Dev) (w : Val),
      decodeVal r.ty (encodeVal r.ty v) = some w → d.Leaves l (d.writeObj (s.ctx dt) base n r.sub w x)) :
    s.dev.Keeps l t.dev := by
  obtain ⟨⟨-, ha, hq⟩, he, -, ht, hup⟩ := h
  refine State.act_keeps he (hx.symm.trans ht) hup (fun _ => hl) fun _ => ?_
  refine Dev.BytesKeep.request (d := s.entry) (fun e hrst => ?_) (hk false) hk24 hl hp hq o
  cases hv : decodeVal r.ty (encodeVal r.ty v) with
  | none =>
    rw [e.acceptBytes_none x (hk _) hv]
    exact .refl l e
  | some w =>
    have hleaves := hw e w hv
    rw [e.acceptBytes_some x (hk _) hv, Dev.applyWrite_direct hacc (by rw [hleaves.rst, hrst]; exact ha)]
    exact hleaves.keeps

theorem applicationStop_keeps {o : Org} (h : RunsUp (.applicationStop dt o) s t) :
    s.dev.Keeps [.links, .app, .power] t.dev := by
  obtain ⟨r, hk, hacc, hsub, hty⟩ := lookup_A000_04
  refine frame_of_value (v := .num 2) h (show _ = execApplicationStop dt o s from rfl) hk (by decide) hacc (by decide) (by decide) fun d w hw => ?_
  rw [hty] at hw
  obtain rfl : .num 2 = w := Option.some.inj hw
  rw [hsub]
  exact d.stopApp_leaves.mono (by decide)

theorem image_keeps {o : Org} {b : List Byte} (h : RunsUp (.image dt o b) s t) :
    s.dev.Keeps [.links, .app, .power] t.dev := by
  obtain ⟨r, hk, hacc, hsub⟩ : ∃ r, (∀ b, lookup b 0xA000_06 = .row 0xA000 0 r) ∧ r.acc ≠ .rws ∧ r.sub = 6 :=
    ⟨_, fun b => by cases b <;> rfl, by decide, rfl⟩
  refine frame_of_value h (show _ = execImage dt o b s from rfl) hk (by decide) hacc (by decide) (by decide) fun d w _ => ?_
  rw [hsub]
  exact (Dev.Leaves.refl _ d).setPart 0xA000_06 w rfl (by decide)

/-! ## Debug -/

theorem haltreq_keeps {pc priv : Nat} {x : List Nat} (h : RunsUp (.haltreq dt pc priv x) s t) :
    s.dev.Keeps [.watchdogs] t.dev :=
  State.act_upFrame h (show _ = execHaltreq dt pc priv x s from rfl) (by decide)
    (.of_leaves (ite_pred (s.entry.Leaves _) (s.entry.halt_leaves _ 3 pc priv x) (.refl _ _)))

theorem resume_keeps (h : RunsUp (.resume dt) s t) : s.dev.Keeps [.watchdogs] t.dev :=
  State.act_upFrame h (show _ = execResume dt s from rfl) (by decide)
    (.of_leaves (ite_pred (s.entry.Leaves _) (s.entry.unhalt_leaves _) (.refl _ _)))

theorem singleStep_keeps {pc priv : Nat} {x : List Nat} (h : RunsUp (.singleStep dt pc priv x) s t) :
    s.dev.Keeps [.watchdogs] t.dev :=
  State.act_upFrame h (show _ = execSingleStep dt pc priv x s from rfl) (by decide)
    (.of_leaves (ite_pred (s.entry.Leaves _) ((s.entry.unhalt_leaves _).trans (Dev.halt_leaves _ _ 4 pc priv x)) (.refl _ _)))

theorem trigger_keeps {n kind addr data pc priv : Nat} {x : List Nat}
    (h : RunsUp (.trigger dt n kind addr data pc priv x) s t) : s.dev.Keeps [.app, .watchdogs] t.dev := by
  refine State.act_upFrame h (show _ = execTrigger dt n kind addr data pc priv x s from rfl) (by decide) ?_
  let P := s.entry.UpFrame [.app, .watchdogs]
  refine ite_pred P ?_ (.refl _ _)
  extract_lets act d1
  have h1 : s.entry.Leaves [.app, .watchdogs] d1 := (Dev.Leaves.refl _ _).modDbg _
  refine ite_pred P (ite_pred P ?_ (.of_leaves h1)) (ite_pred P (.of_asks (List.cons_ne_nil _ _)) (.of_leaves h1))
  exact .of_leaves (h1.trans ((d1.halt_leaves _ 2 pc priv x).mono (by decide)))

theorem abstractCommand_keeps {w : Nat} {after : Option (List Nat)} (h : RunsUp (.abstractCommand dt w after) s t) :
    s.dev.Keeps [] t.dev :=
  State.act_upFrame h (show _ = execAbstractCommand dt w after s from rfl) (by decide)
    (.of_leaves (ite_pred (s.entry.Leaves _) (s.entry.abstractCmd_leaves w after) (.refl _ _)))

theorem systemBusAccess_keeps {write vacant : Bool} {size addr data mem : Nat} {ext : List Byte}
    (h : RunsUp (.systemBusAccess dt write size addr data ext mem vacant) s t) : s.dev.Keeps (.links :: accessParts) t.dev :=
  State.act_upFrame h (show _ = execSystemBusAccess dt write size addr data ext mem vacant s from rfl) (by decide)
    (ite_pred (s.entry.UpFrame _) ((s.entry.sbAccess_upFrame _ write size addr data ext mem vacant).mono (by decide)) (.refl _ _))

theorem setIr_leaves_of_runsUp {i : Instr} (h : RunsUp i s t) (ir : Nat) : s.entry.Leaves l (s.entry.setIr ir) :=
  s.entry.setIr_leaves ir h.2.2.1

theorem idcode_keeps (h : RunsUp (.idcode dt) s t) : s.dev.Keeps [] t.dev :=
  State.act_upFrame h (show _ = execIdcode dt s from rfl) (by decide)
    (.of_leaves (ite_pred (s.entry.Leaves _) ((setIr_leaves_of_runsUp h 1).emit _) (.refl _ _)))

theorem dtmcs_keeps {w : Nat} (h : RunsUp (.dtmcs dt w) s t) : s.dev.Keeps [] t.dev := by
  refine State.act_upFrame h (show _ = execDtmcs dt w s from rfl) (by decide) (.of_leaves ?_)
  have h1 := setIr_leaves_of_runsUp (l := []) h 0x10
  exact ite_pred (s.entry.Leaves _) (.refl _ _) (Dev.Leaves.emit (ite_pred (s.entry.Leaves _) (h1.modDbg _) h1) _)

theorem bypass_keeps {ir : Nat} (h : RunsUp (.bypass dt ir) s t) : s.dev.Keeps [] t.dev :=
  State.act_upFrame h (show _ = execBypass dt ir s from rfl) (by decide)
    (.of_leaves (ite_pred (s.entry.Leaves _) ((setIr_leaves_of_runsUp h _).emit _) (.refl _ _)))

theorem trstN_keeps (h : RunsUp (.trstN dt) s t) : s.dev.Keeps [] t.dev :=
  State.act_upFrame h (show _ = execTrstN dt s from rfl) (by decide)
    (.of_leaves (ite_pred (s.entry.Leaves _) (setIr_leaves_of_runsUp h 1) (.refl _ _)))

theorem samplePreload_keeps {cap load : List Bool} (h : RunsUp (.samplePreload dt cap load) s t) : s.dev.Keeps [] t.dev :=
  State.act_upFrame h (show _ = execSamplePreload dt cap load s from rfl) (by decide)
    (.of_leaves (ite_pred (s.entry.Leaves _) (((setIr_leaves_of_runsUp h 2).modDbg _).emit _) (.refl _ _)))

theorem dmi_keeps {op a v pc priv : Nat} {x : List Nat} {ext : List Byte} {after : Option (List Nat)}
    (h : RunsUp (.dmi dt op a v pc priv x ext after) s t) : s.dev.Keeps (.links :: accessParts) t.dev := by
  refine State.act_upFrame h (show _ = execDmi dt op a v pc priv x ext after s from rfl) (by decide) ?_
  let P := s.entry.UpFrame (.links :: accessParts)
  have h1 : s.entry.Leaves (.links :: accessParts) (s.entry.setIr 0x11) := setIr_leaves_of_runsUp h 0x11
  have hout (n : Nat) : P ((s.entry.setIr 0x11).emit (.jtag n)) := .of_leaves (h1.emit _)
  refine ite_pred P (.refl _ _) (ite_pred P (hout 0) (ite_pred P (hout _) (ite_pred P ?_ (hout 0))))
  have h2 := Dev.UpFrame.trans (.of_leaves h1)
    (((s.entry.setIr 0x11).dmWrite_upFrame (s.ctx dt) (a % 128) (v % 2 ^ 32) pc priv x ext after).mono (by decide))
  exact h2.leaves ((Dev.Leaves.refl _ _).emit _)

/-- A command of the families of ch 12 and ch 13 keeps to its frame. -/
def Framed (i : Instr) : Prop :=
  match familyOf i with
  | .core | .events => ∀ s t, RunsUp i s t → s.dev.Keeps (partsOf i) t.dev
  | _ => True

theorem framed (i : Instr) : Framed i := by
  cases i with
  | busRequest => exact fun _ _ h => busRequest_keeps h
  | busResponse => exact fun _ _ h => (busResponse_keeps h).mono (by dsimp only [partsOf]; decide)
  | dmaEnable => exact fun _ _ h => (register_keeps h rfl).mono (by dsimp only [partsOf]; decide)
  | dmaDisable => exact fun _ _ h => (register_keeps h rfl).mono (by dsimp only [partsOf]; decide)
  | dmaBurst => exact fun _ _ h => (dmaBurst_keeps h).mono (by dsimp only [partsOf]; decide)
  | bmxIcctl => exact fun _ _ h => (register_keeps h (b := true) rfl).mono (by dsimp only [partsOf]; decide)
  | bmxRemap => exact fun _ _ h => (register_keeps h (b := true) rfl).mono (by dsimp only [partsOf]; decide)
  | bmxErrinfo => exact fun _ _ h => (register_keeps h (b := true) rfl).mono (by dsimp only [partsOf]; decide)
  | apwCtl => exact fun _ _ h => (apwCtl_keeps h).mono (by dsimp only [partsOf]; decide)
  | timer => exact fun _ _ h => timer_keeps h
  | tmrMtimelo => exact fun _ _ h => tmrMtimelo_keeps h
  | tmrCmphi => exact fun _ _ h => (register_keeps h rfl).mono (by dsimp only [partsOf]; decide)
  | trcMark => exact fun _ _ h => (register_keeps h (b := true) rfl).mono (by dsimp only [partsOf]; decide)
  | registerWrite => exact fun _ _ h => (registerWrite_keeps h).mono (by dsimp only [partsOf]; decide)
  | traceSyncInterval => exact fun _ _ h => traceSyncInterval_keeps h
  | traceOverflow => exact fun _ _ h => traceOverflow_keeps h
  | traceClear => exact fun _ _ h => traceClear_keeps h
  | returnFromInterrupt => exact fun _ _ h => returnFromInterrupt_keeps h
  | waitForInterrupt => exact fun _ _ h => waitForInterrupt_keeps h
  | unsupportedService => exact fun _ _ h => unsupportedService_keeps h
  | applicationException => exact fun _ _ h => applicationException_keeps h
  | agentException => exact fun _ _ h => agentException_keeps h
  | applicationStart => exact fun _ _ h => applicationStart_keeps h
  | applicationStop => exact fun _ _ h => (applicationStop_keeps h).mono (by dsimp only [partsOf]; decide)
  | image => exact fun _ _ h => (image_keeps h).mono (by dsimp only [partsOf]; decide)
  | haltreq => exact fun _ _ h => haltreq_keeps h
  | resume => exact fun _ _ h => resume_keeps h
  | singleStep => exact fun _ _ h => singleStep_keeps h
  | trigger => exact fun _ _ h => trigger_keeps h
  | abstractCommand => exact fun _ _ h => abstractCommand_keeps h
  | systemBusAccess => exact fun _ _ h => (systemBusAccess_keeps h).mono (by dsimp only [partsOf]; decide)
  | dmi => exact fun _ _ h => (dmi_keeps h).mono (by dsimp only [partsOf]; decide)
  | idcode => exact fun _ _ h => idcode_keeps h
  | dtmcs => exact fun _ _ h => dtmcs_keeps h
  | bypass => exact fun _ _ h => bypass_keeps h
  | trstN => exact fun _ _ h => trstN_keeps h
  | samplePreload => exact fun _ _ h => (samplePreload_keeps h).mono (by dsimp only [partsOf]; decide)
  | lockstepMismatch => exact fun _ _ _ p hp => absurd p.mem_all hp
  | ndmreset => exact fun _ _ _ p hp => absurd p.mem_all hp
  | extest => exact fun _ _ _ p hp => absurd p.mem_all hp
  | boot => exact fun _ _ _ p hp => absurd p.mem_all hp
  | wdgSvc => exact fun _ _ h => (wdgSvc_keeps h).mono (by dsimp only [partsOf]; decide)
  | wdgCtl => exact fun _ _ h => (wdgCtl_keeps h).mono (by dsimp only [partsOf]; decide)
  | wd0Start => exact fun _ _ h => wdgStart_keeps h (n := 0) (by decide) rfl
  | wd1Start => exact fun _ _ h => wdgStart_keeps h (n := 1) (by decide) rfl
  | wd0Service => exact fun _ _ h => (wd0Service_keeps h).mono (by dsimp only [partsOf]; decide)
  | earlyWarning => exact fun _ _ h => earlyWarning_keeps h
  | watchdogExpired => exact fun _ _ _ p hp => absurd p.mem_all hp
  | clearEvidence => exact fun _ _ h => clearEvidence_keeps h
  | evcAck => exact fun _ _ h => evcAck_keeps h
  | evcSwraise0 => exact fun _ _ h => evcSwraise_keeps h rfl
  | evcSwraise1 => exact fun _ _ h => evcSwraise_keeps h rfl
  | softwareRaise => exact fun _ _ h => softwareRaise_keeps h
  | eventClearCounters => exact fun _ _ h => eventClearCounters_keeps h
  | logRecordCommit => exact fun _ _ h => (logRecordCommit_keeps h).mono (by dsimp only [partsOf]; decide)
  | copy => exact fun _ _ h => copy_keeps h
  | logClear => exact fun _ _ h => logClear_keeps h
  | safeReqNHigh => exact fun _ _ h => safeReqNHigh_keeps h
  | supplyBackInWindow => exact fun _ _ h => supplyBackInWindow_keeps h
  | _ => exact trivial

/-- Settles O57, command by command. -/
theorem frameOfCore : Obligations.Frame_of_core := by
  intro i s t hi h p hp
  have hf := framed i
  unfold Framed at hf
  rw [hi] at hf
  exact hf s t h p hp

/-- Settles O58, command by command. -/
theorem frameOfEvents : Obligations.Frame_of_events := by
  intro i s t hi h p hp
  have hf := framed i
  unfold Framed at hf
  rw [hi] at hf
  exact hf s t h p hp

end Sys2Proof.Machine


/-!
SUPPORT. What an event of one instance of a table leaves of another: the inner state and the objects, of the synthesizers,
references, marks, ports, windows, channels, audio inputs and watchdogs.
-/
namespace Sys2Proof.Machine

/-- The inner state `g` and the objects at `bases` of an instance `j`, as parts of the state. -/
structure IsInstance {α : Type} (g : Dev → α) (bases : List Nat) (j : Nat) (p : Part) : Prop where
  inner : ∀ d x : Dev, SameFields p d x → g x = g d
  keys : ∀ b ∈ bases, ∀ sub, sub < 256 → partOfKey (key b j sub) = some p

/-- An instance's inner state and objects are in `x` as in `d`. -/
structure Dev.Apart {α : Type} (g : Dev → α) (bases : List Nat) (j : Nat) (d x : Dev) : Prop where
  inner : g x = g d
  objs : SameObjs bases j d x

/-- The objects of a table lie in the part of the first index of its page. -/
theorem partOfKey_page {b n sub q : Nat} (hq : (b + n) / 256 = q) (hs : sub < 256) (h10 : q ≠ 0x10) (h70 : q ≠ 0x70)
    (h62 : q ≠ 0x62) (h63 : q ≠ 0x63) : partOfKey (key b n sub) = partOf (256 * q) := by
  have hk : key b n sub = key (256 * q) ((b + n) % 256) sub := by
    unfold key
    rw [← hq, Nat.div_add_mod]
  rw [hk]
  exact partOfKey_key q _ sub (Nat.mod_lt _ (by decide)) hs h10 h70 h62 h63

theorem SameFields.set (p : Part) (d : Dev) (k : Nat) (v : Val) : SameFields p d (d.set k v) := by
  rw [Dev.set_eta]
  exact SameFields.refl p d

theorem SameFields.of_field (p : Part) (d x : Dev) (h : d.Keeps [] x) : SameFields p d x := (h p List.not_mem_nil).1

section

variable {α : Type} {g : Dev → α} {bases : List Nat} {j : Nat} {p : Part} {l : List Part} {d x y : Dev}

namespace Dev.Apart

theorem refl (g : Dev → α) (bases : List Nat) (j : Nat) (d : Dev) : d.Apart g bases j d := ⟨rfl, fun _ _ _ _ => rfl⟩

theorem trans (h : d.Apart g bases j x) (h' : x.Apart g bases j y) : d.Apart g bases j y :=
  ⟨h'.inner.trans h.inner, fun b hb sub hs => (h'.objs b hb sub hs).trans (h.objs b hb sub hs)⟩

theorem fields (h : d.Apart g bases j x) (hg : g y = g x) (ho : y.obj = x.obj) : d.Apart g bases j y :=
  h.trans ⟨hg, fun _ _ _ _ => Dev.get_of_obj ho _⟩

theorem keeps (h : d.Apart g bases j x) (hi : IsInstance g bases j p) (hk : x.Keeps l y) (hp : p ∉ l) :
    d.Apart g bases j y :=
  h.trans ⟨hi.inner x y (hk p hp).1, fun b hb sub hs => (hk p hp).2 _ (hi.keys b hb sub hs)⟩

theorem set (h : d.Apart g bases j x) (hi : IsInstance g bases j p) (k : Nat) (v : Val)
    (hk : ∀ b ∈ bases, k / 256 ≠ b + j) : d.Apart g bases j (x.set k v) :=
  h.trans ⟨hi.inner x _ (.set p x k v), fun b hb sub hs => Dev.get_set_ne _ _ _ _ fun e => hk b hb (by
    rw [← e, key_div _ _ _ hs])⟩

theorem raise (h : d.Apart g bases j x) (hi : IsInstance g bases j p) (c : Ctx) (ev n : Nat) :
    d.Apart g bases j (x.raise c ev n) :=
  h.keeps hi (x.raise_keeps c ev n) List.not_mem_nil

end Dev.Apart

end

/-- What the effect of a command on an instance leaves, the command leaves, where it keeps the device up; of the ports only
where it does not bring the entry to SAFE about, which sends notices. -/
theorem State.actOn_apart {α : Type} {g : Dev → α} {bases : List Nat} {j : Nat} {p : Part} {s t : State} {dt : Nat} {i : Instr}
    {b : Bool} {f : Ctx → Dev → Dev} (hi : IsInstance g bases j p) (h : RunsUp i s t) (hx : exec i s = s.actOn b dt f)
    (hp : p ∈ [.links, .collector] → (f (s.ctx dt) s.entry).saf.entered = false)
    (hf : b = true → s.entry.Apart g bases j (f (s.ctx dt) s.entry)) : s.dev.Apart g bases j t.dev := by
  obtain ⟨-, -, -, ht, hup⟩ := h
  have hn := State.actOn_eq_next (hx.symm.trans ht)
  have hact := (hx.trans (State.actOn_act hn.1)).symm.trans ht
  have hd := State.act_dev hact
  have he := hf hn.1
  generalize f (s.ctx dt) s.entry = e at hd hp he
  have hup' : (e.settle (s.ctx dt)).rst.stage = .up := by rw [hd] at hup; exact hup
  have hw := (e.settle_up (s.ctx dt) hup').1
  have h0 : s.dev.Apart g bases j s.entry := (Dev.Apart.refl g bases j s.dev).keeps hi (l := [])
    (.unparted s.dev s.dev.trace s.dev.evc s.dev.log [] s.dev.pins) List.not_mem_nil
  have h1 : s.dev.Apart g bases j (e.settle (s.ctx dt)) := by
    by_cases hl : p ∈ [Part.links, Part.collector]
    · exact (h0.trans he).keeps hi (l := []) (e.settle_keeps _ hw fun hen => by rw [hp hl] at hen; contradiction)
        List.not_mem_nil
    · exact (h0.trans he).keeps hi (e.settle_keeps _ hw fun _ => ⟨by decide, by decide⟩) hl
  rw [hd]
  exact h1.keeps hi (l := []) (Dev.Keeps.rst _ _ rfl rfl rfl) List.not_mem_nil

/-! ## Synthesizers -/

section

variable {d x : Dev} {c : Ctx} {j y : Nat}

/-- Synthesizer `j` and its profile are as they were. -/
abbrev Dev.SynApart (j : Nat) : Dev → Dev → Prop := Dev.Apart (fun d => d.syns[j]?) [0x2200, 0x2210] j

theorem syn_isInstance (hj : j < 4) : IsInstance (fun d => d.syns[j]?) [0x2200, 0x2210] j .synths where
  inner d x h := by
    have h' : d.syns = x.syns := h
    rw [h']
  keys := by
    intro b hb sub hs
    have hpage : (b + j) / 256 = 0x22 := by
      simp only [List.mem_cons, List.not_mem_nil, or_false] at hb
      omega
    exact partOfKey_page hpage hs (by decide) (by decide) (by decide) (by decide)

variable (hj : j < 4) (hy : y < 4) (hne : j ≠ y)
include hj hy hne

theorem Dev.Apart.setSyn (h : d.SynApart j x) (v : Val) {sub : Nat} (hs : sub < 256) :
    d.SynApart j (x.set (synK y sub) v) := by
  refine h.set (syn_isInstance hj) _ v fun b hb => ?_
  rw [synK, key_div _ _ _ hs]
  simp only [List.mem_cons, List.not_mem_nil, or_false] at hb
  omega

theorem Dev.Apart.setProf (h : d.SynApart j x) (v : Val) {sub : Nat} (hs : sub < 256) :
    d.SynApart j (x.set (profK y sub) v) := by
  refine h.set (syn_isInstance hj) _ v fun b hb => ?_
  rw [profK, key_div _ _ _ hs]
  simp only [List.mem_cons, List.not_mem_nil, or_false] at hb
  omega

omit hj hy in
theorem Dev.Apart.modSyn (h : d.SynApart j x) (f : Syn → Syn) : d.SynApart j (x.modSyn y f) :=
  h.fields (getElem?_modifyAt_ne f _ hne) rfl

theorem Dev.unalign_apart (h : d.SynApart j x) : d.SynApart j (x.unalign y) :=
  (h.modSyn hne _).setSyn hj hy hne _ (by decide)

theorem Dev.profIdle_apart (h : d.SynApart j x) : d.SynApart j (x.profIdle y) :=
  (((h.setProf hj hy hne _ (by decide)).setProf hj hy hne _ (by decide)).setProf hj hy hne _ (by decide)).modSyn hne _

/-- A relock's glide that it cuts short ends (R241). -/
theorem Dev.cutGlide_apart (h : d.SynApart j x) :
    d.SynApart j (if x.nat (synK y 0x09) = 2 then x.setN (synK y 0x09) 3 else x) :=
  ite_pred (d.SynApart j) (h.setSyn hj hy hne _ (by decide)) h

theorem Dev.synSearch_apart (h : d.SynApart j x) : d.SynApart j (x.synSearch y) :=
  (Dev.profIdle_apart hj hy hne (Dev.unalign_apart hj hy hne
    ((Dev.cutGlide_apart hj hy hne h).setSyn hj hy hne _ (by decide)))).modSyn hne _

theorem Dev.synSync_apart (h : d.SynApart j x) : d.SynApart j (x.synSync y) :=
  (Dev.profIdle_apart hj hy hne (Dev.unalign_apart hj hy hne
    ((Dev.cutGlide_apart hj hy hne h).setSyn hj hy hne _ (by decide)))).modSyn hne _

theorem Dev.synFail_apart (h : d.SynApart j x) : d.SynApart j (x.synFail c y) := by
  have hi := syn_isInstance hj
  have h1 := Dev.profIdle_apart hj hy hne (Dev.unalign_apart hj hy hne (h.setSyn hj hy hne (sub := 0x19) (.num (7 : Nat)) (by decide)))
  have h2 : d.SynApart j ((((x.setSyn y 7).unalign y).profIdle y).applyOver y 0) :=
    ite_pred (d.SynApart j) (h1.setSyn hj hy hne _ (by decide)) h1
  exact (((h2.setSyn hj hy hne _ (by decide)).modSyn hne _).raise hi c _ _).keeps hi
    (Dev.detect_keeps (l := [.collector]) _ c 0x17 0 (by decide)) (by decide)

theorem Dev.synTakeArmed_apart (h : d.SynApart j x) : d.SynApart j (x.synTakeArmed c y) := by
  unfold Dev.synTakeArmed
  split
  · have h1 : d.SynApart j (if (x.syn y).held then x.unheld c (synK y 2) else x) :=
      ite_pred (d.SynApart j) (h.keeps (l := []) (syn_isInstance hj) (x.raiseClr_keeps c 26 _) List.not_mem_nil) h
    exact Dev.Apart.setSyn hj hy hne (h1.modSyn hne _) _ (by decide)
  · exact h

theorem Dev.synLoss_apart (h : d.SynApart j x) (ev : Nat) : d.SynApart j (x.synLoss c y ev).1 := by
  unfold Dev.synLoss
  extract_lets lasting d1 d2 d3
  have h1 : d.SynApart j d1 := h.raise (syn_isInstance hj) c _ _
  have h2 : d.SynApart j d2 := Dev.profIdle_apart hj hy hne (Dev.unalign_apart hj hy hne (h1.setSyn hj hy hne _ (by decide)))
  have h3 : d.SynApart j d3 := ite_pred (d.SynApart j) (h2.setSyn hj hy hne _ (by decide)) h2
  exact ite_pred (fun q : Dev × Bool => d.SynApart j q.1) (Dev.synFail_apart hj hy hne h1)
    (Dev.synTakeArmed_apart hj hy hne (h3.modSyn hne _))

theorem Dev.synUnphased_apart (h : d.SynApart j x) : d.SynApart j (x.synUnphased c y) := by
  have h1 := Dev.unalign_apart hj hy hne h
  exact ite_pred (d.SynApart j) (ite_pred (d.SynApart j) (h1.modSyn hne _) (h1.raise (syn_isInstance hj) c _ _)) h

end

end Sys2Proof.Machine


/-!
SUPPORT. The events of one synthesizer, reference, mark, port, window, channel, audio input or watchdog, and the settling
of O60.
-/
namespace Sys2Proof.Machine

variable {s t : State} {dt j : Nat}

/-! ## Events of a synthesizer -/

section

variable {y : Nat}

/-- What the effect of a synthesizer's event leaves of another, the event leaves. -/
theorem syn_apart {i : Instr} {f : Ctx → Dev → Dev} (h : RunsUp i s t) (hj : j < 4) (hx : exec i s = s.actOn (y < 4) dt f)
    (hf : y < 4 → s.entry.SynApart j (f (s.ctx dt) s.entry)) : s.dev.SynApart j t.dev :=
  State.actOn_apart (syn_isInstance hj) h hx (fun hp => absurd hp (by decide)) fun hy => hf (of_decide_eq_true hy)

variable (hj : j < 4) (hne : j ≠ y)
include hj hne

theorem bandSearchDone_apart {band : Nat} (h : RunsUp (.bandSearchDone dt y band) s t) : s.dev.SynApart j t.dev := by
  refine syn_apart h hj (show _ = execBandSearchDone dt y band s from rfl) fun hy => ?_
  have h0 := Dev.Apart.refl (fun d : Dev => d.syns[j]?) [0x2200, 0x2210] j s.entry
  exact ite_pred (s.entry.SynApart j) (Dev.synSync_apart hj hy hne ((h0.setSyn hj hy hne _ (by decide)).modSyn hne _)) h0

theorem synthesizerLocked_apart (h : RunsUp (.synthesizerLocked dt y) s t) : s.dev.SynApart j t.dev := by
  refine syn_apart h hj (show _ = execSynthesizerLocked dt y s from rfl) fun hy => ?_
  have h0 := Dev.Apart.refl (fun d : Dev => d.syns[j]?) [0x2200, 0x2210] j s.entry
  exact ite_pred (s.entry.SynApart j) ((h0.setSyn hj hy hne _ (by decide)).raise (syn_isInstance hj) _ _ _) h0

theorem lockingTimeout_apart (h : RunsUp (.lockingTimeout dt y) s t) : s.dev.SynApart j t.dev := by
  refine syn_apart h hj (show _ = execLockingTimeout dt y s from rfl) fun hy => ?_
  have h0 := Dev.Apart.refl (fun d : Dev => d.syns[j]?) [0x2200, 0x2210] j s.entry
  exact ite_pred (s.entry.SynApart j) (ite_pred (s.entry.SynApart j) (Dev.synFail_apart hj hy hne h0)
    (Dev.synSearch_apart hj hy hne (h0.modSyn hne _))) h0

theorem synthesizerLockLost_apart (h : RunsUp (.synthesizerLockLost dt y) s t) : s.dev.SynApart j t.dev := by
  refine syn_apart h hj (show _ = execSynthesizerLockLost dt y s from rfl) fun hy => ?_
  have h0 := Dev.Apart.refl (fun d : Dev => d.syns[j]?) [0x2200, 0x2210] j s.entry
  have h1 := Dev.synLoss_apart (c := s.ctx dt) hj hy hne h0 40
  exact ite_pred (s.entry.SynApart j) (ite_pred (s.entry.SynApart j) (Dev.synSearch_apart hj hy hne h1) h1) h0

theorem synthesizerReferenceLost_apart (h : RunsUp (.synthesizerReferenceLost dt y) s t) : s.dev.SynApart j t.dev := by
  refine syn_apart h hj (show _ = execSynthesizerReferenceLost dt y s from rfl) fun hy => ?_
  have h0 := Dev.Apart.refl (fun d : Dev => d.syns[j]?) [0x2200, 0x2210] j s.entry
  have h1 (n : Nat) := h0.raise (syn_isInstance hj) (s.ctx dt) 41 n
  exact ite_pred (s.entry.SynApart j) (Dev.synLoss_apart hj hy hne h0 41) (ite_pred (s.entry.SynApart j)
    (ite_pred (s.entry.SynApart j) (Dev.synFail_apart hj hy hne (h1 _)) (h1 _)) h0)

theorem gatedTimeout_apart (h : RunsUp (.gatedTimeout dt y) s t) : s.dev.SynApart j t.dev := by
  refine syn_apart h hj (show _ = execGatedTimeout dt y s from rfl) fun hy => ?_
  have h0 := Dev.Apart.refl (fun d : Dev => d.syns[j]?) [0x2200, 0x2210] j s.entry
  exact ite_pred (s.entry.SynApart j) (Dev.synFail_apart hj hy hne h0) h0

theorem glideEnd_apart (h : RunsUp (.glideEnd dt y) s t) : s.dev.SynApart j t.dev := by
  refine syn_apart h hj (show _ = execGlideEnd dt y s from rfl) fun hy => ?_
  have h0 := Dev.Apart.refl (fun d : Dev => d.syns[j]?) [0x2200, 0x2210] j s.entry
  dsimp only
  split
  · exact ite_pred (s.entry.SynApart j)
      (Dev.synUnphased_apart hj hy hne (Dev.Apart.setSyn hj hy hne (h0.modSyn hne _) _ (by decide))) h0
  · exact ite_pred (s.entry.SynApart j) (Dev.synUnphased_apart hj hy hne (Dev.profIdle_apart hj hy hne h0)) h0
  · exact h0

theorem profileUpdate_apart (h : RunsUp (.profileUpdate dt y) s t) : s.dev.SynApart j t.dev := by
  refine syn_apart h hj (show _ = execProfileUpdate dt y s from rfl) fun hy => ?_
  have h0 := Dev.Apart.refl (fun d : Dev => d.syns[j]?) [0x2200, 0x2210] j s.entry
  extract_lets n l r e total loop p d1
  have h1 : s.entry.SynApart j d1 := ((h0.setProf hj hy hne _ (by decide)).setProf hj hy hne _ (by decide)).modSyn hne _
  exact ite_pred (s.entry.SynApart j) (ite_pred (s.entry.SynApart j) (h1.setProf hj hy hne _ (by decide)) h1) h0

end

/-! ## Events of a reference -/

/-- Reference `j` is as it was. -/
abbrev Dev.RefApart (j : Nat) : Dev → Dev → Prop := Dev.Apart (fun d => d.refs[j]?) [0x2100] j

theorem ref_isInstance (hj : j < 8) : IsInstance (fun d => d.refs[j]?) [0x2100] j .genlock where
  inner d x h := by
    obtain ⟨h', -, -⟩ := h
    rw [h']
  keys := by
    intro b hb sub hs
    obtain rfl := List.mem_singleton.mp hb
    exact partOfKey_key 0x21 j sub (hj.trans (by decide)) hs (by decide) (by decide) (by decide) (by decide)

section

variable {d x : Dev} {c : Ctx} {r : Nat} (hj : j < 8)
include hj

/-- An object of the DPLL is none of a reference's. -/
theorem Dev.Apart.setDpllK (h : d.RefApart j x) (k : Nat) (v : Val) (hk : k / 256 = 0x2110) :
    d.RefApart j (x.set k v) :=
  h.set (ref_isInstance hj) k v fun b hb => by
    obtain rfl := List.mem_singleton.mp hb
    omega

theorem Dev.setDpll_apart (h : d.RefApart j x) (st : Nat) : d.RefApart j (x.setDpll st) := h.setDpllK hj 0x2110_0A _ (by decide)

theorem Dev.freeRun_apart (h : d.RefApart j x) : d.RefApart j (x.freeRun c) := by
  unfold Dev.freeRun
  extract_lets was _ p e d1 d2
  have h0 : d.RefApart j e := (Dev.setDpll_apart hj h 0).setDpllK hj 0x2110_10 _ (by decide)
  clear_value e
  have h1 : d.RefApart j d1 := h0.fields rfl rfl
  have h2 : d.RefApart j d2 := h1.setDpllK hj 0x2110_0E _ (by decide)
  exact ite_pred (d.RefApart j) h2 (h2.raise (ref_isInstance hj) c _ _)

theorem Dev.evalSelection_apart (h : d.RefApart j x) : d.RefApart j (x.evalSelection c) := by
  have hsel (n : Nat) : d.RefApart j (x.setN 0x2110_0B n) := h.setDpllK hj _ _ (by decide)
  unfold Dev.evalSelection
  refine ite_pred (d.RefApart j) (hsel _) ?_
  cases x.choose with
  | some r => exact ite_pred (d.RefApart j) h ((hsel r).fields rfl rfl)
  | none =>
    extract_lets cur _ d1 hold _ _ d2
    have h1 : d.RefApart j d1 := (hsel 0xFF).fields rfl rfl
    have h2 : d.RefApart j d2 := (Dev.setDpll_apart hj h1 3).fields rfl rfl
    have hhold : d.RefApart j (((d2.setI 0x2110_11 hold).setI 0x2110_10 hold).raise c 36 0) :=
      ((h2.setDpllK hj _ _ (by decide)).setDpllK hj _ _ (by decide)).raise (ref_isInstance hj) c _ _
    exact ite_pred (d.RefApart j) h (ite_pred (d.RefApart j)
      (ite_pred (d.RefApart j) hhold (Dev.freeRun_apart hj h1)) h1)

theorem Dev.firstEdge_apart (h : d.RefApart j x) (ps : Int) : d.RefApart j (x.firstEdge c r ps) := by
  unfold Dev.firstEdge
  extract_lets st lock _ p _ d1 d2
  have h1 : d.RefApart j d1 := (h.setDpllK hj 0x2110_0D _ (by decide)).fields rfl rfl
  have h2 : d.RefApart j d2 := by
    refine ite_pred (d.RefApart j) ((Dev.setDpll_apart hj h1 1).setDpllK hj _ _ (by decide)) (ite_pred (d.RefApart j)
      (Dev.setDpll_apart hj h1 1) (ite_pred (d.RefApart j) h1 ?_))
    exact (h1.setDpllK hj 0x2110_12 _ (by decide)).raise (ref_isInstance hj) c _ _
  refine ite_pred (d.RefApart j) (h2.fields rfl rfl) ?_
  split
  · exact h2.fields rfl rfl
  · exact h2.fields rfl rfl
  · exact h2

variable (hne : j ≠ r)
include hne

theorem Dev.Apart.setRef (h : d.RefApart j x) (v : Val) {sub : Nat} (hs : sub < 256) :
    d.RefApart j (x.set (key 0x2100 r sub) v) :=
  h.set (ref_isInstance hj) _ v fun b hb => by
    obtain rfl := List.mem_singleton.mp hb
    rw [key_div _ _ _ hs]
    omega

omit hj in
theorem Dev.Apart.modRef (h : d.RefApart j x) (f : Ref → Ref) : d.RefApart j (x.modRef r f) :=
  h.fields (getElem?_modifyAt_ne f _ hne) rfl

theorem Dev.startCheck_apart (h : d.RefApart j x) : d.RefApart j (x.startCheck c r) :=
  (h.setRef hj hne _ (by decide)).modRef hne _

theorem Dev.loseRef_apart (h : d.RefApart j x) (st : Nat) : d.RefApart j (x.loseRef c r st) := by
  unfold Dev.loseRef
  extract_lets d1 d2
  have h1 : d.RefApart j d1 := Dev.Apart.setRef hj hne
    (ite_pred (d.RefApart j) (Dev.startCheck_apart hj hne h) (h.setRef hj hne _ (by decide))) _ (by decide)
  have h2 : d.RefApart j d2 := ite_pred (d.RefApart j) (Dev.setDpll_apart hj h1 _) h1
  exact Dev.evalSelection_apart hj ((h2.modRef hne _).raise (ref_isInstance hj) c _ _)

theorem Dev.qualify_apart (h : d.RefApart j x) : d.RefApart j (x.qualify c r) :=
  Dev.evalSelection_apart hj (((h.setRef hj hne _ (by decide)).modRef hne _).raise (ref_isInstance hj) c _ _)

theorem Dev.badEdge_apart (h : d.RefApart j x) : d.RefApart j (x.badEdge c r) := by
  unfold Dev.badEdge
  extract_lets d1 st
  have h1 : d.RefApart j d1 := h.modRef hne _
  exact ite_pred (d.RefApart j) (ite_pred (d.RefApart j) ((Dev.loseRef_apart hj hne h1 1).modRef hne _)
    (ite_pred (d.RefApart j) (h1.setRef hj hne _ (by decide)) h1)) h1

theorem Dev.misFrame_apart (h : d.RefApart j x) : d.RefApart j (x.misFrame c r) := by
  have hmis {y : Dev} (hy : d.RefApart j y) : d.RefApart j (y.misaligned c r) := by
    unfold Dev.misaligned
    extract_lets lasting d1 d2
    have h1 : d.RefApart j d1 := Dev.Apart.modRef hne (hy.fields (y := { y with dpll := y.dpll.misAnew }) rfl rfl) _
    have h2 : d.RefApart j d2 := (h1.raise (ref_isInstance hj) c _ _).keeps (ref_isInstance hj)
      (Dev.detect_keeps (l := [.collector]) _ c 0x0F 0 (by decide)) (by decide)
    exact ite_pred (d.RefApart j) (Dev.loseRef_apart hj hne h2 3) ((Dev.setDpll_apart hj h2 1).fields rfl rfl)
  unfold Dev.misFrame
  extract_lets _ d1
  have h1 : d.RefApart j d1 := h.fields rfl rfl
  exact ite_pred (d.RefApart j) h (ite_pred (d.RefApart j) (hmis h1) h1)

theorem Dev.compareEdge_apart (h : d.RefApart j x) (reft : Int) : d.RefApart j (x.compareEdge c r reft) := by
  unfold Dev.compareEdge
  extract_lets raw d1 d2 ps d3 near bad _ d4
  have h1 : d.RefApart j d1 := ite_pred (d.RefApart j) (Dev.setDpll_apart hj h _) h
  have h2 : d.RefApart j d2 := ite_pred (d.RefApart j) (Dev.firstEdge_apart hj h1 raw) h1
  have h4 : d.RefApart j d4 := (h2.setDpllK hj 0x2110_0C _ (by decide)).fields rfl rfl
  exact ite_pred (d.RefApart j) (Dev.misFrame_apart hj hne h4) h4

theorem Dev.refEdge_apart (h : d.RefApart j x) (wide : Bool) : d.RefApart j (x.refEdge c r wide) := by
  unfold Dev.refEdge
  extract_lets st z reft good marks cnt known next d1 d2 d3 d4
  have h1 : d.RefApart j d1 := h.modRef hne _
  have h2 : d.RefApart j d2 := h1.modRef hne _
  have h3 : d.RefApart j d3 := ite_pred (d.RefApart j) h1 (ite_pred (d.RefApart j)
    (ite_pred (d.RefApart j) (Dev.startCheck_apart hj hne h2) h2) (Dev.badEdge_apart hj hne h1))
  have h4 : d.RefApart j d4 := ite_pred (d.RefApart j) (Dev.compareEdge_apart hj hne h3 reft) h3
  exact ite_pred (d.RefApart j) h (h4.modRef hne _)

/-- An inconsistent pair of limits is held, or a held one taken (R183). -/
theorem Dev.judgeLimits_apart (h : d.RefApart j x) : d.RefApart j (x.judgeLimits c r) := by
  have hi := ref_isInstance hj
  unfold Dev.judgeLimits
  extract_lets a b z d1
  have h1 : d.RefApart j d1 := h.modRef hne _
  refine ite_pred (d.RefApart j) (ite_pred (d.RefApart j) ?_ h1) (ite_pred (d.RefApart j) h ((h.modRef hne _).raise hi c 26 _))
  exact h1.keeps (l := []) hi (d1.raiseClr_keeps c 26 _) List.not_mem_nil

end

section

variable {r : Nat} (hj : j < 8) (hne : j ≠ r)

/-- What the effect of a reference's event leaves of another, the event leaves. -/
theorem ref_apart {i : Instr} {f : Ctx → Dev → Dev} (h : RunsUp i s t) (hj : j < 8)
    (hx : exec i s = s.actOn (r < 8 && r ≠ 3) dt f) (hf : s.entry.RefApart j (f (s.ctx dt) s.entry)) :
    s.dev.RefApart j t.dev :=
  State.actOn_apart (ref_isInstance hj) h hx (fun hp => absurd hp (by decide)) fun _ => hf

include hj hne

theorem referenceEdge_apart {wide : Bool} (h : RunsUp (.referenceEdge dt r wide) s t) : s.dev.RefApart j t.dev :=
  ref_apart h hj (show _ = execReferenceEdge dt r wide s from rfl) (Dev.refEdge_apart hj hne (.refl ..) wide)

theorem missingEdge_apart (h : RunsUp (.missingEdge dt r) s t) : s.dev.RefApart j t.dev := by
  refine ref_apart h hj (show _ = execMissingEdge dt r s from rfl) ?_
  have h0 := Dev.Apart.refl (fun d : Dev => d.refs[j]?) [0x2100] j s.entry
  extract_lets p d1 _ d2
  have h1 : s.entry.RefApart j d1 := h0.modRef hne _
  have h2 : s.entry.RefApart j d2 := ite_pred (s.entry.RefApart j) ((h1.setDpllK hj 0x2110_0A _ (by decide)).fields rfl rfl) h1
  exact ite_pred (s.entry.RefApart j) h0 (Dev.badEdge_apart hj hne h2)

theorem frequencyGateEnd_apart {ppb : Int} (h : RunsUp (.frequencyGateEnd dt r ppb) s t) : s.dev.RefApart j t.dev := by
  refine ref_apart h hj (show _ = execFrequencyGateEnd dt r ppb s from rfl) ?_
  have h0 := Dev.Apart.refl (fun d : Dev => d.refs[j]?) [0x2100] j s.entry
  extract_lets st d1 d2 z
  let P := s.entry.RefApart j
  have h2 : P d2 := Dev.judgeLimits_apart hj hne (Dev.Apart.setRef hj hne (h0.modRef hne _) _ (by decide))
  refine ite_pred P h0 (ite_pred P (ite_pred P (ite_pred P ?_ (Dev.qualify_apart hj hne h2)) h2)
    (ite_pred P (ite_pred P (Dev.loseRef_apart hj hne h2 2) (Dev.startCheck_apart hj hne h2)) h2))
  exact (h2.setRef hj hne _ (by decide)).modRef hne _

theorem waitToRestoreEnd_apart (h : RunsUp (.waitToRestoreEnd dt r) s t) : s.dev.RefApart j t.dev :=
  ref_apart h hj (show _ = execWaitToRestoreEnd dt r s from rfl)
    (ite_pred (s.entry.RefApart j) (Dev.qualify_apart hj hne (.refl ..)) (.refl ..))

end

/-! ## Events of a mark, a port, a window, a channel, an audio input, a watchdog -/

theorem mark_isInstance (hj : j < 4) : IsInstance (fun d => d.marks[j]?) [0x2120] j .genlock where
  inner d x h := by
    obtain ⟨-, -, h'⟩ := h
    rw [h']
  keys := by
    intro b hb sub hs
    obtain rfl := List.mem_singleton.mp hb
    exact partOfKey_page (q := 0x21) (by omega) hs (by decide) (by decide) (by decide) (by decide)

theorem markPulse_apart {m : Nat} (hj : j < 4) (hne : j ≠ m) (h : RunsUp (.markPulse dt m) s t) :
    s.dev.Apart (fun d => d.marks[j]?) [0x2120] j t.dev := by
  have hi := mark_isInstance hj
  refine State.actOn_apart hi h (show _ = execMarkPulse dt m s from rfl) (fun hp => absurd hp (by decide)) fun hm => ?_
  have h0 := Dev.Apart.refl (fun d : Dev => d.marks[j]?) [0x2120] j s.entry
  extract_lets z fr at' fp close d1
  have h1 : s.entry.Apart (fun d => d.marks[j]?) [0x2120] j d1 := h0.fields (getElem?_modifyAt_ne _ _ hne) rfl
  have h2 : s.entry.Apart (fun d => d.marks[j]?) [0x2120] j (d1.emit (.mark m at' z.width (z.pol = 0))) :=
    h1.fields rfl rfl
  refine ite_pred (s.entry.Apart (fun d => d.marks[j]?) [0x2120] j) (h2.set hi (key 0x2120 m 0x06) _ fun b hb => ?_) h0
  obtain rfl := List.mem_singleton.mp hb
  rw [key_div _ _ _ (by decide)]
  omega

/-- Port `j` is as it was. -/
abbrev Dev.PortApart (j : Nat) : Dev → Dev → Prop := Dev.Apart (fun d => d.ports[j]?) [0x3400] j

theorem port_isInstance (hj : j < 32) : IsInstance (fun d => d.ports[j]?) [0x3400] j .links where
  inner d x h := by
    have h' : d.ports = x.ports := h
    rw [h']
  keys := by
    intro b hb sub hs
    obtain rfl := List.mem_singleton.mp hb
    exact partOfKey_key 0x34 j sub (hj.trans (by decide)) hs (by decide) (by decide) (by decide) (by decide)

section

variable {p : Nat} {d x : Dev}

theorem Dev.Apart.modPort (hne : j ≠ p) (h : d.PortApart j x) (f : Port → Port) : d.PortApart j (x.modPort p f) :=
  h.fields (getElem?_modifyAt_ne f _ hne) rfl

theorem Dev.Apart.countLink (hj : j < 32) (hne : j ≠ p) (h : d.PortApart j x) : d.PortApart j (x.inc (linkK p 0x01)) :=
  h.set (port_isInstance hj) _ _ fun b hb => by
    obtain rfl := List.mem_singleton.mp hb
    rw [linkK, key_div _ _ _ (by decide)]
    omega

/-- The collector and port `j` are as they were. -/
def Dev.SafApart (j : Nat) (d x : Dev) : Prop := x.saf = d.saf ∧ d.PortApart j x

/-- What the effect of a port's event, which detects nothing, leaves of another, the event leaves. -/
theorem port_apart {i : Instr} {f : Ctx → Dev → Dev} (h : RunsUp i s t) (hj : j < 32)
    (hx : exec i s = s.actOn (p < s.portCount) dt f) (hf : s.entry.SafApart j (f (s.ctx dt) s.entry)) :
    s.dev.PortApart j t.dev :=
  State.actOn_apart (port_isInstance hj) h hx (fun _ => by rw [hf.1]; exact h.2.1) fun _ => hf.2

theorem Dev.SafApart.modPort (hne : j ≠ p) (h : d.SafApart j x) (f : Port → Port) : d.SafApart j (x.modPort p f) :=
  ⟨h.1, h.2.modPort hne f⟩

theorem Dev.SafApart.countLink (hj : j < 32) (hne : j ≠ p) (h : d.SafApart j x) : d.SafApart j (x.inc (linkK p 0x01)) :=
  ⟨(Dev.inc_saf ..).trans h.1, h.2.countLink hj hne⟩

variable (hj : j < 32) (hne : j ≠ p)
include hj hne

theorem blockPointer_apart (h : RunsUp (.blockPointer dt p) s t) : s.dev.PortApart j t.dev := by
  have h0 : s.entry.SafApart j s.entry := ⟨rfl, .refl ..⟩
  refine port_apart h hj (show _ = execBlockPointer dt p s from rfl) ?_
  dsimp only
  split
  · exact h0
  · exact ite_pred (s.entry.SafApart j) h0 (ite_pred (s.entry.SafApart j) (h0.modPort hne _) (h0.countLink hj hne))

theorem framingError_apart {wd : Nat} (h : RunsUp (.framingError dt p wd) s t) : s.dev.PortApart j t.dev := by
  have h0 : s.entry.SafApart j s.entry := ⟨rfl, .refl ..⟩
  exact port_apart h hj (show _ = execFramingError dt p wd s from rfl)
    (ite_pred (s.entry.SafApart j) (Dev.SafApart.countLink hj hne (h0.modPort hne _)) h0)

theorem flowPeriodic_apart (h : RunsUp (.flowPeriodic dt p) s t) : s.dev.PortApart j t.dev := by
  have h0 : s.entry.SafApart j s.entry := ⟨rfl, .refl ..⟩
  exact port_apart h hj (show _ = execFlowPeriodic dt p s from rfl)
    (ite_pred (s.entry.SafApart j) (h0.modPort hne _) h0)

theorem timeSyncPeriod_apart (h : RunsUp (.timeSyncPeriod dt p) s t) : s.dev.PortApart j t.dev := by
  have h0 : s.entry.SafApart j s.entry := ⟨rfl, .refl ..⟩
  exact port_apart h hj (show _ = execTimeSyncPeriod dt p s from rfl)
    (ite_pred (s.entry.SafApart j) (h0.modPort hne _) h0)

end

theorem win_isInstance (hj : j < 64) : IsInstance (fun d => d.wins[j]?) [0x5100, 0x5300] j .formes where
  inner d x h := by
    obtain ⟨-, h'⟩ := h
    rw [h']
  keys := by
    intro b hb sub hs
    simp only [List.mem_cons, List.not_mem_nil, or_false] at hb
    obtain rfl | rfl := hb
    · exact partOfKey_key 0x51 j sub (hj.trans (by decide)) hs (by decide) (by decide) (by decide) (by decide)
    · exact partOfKey_key 0x53 j sub (hj.trans (by decide)) hs (by decide) (by decide) (by decide) (by decide)

theorem holdTimeEnd_apart {w : Nat} (hj : j < 64) (hne : j ≠ w) (h : RunsUp (.holdTimeEnd dt w) s t) :
    s.dev.Apart (fun d => d.wins[j]?) [0x5100, 0x5300] j t.dev := by
  refine State.actOn_apart (win_isInstance hj) h (show _ = execHoldTimeEnd dt w s from rfl)
    (fun hp => absurd hp (by decide)) fun _ => ?_
  have h0 := Dev.Apart.refl (fun d : Dev => d.wins[j]?) [0x5100, 0x5300] j s.entry
  split
  · exact ite_pred (s.entry.Apart _ _ j) (h0.fields (getElem?_modifyAt_ne _ _ hne) rfl) h0
  · exact h0

/-- Channel `j` is as it was. -/
abbrev Dev.ChanApart (j : Nat) : Dev → Dev → Prop := Dev.Apart (fun d => d.chans[j]?) [0x4000] j

theorem chan_isInstance (hj : j < 24) : IsInstance (fun d => d.chans[j]?) [0x4000] j .capture where
  inner d x h := by
    have h' : d.chans = x.chans := h
    rw [h']
  keys := by
    intro b hb sub hs
    obtain rfl := List.mem_singleton.mp hb
    exact partOfKey_key 0x40 j sub (hj.trans (by decide)) hs (by decide) (by decide) (by decide) (by decide)

section

variable {n : Nat} {d x : Dev} (hj : j < 24) (hne : j ≠ n)
include hne

theorem Dev.Apart.modChan (h : d.ChanApart j x) (f : Chan → Chan) : d.ChanApart j (x.modChan n f) :=
  h.fields (getElem?_modifyAt_ne f _ hne) rfl

include hj

theorem Dev.Apart.setChan (h : d.ChanApart j x) (v : Val) {sub : Nat} (hs : sub < 256) :
    d.ChanApart j (x.set (chanK n sub) v) :=
  h.set (chan_isInstance hj) _ v fun b hb => by
    obtain rfl := List.mem_singleton.mp hb
    rw [chanK, key_div _ _ _ hs]
    omega

theorem captureInputLost_apart (h : RunsUp (.captureInputLost dt n) s t) : s.dev.ChanApart j t.dev := by
  refine State.actOn_apart (chan_isInstance hj) h (show _ = execCaptureInputLost dt n s from rfl)
    (fun hp => absurd hp (by decide)) fun _ => ?_
  have h0 := Dev.Apart.refl (fun d : Dev => d.chans[j]?) [0x4000] j s.entry
  have h1 : s.entry.ChanApart j (s.entry.abandon n) := by
    unfold Dev.abandon
    split
    · exact Dev.Apart.setChan hj hne (h0.modChan hne _) _ (by decide)
    · exact h0
  have h2 : s.entry.ChanApart j ((s.entry.abandon n).unlockChan n []) :=
    Dev.Apart.setChan hj hne (Dev.Apart.setChan hj hne (h1.modChan hne _) _ (by decide)) _ (by decide)
  have h3 : s.entry.ChanApart j (((s.entry.abandon n).unlockChan n []).setN (chanK n 0x0C) 3) :=
    Dev.Apart.setChan hj hne h2 _ (by decide)
  refine ite_pred (s.entry.ChanApart j) (Dev.Apart.modChan hne (Dev.Apart.raise ?_ (chan_isInstance hj) _ 44 n) _) h0
  exact Dev.Apart.setChan hj hne (h3.modChan hne _) _ (by decide)

end

theorem audioInput_isInstance (hj : j < 24) : IsInstance (fun _ => ()) [0x6000] j .audio where
  inner _ _ _ := rfl
  keys := by
    intro b hb sub hs
    obtain rfl := List.mem_singleton.mp hb
    exact partOfKey_key 0x60 j sub (hj.trans (by decide)) hs (by decide) (by decide) (by decide) (by decide)

theorem audioInputLost_apart {a : Nat} (hj : j < 24) (hne : j ≠ a / 4) (h : RunsUp (.audioInputLost dt a) s t) :
    SameObjs [0x6000] j s.dev t.dev := by
  have hi := audioInput_isInstance hj
  refine Dev.Apart.objs (State.actOn_apart hi h (show _ = execAudioInputLost dt a s from rfl)
    (fun hp => absurd hp (by decide)) fun _ => ?_)
  let P := s.entry.Apart (fun _ => ()) [0x6000] j
  have hset {x : Dev} (hx : P x) (v : Val) {sub : Nat} (hs : sub < 256) : P (x.set (capAudK (a / 4) sub) v) :=
    hx.set hi _ v fun b hb => by
      obtain rfl := List.mem_singleton.mp hb
      rw [capAudK, key_div _ _ _ hs]
      omega
  have h0 : P s.entry := .refl ..
  extract_lets st d1
  have h1 : P d1 := h0.fields rfl rfl
  have h2 : P (d1.setGroupSt a 3) := hset (hset h1 _ (by decide)) _ (by decide)
  exact ite_pred P (Dev.Apart.raise (hset h2 _ (by decide)) hi (s.ctx dt) 58 a) h0

theorem wd_isInstance (hj : j < 2) : IsInstance (fun d => d.wd j) [0x9100] j .watchdogs where
  inner d x h := by
    obtain ⟨h0, h1⟩ := h
    unfold Dev.wd
    rw [h0, h1]
  keys := by
    intro b hb sub hs
    obtain rfl := List.mem_singleton.mp hb
    exact partOfKey_key 0x91 j sub (hj.trans (by decide)) hs (by decide) (by decide) (by decide) (by decide)

theorem Dev.wd_modWd_ne {d : Dev} {n : Nat} (hj : j < 2) (hn : n < 2) (hne : j ≠ n) (f : Wdg → Wdg) :
    (d.modWd n f).wd j = d.wd j := by
  unfold Dev.modWd Dev.wd
  by_cases h : n = 0
  · rw [if_pos h, if_neg (show j ≠ 0 by omega), if_neg (show j ≠ 0 by omega)]
  · rw [if_neg h, if_pos (show j = 0 by omega), if_pos (show j = 0 by omega)]

theorem earlyWarning_apart {n : Nat} (hj : j < 2) (hne : j ≠ n) (h : RunsUp (.earlyWarning dt n) s t) :
    s.dev.Apart (fun d => d.wd j) [0x9100] j t.dev := by
  have hi := wd_isInstance hj
  refine State.actOn_apart hi h (show _ = execEarlyWarning dt n s from rfl) (fun hp => absurd hp (by decide)) fun hn => ?_
  have h0 := Dev.Apart.refl (fun d : Dev => d.wd j) [0x9100] j s.entry
  have h1 : s.entry.Apart (fun d => d.wd j) [0x9100] j (s.entry.modWd n fun w => { w with warned := true }) :=
    h0.trans ⟨Dev.wd_modWd_ne hj (of_decide_eq_true hn) hne _, fun _ _ _ _ => Dev.modWd_get ..⟩
  refine ite_pred (s.entry.Apart _ _ j) (Dev.Apart.raise (h1.set hi (wdK n 0x0A) _ fun b hb => ?_) hi _ _ _) h0
  obtain rfl := List.mem_singleton.mp hb
  rw [wdK, key_div _ _ _ (by decide)]
  omega

/-- Settles O60: the effect of each event reaches the tables of its own instance and of parts the instances do not lie in. -/
theorem instancesStayApart : Obligations.Instances_stay_apart := by
  unfold Obligations.Instances_stay_apart
  refine ⟨fun i s t dt y j band hi h hj hne => ?_, fun i s t dt r j wide ppb hi h hj hne => ?_,
    fun i s t dt m j hi h hj hne => ?_, fun i s t dt p j wd hi h hj hne => ?_, fun i s t dt w j hi h hj hne => ?_,
    fun i s t dt n j hi h hj hne => ?_, fun i s t dt a j hi h hj hne => ?_, fun i s t dt n j hi h hj hne => ?_⟩
  · have hapart : s.dev.SynApart j t.dev := by
      obtain rfl | rfl | rfl | rfl | rfl | rfl | rfl | rfl := hi
      · exact bandSearchDone_apart hj hne h
      · exact synthesizerLocked_apart hj hne h
      · exact lockingTimeout_apart hj hne h
      · exact synthesizerLockLost_apart hj hne h
      · exact synthesizerReferenceLost_apart hj hne h
      · exact gatedTimeout_apart hj hne h
      · exact glideEnd_apart hj hne h
      · exact profileUpdate_apart hj hne h
    exact ⟨hapart.inner, hapart.objs⟩
  · have hapart : s.dev.RefApart j t.dev := by
      obtain rfl | rfl | rfl | rfl := hi
      · exact referenceEdge_apart hj hne h
      · exact missingEdge_apart hj hne h
      · exact frequencyGateEnd_apart hj hne h
      · exact waitToRestoreEnd_apart hj hne h
    exact ⟨hapart.inner, hapart.objs⟩
  · obtain rfl := hi
    have hapart := markPulse_apart hj hne h
    exact ⟨hapart.inner, hapart.objs⟩
  · have hapart : s.dev.PortApart j t.dev := by
      obtain rfl | rfl | rfl | rfl := hi
      · exact blockPointer_apart hj hne h
      · exact framingError_apart hj hne h
      · exact flowPeriodic_apart hj hne h
      · exact timeSyncPeriod_apart hj hne h
    exact ⟨hapart.inner, hapart.objs⟩
  · obtain rfl := hi
    have hapart := holdTimeEnd_apart hj hne h
    exact ⟨hapart.inner, hapart.objs⟩
  · obtain rfl := hi
    have hapart := captureInputLost_apart hj hne h
    exact ⟨hapart.inner, hapart.objs⟩
  · obtain rfl := hi
    exact audioInputLost_apart hj hne h
  · obtain rfl := hi
    have hapart := earlyWarning_apart hj hne h
    refine ⟨?_, ?_, hapart.objs⟩
    · rintro rfl
      exact hapart.inner
    · rintro rfl
      exact hapart.inner

end Sys2Proof.Machine
